-- ==== Sys2Proof/Word.lean ====
section
/-!
DEFINITION. Words, bytes and the data type of sparse tables. The words are little-endian byte strings wherever a
multi-byte value lies in memory (00_scope.md, Notation).
-/
namespace Sys2Proof

/-- A byte of memory. -/
abbrev Byte := BitVec 8

/-- A 64-bit register or word. -/
abbrev Word := BitVec 64

/-- A data address (DPA) is 48 bits wide (R18). -/
abbrev Dpa := BitVec 48

/-- A sparse table from natural-number keys: strictly rising keys, no entry equal to what an unlisted key reads as.
`Sys2Proof/Machine/Table.lean` reads and writes it. -/
abbrev SMap (α : Type) := List (Nat × α)

end Sys2Proof
end

