-- ==== Sys2Proof/Syntax.lean ====
section
/-!
DEFINITION. The commands of the block: one constructor per row of spec/opcode_table.json, with the row's operands.
The table gives no bits, so the operands are the model's own choice of what each command carries (DESIGN CHOICE, log 1).
-/
namespace Sys2Proof

/-- The two instruction streams of a Tower's Sexton (R128). -/
inductive Stream | a | x
  deriving DecidableEq, Repr

/-- The TAG, X and Y fields of a long-form instruction (R167). -/
structure LongForm where
  tag : BitVec 8
  x : BitVec 10
  y : BitVec 7
  deriving DecidableEq, Repr

/-- Where an Igkel instruction issues: the physical Tower slot (17 × Spire + slot), the stream, its long-form fields if
it has a long form, and whether a field that the instruction does not name is non-zero (R166) (DESIGN CHOICE, log 1). -/
structure Issue where
  slot : Fin 68
  stream : Stream
  long : Option LongForm
  rsv : Bool
  deriving DecidableEq, Repr

/-- Who makes a control access (R12, R17, R27). -/
inductive Actor
  /-- The companion, through the Alxis control aperture. -/
  | companion
  /-- The Keystone controller. -/
  | keystone
  /-- The controller of one Spire. -/
  | spire (s : Fin 4)
  /-- The management block (I3C, JTAG). -/
  | management
  deriving DecidableEq, Repr

/-- The blocks of the control address space (R26). Tower slots are physical. -/
inductive Block
  | keyCtl | fuse | pke (n : Fin 3) | shk | pwr | carK | alx | mgt | sess
  | spr (s : Fin 4) | car (s : Fin 4) | sem (s : Fin 4) | bel (s : Fin 4) | sde (s : Fin 4) | blp (s : Fin 4)
  | hbm (h : Fin 32) | but (p : Fin 8) | twr (slot : Fin 68)
  deriving DecidableEq, Repr

/-- A post named by a command header: POST_SEM and POST_COUNT (R318). -/
structure Post where
  spire : Fin 4
  sem : BitVec 12
  count : BitVec 16
  deriving DecidableEq, Repr

/-- Where a ring command comes from, and the header fields its completion needs (R318, R320, R356): the ring, its
command number, its index in a LIST (0xFFFF outside one), TAG, INTR, NOCOMP, the post, and the bell-table entry whose
instance runs it, if one does (512 × table + index) (DESIGN CHOICE, log 1). -/
structure Origin where
  spire : Fin 4
  ring : Fin 16
  cseq : BitVec 32
  lidx : BitVec 16
  tag : BitVec 16
  intr : Bool
  nocomp : Bool
  post : Option Post
  entry : Option (Fin 1024)
  deriving DecidableEq, Repr

/-- The operands common to the PKE commands (R434), with the header's SUB. -/
structure PkeArgs where
  engine : BitVec 2
  slot : BitVec 8
  inp : Dpa
  out : Dpa
  mlen : BitVec 32
  msg : Dpa
  sub : BitVec 8
  deriving DecidableEq, Repr

/-- The operands common to the SEAL commands (R323). -/
structure SealArgs where
  in0 : Dpa
  in1 : Dpa
  out : Dpa
  towers : BitVec 16
  value : BitVec 32
  deriving DecidableEq, Repr

/-- The operands common to the COLL commands (R323). -/
structure CollArgs where
  format : BitVec 8
  combine : BitVec 8
  dims : BitVec 8
  src : BitVec 32
  dst : BitVec 32
  elements : BitVec 48
  deriving DecidableEq, Repr

/-- A check that fails inside a step (R65, R212, R219, R416): the row and column, or the lane, that the failing checker
names. Which checks fail is the hardware's doing, so the command that completes the operation carries it. -/
structure CheckFail where
  /-- Fault site (R220, R445): 0 checker, 1 scale-and-add, 2 residue of the Marver, 3 residue of the reducer, ... -/
  site : BitVec 8
  row : BitVec 16
  col : BitVec 16
  /-- The digit pass and the block step at which a checker finds it (R67). -/
  pass : BitVec 2
  step : BitVec 32
  deriving DecidableEq, Repr

/-- The memory that a maintenance command works on: the Tower memory of a slot, or a Gallery. -/
inductive MemUnit
  | tower (slot : Fin 68)
  | gallery (s : Fin 4)
  deriving DecidableEq, Repr

/-- The bell frame's four values (R346, R410). -/
structure Frame where
  number : BitVec 64
  period : BitVec 24
  hops : BitVec 8
  lead : BitVec 32
  deriving DecidableEq, Repr

/-- The units the power controller puts into idle states (R454, R455). -/
inductive PowerUnit
  | tower (slot : Fin 68)
  | stack (h : Fin 32)
  | spire (s : Fin 4)
  | device
  deriving DecidableEq, Repr

/-- The reference clocks (R471): REFCLK_100, and REFCLK_156 of the Buttress. -/
inductive RefClock
  | ref100 | ref156
  deriving DecidableEq, Repr

/-- The JTAG instructions that R420 tells apart. -/
inductive JtagIr
  | bypass | idcode | boundaryScan | other
  deriving DecidableEq, Repr

/-- The commands, one constructor per row of spec/opcode_table.json (DESIGN CHOICE, log 1). -/
inductive Instr
  /-- REGISTER_WRITE (R3): A write to a register that has no row of its own takes effect according to the register type of each field. -/
  | registerWrite (actor : Actor) (addr : BitVec 36) (value : Word)
  /-- COMMIT (R5): A write of 1 to a block's COMMIT register makes all staged RWS fields of that block active together in one clk. -/
  | commit (actor : Actor) (blk : Block)
  /-- LOCK (R7): A write of 1 to SESS_LOCK or ALX_LOCK locks the block's RWL fields until reset. -/
  | lock (actor : Actor) (blk : Block)
  /-- DECODE_ERR_CLEAR (R30): A write of 1 to VALID of a decode-error register clears VALID and OVERRUN together in one clk. -/
  | decodeErrClear (actor : Actor) (spire : Option (Fin 4))
  /-- CULLET_ASSIGN (R29): A KEY_CULLET_SET write with OP 1 holds pending the assignment of a logical Tower to a physical slot. -/
  | culletAssign (actor : Actor) (spire : Fin 4) (tower : Fin 16) (slot : BitVec 5)
  /-- CULLET_SET_SPARE (R29): A KEY_CULLET_SET write with OP 2 holds pending the naming of the spare slot. -/
  | culletSetSpare (actor : Actor) (spire : Fin 4) (slot : BitVec 5)
  /-- ADD (R176): The scalar instruction ADD writes sa + sb modulo 2^64 to sd. -/
  | add (c : Issue) (sd sa sb : BitVec 5)
  /-- SUB (R176): The scalar instruction SUB writes sa − sb modulo 2^64 to sd. -/
  | sub (c : Issue) (sd sa sb : BitVec 5)
  /-- AND (R176): The scalar instruction AND writes the bitwise AND of sa and sb to sd. -/
  | and_ (c : Issue) (sd sa sb : BitVec 5)
  /-- OR (R176): The scalar instruction OR writes the bitwise OR of sa and sb to sd. -/
  | or_ (c : Issue) (sd sa sb : BitVec 5)
  /-- XOR (R176): The scalar instruction XOR writes the bitwise XOR of sa and sb to sd. -/
  | xor_ (c : Issue) (sd sa sb : BitVec 5)
  /-- SLL (R176): The scalar instruction SLL shifts sa left by sb[5:0]. -/
  | sll (c : Issue) (sd sa sb : BitVec 5)
  /-- SRL (R176): The scalar instruction SRL shifts sa logically right by sb[5:0]. -/
  | srl (c : Issue) (sd sa sb : BitVec 5)
  /-- SRA (R176): The scalar instruction SRA shifts sa arithmetically right by sb[5:0]. -/
  | sra (c : Issue) (sd sa sb : BitVec 5)
  /-- MUL (R176): The scalar instruction MUL writes the low 64 bits of sa × sb. -/
  | mul (c : Issue) (sd sa sb : BitVec 5)
  /-- MULH (R176): The scalar instruction MULH writes the high 64 bits of the signed 128-bit product. -/
  | mulh (c : Issue) (sd sa sb : BitVec 5)
  /-- LI (R177): LI writes a sign-extended 20-bit, or 32-bit long-form, immediate to sd. -/
  | li (c : Issue) (sd : BitVec 5) (imm : BitVec 20)
  /-- LD_B (R177): LD.B loads a sign-extended byte from scalar data memory. -/
  | ldB (c : Issue) (sd : BitVec 5) (imm : BitVec 12) (sa : BitVec 5)
  /-- LD_H (R177): LD.H loads a sign-extended 2-byte value from scalar data memory. -/
  | ldH (c : Issue) (sd : BitVec 5) (imm : BitVec 12) (sa : BitVec 5)
  /-- LD_W (R177): LD.W loads a sign-extended 4-byte value from scalar data memory. -/
  | ldW (c : Issue) (sd : BitVec 5) (imm : BitVec 12) (sa : BitVec 5)
  /-- LD_D (R177): LD.D loads an 8-byte value from scalar data memory. -/
  | ldD (c : Issue) (sd : BitVec 5) (imm : BitVec 12) (sa : BitVec 5)
  /-- LD_BU (R177): LD.BU loads a zero-extended byte from scalar data memory. -/
  | ldBu (c : Issue) (sd : BitVec 5) (imm : BitVec 12) (sa : BitVec 5)
  /-- LD_HU (R177): LD.HU loads a zero-extended 2-byte value from scalar data memory. -/
  | ldHu (c : Issue) (sd : BitVec 5) (imm : BitVec 12) (sa : BitVec 5)
  /-- LD_WU (R177): LD.WU loads a zero-extended 4-byte value from scalar data memory. -/
  | ldWu (c : Issue) (sd : BitVec 5) (imm : BitVec 12) (sa : BitVec 5)
  /-- ST_B (R177): ST.B stores a byte to scalar data memory. -/
  | stB (c : Issue) (ss : BitVec 5) (imm : BitVec 12) (sa : BitVec 5)
  /-- ST_H (R177): ST.H stores 2 bytes to scalar data memory. -/
  | stH (c : Issue) (ss : BitVec 5) (imm : BitVec 12) (sa : BitVec 5)
  /-- ST_W (R177): ST.W stores 4 bytes to scalar data memory. -/
  | stW (c : Issue) (ss : BitVec 5) (imm : BitVec 12) (sa : BitVec 5)
  /-- ST_D (R177): ST.D stores 8 bytes to scalar data memory. -/
  | stD (c : Issue) (ss : BitVec 5) (imm : BitVec 12) (sa : BitVec 5)
  /-- BEQ (R176): BEQ branches when sa equals sb. -/
  | beq (c : Issue) (sa sb : BitVec 5) (imm : BitVec 15)
  /-- BNE (R176): BNE branches when sa differs from sb. -/
  | bne (c : Issue) (sa sb : BitVec 5) (imm : BitVec 15)
  /-- BLT (R176): BLT branches when sa is less than sb, signed. -/
  | blt (c : Issue) (sa sb : BitVec 5) (imm : BitVec 15)
  /-- BGE (R176): BGE branches when sa is at least sb, signed. -/
  | bge (c : Issue) (sa sb : BitVec 5) (imm : BitVec 15)
  /-- JAL (R176): JAL writes the return address to sd and jumps by a word offset. -/
  | jal (c : Issue) (sd : BitVec 5) (imm : BitVec 20)
  /-- JR (R176): JR jumps to sa[15:0], faulting when the target is misaligned. -/
  | jr (c : Issue) (sa : BitVec 5)
  /-- CSRR (R172): CSRR reads a CSR of the stream or of the Tower slot block into sd. -/
  | csrr (c : Issue) (sd : BitVec 5) (csr : BitVec 12)
  /-- CSRW (R173): CSRW writes a CSR of the stream or of the Tower slot block. -/
  | csrw (c : Issue) (csr : BitVec 12) (ss : BitVec 5)
  /-- TQ_PUSH (R144): A CSRW to TWR_TQ_PUSH pushes a 64-bit token onto the stream's outgoing token queue. -/
  | tqPush (c : Issue) (ss : BitVec 5)
  /-- TQ_POP (R144): A CSRR from TWR_TQ_POP removes and returns the oldest token of the stream's incoming token queue. -/
  | tqPop (c : Issue) (sd : BitVec 5)
  /-- EXC_RET (R153): A CSRW to TWR_EXC_RET clears IN_HANDLER and resumes the stream at the given address. -/
  | excRet (c : Issue) (ss : BitVec 5)
  /-- FENCE (R178): FENCE waits until every earlier instruction of the stream, posted operations included, has completed. -/
  | fence (c : Issue)
  /-- FENCE_CP (R146): FENCE.CP records a checkpoint and places markers in A, or waits for markers and retires a checkpoint in X. -/
  | fenceCp (c : Issue)
  /-- TRAP (R176): TRAP raises F_ILLEGAL with reason TRAP with registers unchanged. -/
  | trap (c : Issue)
  /-- HALT (R178): HALT waits as FENCE and halts the stream; the task completes when both streams have halted. -/
  | halt (c : Issue)
  /-- IMSWAP (R161): IMSWAP waits at the instruction-memory bank-swap rendezvous with its own entry address. -/
  | imswap (c : Issue) (entry : BitVec 14)
  /-- IMSWAP_B (R162): IMSWAP.B waits at the rendezvous for a bank swap that takes place at the next bell. -/
  | imswapB (c : Issue) (entry : BitVec 14)
  /-- SEMP (R179): SEMP posts a count to a semaphore on the own or another Spire. -/
  | semp (c : Issue) (sa sb : BitVec 5)
  /-- SEMW (R180): SEMW waits for a count on a semaphore of the own Spire. -/
  | semw (c : Issue) (sa sb : BitVec 5)
  /-- BELLW (R181): BELLW waits until the next bell and writes its number into sd. -/
  | bellw (c : Issue) (sd : BitVec 5)
  /-- TLD (R182): TLD loads one tile through a descriptor into the tile at the tail of an LQ. -/
  | tld (c : Issue) (q : BitVec 4) (sh ss si : BitVec 5)
  /-- TLD_T (R183): TLD.T loads a transposed tile through the Tracery or the diagonal path. -/
  | tldT (c : Issue) (q : BitVec 4) (sh ss si : BitVec 5) (both : Bool)
  /-- TLD_S (R183): TLD.S loads a tile by a strided column read. -/
  | tldS (c : Issue) (q : BitVec 4) (sh ss si : BitVec 5)
  /-- SEQUENCED_TLD (R239): A sequenced TLD loads the next grid point of a loader sequencer and decrements LEFT. -/
  | sequencedTld (c : Issue) (q : BitVec 4) (sh ss si : BitVec 5) (flags : BitVec 2)
  /-- PLD (R184): PLD loads one tile through a pointer-list entry. -/
  | pld (c : Issue) (q : BitVec 4) (sl se ss : BitVec 5)
  /-- VLD (R186): VLD reads one vector into a VQ. -/
  | vld (c : Issue) (q : BitVec 4) (sh ss si : BitVec 5)
  /-- TST (R185): TST pops the tile at the claim point of an SQ and stores it through a descriptor. -/
  | tst (c : Issue) (q : BitVec 4) (sh ss si : BitVec 5)
  /-- VST (R186): VST pops one vector entry of an SQ and writes it through a descriptor. -/
  | vst (c : Issue) (q : BitVec 4) (sh ss si : BitVec 5)
  /-- GET (R187): GET posts a copy of tensor positions into the Tower's own memory. -/
  | get (c : Issue) (sm sh sr : BitVec 5)
  /-- PUT (R187): PUT posts a copy from the Tower's own memory into a tensor as remote writes. -/
  | put (c : Issue) (sm sh sr : BitVec 5)
  /-- MMA_H4 (R189): MMA.H4 multiplies two 4-bit-class tiles and accumulates into a bank. -/
  | mmaH4 (c : Issue) (bank : BitVec 2) (qa : BitVec 4) (pa : Bool) (qb : BitVec 4) (pb init : Bool)
  /-- MMA_H48 (R189): MMA.H48 multiplies an H8I tile by a 4-bit-class tile and accumulates into a bank. -/
  | mmaH48 (c : Issue) (bank : BitVec 2) (qa : BitVec 4) (pa : Bool) (qb : BitVec 4) (pb init : Bool)
  /-- MMA_H8 (R189): MMA.H8 multiplies two H8I tiles and accumulates into a bank. -/
  | mmaH8 (c : Issue) (bank : BitVec 2) (qa : BitVec 4) (pa : Bool) (qb : BitVec 4) (pb init : Bool)
  /-- MMW (R191): MMW multiplies two W32 tiles in word mode into 72-bit word sums. -/
  | mmw (c : Issue) (bank : BitVec 2) (qa : BitVec 4) (pa : Bool) (qb : BitVec 4) (pb init : Bool)
  /-- MDRAIN (R143): MDRAIN names a bank to be pushed onto the FTQ once its array operations complete. -/
  | mdrain (c : Issue) (bank : BitVec 2)
  /-- TREL (R136): TREL releases the entry at the claim point of a tile queue. -/
  | trel (c : Issue) (q : BitVec 4)
  /-- TCFG (R142): TCFG binds a tile to a queue, or to none, and sets its tag. -/
  | tcfg (c : Issue) (tile q tag : BitVec 4)
  /-- VOP_ADD (R193): VOP.ADD adds two vectors lane by lane. -/
  | vopAdd (c : Issue) (ty : BitVec 2) (vd : BitVec 5) (sa sb : BitVec 6) (bad : Option CheckFail)
  /-- VOP_SUB (R193): VOP.SUB subtracts two vectors lane by lane. -/
  | vopSub (c : Issue) (ty : BitVec 2) (vd : BitVec 5) (sa sb : BitVec 6) (bad : Option CheckFail)
  /-- VOP_MUL (R193): VOP.MUL multiplies two vectors lane by lane. -/
  | vopMul (c : Issue) (ty : BitVec 2) (vd : BitVec 5) (sa sb : BitVec 6) (bad : Option CheckFail)
  /-- VOP_FMA (R193): VOP.FMA forms vd + a × b rounded once per lane. -/
  | vopFma (c : Issue) (ty : BitVec 2) (vd : BitVec 5) (sa sb : BitVec 6) (bad : Option CheckFail)
  /-- VOP_MIN (R193): VOP.MIN takes the lane-wise minimum. -/
  | vopMin (c : Issue) (ty : BitVec 2) (vd : BitVec 5) (sa sb : BitVec 6)
  /-- VOP_MAX (R193): VOP.MAX takes the lane-wise maximum. -/
  | vopMax (c : Issue) (ty : BitVec 2) (vd : BitVec 5) (sa sb : BitVec 6)
  /-- VOP_AND (R193): VOP.AND takes the lane-wise bitwise AND. -/
  | vopAnd (c : Issue) (ty : BitVec 2) (vd : BitVec 5) (sa sb : BitVec 6)
  /-- VOP_OR (R193): VOP.OR takes the lane-wise bitwise OR. -/
  | vopOr (c : Issue) (ty : BitVec 2) (vd : BitVec 5) (sa sb : BitVec 6)
  /-- VOP_XOR (R193): VOP.XOR takes the lane-wise bitwise XOR. -/
  | vopXor (c : Issue) (ty : BitVec 2) (vd : BitVec 5) (sa sb : BitVec 6)
  /-- VOP_SHL (R193): VOP.SHL shifts each lane left. -/
  | vopShl (c : Issue) (ty : BitVec 2) (vd : BitVec 5) (sa sb : BitVec 6)
  /-- VOP_SHR (R193): VOP.SHR shifts each lane arithmetically right. -/
  | vopShr (c : Issue) (ty : BitVec 2) (vd : BitVec 5) (sa sb : BitVec 6)
  /-- VOP_MOV (R193): VOP.MOV copies a vector. -/
  | vopMov (c : Issue) (ty : BitVec 2) (vd : BitVec 5) (sa sb : BitVec 6)
  /-- VOP_CVT (R193): VOP.CVT converts each lane between types. -/
  | vopCvt (c : Issue) (ty : BitVec 2) (vd : BitVec 5) (sa sb : BitVec 6)
  /-- VOP_BCAST (R193): VOP.BCAST broadcasts a scalar register into every lane. -/
  | vopBcast (c : Issue) (ty : BitVec 2) (vd : BitVec 5) (sa sb : BitVec 6)
  /-- VADDM (R194): VADDM adds 64 W32 lanes modulo q. -/
  | vaddm (c : Issue) (vd : BitVec 5) (sa sb : BitVec 6) (rq : BitVec 5) (bad : Option CheckFail)
  /-- VSUBM (R194): VSUBM subtracts 64 W32 lanes modulo q. -/
  | vsubm (c : Issue) (vd : BitVec 5) (sa sb : BitVec 6) (rq : BitVec 5) (bad : Option CheckFail)
  /-- VMULM (R194): VMULM multiplies 64 W32 lanes modulo q. -/
  | vmulm (c : Issue) (vd : BitVec 5) (sa sb : BitVec 6) (rq : BitVec 5) (bad : Option CheckFail)
  /-- VRED_ROW_ADD (R195): VRED.ROW.ADD sums a bank or tile along each row into FP32 results. -/
  | vredRowAdd (c : Issue) (vd : BitVec 5) (qs : BitVec 4) (pop : Bool) (rq : BitVec 5)
  /-- VRED_ROW_MAX (R195): VRED.ROW.MAX takes the maximum along each row. -/
  | vredRowMax (c : Issue) (vd : BitVec 5) (qs : BitVec 4) (pop : Bool) (rq : BitVec 5)
  /-- VRED_ROW_MIN (R195): VRED.ROW.MIN takes the minimum along each row. -/
  | vredRowMin (c : Issue) (vd : BitVec 5) (qs : BitVec 4) (pop : Bool) (rq : BitVec 5)
  /-- VRED_ROW_ADDM (R195): VRED.ROW.ADDM sums word sums or W32 words modulo q along each row. -/
  | vredRowAddm (c : Issue) (vd : BitVec 5) (qs : BitVec 4) (pop : Bool) (rq : BitVec 5)
  /-- VRED_COL_ADD (R195): VRED.COL.ADD sums a bank or tile along each column into FP32 results. -/
  | vredColAdd (c : Issue) (vd : BitVec 5) (qs : BitVec 4) (pop : Bool) (rq : BitVec 5)
  /-- VRED_COL_MAX (R195): VRED.COL.MAX takes the maximum along each column. -/
  | vredColMax (c : Issue) (vd : BitVec 5) (qs : BitVec 4) (pop : Bool) (rq : BitVec 5)
  /-- VRED_COL_MIN (R195): VRED.COL.MIN takes the minimum along each column. -/
  | vredColMin (c : Issue) (vd : BitVec 5) (qs : BitVec 4) (pop : Bool) (rq : BitVec 5)
  /-- VRED_COL_ADDM (R195): VRED.COL.ADDM sums modulo q along each column. -/
  | vredColAddm (c : Issue) (vd : BitVec 5) (qs : BitVec 4) (pop : Bool) (rq : BitVec 5)
  /-- EPRG (R196): EPRG runs an element program over a source and pushes the result tile onto an SQ. -/
  | eprg (c : Issue) (prog qs : BitVec 4) (pop : Bool) (qd : BitVec 4)
  /-- VPOP (R197): VPOP pops the oldest VQ entry into a v register. -/
  | vpop (c : Issue) (vd : BitVec 5) (q : BitVec 4)
  /-- VPUSH (R197): VPUSH pushes a v register onto an SQ with no bound tile. -/
  | vpush (c : Issue) (q : BitVec 4) (va : BitVec 5)
  /-- TASK_START (R129): Once a named Tower has no task, a launch sets the Tower's launch state and starts both streams. -/
  | taskStart (slot : Fin 68)
  /-- QUEUE_WAIT_END (R134): A push or claim that waited finds its queue entry EMPTY or FULL and proceeds. -/
  | queueWaitEnd (slot : Fin 68) (st : Stream)
  /-- LOAD_PUSH (R135): A tile or vector load completes and its entry becomes FULL, moving the queue tail. -/
  | loadPush (slot : Fin 68) (q : BitVec 4)
  /-- TILE_STORE_COMPLETE (R185): A TST's last write is granted, the tile becomes EMPTY and TENTATIVE is updated for KV writes. -/
  | tileStoreComplete (slot : Fin 68)
  /-- TREL_RELEASE (R136): Once no operation reads the claimed entry, TREL makes it EMPTY and advances the claim point. -/
  | trelRelease (slot : Fin 68)
  /-- TCFG_APPLY (R142): Once no operation names the tile, TCFG checks both queues and rebinds and retags the tile in one clk. -/
  | tcfgApply (slot : Fin 68)
  /-- MDRAIN_PUSH (R143): After the bank's array operations complete, the bank is pushed onto the FTQ. -/
  | mdrainPush (slot : Fin 68)
  /-- ARRAY_OP_START (R205): An array operation starts its first step once both operands are FULL and the previous operation's passes have ended. -/
  | arrayOpStart (slot : Fin 68)
  /-- ARRAY_OP_COMPLETE (R207): An array operation completes, its shadow becomes the bank and its popped entries are released. -/
  | arrayOpComplete (slot : Fin 68) (bad : Option CheckFail)
  /-- MARVER_OP_START (R213): A Marver tile operation starts reading its source once the previous one has read its last element. -/
  | marverOpStart (slot : Fin 68)
  /-- MARVER_OP_COMPLETE (R224): A Marver tile operation completes, writing its v registers or pushing its result tile. -/
  | marverOpComplete (slot : Fin 68) (bad : Option CheckFail)
  /-- CHECKPOINT_RETIRE (R147): X's FENCE.CP finds markers at every A-to-X queue head, removes them and retires the oldest checkpoint. -/
  | checkpointRetire (slot : Fin 68)
  /-- POSTED_OP_COMPLETE (R155): A posted GET, PUT or remote SEMP completes, keeping any fault for delivery at the next fence. -/
  | postedOpComplete (slot : Fin 68) (st : Stream)
  /-- QUEUE_WAIT_TIMEOUT (R145): A wait at a queue end, IMSWAP or FENCE.CP lasts WAIT_LIMIT bells and raises F_WAIT_TIMEOUT. -/
  | queueWaitTimeout (slot : Fin 68) (st : Stream)
  /-- TOWER_STOP (R158): A STOP takes effect, cancelling tile operations and loads, rolling A back and holding EPCs. -/
  | towerStop (slot : Fin 68)
  /-- IMSWAP_SWAP (R161): Both streams wait at IMSWAP with no load in progress, and the active bank flips. -/
  | imswapSwap (slot : Fin 68)
  /-- COUNT_BREAK (R201): A stream's instruction count reaches its break count and both streams stop. -/
  | countBreak (slot : Fin 68) (st : Stream)
  /-- TAG_BREAK (R202): A long-form instruction with a matching TAG reaches issue and both streams stop before it. -/
  | tagBreak (slot : Fin 68) (st : Stream) (tag : BitVec 8)
  /-- IM_LOAD_COMPLETE (R160): An instruction-memory load completes and sets the bank's VALID flag. -/
  | imLoadComplete (slot : Fin 68)
  /-- EP_BUILD_COPY (R225): A TWR_EP_BUILD write with MODE 0 starts a copy build of a slot's next image. -/
  | epBuildCopy (actor : Actor) (slot : Fin 68) (prog gen : BitVec 4)
  /-- EP_BUILD_GENERATE (R225): A TWR_EP_BUILD write with MODE 1 starts a generate build of a slot's lookup table. -/
  | epBuildGenerate (actor : Actor) (slot : Fin 68) (prog gen : BitVec 4)
  /-- EP_BUILD_COMPLETE (R225): An element-program build completes, checks the image and records its outcome. -/
  | epBuildComplete (slot : Fin 68) (prog : BitVec 4)
  /-- SEQ_ARM (R240): An ARM write validates the nest and restarts a loader sequencer's walk. -/
  | seqArm (actor : Actor) (slot : Fin 68) (k : Fin 4)
  /-- SEQ_ABANDON (R240): An ABANDON write sets the loader sequencer's LEFT to 0. -/
  | seqAbandon (actor : Actor) (slot : Fin 68) (k : Fin 4)
  /-- BANK_POWER_TRANSITION_END (R113): A Tower-memory bank finishes its transition to On, zero-filled or restored. -/
  | bankPowerTransitionEnd (slot : Fin 68) (bank : Fin 64)
  /-- SCRUB (R116): The Keystone controller's SCRUB starts zeroing the named banks or Gallery range. -/
  | scrub (actor : Actor) (unit : MemUnit) (banks : BitVec 64) (lo hi : BitVec 32)
  /-- SCRUB_COMPLETE (R116): A SCRUB completes after its last row is written. -/
  | scrubComplete (unit : MemUnit)
  /-- TM_PATROL (R117): Patrol reads a row of Tower memory or the Gallery, rewriting corrected codewords and reporting uncorrectable ones. -/
  | tmPatrol (unit : MemUnit) (row : BitVec 20)
  /-- REMOTE_WRITE_PACKET (R119): A remote write packet reaches a stream port and is accepted or dropped under window or credit rules. -/
  | remoteWritePacket (dst : Dpa) (src : BitVec 4) (sender node gen : BitVec 16) (data : List Byte)
  /-- CREDIT_REQUEST (R120): A credit request from a source is granted units from TWR_CRED_AVAIL. -/
  | creditRequest (unit : MemUnit) (src : BitVec 4) (units : BitVec 16)
  /-- REMOTE_WRITE_DONE (R121): An accepted remote packet is written and TWR_WIN_PEND decreases. -/
  | remoteWriteDone (unit : MemUnit)
  /-- DESC_CREATE (R80): DESC_CREATE validates a descriptor and returns a handle or an F_DESC record. -/
  | descCreate (o : Origin) (region : BitVec 16) (desc : List Byte)
  /-- DESC_FREE (R87): DESC_FREE marks a descriptor entry as being freed. -/
  | descFree (o : Origin) (handle : BitVec 32)
  /-- DESC_FREE_COMPLETE (R87): The last operation using a freed handle completes, the entry becomes free and DESC_FREE completes. -/
  | descFreeComplete (spire : Fin 4) (index : Fin 16384)
  /-- ACCEPT (R94): ACCEPT n requests COMMITTED to advance by n on a KV descriptor. -/
  | accept (o : Origin) (handle : BitVec 32) (n : BitVec 24)
  /-- REJECT (R94): REJECT requests TENTATIVE to fall back to COMMITTED. -/
  | reject (o : Origin) (handle : BitVec 32)
  /-- KV_LENGTH_APPLY (R95): Once in-flight writes through the handle complete, ACCEPT or REJECT changes the lengths in one clk. -/
  | kvLengthApply (spire : Fin 4) (index : Fin 16384)
  /-- SEQ_MOVE (R242): SEQ_MOVE walks a loop nest, writing grid points into a linked ring of buffers. -/
  | seqMove (o : Origin) (nest : List Byte) (dst : BitVec 32) (nbuf : BitVec 4) (cls : BitVec 2) (group : BitVec 8) (semFull semEmpty : BitVec 16) (bstride : BitVec 32)
  /-- STREAM_SEGMENT (R248): A stream channel completes one segment of a move after its charged time. -/
  | streamSegment (spire : Fin 4) (ch : Fin 16)
  /-- GRID_POINT_COMPLETE (R243): A grid point's last byte becomes visible and FULL is posted, or withheld for SPEC. -/
  | gridPointComplete (spire : Fin 4) (ch : Fin 16)
  /-- PREFETCH_CONFIRM (R246): PREFETCH_CONFIRM delivers a confirm verdict on a mask of speculation groups. -/
  | prefetchConfirm (o : Origin) (mask : BitVec 64)
  /-- PREFETCH_DROP (R246): PREFETCH_DROP delivers a drop verdict on a mask of speculation groups. -/
  | prefetchDrop (o : Origin) (mask : BitVec 64)
  /-- SPEC_GROUP_TIMEOUT (R247): A speculation group with no verdict at the next bell receives DROP. -/
  | specGroupTimeout (spire : Fin 4) (group : Fin 64)
  /-- NOP (R321): The NOP command does nothing and completes. -/
  | nop (o : Origin)
  /-- FENCE_COMMAND (R330): The FENCE command completes when earlier commands in its scope have completed. -/
  | fenceCommand (o : Origin) (scope : BitVec 8)
  /-- SEM_POST (R321): The SEM_POST command posts a count to a semaphore. -/
  | semPost (o : Origin) (target : BitVec 14) (count : BitVec 16)
  /-- SEM_WAIT (R321): The SEM_WAIT command waits for a count on a semaphore of its Spire. -/
  | semWait (o : Origin) (sem : BitVec 12) (count : BitVec 16) (timeout : BitVec 8)
  /-- LIST (R320): LIST runs an array of commands in order. -/
  | listCmd (o : Origin) (dpa : Dpa) (count : BitVec 16)
  /-- REGW (R322): REGW writes up to three control registers in order. -/
  | regw (o : Origin) (pairs : List (Word × Word))
  /-- MOVE (R323): MOVE copies bytes between DPA ranges. -/
  | move (o : Origin) (src dst : Dpa) (len : BitVec 48)
  /-- PEER_MOVE (R407): PEER_MOVE writes bytes into a peer device's memory over a Buttress port. -/
  | peerMove (o : Origin) (src : Dpa) (port : Fin 8) (node : BitVec 16) (dst : Dpa) (gen : BitVec 16) (len : BitVec 48)
  /-- IM_LOAD (R325): IM_LOAD writes an instruction-memory bank of each named Tower. -/
  | imLoad (o : Origin) (towers : BitVec 16) (bank : Bool) (src : Dpa) (words : BitVec 16)
  /-- EP_LOAD (R325): EP_LOAD builds an element-program slot's next image on each named Tower. -/
  | epLoad (o : Origin) (towers : BitVec 16) (prog : BitVec 4) (src : Dpa)
  /-- LAUNCH (R324): LAUNCH starts a task on each named Tower and completes when all tasks end. -/
  | launch (o : Origin) (towers aEntry xEntry : BitVec 16) (bank : Bool) (on ret : BitVec 64) (args : List Word)
  /-- STOP (R324): The STOP command stops the named Towers. -/
  | stop (o : Origin) (towers : BitVec 16)
  /-- RESUME (R324): The RESUME command restarts the named Towers at their EPCs. -/
  | resume (o : Origin) (towers : BitVec 16)
  /-- COLL_ALL_REDUCE (R414): COLL with SUB 0 runs an in-network ALL_REDUCE over the hypercube dimensions. -/
  | collAllReduce (o : Origin) (g : CollArgs)
  /-- COLL_ALL_GATHER (R414): COLL with SUB 1 runs an in-network ALL_GATHER. -/
  | collAllGather (o : Origin) (g : CollArgs)
  /-- COLL_REDUCE_SCATTER (R414): COLL with SUB 2 runs an in-network REDUCE_SCATTER. -/
  | collReduceScatter (o : Origin) (g : CollArgs)
  /-- BTAB_LOAD (R351): BTAB_LOAD validates and writes entries into the standby bell table. -/
  | btabLoad (o : Origin) (src : Dpa) (first count : BitVec 16)
  /-- SESS_OPEN (R289): SESS_OPEN validates the client key and opens a session in BINDING. -/
  | sessOpen (o : Origin) (index : BitVec 16) (pset : BitVec 8) (auto : Bool) (region floor : BitVec 16) (defer : BitVec 8) (scratch0 scratch1 : Dpa) (key : List Byte)
  /-- SESS_BIND (R293): SESS_BIND checks a keyset manifest and starts signature verification. -/
  | sessBind (o : Origin) (index : BitVec 16) (manifest : Dpa) (len : BitVec 32) (comp : BitVec 64)
  /-- SESS_POLICY (R290): SESS_POLICY writes FLOOR, AUTO_ANNEAL and DEFER_LIMIT together. -/
  | sessPolicy (o : Origin) (index floor : BitVec 16) (auto : Bool) (defer : BitVec 8)
  /-- SESS_CLOSE (R305): SESS_CLOSE sets the session CLOSING and ends or lets finish its work. -/
  | sessClose (o : Origin) (index : BitVec 16)
  /-- SESS_QUERY (R287): SESS_QUERY writes a session context to a DPA. -/
  | sessQuery (o : Origin) (index : BitVec 16) (dst : Dpa)
  /-- KEY_PAGE_IN (R297): KEY_PAGE_IN takes a frame and copies a key page from companion memory. -/
  | keyPageIn (o : Origin) (index : BitVec 16) (page : BitVec 32)
  /-- KEY_PAGE_OUT (R298): KEY_PAGE_OUT releases an unpinned page's frame. -/
  | keyPageOut (o : Origin) (index : BitVec 16) (page : BitVec 32)
  /-- PSET_LOAD (R260): PSET_LOAD checks a parameter-set record and builds the next half of a slot. -/
  | psetLoad (o : Origin) (src : Dpa) (slot : BitVec 8)
  /-- REGION_SET (R83): REGION_SET enters, changes or removes a region in the region table. -/
  | regionSet (o : Origin) (index : BitVec 16) (base limit : Dpa)
  /-- BAND_CLASS (R382): BAND_CLASS stages a new interleave class for an HBM band, effective at the next bell. -/
  | bandClass (o : Origin) (band cls : BitVec 8)
  /-- HADD (R267): The sealed HADD adds two ciphertexts. -/
  | hadd (o : Origin) (g : SealArgs)
  /-- HSUB (R267): The sealed HSUB subtracts two ciphertexts. -/
  | hsub (o : Origin) (g : SealArgs)
  /-- HNEG (R267): The sealed HNEG negates a ciphertext. -/
  | hneg (o : Origin) (g : SealArgs)
  /-- PADD (R267): The sealed PADD adds a plaintext to a ciphertext. -/
  | padd (o : Origin) (g : SealArgs)
  /-- CMUL (R267): The sealed CMUL multiplies a ciphertext by a signed integer. -/
  | cmul (o : Origin) (g : SealArgs)
  /-- PMUL (R267): The sealed PMUL multiplies a ciphertext by a plaintext. -/
  | pmul (o : Origin) (g : SealArgs)
  /-- HMUL (R276): The sealed HMUL multiplies two ciphertexts and relinearises by a key switch. -/
  | hmul (o : Origin) (g : SealArgs)
  /-- HMUL3 (R267): The sealed HMUL3 multiplies two ciphertexts into a COMP 3 output. -/
  | hmul3 (o : Origin) (g : SealArgs)
  /-- RELIN (R276): The sealed RELIN relinearises a COMP 3 ciphertext by a key switch. -/
  | relin (o : Origin) (g : SealArgs)
  /-- RESCALE (R267): The sealed RESCALE drops G primes and lowers the scale. -/
  | rescale (o : Origin) (g : SealArgs)
  /-- ROTATE (R276): The sealed ROTATE applies an automorphism and a key switch. -/
  | rotate (o : Origin) (g : SealArgs)
  /-- CONJ (R276): The sealed CONJ applies the conjugation automorphism and a key switch. -/
  | conj (o : Origin) (g : SealArgs)
  /-- LEVELDOWN (R267): The sealed LEVELDOWN drops n × G primes. -/
  | leveldown (o : Origin) (g : SealArgs)
  /-- NTT (R273): The sealed NTT transforms every limb into NTT form. -/
  | ntt (o : Origin) (g : SealArgs)
  /-- INTT (R273): The sealed INTT transforms every limb into coefficient form. -/
  | intt (o : Origin) (g : SealArgs)
  /-- ANNEAL (R278): The sealed ANNEAL refreshes a ciphertext in checkpointed slices. -/
  | anneal (o : Origin) (g : SealArgs)
  /-- SEAL_OP_START (R361): A waiting SEAL command starts inside an open SEAL window once its budgeted time fits. -/
  | sealOpStart (spire : Fin 4) (op : Fin 16)
  /-- SEAL_OP_COMPLETE (R258): A sealed operation writes its final header with VALID = 1 and completes. -/
  | sealOpComplete (spire : Fin 4) (op : Fin 16) (bad : Option CheckFail)
  /-- ANNEAL_SLICE_START (R279): The bell sequencer runs an ANNEAL slice whose budgeted time fits. -/
  | annealSliceStart (spire : Fin 4) (op : Fin 16) (pages : List (BitVec 32)) (ksws : BitVec 16) (lo hi : BitVec 32)
  /-- ANNEAL_SLICE_END (R280): An ANNEAL slice ends and writes its checkpoint record. -/
  | annealSliceEnd (spire : Fin 4) (op : Fin 16) (cts : List (BitVec 64))
  /-- ANNEAL_SLICE_RESTART (R281): A failed slice restarts from the latest good checkpoint at an allowing bell, or ends the ANNEAL. -/
  | annealSliceRestart (spire : Fin 4) (op : Fin 16) (bad : Option CheckFail)
  /-- PSET_BUILD_COMPLETE (R262): A parameter-set build completes, and a demanded slot flips at once. -/
  | psetBuildComplete (spire : Fin 4) (slot : Fin 32) (ok : Bool)
  /-- BIND_VERIFY_COMPLETE (R293): Manifest signature verification ends and the session becomes BOUND or stays BINDING. -/
  | bindVerifyComplete (index : Fin 16384) (resmap : Dpa)
  /-- KEY_PAGE_DIGEST_DONE (R297): A page image's digest completes and the page becomes RESIDENT or BAD. -/
  | keyPageDigestDone (index : Fin 16384) (page : BitVec 32)
  /-- KEY_DEFER_TIMEOUT (R301): DEFER_LIMIT bells pass for a deferred operation, which completes with F_KEY_ABSENT. -/
  | keyDeferTimeout (spire : Fin 4) (op : Fin 16)
  /-- SESS_CLOSE_RELEASE (R305): When no page of a closing session is pinned, frames are released, scrubs issued and the context zeroed. -/
  | sessCloseRelease (index : Fin 16384)
  /-- TAIL_LINE_INVALIDATE (R313): A companion write invalidates a ring's tail line and wakes the fetcher. -/
  | tailLineInvalidate (spire : Fin 4) (ring : Fin 16) (tail ccons : Word)
  /-- RING_FETCH (R315): The fetcher reads a group of ring slots and writes FETCHED. -/
  | ringFetch (spire : Fin 4) (ring : Fin 16)
  /-- COMMAND_START (R319): A command starts once its FENCE and PRE_SEM wait are satisfied. -/
  | commandStart (spire : Fin 4) (ring : Fin 16) (entry : Option (Fin 1024))
  /-- COMPLETION_RING_ROOM (R328): A held completion record finds room and is written. -/
  | completionRingRoom (spire : Fin 4) (ring : Fin 16)
  /-- RING_RESUME (R329): A write of 1 to RESUME restarts a stopped ring. -/
  | ringResume (actor : Actor) (spire : Fin 4) (ring : Fin 16)
  /-- SEM_WAIT_GRANT (R331): The oldest waiter's count is available and the semaphore subtracts it. -/
  | semWaitGrant (spire : Fin 4) (sem : BitVec 12)
  /-- SEM_WAIT_TIMEOUT (R334): A semaphore wait reaches its timeout bell and is removed with F_WAIT_TIMEOUT. -/
  | semWaitTimeout (spire : Fin 4) (sem : BitVec 12)
  /-- SEM_COUNT_WRITE (R332): A control write to SEM_COUNTn sets the semaphore's count. -/
  | semCountWrite (actor : Actor) (spire : Fin 4) (sem : BitVec 12) (n : BitVec 16)
  /-- SEM_POST_WRITE (R335): A write to SEM_POSTn posts a count, as a remote post when it comes from the companion. -/
  | semPostWrite (actor : Actor) (spire : Fin 4) (sem : BitVec 12) (n : BitVec 16)
  /-- REMOTE_SEM_POST (R409): A semaphore post arrives from another Spire or over Buttress and passes the semaphore windows. -/
  | remoteSemPost (spire : Fin 4) (src : BitVec 4) (sender node : BitVec 16) (sem : BitVec 12) (n : BitVec 16)
  /-- BELL (R349): A bell arrives and every die performs the bell actions in order. -/
  | bell (bad : Option (Fin 4 × Fin 512))
  /-- BELL_SYNC_EDGE (R342): A rising edge on BELL_SYNC marks the next bell under SRC 1. -/
  | bellSyncEdge
  /-- BELL_FRAME (R346): A bell frame arrives, places the bell instant and is forwarded. -/
  | bellFrame (port : Fin 8) (frame : Frame)
  /-- HOLDOVER (R345): No edge or frame arrives by 1.25 periods and the timer makes the bell. -/
  | holdover
  /-- BEL_JOIN (R348): A write to BEL_JOIN.JOIN takes the next frame's bell number. -/
  | belJoin (actor : Actor) (spire : Fin 4)
  /-- ENTRY_START (R353): A bell-table entry instance starts at its START offset, or later, or is skipped. -/
  | entryStart (spire : Fin 4) (entry : Fin 1024)
  /-- DEADLINE (R359): An instance's deadline arrives before it ends and F_DEADLINE is raised, with abandonment under ABANDON. -/
  | deadline (spire : Fin 4) (entry : Fin 1024)
  /-- ENTRY_END (R356): An entry instance ends and its entry record is written. -/
  | entryEnd (spire : Fin 4) (entry : Fin 1024)
  /-- HBM_PATROL_ROW (R379): The HBM controller patrols one row of each channel, rewriting corrected codewords. -/
  | hbmPatrolRow (stack : Fin 32)
  /-- WCB_AGE_WRITEOUT (R374): A write-combining line waits AGE and is written out. -/
  | wcbAgeWriteout (spire : Fin 4)
  /-- CARILLON_SOURCE_EVENT (R384): A hardware event sets its Carillon source PENDING. -/
  | carillonSourceEvent (car : Option (Fin 4)) (src : BitVec 10)
  /-- CAR_PEND_SET (R385): A write to CAR_PEND_SETw sets PENDING of the named sources. -/
  | carPendSet (actor : Actor) (car : Option (Fin 4)) (w : Fin 16) (bits : Word)
  /-- CAR_PEND_CLR (R385): A write to CAR_PEND_CLRw clears PENDING of the named sources. -/
  | carPendClr (actor : Actor) (car : Option (Fin 4)) (w : Fin 16) (bits : Word)
  /-- CAR_CLAIM (R387): A read of CAR_Tt_CLAIM claims the highest deliverable source and pushes it on the target's stack. -/
  | carClaim (actor : Actor) (car : Option (Fin 4)) (target : Fin 3)
  /-- CAR_COMPLETE (R390): A write to CAR_Tt_COMPLETE pops the named source from the top of the stack. -/
  | carComplete (actor : Actor) (car : Option (Fin 4)) (target : Fin 3) (src : BitVec 10)
  /-- HOLDOFF_EXPIRY (R389): A group's hold-off timer ends and its sources become deliverable again. -/
  | holdoffExpiry (car : Option (Fin 4)) (group : Fin 64)
  /-- CAR_MESSAGE (R394): A source deliverable to the companion with no message outstanding sends a message over Alxis. -/
  | carMessage (car : Option (Fin 4))
  /-- ALX_FLIT_CRC_FAIL (R400): An Alxis flit fails its CRC and is replayed. -/
  | alxFlitCrcFail (again : Bool)
  /-- ALX_LANE_FAIL (R396): An Alxis lane fails and the link retrains on a narrower width. -/
  | alxLaneFail (width : BitVec 6)
  /-- ALX_RETRAIN (R396): A write of 1 to ALX_CTL.RETRAIN retrains the link at its widest width. -/
  | alxRetrain (actor : Actor)
  /-- ALX_RETRAIN_DONE (R400): The Alxis link comes back up and held messages and faulted commands proceed. -/
  | alxRetrainDone (width : BitVec 6)
  /-- ALX_RECOVERY_TIMEOUT (R400): The Alxis link does not recover within 20 ms and stays down. -/
  | alxRecoveryTimeout
  /-- ALX_AUTH_FAIL (R401): A flit group fails its tag or counter check and takes the link down with reason AUTH. -/
  | alxAuthFail
  /-- KEY_EXHAUSTED (R401): A direction's group counter reaches 2^48 and the link goes down. -/
  | keyExhausted (dir : Bool)
  /-- APERTURE_READ (R399): A companion read through the data aperture returns the current memory value. -/
  | apertureRead (offset : Dpa) (len : BitVec 7)
  /-- APERTURE_WRITE (R399): A companion write through the data aperture is checked as a remote write or against the HBM write ranges. -/
  | apertureWrite (offset : Dpa) (data : List Byte)
  /-- BUT_FLIT_CRC_FAIL (R404): A Buttress flit fails its CRC and is replayed. -/
  | butFlitCrcFail (port : Fin 8) (again : Bool)
  /-- PACKET_FORWARD (R405): A packet for another node is forwarded cut-through by the route table, or dropped as unreachable. -/
  | packetForward (port : Fin 8) (dst src : BitVec 14) (ours : Option (Fin 4 × Fin 16))
  /-- WRITE_ACK (R407): A receiver's acknowledgement of a written packet extends PEER_MOVE's acknowledged prefix. -/
  | writeAck (port : Fin 8) (bytes : BitVec 48) (fault : Option (List Byte))
  /-- CREDIT_GRANT (R408): A credit grant arrives at a PEER_MOVE sender, which sends the granted bytes. -/
  | creditGrant (port : Fin 8) (units : BitVec 16)
  /-- CREDIT_RETRY (R408): 1 µs after a grant of 0 the sender asks for credit again. -/
  | creditRetry (port : Fin 8)
  /-- CREDIT_TIMEOUT (R408): No credit is granted for 2 bells and PEER_MOVE completes with F_CREDIT. -/
  | creditTimeout (port : Fin 8)
  /-- LINK_DELAY_ECHO (R410): Every 1 ms a port exchanges echo flits and updates BUT_DELAY. -/
  | linkDelayEcho (port : Fin 8) (delay : BitVec 32)
  /-- BUT_LANE_FAIL (R411): A Buttress lane fails and its traffic moves to a spare, or the port degrades. -/
  | butLaneFail (port : Fin 8) (lane : BitVec 6)
  /-- BUT_PORT_DOWN (R412): A Buttress port goes down and its unacknowledged work completes with F_LINK. -/
  | butPortDown (port : Fin 8)
  /-- COLL_STEP (R414): A collective step begins once the partner's data for the previous step is complete. -/
  | collStep (spire : Fin 4) (op : Fin 16) (data : List Byte) (bad : Option CheckFail)
  /-- COLL_ABORT_RECEIVED (R417): A collective abort arrives, is forwarded and ends the collective. -/
  | collAbortReceived (spire : Fin 4) (op : Fin 16) (port : Fin 8) (code : Byte)
  /-- COLL_PARTNER_TIMEOUT (R417): No partner data arrives within BUT_COLL_TIMEOUT and the collective completes with F_LINK. -/
  | collPartnerTimeout (spire : Fin 4) (op : Fin 16)
  /-- FUSE_ADVANCE_LIFECYCLE (R421): FUSE_PROG with OP 1 requests a forward life-cycle step. -/
  | fuseAdvanceLifecycle (actor : Actor) (state : BitVec 8)
  /-- FUSE_ADVANCE_ROLLBACK (R421): FUSE_PROG with OP 2 requests one ROLLBACK step. -/
  | fuseAdvanceRollback (actor : Actor)
  /-- FUSE_WRITE_FIELD (R421): FUSE_PROG with OP 3 requests bits of a fuse field word to be set. -/
  | fuseWriteField (actor : Actor) (field : BitVec 4) (word : BitVec 5) (data : Word)
  /-- FUSE_PROG_DONE (R421): A fuse-programming request ends and FUSE_PROG_STATUS records its outcome. -/
  | fuseProgDone
  /-- BOOT_ROM (R425): The boot ROM checks images A then B and enters the first that passes, or halts. -/
  | bootRom (spiErr : BitVec 4)
  /-- ED448_VERIFY (R434): The PKE command ED448_VERIFY verifies an Ed448 signature. -/
  | ed448Verify (o : Origin) (p : PkeArgs)
  /-- ED448_SIGN (R434): The PKE command ED448_SIGN signs a message with a key-store slot. -/
  | ed448Sign (o : Origin) (p : PkeArgs)
  /-- X448_KEYGEN (R434): The PKE command X448_KEYGEN generates an X448 key in a slot. -/
  | x448Keygen (o : Origin) (p : PkeArgs)
  /-- X448 (R434): The PKE command X448 computes a shared secret. -/
  | x448 (o : Origin) (p : PkeArgs)
  /-- P384_KEYGEN (R434): The PKE command P384_KEYGEN generates a P-384 key in a slot. -/
  | p384Keygen (o : Origin) (p : PkeArgs)
  /-- P384_SIGN (R434): The PKE command P384_SIGN signs a hash. -/
  | p384Sign (o : Origin) (p : PkeArgs)
  /-- P384_VERIFY (R434): The PKE command P384_VERIFY verifies a P-384 signature. -/
  | p384Verify (o : Origin) (p : PkeArgs)
  /-- RSA_VERIFY (R434): The PKE command RSA_VERIFY returns s^e mod n. -/
  | rsaVerify (o : Origin) (p : PkeArgs)
  /-- KEY_CLEAR (R435): KEY_CLEAR empties a key-store slot once no operation uses it. -/
  | keyClear (o : Origin) (p : PkeArgs)
  /-- ATTEST (R432): ATTEST samples measurements and signs an attestation report. -/
  | attest (o : Origin) (p : PkeArgs)
  /-- VALIDATE (R436): VALIDATE checks a public value without further computation. -/
  | validate (o : Origin) (p : PkeArgs)
  /-- MEASURE_EXTEND (R426): MEASURE_EXTEND extends a measurement register M4–M7. -/
  | measureExtend (o : Origin) (p : PkeArgs)
  /-- PKE_VALIDATION_END (R436): 3 µs after start the PKE validation ends and refuses or continues the operation. -/
  | pkeValidationEnd (engine : Fin 3)
  /-- PKE_COMPLETE (R440): A PKE operation latches its status, writes its output and completion record and raises its source. -/
  | pkeComplete (engine : Fin 3) (selfTest : Bool)
  /-- PKE_ABORT (R441): A write of 1 to PKE_CTL.ABORT aborts the running operation and clears operand memory. -/
  | pkeAbort (actor : Actor) (engine : Fin 3)
  /-- PKE_OPMEM_CLR (R440): A write of 1 to PKE_CTL.OPMEM_CLR zeroes the operand memory. -/
  | pkeOpmemClr (actor : Actor) (engine : Fin 3)
  /-- LOCKSTEP_MISMATCH (R446): The Keystone cores disagree and both reboot while Spires stop. -/
  | lockstepMismatch
  /-- TOWER_REPLACE (R449): A worn or hard-faulted Tower slot is stopped, copied to the spare and remapped at the next bell. -/
  | towerReplace (slot : Fin 68)
  /-- TM_ROW_REPAIR (R450): A failing Tower-memory row is copied to a spare row and accesses redirected. -/
  | tmRowRepair (slot : Fin 68) (row : BitVec 17)
  /-- GALLERY_BANK_REPAIR (R450): A failing Gallery bank is copied into a spare bank and switched at the next bell. -/
  | galleryBankRepair (spire : Fin 4) (bank : BitVec 6)
  /-- EXPANDER_REPAIR (R450): A site-6 fault brings the spare expander in through BLP_MAP from the next bell. -/
  | expanderRepair (spire : Fin 4) (expander : BitVec 5)
  /-- PKE_SPARE (R450): A site-7 fault makes the spare engine active once idle and excludes the faulty one. -/
  | pkeSpare (engine : Fin 3)
  /-- SPIRE_RETIRE (R452): A Spire is retired, its rings and Towers stopped and its memories unmapped. -/
  | spireRetire (spire : Fin 4)
  /-- WEAR_SAMPLE (R453): The power controller reads the wear sensors. -/
  | wearSample (spire : Fin 4) (group : Fin 3) (margins : Word)
  /-- IDLE_STATE_ENTRY (R455): The power controller puts an idle unit into the deepest permitted state that fits its next event. -/
  | idleStateEntry (unit : PowerUnit)
  /-- UNIT_WAKE (R455): A known event or unplanned request wakes a unit from its idle state. -/
  | unitWake (unit : PowerUnit)
  /-- POWER_SAMPLE (R458): Every 10 µs the rails are measured and a power cap step may be taken or released. -/
  | powerSample (avg1s avg10ms : BitVec 16)
  /-- THROTTLE_STEP (R459): Every 100 µs at Tj 100 °C or above a Spire falls one operating point. -/
  | throttleStep (spire : Fin 4) (temp : BitVec 8)
  /-- THROTTLE_RECOVERY_STEP (R459): After 10 ms below 95 °C a throttled Spire rises one point at the next bell. -/
  | throttleRecoveryStep (spire : Fin 4) (temp : BitVec 8)
  /-- THERMAL_TRIP (R459): Tj reaches 115 °C, Spire clocks stop and THERM_TRIP_N is asserted. -/
  | thermalTrip
  /-- FLOW_OK_FALL (R460): FLOW_OK falls in service and the device stops work and drops below 150 W. -/
  | flowOkFall
  /-- FLOW_OK_RISE (R460): FLOW_OK rises, allowing service-ready or resumption after 1 s. -/
  | flowOkRise
  /-- RAIL_LOSS (R461): A Spire rail or REFCLK_100 fails without warning and every ring stops. -/
  | railLoss (spire : Fin 4)
  /-- RESET_ASSERT (R469): SYS_RST_N goes low and every block is held in reset. -/
  | resetAssert
  /-- RESET_RELEASE (R469): SYS_RST_N is released and the device senses fuses and starts boot. -/
  | resetRelease (trained : BitVec 32)
  /-- PWR_OK_FALL (R470): PWR_OK falls with SYS_RST_N high and the device stops fetchers, writes out buffers and parks stacks. -/
  | pwrOkFall
  /-- REFCLK_LOSS (R471): Loss of a reference clock is detected and handled as port-down or rail loss. -/
  | refclkLoss (clock : RefClock)
  /-- BUT_PORT_UP (R412): A Buttress port completes training and comes up, learning BUT_PEER, setting BUT_STATUS.UP and raising Carillon source 80. -/
  | butPortUp (port : Fin 8) (node : BitVec 14) (lanes : BitVec 6)
  /-- BUT_LOSS_OF_LOCK (R412): A Buttress receiver loses lock and the port starts retraining, sending no bell frames while it retrains. -/
  | butLossOfLock (port : Fin 8)
  /-- ENTROPY_HEALTH_FAIL (R439): The Keystone noise sources fail their health test, after which private-key operations complete with P_ENTROPY. -/
  | entropyHealthFail
  /-- HASHER_JOB_COMPLETE (R384): A SHAKE256 hasher job requested by Keystone firmware completes and raises Keystone Carillon source 4. -/
  | hasherJobComplete
  /-- SPI_FLASH_OP_COMPLETE (R384): An SPI flash operation completes and raises Keystone Carillon source 13. -/
  | spiFlashOpComplete
  /-- I3C_MANAGEMENT_TRANSACTION (R472): The board makes a transaction on the I3C management target, for example reading KEY_BOOT_STATUS, raising Keystone Carillon source 12. -/
  | i3cManagementTransaction (addr : BitVec 36) (write : Option Word)
  /-- JTAG_TAP_ACCESS (R420): The board drives the JTAG TAP and an instruction is accepted or refused by the life-cycle gating. -/
  | jtagTapAccess (ir : JtagIr)
  deriving DecidableEq, Repr

end Sys2Proof
end

