-- ==== Sys2Proof/Config.lean ====
section
/-!
DEFINITION. The values that the spec leaves open, as constants without a body: no proof can see what they are. Each is
applied to the counter `State.free`, or to the operands it depends on.
-/
namespace Sys2Proof.Config

/-- The clk of an event within its bell, and clk-counted figures: the model has no clock (DESIGN CHOICE, log 4). -/
opaque clk : Nat → BitVec 32

/-- Clk counts longer than 32 bits (TWR_CLK, the task's clk in LAUNCH's RESULT; DESIGN CHOICE, log 4). -/
opaque clk64 : Nat → BitVec 64

/-- The sign and payload of a NaN result (DESIGN CHOICE, log 15). -/
opaque nanPayload : Nat → BitVec 23

/-- A result that the spec does not state: the operation and its operand (DESIGN CHOICE, log 16). -/
opaque unstated : Nat → Nat → BitVec 64

/-- The distance, in steps 0 to 4 read as -2 to 2 units in the last place, of EXP2, LOG2, RSQRT and RECIP from the
correctly rounded result (R222; DESIGN CHOICE, log 16). -/
opaque ulpStep : Nat → BitVec 32 → Fin 5

/-- Bytes that the spec leaves undefined: the body after POISON or an abort (R270, R282; DESIGN CHOICE, log 21). -/
opaque freeByte : Nat → Byte

/-- Random bytes that the Keystone's noise sources give (R439; DESIGN CHOICE, log 22). -/
opaque random : Nat → Byte

/-- Measured quantities: power, temperatures, wear margins not carried by a command (DESIGN CHOICE, log 4). -/
opaque measured : Nat → BitVec 32

/-- The rail voltage that a point needs beside a wear margin below 255, in 5 mV units above 0.60 V (R456; DESIGN CHOICE, log 51). -/
opaque railVolt : Nat → Nat → BitVec 8

end Sys2Proof.Config
end

