-- ==== Sys2Proof/Machine/Bits.lean ====
section
/-!
DEFINITION. Bit fields, byte strings and saturating counts. Multi-byte values are little-endian (00_scope.md, Notation).
-/
namespace Sys2Proof

/-- The field [hi:lo] of `v`. -/
def bits (v hi lo : Nat) : Nat := (v >>> lo) % 2 ^ (hi + 1 - lo)

/-- Bit `i` of `v`. -/
def bit (v i : Nat) : Bool := v.testBit i

/-- `v` with its field [hi:lo] replaced by `x`. -/
def setBits (v hi lo x : Nat) : Nat :=
  v - (bits v hi lo) <<< lo + (x % 2 ^ (hi + 1 - lo)) <<< lo

/-- 1 for true. -/
def ofBool (b : Bool) : Nat := if b then 1 else 0

/-- The `n` low bytes of `v`, least significant first. -/
def leBytes : Nat → Nat → List Byte
  | 0, _ => []
  | n + 1, v => BitVec.ofNat 8 v :: leBytes n (v / 256)

/-- The number a little-endian byte string spells. -/
def leNat : List Byte → Nat
  | [] => 0
  | b :: t => b.toNat + 256 * leNat t

/-- Byte `i` of a byte string, zero beyond its end. -/
def byteAt (bs : List Byte) (i : Nat) : Nat := (bs.getD i 0).toNat

/-- The little-endian number in bytes [hi:lo] of a byte string. -/
def field (bs : List Byte) (hi lo : Nat) : Nat := leNat ((bs.drop lo).take (hi + 1 - lo))

/-- A byte string with bytes from `lo` replaced by `xs`. -/
def patch (bs : List Byte) (lo : Nat) (xs : List Byte) : List Byte :=
  bs.take lo ++ xs ++ bs.drop (lo + xs.length)

/-- The `n` low bits of `v` read as a two's-complement number. -/
def toSigned (n v : Nat) : Int :=
  let u := v % 2 ^ n
  if u < 2 ^ (n - 1) then (u : Int) else (u : Int) - (2 ^ n : Nat)

/-- The `n`-bit two's-complement code of an integer. -/
def ofSigned (n : Nat) (i : Int) : Nat := (i % (2 ^ n : Nat)).toNat

/-- Add to a count that saturates at all ones of `n` bits. -/
def satAdd (n v k : Nat) : Nat := min (v + k) (2 ^ n - 1)

/-- The first index of a list at which `p` holds. -/
def firstIdx {α : Type} (p : α → Bool) : List α → Option Nat
  | [] => none
  | a :: t => if p a then some 0 else (firstIdx p t).map (· + 1)

/-- The numbers below `n` for which `p` holds, ascending. -/
def below (n : Nat) (p : Nat → Bool) : List Nat := (List.range n).filter p

/-- Replace entry `i` of a list. -/
def setAt {α : Type} (l : List α) (i : Nat) (a : α) : List α := l.set i a

/-- The CULLET field of a device all of whose units work (R447): no Tower slot, expander, Gallery bank or engine excluded
(DESIGN CHOICE, log 7). -/
def culletBlank : Nat :=
  (List.range 4).foldl (fun v s => v + 0xFFFF_1F1F <<< (448 * s)) (0xFF <<< 1792)

end Sys2Proof
end

