-- ==== Sys2Proof/Machine/RegTypes.lean ====
section
/-!
DEFINITION. The shape of a register map: field types (R3) and the rows of the register tables.
-/
namespace Sys2Proof.Machine

/-- The register types of R3. -/
inductive RegTy | rw | ro | w1c | w1s | wo | rws | rwl
  deriving DecidableEq, Repr

/-- One field of a register: its bits [hi:lo], its type and its reset value. -/
structure RegField where
  hi : Nat
  lo : Nat
  ty : RegTy
  reset : Nat
  deriving DecidableEq, Repr

/-- One row of a register map: the offset of instance 0, the strides and counts of its indices, its width in bits and
its fields. -/
structure RegRow where
  off : Nat
  idx : List (Nat × Nat)
  width : Nat
  fields : List RegField
  deriving DecidableEq, Repr

/-- The kinds of block that share one register map. -/
inductive BlockKind
  | keyCtl | fuse | pke | pwr | car | alx | sess | spr | sem | bel | sde | blp | hbm | but | twr | none
  deriving DecidableEq, Repr

end Sys2Proof.Machine
end

