-- ==== Sys2Proof/Machine/RegAddr.lean ====
section
/-!
DEFINITION. The 36-bit control addresses of the blocks (R26) and of every register.
-/
namespace Sys2Proof.Machine.Reg

/-- KEY_CTL, the Keystone base. -/
def keyCtlBase : Nat := 0x0
/-- FUSE. -/
def fuseBase : Nat := 0x1_0000
/-- PKEn. -/
def pkeBase (n : Nat) : Nat := 0x10_0000 + n * 0x1_0000
/-- PWR. -/
def pwrBase : Nat := 0x30_0000
/-- ALX. -/
def alxBase : Nat := 0x50_0000
/-- SESS. -/
def sessBase : Nat := 0x100_0000
/-- SPR_CTL of Spire `s`, the Spire's base. -/
def spireBase (s : Nat) : Nat := 0x1_0000_0000 + s * 0x1000_0000
/-- The Carillon of Spire 0 to 3, or CAR_K for 4. -/
def carBase (c : Nat) : Nat := if c < 4 then spireBase c + 0x10_0000 else 0x40_0000
/-- The controller of stack H0 to H31 (R13). -/
def hbmBase (h : Nat) : Nat := spireBase (h / 8) + 0x60_0000 + h % 8 * 0x1_0000
/-- The block of port B0 to B7 (R13). -/
def butBase (p : Nat) : Nat := spireBase (p / 2) + 0x70_0000 + p % 2 * 0x1_0000
/-- The block of Tower slot 17 × Spire + physical slot. -/
def twrBase (g : Nat) : Nat := spireBase (g / 17) + 0x100_0000 + g % 17 * 0x10_0000

/-- TWR_NUM_CTL: Quantiser, promotion and trap controls (R69). -/
def twrNumCtl (g : Nat) : Nat := twrBase g + 0x4000

/-- TWR_ACC_SATCNT: ACC42 saturations (R54, R57) (R69). -/
def twrAccSatcnt (g : Nat) : Nat := twrBase g + 0x4008

/-- TWR_POISON_CNT: Poisoned accumulators drained (R69). -/
def twrPoisonCnt (g : Nat) : Nat := twrBase g + 0x4010

/-- TWR_CHK_CNT: F_CHECKSUM events (R69). -/
def twrChkCnt (g : Nat) : Nat := twrBase g + 0x4018

/-- TWR_PROMO_NEXT: Next promotion offset, in 64-byte units (R69). -/
def twrPromoNext (g : Nat) : Nat := twrBase g + 0x4020

/-- TWR_PROMO_LIMIT: First offset beyond this Tower's promotion range (R69). -/
def twrPromoLimit (g : Nat) : Nat := twrBase g + 0x4028

/-- TWR_PROMO_DENIED: Promotions refused for lack of room (R69). -/
def twrPromoDenied (g : Nat) : Nat := twrBase g + 0x4030

/-- TWR_QSTATn_BLOCKS: Statistics set n, n = 0–15: records written (R69). -/
def twrQstatBlocks (g i : Nat) : Nat := twrBase g + 0x4100 + 64 * i

/-- TWR_QSTATn_CLIPPED: Sum of SAT (R69). -/
def twrQstatClipped (g i : Nat) : Nat := twrBase g + 0x4108 + 64 * i

/-- TWR_QSTATn_PROMOTED: Promoted records (R69). -/
def twrQstatPromoted (g i : Nat) : Nat := twrBase g + 0x4110 + 64 * i

/-- TWR_QSTATn_ZERO: Z records (R69). -/
def twrQstatZero (g i : Nat) : Nat := twrBase g + 0x4118 + 64 * i

/-- TWR_QSTATn_POISON: Poisoned records (R69). -/
def twrQstatPoison (g i : Nat) : Nat := twrBase g + 0x4120 + 64 * i

/-- TWR_DESC_CLAMP: Tile rows returned by clamping (R88) (R101). -/
def twrDescClamp (g : Nat) : Nat := twrBase g + 0x4600

/-- TWR_DESC_WRSUP: Tile rows suppressed in whole or part (R89, R91) (R101). -/
def twrDescWrsup (g : Nat) : Nat := twrBase g + 0x4608

/-- TWR_MEM_CTL: Remote-write mode (R127). -/
def twrMemCtl (g : Nat) : Nat := twrBase g + 0x5000

/-- TWR_COMMIT: COMMIT for every RWS field of the Tower slot block (R127). -/
def twrCommit (g : Nat) : Nat := twrBase g + 0x5008

/-- TWR_BANK_ON: Banks on (R127). -/
def twrBankOn (g : Nat) : Nat := twrBase g + 0x5010

/-- TWR_BANK_RET: Banks in retention (R127). -/
def twrBankRet (g : Nat) : Nat := twrBase g + 0x5018

/-- TWR_BANK_READY: Banks on and settled (R127). -/
def twrBankReady (g : Nat) : Nat := twrBase g + 0x5020

/-- TWR_MEM_CE: Corrected codewords (R127). -/
def twrMemCe (g : Nat) : Nat := twrBase g + 0x5028

/-- TWR_MEM_STALL: Stall clk (R104, R113) (R127). -/
def twrMemStall (g : Nat) : Nat := twrBase g + 0x5030

/-- TWR_WIN_DROP: Packets dropped in WINDOW mode (R127). -/
def twrWinDrop (g : Nat) : Nat := twrBase g + 0x5038

/-- TWR_WIN_PEND: Accepted remote packets not yet written (R127). -/
def twrWinPend (g : Nat) : Nat := twrBase g + 0x5040

/-- TWR_CRED_AVAIL: Credit units available to grant (R127). -/
def twrCredAvail (g : Nat) : Nat := twrBase g + 0x5048

/-- TWR_CRED_BASE: Start of the credit region (R127). -/
def twrCredBase (g : Nat) : Nat := twrBase g + 0x5050

/-- TWR_CRED_LIMIT: End of the credit region, exclusive (R127). -/
def twrCredLimit (g : Nat) : Nat := twrBase g + 0x5058

/-- TWR_CRED_REFUSED: Packets refused in CREDIT mode (R127). -/
def twrCredRefused (g : Nat) : Nat := twrBase g + 0x5060

/-- TWR_CRED_BALx: Balance of source x, x = 0–15 (R127). -/
def twrCredBal (g i : Nat) : Nat := twrBase g + 0x5080 + 8 * i

/-- TWR_WINn_BASE: Window n start, n = 0–63 (R127). -/
def twrWinBase (g i : Nat) : Nat := twrBase g + 0x5100 + 32 * i

/-- TWR_WINn_LIMIT: Window n end, exclusive (R127). -/
def twrWinLimit (g i : Nat) : Nat := twrBase g + 0x5108 + 32 * i

/-- TWR_WINn_CTL: Window n enable, sources, generation (R127). -/
def twrWinCtl (g i : Nat) : Nat := twrBase g + 0x5110 + 32 * i

/-- TWR_WINn_GEN: Current generation of window n (R127). -/
def twrWinGen (g i : Nat) : Nat := twrBase g + 0x5118 + 32 * i

/-- TWR_SEX_CTL: Wait limit (R163). -/
def twrSexCtl (g : Nat) : Nat := twrBase g + 0x6000

/-- TWR_SEX_STATUS: Stream states (R163). -/
def twrSexStatus (g : Nat) : Nat := twrBase g + 0x6008

/-- TWR_A_EVEC: Handler address of A (R163). -/
def twrAEvec (g : Nat) : Nat := twrBase g + 0x6010

/-- TWR_X_EVEC: Handler address of X (R163). -/
def twrXEvec (g : Nat) : Nat := twrBase g + 0x6018

/-- TWR_A_EPC: Exception or resume address of A (R163). -/
def twrAEpc (g : Nat) : Nat := twrBase g + 0x6020

/-- TWR_X_EPC: Exception or resume address of X (R163). -/
def twrXEpc (g : Nat) : Nat := twrBase g + 0x6028

/-- TWR_TILE_Q: Queue binding of each tile (R163). -/
def twrTileQ (g : Nat) : Nat := twrBase g + 0x6040

/-- TWR_TILE_TAG: Tag of each tile (R163). -/
def twrTileTag (g : Nat) : Nat := twrBase g + 0x6048

/-- TWR_TILE_STATE: Slot state of each tile (R163). -/
def twrTileState (g : Nat) : Nat := twrBase g + 0x6050

/-- TWR_Q_COUNT: Occupancy of vector, token and FTQ queues (R163). -/
def twrQCount (g : Nat) : Nat := twrBase g + 0x6058

/-- TWR_CKPT: Step counts and outstanding checkpoints (R163). -/
def twrCkpt (g : Nat) : Nat := twrBase g + 0x6060

/-- TWR_IM_STATE: Instruction-memory banks and swap (R163). -/
def twrImState (g : Nat) : Nat := twrBase g + 0x6068

/-- TWR_IM_REFUSED: Loads refused with F_IM_BUSY (R163). -/
def twrImRefused (g : Nat) : Nat := twrBase g + 0x6070

/-- TWR_DBG_CTL: Break enables and tag match (R203). -/
def twrDbgCtl (g : Nat) : Nat := twrBase g + 0x7000

/-- TWR_A_ICOUNT: Instruction count of A (R203). -/
def twrAIcount (g : Nat) : Nat := twrBase g + 0x7008

/-- TWR_X_ICOUNT: Instruction count of X (R203). -/
def twrXIcount (g : Nat) : Nat := twrBase g + 0x7010

/-- TWR_A_IBRK: Count at which an A break fires (R203). -/
def twrAIbrk (g : Nat) : Nat := twrBase g + 0x7018

/-- TWR_X_IBRK: Count at which an X break fires (R203). -/
def twrXIbrk (g : Nat) : Nat := twrBase g + 0x7020

/-- TWR_DBG_STATUS: First break since VALID was cleared (R203). -/
def twrDbgStatus (g : Nat) : Nat := twrBase g + 0x7028

/-- TWR_ARR_STEPS: Block steps and MMW blocks executed, skipped steps included (R228). -/
def twrArrSteps (g : Nat) : Nat := twrBase g + 0x4800

/-- TWR_ARR_XCLK: Clk spent in A-extra, B-extra and cross passes (R228). -/
def twrArrXclk (g : Nat) : Nat := twrBase g + 0x4808

/-- TWR_ARR_SKIP: Steps skipped under R206 (R228). -/
def twrArrSkip (g : Nat) : Nat := twrBase g + 0x4810

/-- TWR_ARR_BANKS: Bank modes and state (R228). -/
def twrArrBanks (g : Nat) : Nat := twrBase g + 0x4818

/-- TWR_EP_BUILD_SRC: Tower-memory source of a copy build (R228). -/
def twrEpBuildSrc (g : Nat) : Nat := twrBase g + 0x4820

/-- TWR_EP_BUILD: Starts a build (R228). -/
def twrEpBuild (g : Nat) : Nat := twrBase g + 0x4828

/-- TWR_EP_STATUS: Outcome of the last build (R228). -/
def twrEpStatus (g : Nat) : Nat := twrBase g + 0x4830

/-- TWR_EP_STALL: Clk that EPRG spent stalled under R228 (R228). -/
def twrEpStall (g : Nat) : Nat := twrBase g + 0x4838

/-- TWR_EPn_GEN: Generation and build state of slot n, n = 0–15 (R228). -/
def twrEpGen (g i : Nat) : Nat := twrBase g + 0x4880 + 8 * i

/-- TWR_SEQk_HANDLE: Handle walked by sequencer k, k = 0–3 (R251). -/
def twrSeqHandle (g i : Nat) : Nat := twrBase g + 0x4A00 + 64 * i

/-- TWR_SEQk_NEST: Order, serpentine, bound and width (R251). -/
def twrSeqNest (g i : Nat) : Nat := twrBase g + 0x4A08 + 64 * i

/-- TWR_SEQk_LEN: Length register (R251). -/
def twrSeqLen (g i : Nat) : Nat := twrBase g + 0x4A10 + 64 * i

/-- TWR_SEQk_CTL: Arm and abandon (R251). -/
def twrSeqCtl (g i : Nat) : Nat := twrBase g + 0x4A18 + 64 * i

/-- TWR_SEQk_STATUS: Tiles left and state (R251). -/
def twrSeqStatus (g i : Nat) : Nat := twrBase g + 0x4A20 + 64 * i

/-- TWR_SEQ_SKIP: Grid points omitted or delivered as zero (R251). -/
def twrSeqSkip (g : Nat) : Nat := twrBase g + 0x4B00

/-- TWR_SEQ_DMISS: Loader descriptor-cache misses (R251). -/
def twrSeqDmiss (g : Nat) : Nat := twrBase g + 0x4B08

/-- SPR_ID: Part, step and Spire index (R28). -/
def sprId (s : Nat) : Nat := spireBase s + 0x0

/-- SPR_TWR_MAP_LO: Physical slots of T0–T7 (R28). -/
def sprTwrMapLo (s : Nat) : Nat := spireBase s + 0x10

/-- SPR_TWR_MAP_HI: Physical slots of T8–T15 (R28). -/
def sprTwrMapHi (s : Nat) : Nat := spireBase s + 0x18

/-- SPR_TWR_SPARE: Unmapped slot (R28). -/
def sprTwrSpare (s : Nat) : Nat := spireBase s + 0x20

/-- SPR_DECODE_ERR: First unmapped or refused control access (R28). -/
def sprDecodeErr (s : Nat) : Nat := spireBase s + 0x40

/-- SPR_DESC_BASE: Gallery address of the descriptor table (R100). -/
def sprDescBase (s : Nat) : Nat := spireBase s + 0x80

/-- SPR_DESC_LIVE: Number of live descriptors (R100). -/
def sprDescLive (s : Nat) : Nat := spireBase s + 0x88

/-- SPR_COMMIT: COMMIT for every RWS field of SPR_CTL (R127). -/
def sprCommit (s : Nat) : Nat := spireBase s + 0xF8

/-- SPR_GAL_CTL: Remote-write mode (R127). -/
def sprGalCtl (s : Nat) : Nat := spireBase s + 0x1000

/-- SPR_GAL_SHARE: Class weights (R125) (R127). -/
def sprGalShare (s : Nat) : Nat := spireBase s + 0x1010

/-- SPR_GAL_CE: Corrected codewords (R127). -/
def sprGalCe (s : Nat) : Nat := spireBase s + 0x1018

/-- SPR_GAL_STALL: Bank cycles in which a port waited (R127). -/
def sprGalStall (s : Nat) : Nat := spireBase s + 0x1020

/-- SPR_GAL_WIN_DROP: Packets dropped in WINDOW mode (R127). -/
def sprGalWinDrop (s : Nat) : Nat := spireBase s + 0x1028

/-- SPR_GAL_WIN_PEND: Accepted remote packets not yet written (R127). -/
def sprGalWinPend (s : Nat) : Nat := spireBase s + 0x1030

/-- SPR_GAL_CRED_AVAIL: Credit units available to grant (R127). -/
def sprGalCredAvail (s : Nat) : Nat := spireBase s + 0x1038

/-- SPR_GAL_CRED_BASE: Start of the credit region (R127). -/
def sprGalCredBase (s : Nat) : Nat := spireBase s + 0x1040

/-- SPR_GAL_CRED_LIMIT: End of the credit region, exclusive (R127). -/
def sprGalCredLimit (s : Nat) : Nat := spireBase s + 0x1048

/-- SPR_GAL_CRED_REFUSED: Packets refused in CREDIT mode (R127). -/
def sprGalCredRefused (s : Nat) : Nat := spireBase s + 0x1050

/-- SPR_GAL_SPARE: Spare-bank use (R127). -/
def sprGalSpare (s : Nat) : Nat := spireBase s + 0x1060

/-- SPR_GAL_CRED_BALx: Balance of source x, x = 0–15 (R127). -/
def sprGalCredBal (s i : Nat) : Nat := spireBase s + 0x1080 + 8 * i

/-- SPR_GAL_WINn_BASE: Window n start, n = 0–255 (R127). -/
def sprGalWinBase (s i : Nat) : Nat := spireBase s + 0x2000 + 32 * i

/-- SPR_GAL_WINn_LIMIT: Window n end, exclusive (R127). -/
def sprGalWinLimit (s i : Nat) : Nat := spireBase s + 0x2008 + 32 * i

/-- SPR_GAL_WINn_CTL: Window n enable, sources, generation (R127). -/
def sprGalWinCtl (s i : Nat) : Nat := spireBase s + 0x2010 + 32 * i

/-- SPR_GAL_WINn_GEN: Current generation of Gallery window n (R127). -/
def sprGalWinGen (s i : Nat) : Nat := spireBase s + 0x2018 + 32 * i

/-- SPR_PSET_BASE: Gallery address of the parameter-set area (R285). -/
def sprPsetBase (s : Nat) : Nat := spireBase s + 0x4000

/-- SPR_SEAL_POISON: Outputs written with POISON (R270) (R285). -/
def sprSealPoison (s : Nat) : Nat := spireBase s + 0x4008

/-- SPR_SEAL_LEVEL: F_LEVEL refusals (R268) (R285). -/
def sprSealLevel (s : Nat) : Nat := spireBase s + 0x4010

/-- SPR_SEAL_AUTO: ANNEALs inserted under R269 (R285). -/
def sprSealAuto (s : Nat) : Nat := spireBase s + 0x4018

/-- SPR_PSET_STALL: Clk stalled under R262 (R285). -/
def sprPsetStall (s : Nat) : Nat := spireBase s + 0x4020

/-- SPR_ANNEAL_RESTART: Slices restarted under R281 (R285). -/
def sprAnnealRestart (s : Nat) : Nat := spireBase s + 0x4028

/-- SPR_PSETn_STATE: Slot n, n = 0–31 (R285). -/
def sprPsetState (s i : Nat) : Nat := spireBase s + 0x4100 + 8 * i

/-- SPR_SEAL_BANKS: Tower-memory banks that sealed sequences use on this Spire (R308). -/
def sprSealBanks (s : Nat) : Nat := spireBase s + 0x4200

/-- SPR_RINGr_BASE: Slot 0 of the ring (R340). -/
def sprRingBase (s i : Nat) : Nat := spireBase s + 0x5000 + 64 * i

/-- SPR_RINGr_CFG: Enable, engine, sizes, priority (R340). -/
def sprRingCfg (s i : Nat) : Nat := spireBase s + 0x5008 + 64 * i

/-- SPR_RINGr_TAIL_LINE: Tail line address (R340). -/
def sprRingTailLine (s i : Nat) : Nat := spireBase s + 0x5010 + 64 * i

/-- SPR_RINGr_HEAD_LINE: Head line address (R340). -/
def sprRingHeadLine (s i : Nat) : Nat := spireBase s + 0x5018 + 64 * i

/-- SPR_RINGr_COMP_BASE: Completion ring (R340). -/
def sprRingCompBase (s i : Nat) : Nat := spireBase s + 0x5020 + 64 * i

/-- SPR_RINGr_STATUS: Progress and state (R340). -/
def sprRingStatus (s i : Nat) : Nat := spireBase s + 0x5028 + 64 * i

/-- SPR_RINGr_CTL: Resume (R340). -/
def sprRingCtl (s i : Nat) : Nat := spireBase s + 0x5030 + 64 * i

/-- SPR_CMD_BRK_CTL: Break enables (R340). -/
def sprCmdBrkCtl (s : Nat) : Nat := spireBase s + 0x5400

/-- SPR_CMD_BRK_TAG: Tag match (R340). -/
def sprCmdBrkTag (s : Nat) : Nat := spireBase s + 0x5408

/-- SPR_CMD_BRK_COUNT: CSEQ of the count break (R340). -/
def sprCmdBrkCount (s : Nat) : Nat := spireBase s + 0x5410

/-- SPR_CMD_BRK_STATUS: First break (R340). -/
def sprCmdBrkStatus (s : Nat) : Nat := spireBase s + 0x5418

/-- SPR_WCB_CTL: Line age limit (R382). -/
def sprWcbCtl (s : Nat) : Nat := spireBase s + 0x6000

/-- SPR_WCB_LINES: Lines in use (R382). -/
def sprWcbLines (s : Nat) : Nat := spireBase s + 0x6008

/-- SPR_WCB_EVICT: Lines written out because the buffer was full (R382). -/
def sprWcbEvict (s : Nat) : Nat := spireBase s + 0x6010

/-- SEM_COUNTn: Count (R340). -/
def semCount (s i : Nat) : Nat := spireBase s + 0x200000 + 0x0 + 64 * i

/-- SEM_POSTn: Post (R340). -/
def semPost (s i : Nat) : Nat := spireBase s + 0x200000 + 0x8 + 64 * i

/-- SEM_CFGn: Timeout and expected poster (R340). -/
def semCfg (s i : Nat) : Nat := spireBase s + 0x200000 + 0x10 + 64 * i

/-- SEM_LASTn: Last post (R340). -/
def semLast (s i : Nat) : Nat := spireBase s + 0x200000 + 0x18 + 64 * i

/-- SEM_WAITn: Waiters (R340). -/
def semWait (s i : Nat) : Nat := spireBase s + 0x200000 + 0x20 + 64 * i

/-- SEM_SNAP_BASE: Snapshot buffer (R340). -/
def semSnapBase (s : Nat) : Nat := spireBase s + 0x200000 + 0x40000

/-- SEM_SNAP_STATUS: Snapshot state (R340). -/
def semSnapStatus (s : Nat) : Nat := spireBase s + 0x200000 + 0x40008

/-- SEM_TIMEOUT_CNT: Timeouts (R340). -/
def semTimeoutCnt (s : Nat) : Nat := spireBase s + 0x200000 + 0x40010

/-- SEM_OVF_CNT: Refused posts (R333) (R340). -/
def semOvfCnt (s : Nat) : Nat := spireBase s + 0x200000 + 0x40018

/-- SEM_WIN_DROP: Dropped remote posts (R340). -/
def semWinDrop (s : Nat) : Nat := spireBase s + 0x200000 + 0x40020

/-- SEM_WINw_RANGE: Window w indices, w = 0–15 (R340). -/
def semWinRange (s i : Nat) : Nat := spireBase s + 0x200000 + 0x40100 + 16 * i

/-- SEM_WINw_CTL: Window w enable and sources (R340). -/
def semWinCtl (s i : Nat) : Nat := spireBase s + 0x200000 + 0x40108 + 16 * i

/-- SEM_COMMIT: COMMIT (R337) (R337). -/
def semCommit (s : Nat) : Nat := spireBase s + 0x200000 + 0xFFFF8

/-- BEL_CTL: Enable, mode, next table (R365). -/
def belCtl (s : Nat) : Nat := spireBase s + 0x300000 + 0x0

/-- BEL_PERIOD: Bell period; Spire 0 only (R365). -/
def belPeriod (s : Nat) : Nat := spireBase s + 0x300000 + 0x8

/-- BEL_GEN: Source, lead and frames; Spire 0 only (R365). -/
def belGen (s : Nat) : Nat := spireBase s + 0x300000 + 0x10

/-- BEL_NUM: Current bell number (R365). -/
def belNum (s : Nat) : Nat := spireBase s + 0x300000 + 0x18

/-- BEL_STATUS: Synchronisation and table state (R365). -/
def belStatus (s : Nat) : Nat := spireBase s + 0x300000 + 0x20

/-- BEL_JOIN: Join a group; Spire 0 only (R365). -/
def belJoin (s : Nat) : Nat := spireBase s + 0x300000 + 0x28

/-- BEL_SKEW: Last rounding under R346 (R365). -/
def belSkew (s : Nat) : Nat := spireBase s + 0x300000 + 0x30

/-- BEL_SLACK: Smallest slack in the previous bell (R365). -/
def belSlack (s : Nat) : Nat := spireBase s + 0x300000 + 0x38

/-- BEL_MISS_CNT: F_DEADLINE events (R365). -/
def belMissCnt (s : Nat) : Nat := spireBase s + 0x300000 + 0x40

/-- BEL_LATE_CNT: Late starts (R365). -/
def belLateCnt (s : Nat) : Nat := spireBase s + 0x300000 + 0x48

/-- BEL_SKIP_CNT: Skipped instances (R365). -/
def belSkipCnt (s : Nat) : Nat := spireBase s + 0x300000 + 0x50

/-- BEL_ABANDON_CNT: Abandoned instances (R365). -/
def belAbandonCnt (s : Nat) : Nat := spireBase s + 0x300000 + 0x58

/-- BEL_COMMIT: COMMIT (R337) (R337). -/
def belCommit (s : Nat) : Nat := spireBase s + 0x300000 + 0xFFFF8

/-- SDE_CLASS_SHARE: DEMAND and PARISON weights (R245) (R251). -/
def sdeClassShare (s : Nat) : Nat := spireBase s + 0x400000 + 0x800

/-- SDE_SPEC_PEND: Groups with SPEC moves awaiting a verdict (R251). -/
def sdeSpecPend (s : Nat) : Nat := spireBase s + 0x400000 + 0x808

/-- SDE_SPEC_DROP: Bytes written by dropped SPEC moves (R251). -/
def sdeSpecDrop (s : Nat) : Nat := spireBase s + 0x400000 + 0x810

/-- SDE_SEQ_SKIP: Grid points omitted under R236 (R251). -/
def sdeSeqSkip (s : Nat) : Nat := spireBase s + 0x400000 + 0x818

/-- SDE_SMALL_SEG: Segments shorter than their minimum (R251). -/
def sdeSmallSeg (s : Nat) : Nat := spireBase s + 0x400000 + 0x820

/-- SDE_DCACHE_MISS: Descriptor-cache misses (R251). -/
def sdeDcacheMiss (s : Nat) : Nat := spireBase s + 0x400000 + 0x828

/-- SDE_COMMIT: COMMIT (R337) (R337). -/
def sdeCommit (s : Nat) : Nat := spireBase s + 0x400000 + 0xFFFF8

/-- BLP_MAP_LO: Expander serving each of T0–T11 (R307). -/
def blpMapLo (s : Nat) : Nat := spireBase s + 0x500000 + 0x0

/-- BLP_MAP_HI: Expander serving each of T12–T15 (R307). -/
def blpMapHi (s : Nat) : Nat := spireBase s + 0x500000 + 0x8

/-- BLP_MISMATCH: F_KEY_MISMATCH events (R307). -/
def blpMismatch (s : Nat) : Nat := spireBase s + 0x500000 + 0x10

/-- BLP_DIGEST_FAIL: F_KEY_DIGEST events (R307). -/
def blpDigestFail (s : Nat) : Nat := spireBase s + 0x500000 + 0x18

/-- BLP_REJECT: Candidates rejected under R303 (R307). -/
def blpReject (s : Nat) : Nat := spireBase s + 0x500000 + 0x20

/-- BLP_STALL: Clk a Marver waited for key words (R307). -/
def blpStall (s : Nat) : Nat := spireBase s + 0x500000 + 0x28

/-- BLP_COMMIT: COMMIT (R337) (R337). -/
def blpCommit (s : Nat) : Nat := spireBase s + 0x500000 + 0xFFFF8

/-- HBM_CTL: Patrol enable, pin threshold (R382). -/
def hbmCtl (h : Nat) : Nat := hbmBase h + 0x0

/-- HBM_STATUS: Training, self-refresh, repair, temperature (R382). -/
def hbmStatus (h : Nat) : Nat := hbmBase h + 0x8

/-- HBM_CE_CNT: Corrected codewords (R382). -/
def hbmCeCnt (h : Nat) : Nat := hbmBase h + 0x10

/-- HBM_UE_CNT: Uncorrectable codewords (R382). -/
def hbmUeCnt (h : Nat) : Nat := hbmBase h + 0x18

/-- HBM_RMW_CNT: Read-modify-writes (R374) (R382). -/
def hbmRmwCnt (h : Nat) : Nat := hbmBase h + 0x20

/-- HBM_UE_LOG: First uncorrectable codeword (R382). -/
def hbmUeLog (h : Nat) : Nat := hbmBase h + 0x28

/-- HBM_PIN_SUSPECT: First pin over threshold (R382). -/
def hbmPinSuspect (h : Nat) : Nat := hbmBase h + 0x30

/-- HBM_PATROL: Patrol interval (R382). -/
def hbmPatrol (h : Nat) : Nat := hbmBase h + 0x38

/-- HBM_PATROL_POS: Patrol progress (R382). -/
def hbmPatrolPos (h : Nat) : Nat := hbmBase h + 0x40

/-- HBM_BAND_LO: Classes of bands 0–31; HBM0 only, reserved elsewhere (R382). -/
def hbmBandLo (h : Nat) : Nat := hbmBase h + 0x8000

/-- HBM_BAND_HI: Classes of bands 32–35; HBM0 only (R382). -/
def hbmBandHi (h : Nat) : Nat := hbmBase h + 0x8008

/-- HBM_COMMIT: COMMIT (R337) (R382). -/
def hbmCommit (h : Nat) : Nat := hbmBase h + 0xFFF8

/-- BUT_STATUS: Port state (R418). -/
def butStatus (p : Nat) : Nat := butBase p + 0x0

/-- BUT_NODE: Node of this device; BUT0 of Spire 0 only (R418). -/
def butNode (p : Nat) : Nat := butBase p + 0x8

/-- BUT_PEER: Neighbour's node (R418). -/
def butPeer (p : Nat) : Nat := butBase p + 0x10

/-- BUT_DELAY: Link delay (R418). -/
def butDelay (p : Nat) : Nat := butBase p + 0x18

/-- BUT_LANE_MAP: Spare use (R418). -/
def butLaneMap (p : Nat) : Nat := butBase p + 0x20

/-- BUT_REPLAY_CNT: Replayed flits (R418). -/
def butReplayCnt (p : Nat) : Nat := butBase p + 0x28

/-- BUT_POLICY_DROP: Policy drops (R418). -/
def butPolicyDrop (p : Nat) : Nat := butBase p + 0x30

/-- BUT_COLL_TIMEOUT: Collective partner timeout (R418). -/
def butCollTimeout (p : Nat) : Nat := butBase p + 0x38

/-- BUT_ROUTEi: Ports for nodes 16i to 16i + 15, i = 0–1,023; BUT0 only (R418). -/
def butRoute (p i : Nat) : Nat := butBase p + 0x1000 + 8 * i

/-- BUT_COMMIT: COMMIT (R337) (R418). -/
def butCommit (p : Nat) : Nat := butBase p + 0xFFF8

/-- CAR_SRCn_CFG: Source n configuration, n = 0–1,023 (R394). -/
def carSrcCfg (c i : Nat) : Nat := carBase c + 0x0 + 8 * i

/-- CAR_PEND_SETw: Pending bits, set, w = 0–15 (R394). -/
def carPendSet (c i : Nat) : Nat := carBase c + 0x2000 + 8 * i

/-- CAR_PEND_CLRw: Pending bits, clear (R394). -/
def carPendClr (c i : Nat) : Nat := carBase c + 0x2080 + 8 * i

/-- CAR_ACTIVEw: Active bits (R394). -/
def carActive (c i : Nat) : Nat := carBase c + 0x2100 + 8 * i

/-- CAR_HOLDg: Hold-off of group g, g = 0–63 (R394). -/
def carHold (c i : Nat) : Nat := carBase c + 0x2200 + 8 * i

/-- CAR_Tt_CLAIM: Claim (R387), t = 0–2 (R394). -/
def carTClaim (c i : Nat) : Nat := carBase c + 0x3000 + 64 * i

/-- CAR_Tt_COMPLETE: Completion (R390) (R394). -/
def carTComplete (c i : Nat) : Nat := carBase c + 0x3008 + 64 * i

/-- CAR_Tt_THRESH: Priority threshold (R394). -/
def carTThresh (c i : Nat) : Nat := carBase c + 0x3010 + 64 * i

/-- CAR_Tt_STACK: Stack depth and top (R394). -/
def carTStack (c i : Nat) : Nat := carBase c + 0x3018 + 64 * i

/-- CAR_MSG_ADDR: Message address (R394). -/
def carMsgAddr (c : Nat) : Nat := carBase c + 0x3100

/-- CAR_MSG_DATA: Message data (R394). -/
def carMsgData (c : Nat) : Nat := carBase c + 0x3108

/-- CAR_MSG_STATUS: Message outstanding (R394). -/
def carMsgStatus (c : Nat) : Nat := carBase c + 0x3110

/-- CAR_FAULTi: Fault record bytes [8i + 7 : 8i], i = 0–3 (R394). -/
def carFault (c i : Nat) : Nat := carBase c + 0x3200 + 8 * i

/-- CAR_FAULT_STATUS: Record held (R394). -/
def carFaultStatus (c : Nat) : Nat := carBase c + 0x3220

/-- CAR_FAULT_CNT: Records not written (R394). -/
def carFaultCnt (c : Nat) : Nat := carBase c + 0x3228

/-- CAR_COMMIT: COMMIT (R337) (R394). -/
def carCommit (c : Nat) : Nat := carBase c + 0xFFFF8

/-- ALX_CTL: Retrain (R418). -/
def alxCtl : Nat := alxBase + 0x0

/-- ALX_STATUS: Link state and width (R418). -/
def alxStatus : Nat := alxBase + 0x8

/-- ALX_AP_CTL_BASE: Control aperture base (R418). -/
def alxApCtlBase : Nat := alxBase + 0x10

/-- ALX_AP_DATA_BASE: Data aperture base (R418). -/
def alxApDataBase : Nat := alxBase + 0x18

/-- ALX_CRYPT_CTL: Encryption (R418). -/
def alxCryptCtl : Nat := alxBase + 0x20

/-- ALX_REPLAY_CNT: Replayed flits (R418). -/
def alxReplayCnt : Nat := alxBase + 0x28

/-- ALX_AUTH_FAIL: Tag failures (R418). -/
def alxAuthFail : Nat := alxBase + 0x30

/-- ALX_WR_DROP: Aperture writes dropped (R399) (R418). -/
def alxWrDrop : Nat := alxBase + 0x38

/-- ALX_LINK_LOG: First link-down event (R418). -/
def alxLinkLog : Nat := alxBase + 0x40

/-- ALX_LOCK: Locks the RWL fields (R418). -/
def alxLock : Nat := alxBase + 0x48

/-- ALX_LOCK_VIOL: Writes to RWL fields refused after LOCK (R7) (R418). -/
def alxLockViol : Nat := alxBase + 0x50

/-- ALX_HBMWINw_BASE: HBM write range w, w = 0–7 (R418). -/
def alxHbmwinBase (i : Nat) : Nat := alxBase + 0x100 + 16 * i

/-- ALX_HBMWINw_LIMIT: End of the range, exclusive; bit 63 EN (R418). -/
def alxHbmwinLimit (i : Nat) : Nat := alxBase + 0x108 + 16 * i

/-- ALX_COMMIT: COMMIT (R337) (R418). -/
def alxCommit : Nat := alxBase + 0xFFFF8

/-- ALX_KEY0_j: Pending key of direction 0, bytes [8j+7:8j], j = 0–3 (R443). -/
def alxKey0 (i : Nat) : Nat := alxBase + 0x200 + 8 * i

/-- ALX_KEY1_j: Pending key of direction 1, bytes [8j+7:8j], j = 0–3 (R443). -/
def alxKey1 (i : Nat) : Nat := alxBase + 0x220 + 8 * i

/-- PWR_STATUS: Flow, throttle, cap, alert conditions (R462). -/
def pwrStatus : Nat := pwrBase + 0x0

/-- PWR_POWER: Measured power (R462). -/
def pwrPower : Nat := pwrBase + 0x8

/-- PWR_IDLE_CTL: Permitted idle states (R462). -/
def pwrIdleCtl : Nat := pwrBase + 0x10

/-- PWR_OPPs: Operating point of Spire s (R462). -/
def pwrOpp (i : Nat) : Nat := pwrBase + 0x18 + 8 * i

/-- PWR_CTL: Wear threshold (R462). -/
def pwrCtl : Nat := pwrBase + 0x40

/-- PWR_WEARs_j: Wear margins, j = 0–2 (R462). -/
def pwrWear (i j : Nat) : Nat := pwrBase + 0x100 + 32 * i + 8 * j

/-- PWR_COMMIT: COMMIT (R337) (R462). -/
def pwrCommit : Nat := pwrBase + 0xFFFF8

/-- KEY_BOOT_STATUS: Boot outcome (R443). -/
def keyBootStatus : Nat := keyCtlBase + 0x100

/-- KEY_KS_STATE: Key-store slot types (R443). -/
def keyKsState : Nat := keyCtlBase + 0x108

/-- KEY_ID_PUBi: Identity public key bytes [8i+7:8i], i = 0–7; bytes 57–63 zero (R443). -/
def keyIdPub (i : Nat) : Nat := keyCtlBase + 0x180 + 8 * i

/-- KEY_MEASm_i: Bytes [8i+7:8i] of Mm, m = 0–7, i = 0–7 (R443). -/
def keyMeas (i j : Nat) : Nat := keyCtlBase + 0x200 + 64 * i + 8 * j

/-- KEY_CULLET_POOL: Spares left per Spire (R462). -/
def keyCulletPool : Nat := keyCtlBase + 0x400

/-- KEY_CULLET_POOL2: Keystone and lane spares, retired Spires (R462). -/
def keyCulletPool2 : Nat := keyCtlBase + 0x408

/-- KEY_CULLET_RETIRED: Retired Towers (R462). -/
def keyCulletRetired : Nat := keyCtlBase + 0x410

/-- KEY_LOCKSTEP_CNT: Lockstep reboots since power-up (R462). -/
def keyLockstepCnt : Nat := keyCtlBase + 0x418

/-- KEY_CULLET_SET: Cullet-map change (R29); Keystone controller only (R462). -/
def keyCulletSet : Nat := keyCtlBase + 0x420

/-- KEY_DECODE_ERR: First unmapped or refused control access (R30). -/
def keyDecodeErr : Nat := keyCtlBase + 0x40

/-- FUSE_LIFECYCLE: Life-cycle state (R443). -/
def fuseLifecycle : Nat := fuseBase + 0x0

/-- FUSE_POLICY: Debug and port policy (R443). -/
def fusePolicy : Nat := fuseBase + 0x8

/-- FUSE_ROLLBACK: Anti-rollback count (R443). -/
def fuseRollback : Nat := fuseBase + 0x10

/-- FUSE_SERIAL: Serial number (R443). -/
def fuseSerial : Nat := fuseBase + 0x18

/-- FUSE_FWKEYi: FWKEY_DIGEST bytes [8i+7:8i], i = 0–7 (R443). -/
def fuseFwkey (i : Nat) : Nat := fuseBase + 0x40 + 8 * i

/-- FUSE_CULLETi: CULLET bytes [8i+7:8i], i = 0–31 (R443). -/
def fuseCullet (i : Nat) : Nat := fuseBase + 0x100 + 8 * i

/-- FUSE_PROG: Programming request (R443). -/
def fuseProg : Nat := fuseBase + 0x200

/-- FUSE_PROG_DATA: Data for a field write (R443). -/
def fuseProgData : Nat := fuseBase + 0x208

/-- FUSE_PROG_STATUS: Outcome of the last request (R443). -/
def fuseProgStatus : Nat := fuseBase + 0x210

/-- PKE_STATUS: Engine state (R443). -/
def pkeStatus (n : Nat) : Nat := pkeBase n + 0x0

/-- PKE_CTL: Abort and clear (R443). -/
def pkeCtl (n : Nat) : Nat := pkeBase n + 0x8

/-- PKE_OPCNT: Operations completed with P_OK or P_SIG_INVALID (R443). -/
def pkeOpcnt (n : Nat) : Nat := pkeBase n + 0x10

/-- PKE_REFUSED: Operations refused at validation (R443). -/
def pkeRefused (n : Nat) : Nat := pkeBase n + 0x18

/-- PKE_OPMEM: Operand memory (R443). -/
def pkeOpmem (n i : Nat) : Nat := pkeBase n + 0x1000 + 8 * i

/-- SESS_STATE_CNT: Sessions in each state (R307). -/
def sessStateCnt : Nat := sessBase + 0x400000

/-- SESS_FRAME_BASE: DPA of frame 0 of the key-frame pool (R307). -/
def sessFrameBase : Nat := sessBase + 0x400008

/-- SESS_FRAME_COUNT: Frames in the pool (R307). -/
def sessFrameCount : Nat := sessBase + 0x400010

/-- SESS_TAG_BASE: DPA of the tag-slot table (R307). -/
def sessTagBase : Nat := sessBase + 0x400018

/-- SESS_FRAME_FREE: Free frames (R307). -/
def sessFrameFree : Nat := sessBase + 0x400020

/-- SESS_EVICT: Pages evicted under R297 (R307). -/
def sessEvict : Nat := sessBase + 0x400028

/-- SESS_LOCK: Locks the RWL fields (R307). -/
def sessLock : Nat := sessBase + 0x400030

/-- SESS_LOCK_VIOL: Writes to RWL fields refused after LOCK (R7) (R307). -/
def sessLockViol : Nat := sessBase + 0x400038

end Sys2Proof.Machine.Reg
end

