-- ==== Sys2Proof/Machine/RegMap.lean ====
section
/-!
DEFINITION. The register maps of spec/ as data: offset, index strides, width and fields of every register, in the order
of the chapters. Fields that no row names are reserved (R4). A reset value that the spec does not state as a number
stands here as 0 and is supplied by `Machine/Regs.lean`.
-/
namespace Sys2Proof.Machine

/-- The register map of TWR, part 1. -/
def twrRows1 : List RegRow := [
  -- TWR_NUM_CTL (R69)
  ⟨0x4000, [], 32,
    [⟨17, 17, .rw, 0⟩, ⟨16, 16, .rw, 0⟩, ⟨14, 14, .rw, 0⟩, ⟨13, 8, .rw, 1⟩, ⟨6, 4, .rw, 0⟩, ⟨3, 0, .rw, 0⟩]⟩,
  -- TWR_ACC_SATCNT (R69)
  ⟨0x4008, [], 32,
    [⟨31, 0, .rw, 0⟩]⟩,
  -- TWR_POISON_CNT (R69)
  ⟨0x4010, [], 32,
    [⟨31, 0, .rw, 0⟩]⟩,
  -- TWR_CHK_CNT (R69)
  ⟨0x4018, [], 32,
    [⟨31, 0, .rw, 0⟩]⟩,
  -- TWR_PROMO_NEXT (R69)
  ⟨0x4020, [], 32,
    [⟨31, 0, .rw, 0⟩]⟩,
  -- TWR_PROMO_LIMIT (R69)
  ⟨0x4028, [], 32,
    [⟨31, 0, .rw, 0⟩]⟩,
  -- TWR_PROMO_DENIED (R69)
  ⟨0x4030, [], 32,
    [⟨31, 0, .rw, 0⟩]⟩,
  -- TWR_QSTATn_BLOCKS (R69)
  ⟨0x4100, [(64, 16)], 64,
    [⟨63, 0, .rw, 0⟩]⟩,
  -- TWR_QSTATn_CLIPPED (R69)
  ⟨0x4108, [(64, 16)], 64,
    [⟨63, 0, .rw, 0⟩]⟩,
  -- TWR_QSTATn_PROMOTED (R69)
  ⟨0x4110, [(64, 16)], 64,
    [⟨63, 0, .rw, 0⟩]⟩,
  -- TWR_QSTATn_ZERO (R69)
  ⟨0x4118, [(64, 16)], 64,
    [⟨63, 0, .rw, 0⟩]⟩,
  -- TWR_QSTATn_POISON (R69)
  ⟨0x4120, [(64, 16)], 64,
    [⟨63, 0, .rw, 0⟩]⟩,
  -- TWR_DESC_CLAMP (R101)
  ⟨0x4600, [], 32,
    [⟨31, 0, .rw, 0⟩]⟩,
  -- TWR_DESC_WRSUP (R101)
  ⟨0x4608, [], 32,
    [⟨31, 0, .rw, 0⟩]⟩,
  -- TWR_MEM_CTL (R127)
  ⟨0x5000, [], 32,
    [⟨0, 0, .rws, 1⟩]⟩,
  -- TWR_COMMIT (R127)
  ⟨0x5008, [], 32,
    [⟨0, 0, .wo, 0⟩]⟩]

/-- The register map of TWR, part 2. -/
def twrRows2 : List RegRow := [
  -- TWR_BANK_ON (R127)
  ⟨0x5010, [], 64,
    [⟨63, 0, .rws, 0⟩]⟩,
  -- TWR_BANK_RET (R127)
  ⟨0x5018, [], 64,
    [⟨63, 0, .rws, 0⟩]⟩,
  -- TWR_BANK_READY (R127)
  ⟨0x5020, [], 64,
    [⟨63, 0, .ro, 0⟩]⟩,
  -- TWR_MEM_CE (R127)
  ⟨0x5028, [], 32,
    [⟨31, 0, .rw, 0⟩]⟩,
  -- TWR_MEM_STALL (R127)
  ⟨0x5030, [], 32,
    [⟨31, 0, .rw, 0⟩]⟩,
  -- TWR_WIN_DROP (R127)
  ⟨0x5038, [], 32,
    [⟨31, 0, .rw, 0⟩]⟩,
  -- TWR_WIN_PEND (R127)
  ⟨0x5040, [], 32,
    [⟨15, 0, .ro, 0⟩]⟩,
  -- TWR_CRED_AVAIL (R127)
  ⟨0x5048, [], 32,
    [⟨15, 0, .rw, 0⟩]⟩,
  -- TWR_CRED_BASE (R127)
  ⟨0x5050, [], 32,
    [⟨27, 8, .rws, 0⟩]⟩,
  -- TWR_CRED_LIMIT (R127)
  ⟨0x5058, [], 32,
    [⟨27, 8, .rws, 0⟩]⟩,
  -- TWR_CRED_REFUSED (R127)
  ⟨0x5060, [], 32,
    [⟨31, 0, .rw, 0⟩]⟩,
  -- TWR_CRED_BALx (R127)
  ⟨0x5080, [(8, 16)], 32,
    [⟨27, 0, .ro, 0⟩]⟩,
  -- TWR_WINn_BASE (R127)
  ⟨0x5100, [(32, 64)], 32,
    [⟨27, 8, .rws, 0⟩]⟩,
  -- TWR_WINn_LIMIT (R127)
  ⟨0x5108, [(32, 64)], 32,
    [⟨27, 8, .rws, 0⟩]⟩,
  -- TWR_WINn_CTL (R127)
  ⟨0x5110, [(32, 64)], 32,
    [⟨31, 31, .rws, 0⟩, ⟨14, 0, .rws, 0⟩]⟩,
  -- TWR_WINn_GEN (R127)
  ⟨0x5118, [(32, 64)], 32,
    [⟨15, 0, .ro, 1⟩]⟩]

/-- The register map of TWR, part 3. -/
def twrRows3 : List RegRow := [
  -- TWR_SEX_CTL (R163)
  ⟨0x6000, [], 32,
    [⟨7, 0, .rw, 2⟩]⟩,
  -- TWR_SEX_STATUS (R163)
  ⟨0x6008, [], 32,
    [⟨7, 7, .ro, 0⟩, ⟨6, 4, .ro, 0⟩, ⟨3, 3, .ro, 0⟩, ⟨2, 0, .ro, 0⟩]⟩,
  -- TWR_A_EVEC (R163)
  ⟨0x6010, [], 32,
    [⟨15, 2, .rw, 0⟩]⟩,
  -- TWR_X_EVEC (R163)
  ⟨0x6018, [], 32,
    [⟨15, 2, .rw, 0⟩]⟩,
  -- TWR_A_EPC (R163)
  ⟨0x6020, [], 32,
    [⟨16, 16, .ro, 0⟩, ⟨15, 2, .ro, 0⟩]⟩,
  -- TWR_X_EPC (R163)
  ⟨0x6028, [], 32,
    [⟨16, 16, .ro, 0⟩, ⟨15, 2, .ro, 0⟩]⟩,
  -- TWR_TILE_Q (R163)
  ⟨0x6040, [], 64,
    [⟨3, 0, .ro, 15⟩, ⟨7, 4, .ro, 15⟩, ⟨11, 8, .ro, 15⟩, ⟨15, 12, .ro, 15⟩, ⟨19, 16, .ro, 15⟩, ⟨23, 20, .ro, 15⟩, ⟨27, 24, .ro, 15⟩, ⟨31, 28, .ro, 15⟩, ⟨35, 32, .ro, 15⟩, ⟨39, 36, .ro, 15⟩, ⟨43, 40, .ro, 15⟩, ⟨47, 44, .ro, 15⟩, ⟨51, 48, .ro, 15⟩, ⟨55, 52, .ro, 15⟩, ⟨59, 56, .ro, 15⟩, ⟨63, 60, .ro, 15⟩]⟩,
  -- TWR_TILE_TAG (R163)
  ⟨0x6048, [], 64,
    [⟨3, 0, .ro, 10⟩, ⟨7, 4, .ro, 10⟩, ⟨11, 8, .ro, 10⟩, ⟨15, 12, .ro, 10⟩, ⟨19, 16, .ro, 10⟩, ⟨23, 20, .ro, 10⟩, ⟨27, 24, .ro, 10⟩, ⟨31, 28, .ro, 10⟩, ⟨35, 32, .ro, 10⟩, ⟨39, 36, .ro, 10⟩, ⟨43, 40, .ro, 10⟩, ⟨47, 44, .ro, 10⟩, ⟨51, 48, .ro, 10⟩, ⟨55, 52, .ro, 10⟩, ⟨59, 56, .ro, 10⟩, ⟨63, 60, .ro, 10⟩]⟩,
  -- TWR_TILE_STATE (R163)
  ⟨0x6050, [], 32,
    [⟨1, 0, .ro, 0⟩, ⟨3, 2, .ro, 0⟩, ⟨5, 4, .ro, 0⟩, ⟨7, 6, .ro, 0⟩, ⟨9, 8, .ro, 0⟩, ⟨11, 10, .ro, 0⟩, ⟨13, 12, .ro, 0⟩, ⟨15, 14, .ro, 0⟩, ⟨17, 16, .ro, 0⟩, ⟨19, 18, .ro, 0⟩, ⟨21, 20, .ro, 0⟩, ⟨23, 22, .ro, 0⟩, ⟨25, 24, .ro, 0⟩, ⟨27, 26, .ro, 0⟩, ⟨29, 28, .ro, 0⟩, ⟨31, 30, .ro, 0⟩]⟩,
  -- TWR_Q_COUNT (R163)
  ⟨0x6058, [], 64,
    [⟨34, 32, .ro, 0⟩, ⟨31, 28, .ro, 0⟩, ⟨27, 24, .ro, 0⟩, ⟨23, 20, .ro, 0⟩, ⟨19, 16, .ro, 0⟩, ⟨13, 8, .ro, 0⟩, ⟨5, 0, .ro, 0⟩]⟩,
  -- TWR_CKPT (R163)
  ⟨0x6060, [], 32,
    [⟨23, 16, .ro, 0⟩, ⟨15, 8, .ro, 0⟩, ⟨2, 0, .ro, 0⟩]⟩,
  -- TWR_IM_STATE (R163)
  ⟨0x6068, [], 32,
    [⟨7, 7, .ro, 0⟩, ⟨6, 6, .ro, 0⟩, ⟨5, 5, .ro, 0⟩, ⟨4, 4, .ro, 0⟩, ⟨3, 3, .ro, 0⟩, ⟨2, 2, .ro, 0⟩, ⟨1, 1, .ro, 0⟩, ⟨0, 0, .ro, 0⟩]⟩,
  -- TWR_IM_REFUSED (R163)
  ⟨0x6070, [], 32,
    [⟨31, 0, .rw, 0⟩]⟩,
  -- TWR_DBG_CTL (R203)
  ⟨0x7000, [], 32,
    [⟨31, 24, .rw, 0⟩, ⟨23, 16, .rw, 0⟩, ⟨3, 3, .rw, 0⟩, ⟨2, 2, .rw, 0⟩, ⟨1, 1, .rw, 0⟩, ⟨0, 0, .rw, 0⟩]⟩,
  -- TWR_A_ICOUNT (R203)
  ⟨0x7008, [], 64,
    [⟨63, 0, .ro, 0⟩]⟩,
  -- TWR_X_ICOUNT (R203)
  ⟨0x7010, [], 64,
    [⟨63, 0, .ro, 0⟩]⟩]

/-- The register map of TWR, part 4. -/
def twrRows4 : List RegRow := [
  -- TWR_A_IBRK (R203)
  ⟨0x7018, [], 64,
    [⟨63, 0, .rw, 0⟩]⟩,
  -- TWR_X_IBRK (R203)
  ⟨0x7020, [], 64,
    [⟨63, 0, .rw, 0⟩]⟩,
  -- TWR_DBG_STATUS (R203)
  ⟨0x7028, [], 32,
    [⟨31, 31, .w1c, 0⟩, ⟨30, 30, .ro, 0⟩, ⟨29, 27, .ro, 0⟩, ⟨23, 16, .ro, 0⟩, ⟨15, 2, .ro, 0⟩]⟩,
  -- TWR_ARR_STEPS (R228)
  ⟨0x4800, [], 64,
    [⟨63, 0, .rw, 0⟩]⟩,
  -- TWR_ARR_XCLK (R228)
  ⟨0x4808, [], 64,
    [⟨63, 0, .rw, 0⟩]⟩,
  -- TWR_ARR_SKIP (R228)
  ⟨0x4810, [], 32,
    [⟨31, 0, .rw, 0⟩]⟩,
  -- TWR_ARR_BANKS (R228)
  ⟨0x4818, [], 32,
    [⟨11, 8, .ro, 0⟩, ⟨7, 4, .ro, 0⟩, ⟨3, 0, .ro, 0⟩]⟩,
  -- TWR_EP_BUILD_SRC (R228)
  ⟨0x4820, [], 32,
    [⟨24, 8, .rw, 0⟩]⟩,
  -- TWR_EP_BUILD (R228)
  ⟨0x4828, [], 32,
    [⟨11, 11, .wo, 0⟩, ⟨7, 4, .wo, 0⟩, ⟨3, 0, .wo, 0⟩]⟩,
  -- TWR_EP_STATUS (R228)
  ⟨0x4830, [], 32,
    [⟨31, 31, .w1c, 0⟩, ⟨30, 30, .w1c, 0⟩, ⟨27, 24, .ro, 0⟩, ⟨23, 16, .ro, 0⟩]⟩,
  -- TWR_EP_STALL (R228)
  ⟨0x4838, [], 32,
    [⟨31, 0, .rw, 0⟩]⟩,
  -- TWR_EPn_GEN (R228)
  ⟨0x4880, [(8, 16)], 32,
    [⟨17, 16, .ro, 0⟩, ⟨8, 8, .ro, 0⟩, ⟨7, 0, .ro, 0⟩]⟩,
  -- TWR_SEQk_HANDLE (R251)
  ⟨0x4A00, [(64, 4)], 32,
    [⟨31, 0, .rws, 0⟩]⟩,
  -- TWR_SEQk_NEST (R251)
  ⟨0x4A08, [(64, 4)], 64,
    [⟨39, 30, .rws, 0⟩, ⟨28, 26, .rws, 0⟩, ⟨25, 24, .rws, 0⟩, ⟨23, 18, .rws, 0⟩, ⟨17, 0, .rws, 181896⟩]⟩,
  -- TWR_SEQk_LEN (R251)
  ⟨0x4A10, [(64, 4)], 32,
    [⟨23, 0, .rw, 0⟩]⟩,
  -- TWR_SEQk_CTL (R251)
  ⟨0x4A18, [(64, 4)], 32,
    [⟨1, 1, .wo, 0⟩, ⟨0, 0, .wo, 0⟩]⟩]

/-- The register map of TWR, part 5. -/
def twrRows5 : List RegRow := [
  -- TWR_SEQk_STATUS (R251)
  ⟨0x4A20, [(64, 4)], 32,
    [⟨31, 31, .ro, 0⟩, ⟨30, 30, .ro, 0⟩, ⟨23, 0, .ro, 0⟩]⟩,
  -- TWR_SEQ_SKIP (R251)
  ⟨0x4B00, [], 32,
    [⟨31, 0, .rw, 0⟩]⟩,
  -- TWR_SEQ_DMISS (R251)
  ⟨0x4B08, [], 32,
    [⟨31, 0, .rw, 0⟩]⟩]

/-- The register map of TWR. -/
def twrRows : List RegRow := twrRows1 ++ twrRows2 ++ twrRows3 ++ twrRows4 ++ twrRows5

/-- The register map of SPR, part 1. -/
def sprRows1 : List RegRow := [
  -- SPR_ID (R28)
  ⟨0x0, [], 32,
    [⟨31, 16, .ro, 20018⟩, ⟨15, 8, .ro, 16⟩, ⟨1, 0, .ro, 0⟩]⟩,
  -- SPR_TWR_MAP_LO (R28)
  ⟨0x10, [], 64,
    [⟨4, 0, .ro, 0⟩, ⟨12, 8, .ro, 0⟩, ⟨20, 16, .ro, 0⟩, ⟨28, 24, .ro, 0⟩, ⟨36, 32, .ro, 0⟩, ⟨44, 40, .ro, 0⟩, ⟨52, 48, .ro, 0⟩, ⟨60, 56, .ro, 0⟩]⟩,
  -- SPR_TWR_MAP_HI (R28)
  ⟨0x18, [], 64,
    [⟨4, 0, .ro, 0⟩, ⟨12, 8, .ro, 0⟩, ⟨20, 16, .ro, 0⟩, ⟨28, 24, .ro, 0⟩, ⟨36, 32, .ro, 0⟩, ⟨44, 40, .ro, 0⟩, ⟨52, 48, .ro, 0⟩, ⟨60, 56, .ro, 0⟩]⟩,
  -- SPR_TWR_SPARE (R28)
  ⟨0x20, [], 32,
    [⟨4, 0, .ro, 0⟩]⟩,
  -- SPR_DECODE_ERR (R28)
  ⟨0x40, [], 64,
    [⟨63, 63, .w1c, 0⟩, ⟨62, 62, .w1c, 0⟩, ⟨61, 61, .ro, 0⟩, ⟨51, 36, .ro, 0⟩, ⟨35, 0, .ro, 0⟩]⟩,
  -- SPR_DESC_BASE (R100)
  ⟨0x80, [], 64,
    [⟨47, 20, .rw, 0⟩]⟩,
  -- SPR_DESC_LIVE (R100)
  ⟨0x88, [], 32,
    [⟨14, 0, .ro, 0⟩]⟩,
  -- SPR_COMMIT (R127)
  ⟨0xF8, [], 32,
    [⟨0, 0, .wo, 0⟩]⟩,
  -- SPR_GAL_CTL (R127)
  ⟨0x1000, [], 32,
    [⟨0, 0, .rws, 1⟩]⟩,
  -- SPR_GAL_SHARE (R127)
  ⟨0x1010, [], 32,
    [⟨23, 20, .rw, 1⟩, ⟨19, 16, .rw, 2⟩, ⟨15, 12, .rw, 2⟩, ⟨11, 8, .rw, 1⟩, ⟨7, 4, .rw, 4⟩, ⟨3, 0, .rw, 6⟩]⟩,
  -- SPR_GAL_CE (R127)
  ⟨0x1018, [], 32,
    [⟨31, 0, .rw, 0⟩]⟩,
  -- SPR_GAL_STALL (R127)
  ⟨0x1020, [], 32,
    [⟨31, 0, .rw, 0⟩]⟩,
  -- SPR_GAL_WIN_DROP (R127)
  ⟨0x1028, [], 32,
    [⟨31, 0, .rw, 0⟩]⟩,
  -- SPR_GAL_WIN_PEND (R127)
  ⟨0x1030, [], 32,
    [⟨15, 0, .ro, 0⟩]⟩,
  -- SPR_GAL_CRED_AVAIL (R127)
  ⟨0x1038, [], 32,
    [⟨15, 0, .rw, 0⟩]⟩,
  -- SPR_GAL_CRED_BASE (R127)
  ⟨0x1040, [], 32,
    [⟨27, 8, .rws, 0⟩]⟩]

/-- The register map of SPR, part 2. -/
def sprRows2 : List RegRow := [
  -- SPR_GAL_CRED_LIMIT (R127)
  ⟨0x1048, [], 32,
    [⟨27, 8, .rws, 0⟩]⟩,
  -- SPR_GAL_CRED_REFUSED (R127)
  ⟨0x1050, [], 32,
    [⟨31, 0, .rw, 0⟩]⟩,
  -- SPR_GAL_SPARE (R127)
  ⟨0x1060, [], 32,
    [⟨15, 8, .ro, 0⟩, ⟨7, 0, .ro, 0⟩]⟩,
  -- SPR_GAL_CRED_BALx (R127)
  ⟨0x1080, [(8, 16)], 32,
    [⟨27, 0, .ro, 0⟩]⟩,
  -- SPR_GAL_WINn_BASE (R127)
  ⟨0x2000, [(32, 256)], 32,
    [⟨27, 8, .rws, 0⟩]⟩,
  -- SPR_GAL_WINn_LIMIT (R127)
  ⟨0x2008, [(32, 256)], 32,
    [⟨27, 8, .rws, 0⟩]⟩,
  -- SPR_GAL_WINn_CTL (R127)
  ⟨0x2010, [(32, 256)], 32,
    [⟨31, 31, .rws, 0⟩, ⟨14, 0, .rws, 0⟩]⟩,
  -- SPR_GAL_WINn_GEN (R127)
  ⟨0x2018, [(32, 256)], 32,
    [⟨15, 0, .ro, 1⟩]⟩,
  -- SPR_PSET_BASE (R285)
  ⟨0x4000, [], 64,
    [⟨47, 25, .rw, 0⟩]⟩,
  -- SPR_SEAL_POISON (R285)
  ⟨0x4008, [], 32,
    [⟨31, 0, .rw, 0⟩]⟩,
  -- SPR_SEAL_LEVEL (R285)
  ⟨0x4010, [], 32,
    [⟨31, 0, .rw, 0⟩]⟩,
  -- SPR_SEAL_AUTO (R285)
  ⟨0x4018, [], 32,
    [⟨31, 0, .rw, 0⟩]⟩,
  -- SPR_PSET_STALL (R285)
  ⟨0x4020, [], 32,
    [⟨31, 0, .rw, 0⟩]⟩,
  -- SPR_ANNEAL_RESTART (R285)
  ⟨0x4028, [], 32,
    [⟨31, 0, .rw, 0⟩]⟩,
  -- SPR_PSETn_STATE (R285)
  ⟨0x4100, [(8, 32)], 32,
    [⟨17, 16, .ro, 0⟩, ⟨8, 8, .ro, 0⟩, ⟨7, 0, .ro, 0⟩]⟩,
  -- SPR_SEAL_BANKS (R308)
  ⟨0x4200, [], 64,
    [⟨63, 0, .rws, 18446744069414584320⟩]⟩]

/-- The register map of SPR, part 3. -/
def sprRows3 : List RegRow := [
  -- SPR_RINGr_BASE (R340)
  ⟨0x5000, [(64, 16)], 64,
    [⟨47, 12, .rws, 0⟩]⟩,
  -- SPR_RINGr_CFG (R340)
  ⟨0x5008, [(64, 16)], 32,
    [⟨31, 31, .rws, 0⟩, ⟨30, 30, .rws, 0⟩, ⟨27, 24, .rws, 0⟩, ⟨21, 20, .rws, 0⟩, ⟨19, 16, .rws, 0⟩, ⟨3, 0, .rws, 0⟩]⟩,
  -- SPR_RINGr_TAIL_LINE (R340)
  ⟨0x5010, [(64, 16)], 64,
    [⟨47, 6, .rws, 0⟩]⟩,
  -- SPR_RINGr_HEAD_LINE (R340)
  ⟨0x5018, [(64, 16)], 64,
    [⟨47, 6, .rws, 0⟩]⟩,
  -- SPR_RINGr_COMP_BASE (R340)
  ⟨0x5020, [(64, 16)], 64,
    [⟨47, 12, .rws, 0⟩]⟩,
  -- SPR_RINGr_STATUS (R340)
  ⟨0x5028, [(64, 16)], 64,
    [⟨63, 32, .ro, 0⟩, ⟨13, 8, .ro, 0⟩, ⟨2, 2, .ro, 1⟩, ⟨1, 1, .ro, 0⟩, ⟨0, 0, .ro, 0⟩]⟩,
  -- SPR_RINGr_CTL (R340)
  ⟨0x5030, [(64, 16)], 32,
    [⟨0, 0, .wo, 0⟩]⟩,
  -- SPR_CMD_BRK_CTL (R340)
  ⟨0x5400, [], 32,
    [⟨31, 16, .rw, 0⟩, ⟨11, 8, .rw, 0⟩, ⟨1, 1, .rw, 0⟩, ⟨0, 0, .rw, 0⟩]⟩,
  -- SPR_CMD_BRK_TAG (R340)
  ⟨0x5408, [], 32,
    [⟨31, 16, .rw, 0⟩, ⟨15, 0, .rw, 0⟩]⟩,
  -- SPR_CMD_BRK_COUNT (R340)
  ⟨0x5410, [], 32,
    [⟨31, 0, .rw, 0⟩]⟩,
  -- SPR_CMD_BRK_STATUS (R340)
  ⟨0x5418, [], 64,
    [⟨63, 63, .w1c, 0⟩, ⟨62, 62, .ro, 0⟩, ⟨53, 48, .ro, 0⟩, ⟨47, 32, .ro, 0⟩, ⟨31, 0, .ro, 0⟩]⟩,
  -- SPR_WCB_CTL (R382)
  ⟨0x6000, [], 32,
    [⟨15, 0, .rw, 2000⟩]⟩,
  -- SPR_WCB_LINES (R382)
  ⟨0x6008, [], 32,
    [⟨15, 0, .ro, 0⟩]⟩,
  -- SPR_WCB_EVICT (R382)
  ⟨0x6010, [], 32,
    [⟨31, 0, .rw, 0⟩]⟩]

/-- The register map of SPR. -/
def sprRows : List RegRow := sprRows1 ++ sprRows2 ++ sprRows3

/-- The register map of SEM, part 1. -/
def semRows1 : List RegRow := [
  -- SEM_COUNTn (R340)
  ⟨0x0, [(64, 4096)], 32,
    [⟨15, 0, .rw, 0⟩]⟩,
  -- SEM_POSTn (R340)
  ⟨0x8, [(64, 4096)], 32,
    [⟨15, 0, .wo, 0⟩]⟩,
  -- SEM_CFGn (R340)
  ⟨0x10, [(64, 4096)], 32,
    [⟨31, 16, .rw, 65535⟩, ⟨7, 0, .rw, 2⟩]⟩,
  -- SEM_LASTn (R340)
  ⟨0x18, [(64, 4096)], 64,
    [⟨63, 16, .ro, 0⟩, ⟨15, 0, .ro, 65535⟩]⟩,
  -- SEM_WAITn (R340)
  ⟨0x20, [(64, 4096)], 32,
    [⟨26, 16, .ro, 0⟩, ⟨15, 0, .ro, 65535⟩]⟩,
  -- SEM_SNAP_BASE (R340)
  ⟨0x40000, [], 64,
    [⟨47, 5, .rw, 0⟩]⟩,
  -- SEM_SNAP_STATUS (R340)
  ⟨0x40008, [], 32,
    [⟨31, 31, .w1c, 0⟩, ⟨30, 30, .w1c, 0⟩, ⟨10, 0, .ro, 0⟩]⟩,
  -- SEM_TIMEOUT_CNT (R340)
  ⟨0x40010, [], 32,
    [⟨31, 0, .rw, 0⟩]⟩,
  -- SEM_OVF_CNT (R340)
  ⟨0x40018, [], 32,
    [⟨31, 0, .rw, 0⟩]⟩,
  -- SEM_WIN_DROP (R340)
  ⟨0x40020, [], 32,
    [⟨31, 0, .rw, 0⟩]⟩,
  -- SEM_WINw_RANGE (R340)
  ⟨0x40100, [(16, 16)], 32,
    [⟨27, 16, .rws, 0⟩, ⟨11, 0, .rws, 0⟩]⟩,
  -- SEM_WINw_CTL (R340)
  ⟨0x40108, [(16, 16)], 32,
    [⟨31, 31, .rws, 0⟩, ⟨12, 0, .rws, 0⟩]⟩,
  -- SEM_COMMIT (R337)
  ⟨0xFFFF8, [], 32,
    [⟨0, 0, .wo, 0⟩]⟩]

/-- The register map of SEM. -/
def semRows : List RegRow := semRows1

/-- The register map of BEL, part 1. -/
def belRows1 : List RegRow := [
  -- BEL_CTL (R365)
  ⟨0x0, [], 32,
    [⟨2, 2, .rw, 0⟩, ⟨1, 1, .rws, 0⟩, ⟨0, 0, .rw, 0⟩]⟩,
  -- BEL_PERIOD (R365)
  ⟨0x8, [], 32,
    [⟨20, 0, .rws, 100000⟩]⟩,
  -- BEL_GEN (R365)
  ⟨0x10, [], 32,
    [⟨31, 31, .rws, 0⟩, ⟨27, 16, .rws, 200⟩, ⟨15, 8, .rws, 0⟩, ⟨4, 2, .rws, 0⟩, ⟨1, 0, .rws, 0⟩]⟩,
  -- BEL_NUM (R365)
  ⟨0x18, [], 64,
    [⟨63, 0, .ro, 0⟩]⟩,
  -- BEL_STATUS (R365)
  ⟨0x20, [], 32,
    [⟨31, 31, .w1c, 0⟩, ⟨30, 30, .w1c, 0⟩, ⟨29, 29, .w1c, 0⟩, ⟨28, 28, .ro, 0⟩, ⟨27, 24, .ro, 0⟩, ⟨0, 0, .ro, 0⟩]⟩,
  -- BEL_JOIN (R365)
  ⟨0x28, [], 32,
    [⟨0, 0, .wo, 0⟩]⟩,
  -- BEL_SKEW (R365)
  ⟨0x30, [], 32,
    [⟨31, 0, .ro, 0⟩]⟩,
  -- BEL_SLACK (R365)
  ⟨0x38, [], 32,
    [⟨31, 0, .ro, 2147483647⟩]⟩,
  -- BEL_MISS_CNT (R365)
  ⟨0x40, [], 32,
    [⟨31, 0, .rw, 0⟩]⟩,
  -- BEL_LATE_CNT (R365)
  ⟨0x48, [], 32,
    [⟨31, 0, .rw, 0⟩]⟩,
  -- BEL_SKIP_CNT (R365)
  ⟨0x50, [], 32,
    [⟨31, 0, .rw, 0⟩]⟩,
  -- BEL_ABANDON_CNT (R365)
  ⟨0x58, [], 32,
    [⟨31, 0, .rw, 0⟩]⟩,
  -- BEL_COMMIT (R337)
  ⟨0xFFFF8, [], 32,
    [⟨0, 0, .wo, 0⟩]⟩]

/-- The register map of BEL. -/
def belRows : List RegRow := belRows1

/-- The register map of SDE, part 1. -/
def sdeRows1 : List RegRow := [
  -- SDE_CLASS_SHARE (R251)
  ⟨0x800, [], 32,
    [⟨7, 4, .rw, 1⟩, ⟨3, 0, .rw, 1⟩]⟩,
  -- SDE_SPEC_PEND (R251)
  ⟨0x808, [], 64,
    [⟨63, 0, .ro, 0⟩]⟩,
  -- SDE_SPEC_DROP (R251)
  ⟨0x810, [], 64,
    [⟨63, 0, .rw, 0⟩]⟩,
  -- SDE_SEQ_SKIP (R251)
  ⟨0x818, [], 32,
    [⟨31, 0, .rw, 0⟩]⟩,
  -- SDE_SMALL_SEG (R251)
  ⟨0x820, [], 32,
    [⟨31, 0, .rw, 0⟩]⟩,
  -- SDE_DCACHE_MISS (R251)
  ⟨0x828, [], 32,
    [⟨31, 0, .rw, 0⟩]⟩,
  -- SDE_COMMIT (R337)
  ⟨0xFFFF8, [], 32,
    [⟨0, 0, .wo, 0⟩]⟩]

/-- The register map of SDE. -/
def sdeRows : List RegRow := sdeRows1

/-- The register map of BLP, part 1. -/
def blpRows1 : List RegRow := [
  -- BLP_MAP_LO (R307)
  ⟨0x0, [], 64,
    [⟨4, 0, .rws, 0⟩, ⟨9, 5, .rws, 0⟩, ⟨14, 10, .rws, 0⟩, ⟨19, 15, .rws, 0⟩, ⟨24, 20, .rws, 0⟩, ⟨29, 25, .rws, 0⟩, ⟨34, 30, .rws, 0⟩, ⟨39, 35, .rws, 0⟩, ⟨44, 40, .rws, 0⟩, ⟨49, 45, .rws, 0⟩, ⟨54, 50, .rws, 0⟩, ⟨59, 55, .rws, 0⟩]⟩,
  -- BLP_MAP_HI (R307)
  ⟨0x8, [], 64,
    [⟨4, 0, .rws, 0⟩, ⟨9, 5, .rws, 0⟩, ⟨14, 10, .rws, 0⟩, ⟨19, 15, .rws, 0⟩]⟩,
  -- BLP_MISMATCH (R307)
  ⟨0x10, [], 32,
    [⟨31, 0, .rw, 0⟩]⟩,
  -- BLP_DIGEST_FAIL (R307)
  ⟨0x18, [], 32,
    [⟨31, 0, .rw, 0⟩]⟩,
  -- BLP_REJECT (R307)
  ⟨0x20, [], 64,
    [⟨63, 0, .rw, 0⟩]⟩,
  -- BLP_STALL (R307)
  ⟨0x28, [], 64,
    [⟨63, 0, .rw, 0⟩]⟩,
  -- BLP_COMMIT (R337)
  ⟨0xFFFF8, [], 32,
    [⟨0, 0, .wo, 0⟩]⟩]

/-- The register map of BLP. -/
def blpRows : List RegRow := blpRows1

/-- The register map of HBM, part 1. -/
def hbmRows1 : List RegRow := [
  -- HBM_CTL (R382)
  ⟨0x0, [], 32,
    [⟨15, 8, .rw, 64⟩, ⟨0, 0, .rw, 1⟩]⟩,
  -- HBM_STATUS (R382)
  ⟨0x8, [], 32,
    [⟨23, 16, .ro, 0⟩, ⟨15, 8, .ro, 0⟩, ⟨2, 2, .ro, 0⟩, ⟨1, 1, .ro, 0⟩, ⟨0, 0, .ro, 0⟩]⟩,
  -- HBM_CE_CNT (R382)
  ⟨0x10, [], 32,
    [⟨31, 0, .rw, 0⟩]⟩,
  -- HBM_UE_CNT (R382)
  ⟨0x18, [], 32,
    [⟨31, 0, .rw, 0⟩]⟩,
  -- HBM_RMW_CNT (R382)
  ⟨0x20, [], 32,
    [⟨31, 0, .rw, 0⟩]⟩,
  -- HBM_UE_LOG (R382)
  ⟨0x28, [], 64,
    [⟨63, 63, .w1c, 0⟩, ⟨62, 62, .w1c, 0⟩, ⟨61, 60, .ro, 0⟩, ⟨59, 55, .ro, 0⟩, ⟨54, 49, .ro, 0⟩, ⟨48, 35, .ro, 0⟩, ⟨34, 30, .ro, 0⟩, ⟨29, 29, .ro, 0⟩]⟩,
  -- HBM_PIN_SUSPECT (R382)
  ⟨0x30, [], 64,
    [⟨63, 63, .w1c, 0⟩, ⟨62, 62, .w1c, 0⟩, ⟨31, 24, .ro, 0⟩, ⟨14, 8, .ro, 0⟩, ⟨4, 0, .ro, 0⟩]⟩,
  -- HBM_PATROL (R382)
  ⟨0x38, [], 32,
    [⟨16, 0, .rw, 70000⟩]⟩,
  -- HBM_PATROL_POS (R382)
  ⟨0x40, [], 32,
    [⟨31, 20, .ro, 0⟩, ⟨19, 0, .ro, 0⟩]⟩,
  -- HBM_BAND_LO (R382)
  ⟨0x8000, [], 64,
    [⟨1, 0, .rws, 0⟩, ⟨3, 2, .rws, 0⟩, ⟨5, 4, .rws, 0⟩, ⟨7, 6, .rws, 0⟩, ⟨9, 8, .rws, 0⟩, ⟨11, 10, .rws, 0⟩, ⟨13, 12, .rws, 0⟩, ⟨15, 14, .rws, 0⟩, ⟨17, 16, .rws, 0⟩, ⟨19, 18, .rws, 0⟩, ⟨21, 20, .rws, 0⟩, ⟨23, 22, .rws, 0⟩, ⟨25, 24, .rws, 0⟩, ⟨27, 26, .rws, 0⟩, ⟨29, 28, .rws, 0⟩, ⟨31, 30, .rws, 0⟩, ⟨33, 32, .rws, 0⟩, ⟨35, 34, .rws, 0⟩, ⟨37, 36, .rws, 0⟩, ⟨39, 38, .rws, 0⟩, ⟨41, 40, .rws, 0⟩, ⟨43, 42, .rws, 0⟩, ⟨45, 44, .rws, 0⟩, ⟨47, 46, .rws, 0⟩, ⟨49, 48, .rws, 0⟩, ⟨51, 50, .rws, 0⟩, ⟨53, 52, .rws, 0⟩, ⟨55, 54, .rws, 0⟩, ⟨57, 56, .rws, 0⟩, ⟨59, 58, .rws, 0⟩, ⟨61, 60, .rws, 0⟩, ⟨63, 62, .rws, 0⟩]⟩,
  -- HBM_BAND_HI (R382)
  ⟨0x8008, [], 64,
    [⟨1, 0, .rws, 0⟩, ⟨3, 2, .rws, 0⟩, ⟨5, 4, .rws, 0⟩, ⟨7, 6, .rws, 0⟩]⟩,
  -- HBM_COMMIT (R382)
  ⟨0xFFF8, [], 32,
    [⟨0, 0, .wo, 0⟩]⟩]

/-- The register map of HBM. -/
def hbmRows : List RegRow := hbmRows1

/-- The register map of BUT, part 1. -/
def butRows1 : List RegRow := [
  -- BUT_STATUS (R418)
  ⟨0x0, [], 32,
    [⟨7, 2, .ro, 0⟩, ⟨1, 1, .ro, 0⟩, ⟨0, 0, .ro, 0⟩]⟩,
  -- BUT_NODE (R418)
  ⟨0x8, [], 32,
    [⟨13, 0, .rws, 0⟩]⟩,
  -- BUT_PEER (R418)
  ⟨0x10, [], 32,
    [⟨13, 0, .ro, 0⟩]⟩,
  -- BUT_DELAY (R418)
  ⟨0x18, [], 32,
    [⟨31, 0, .ro, 0⟩]⟩,
  -- BUT_LANE_MAP (R418)
  ⟨0x20, [], 32,
    [⟨15, 8, .ro, 255⟩, ⟨7, 0, .ro, 255⟩]⟩,
  -- BUT_REPLAY_CNT (R418)
  ⟨0x28, [], 32,
    [⟨31, 0, .rw, 0⟩]⟩,
  -- BUT_POLICY_DROP (R418)
  ⟨0x30, [], 32,
    [⟨31, 0, .rw, 0⟩]⟩,
  -- BUT_COLL_TIMEOUT (R418)
  ⟨0x38, [], 32,
    [⟨31, 0, .rw, 100000⟩]⟩,
  -- BUT_ROUTEi (R418)
  ⟨0x1000, [(8, 1024)], 64,
    [⟨3, 0, .rws, 15⟩, ⟨7, 4, .rws, 15⟩, ⟨11, 8, .rws, 15⟩, ⟨15, 12, .rws, 15⟩, ⟨19, 16, .rws, 15⟩, ⟨23, 20, .rws, 15⟩, ⟨27, 24, .rws, 15⟩, ⟨31, 28, .rws, 15⟩, ⟨35, 32, .rws, 15⟩, ⟨39, 36, .rws, 15⟩, ⟨43, 40, .rws, 15⟩, ⟨47, 44, .rws, 15⟩, ⟨51, 48, .rws, 15⟩, ⟨55, 52, .rws, 15⟩, ⟨59, 56, .rws, 15⟩, ⟨63, 60, .rws, 15⟩]⟩,
  -- BUT_COMMIT (R418)
  ⟨0xFFF8, [], 32,
    [⟨0, 0, .wo, 0⟩]⟩]

/-- The register map of BUT. -/
def butRows : List RegRow := butRows1

/-- The register map of CAR, part 1. -/
def carRows1 : List RegRow := [
  -- CAR_SRCn_CFG (R394)
  ⟨0x0, [(8, 1024)], 32,
    [⟨7, 7, .rws, 0⟩, ⟨5, 4, .rws, 0⟩, ⟨3, 0, .rws, 0⟩]⟩,
  -- CAR_PEND_SETw (R394)
  ⟨0x2000, [(8, 16)], 64,
    [⟨63, 0, .w1s, 0⟩]⟩,
  -- CAR_PEND_CLRw (R394)
  ⟨0x2080, [(8, 16)], 64,
    [⟨63, 0, .w1c, 0⟩]⟩,
  -- CAR_ACTIVEw (R394)
  ⟨0x2100, [(8, 16)], 64,
    [⟨63, 0, .ro, 0⟩]⟩,
  -- CAR_HOLDg (R394)
  ⟨0x2200, [(8, 64)], 32,
    [⟨15, 0, .rws, 0⟩]⟩,
  -- CAR_Tt_CLAIM (R394)
  ⟨0x3000, [(64, 3)], 32,
    [⟨31, 31, .ro, 1⟩, ⟨19, 16, .ro, 0⟩, ⟨9, 0, .ro, 0⟩]⟩,
  -- CAR_Tt_COMPLETE (R394)
  ⟨0x3008, [(64, 3)], 32,
    [⟨9, 0, .wo, 0⟩]⟩,
  -- CAR_Tt_THRESH (R394)
  ⟨0x3010, [(64, 3)], 32,
    [⟨3, 0, .rw, 0⟩]⟩,
  -- CAR_Tt_STACK (R394)
  ⟨0x3018, [(64, 3)], 32,
    [⟨20, 16, .ro, 0⟩, ⟨15, 12, .ro, 0⟩, ⟨9, 0, .ro, 0⟩]⟩,
  -- CAR_MSG_ADDR (R394)
  ⟨0x3100, [], 64,
    [⟨47, 2, .rws, 0⟩]⟩,
  -- CAR_MSG_DATA (R394)
  ⟨0x3108, [], 32,
    [⟨31, 4, .rws, 0⟩]⟩,
  -- CAR_MSG_STATUS (R394)
  ⟨0x3110, [], 32,
    [⟨0, 0, .ro, 0⟩]⟩,
  -- CAR_FAULTi (R394)
  ⟨0x3200, [(8, 4)], 64,
    [⟨63, 0, .ro, 0⟩]⟩,
  -- CAR_FAULT_STATUS (R394)
  ⟨0x3220, [], 32,
    [⟨31, 31, .w1c, 0⟩]⟩,
  -- CAR_FAULT_CNT (R394)
  ⟨0x3228, [], 32,
    [⟨31, 0, .rw, 0⟩]⟩,
  -- CAR_COMMIT (R394)
  ⟨0xFFFF8, [], 32,
    [⟨0, 0, .wo, 0⟩]⟩]

/-- The register map of CAR. -/
def carRows : List RegRow := carRows1

/-- The register map of ALX, part 1. -/
def alxRows1 : List RegRow := [
  -- ALX_CTL (R418)
  ⟨0x0, [], 32,
    [⟨0, 0, .rw, 0⟩]⟩,
  -- ALX_STATUS (R418)
  ⟨0x8, [], 32,
    [⟨7, 6, .ro, 0⟩, ⟨5, 5, .ro, 0⟩, ⟨0, 0, .ro, 0⟩]⟩,
  -- ALX_AP_CTL_BASE (R418)
  ⟨0x10, [], 64,
    [⟨51, 36, .rwl, 0⟩]⟩,
  -- ALX_AP_DATA_BASE (R418)
  ⟨0x18, [], 64,
    [⟨51, 36, .rwl, 0⟩]⟩,
  -- ALX_CRYPT_CTL (R418)
  ⟨0x20, [], 32,
    [⟨31, 31, .rws, 0⟩, ⟨30, 0, .rws, 0⟩]⟩,
  -- ALX_REPLAY_CNT (R418)
  ⟨0x28, [], 32,
    [⟨31, 0, .rw, 0⟩]⟩,
  -- ALX_AUTH_FAIL (R418)
  ⟨0x30, [], 32,
    [⟨31, 0, .rw, 0⟩]⟩,
  -- ALX_WR_DROP (R418)
  ⟨0x38, [], 32,
    [⟨31, 0, .rw, 0⟩]⟩,
  -- ALX_LINK_LOG (R418)
  ⟨0x40, [], 64,
    [⟨63, 63, .w1c, 0⟩, ⟨62, 62, .w1c, 0⟩, ⟨7, 0, .ro, 0⟩]⟩,
  -- ALX_LOCK (R418)
  ⟨0x48, [], 32,
    [⟨0, 0, .w1s, 0⟩]⟩,
  -- ALX_LOCK_VIOL (R418)
  ⟨0x50, [], 32,
    [⟨31, 0, .rw, 0⟩]⟩,
  -- ALX_HBMWINw_BASE (R418)
  ⟨0x100, [(16, 8)], 64,
    [⟨40, 12, .rws, 0⟩]⟩,
  -- ALX_HBMWINw_LIMIT (R418)
  ⟨0x108, [(16, 8)], 64,
    [⟨63, 63, .rws, 0⟩, ⟨40, 12, .rws, 0⟩]⟩,
  -- ALX_COMMIT (R418)
  ⟨0xFFFF8, [], 32,
    [⟨0, 0, .wo, 0⟩]⟩,
  -- ALX_KEY0_j (R443)
  ⟨0x200, [(8, 4)], 64,
    [⟨63, 0, .wo, 0⟩]⟩,
  -- ALX_KEY1_j (R443)
  ⟨0x220, [(8, 4)], 64,
    [⟨63, 0, .wo, 0⟩]⟩]

/-- The register map of ALX. -/
def alxRows : List RegRow := alxRows1

/-- The register map of PWR, part 1. -/
def pwrRows1 : List RegRow := [
  -- PWR_STATUS (R462)
  ⟨0x0, [], 64,
    [⟨47, 40, .ro, 0⟩, ⟨39, 32, .ro, 0⟩, ⟨3, 0, .ro, 0⟩]⟩,
  -- PWR_POWER (R462)
  ⟨0x8, [], 32,
    [⟨31, 16, .ro, 0⟩, ⟨15, 0, .ro, 0⟩]⟩,
  -- PWR_IDLE_CTL (R462)
  ⟨0x10, [], 32,
    [⟨6, 6, .rws, 1⟩, ⟨5, 5, .rws, 0⟩, ⟨4, 4, .rws, 0⟩, ⟨1, 0, .rws, 2⟩]⟩,
  -- PWR_OPPs (R462)
  ⟨0x18, [(8, 4)], 32,
    [⟨23, 16, .ro, 24⟩, ⟨9, 8, .ro, 0⟩, ⟨1, 0, .rws, 0⟩]⟩,
  -- PWR_CTL (R462)
  ⟨0x40, [], 32,
    [⟨7, 0, .rw, 32⟩]⟩,
  -- PWR_WEARs_j (R462)
  ⟨0x100, [(32, 4), (8, 3)], 64,
    [⟨7, 0, .ro, 255⟩, ⟨15, 8, .ro, 255⟩, ⟨23, 16, .ro, 255⟩, ⟨31, 24, .ro, 255⟩, ⟨39, 32, .ro, 255⟩, ⟨47, 40, .ro, 255⟩, ⟨55, 48, .ro, 255⟩, ⟨63, 56, .ro, 255⟩]⟩,
  -- PWR_COMMIT (R462)
  ⟨0xFFFF8, [], 32,
    [⟨0, 0, .wo, 0⟩]⟩]

/-- The register map of PWR. -/
def pwrRows : List RegRow := pwrRows1

/-- The register map of KEYCTL, part 1. -/
def keyCtlRows1 : List RegRow := [
  -- KEY_BOOT_STATUS (R443)
  ⟨0x100, [], 32,
    [⟨31, 30, .ro, 0⟩, ⟨29, 29, .ro, 0⟩, ⟨23, 16, .ro, 0⟩, ⟨15, 8, .ro, 0⟩, ⟨7, 0, .ro, 0⟩]⟩,
  -- KEY_KS_STATE (R443)
  ⟨0x108, [], 64,
    [⟨3, 0, .ro, 0⟩, ⟨7, 4, .ro, 0⟩, ⟨11, 8, .ro, 0⟩, ⟨15, 12, .ro, 0⟩, ⟨19, 16, .ro, 0⟩, ⟨23, 20, .ro, 0⟩, ⟨27, 24, .ro, 0⟩, ⟨31, 28, .ro, 0⟩, ⟨35, 32, .ro, 0⟩, ⟨39, 36, .ro, 0⟩, ⟨43, 40, .ro, 0⟩, ⟨47, 44, .ro, 0⟩, ⟨51, 48, .ro, 0⟩, ⟨55, 52, .ro, 0⟩, ⟨59, 56, .ro, 0⟩, ⟨63, 60, .ro, 0⟩]⟩,
  -- KEY_ID_PUBi (R443)
  ⟨0x180, [(8, 8)], 64,
    [⟨63, 0, .ro, 0⟩]⟩,
  -- KEY_MEASm_i (R443)
  ⟨0x200, [(64, 8), (8, 8)], 64,
    [⟨63, 0, .ro, 0⟩]⟩,
  -- KEY_CULLET_POOL (R462)
  ⟨0x400, [], 64,
    [⟨15, 15, .ro, 0⟩, ⟨31, 31, .ro, 0⟩, ⟨47, 47, .ro, 0⟩, ⟨63, 63, .ro, 0⟩, ⟨14, 14, .ro, 0⟩, ⟨30, 30, .ro, 0⟩, ⟨46, 46, .ro, 0⟩, ⟨62, 62, .ro, 0⟩, ⟨13, 12, .ro, 0⟩, ⟨29, 28, .ro, 0⟩, ⟨45, 44, .ro, 0⟩, ⟨61, 60, .ro, 0⟩, ⟨11, 9, .ro, 0⟩, ⟨27, 25, .ro, 0⟩, ⟨43, 41, .ro, 0⟩, ⟨59, 57, .ro, 0⟩, ⟨8, 6, .ro, 0⟩, ⟨24, 22, .ro, 0⟩, ⟨40, 38, .ro, 0⟩, ⟨56, 54, .ro, 0⟩, ⟨4, 0, .ro, 0⟩, ⟨20, 16, .ro, 0⟩, ⟨36, 32, .ro, 0⟩, ⟨52, 48, .ro, 0⟩]⟩,
  -- KEY_CULLET_POOL2 (R462)
  ⟨0x408, [], 32,
    [⟨31, 24, .ro, 0⟩, ⟨21, 18, .ro, 0⟩, ⟨17, 16, .ro, 0⟩, ⟨0, 0, .ro, 0⟩]⟩,
  -- KEY_CULLET_RETIRED (R462)
  ⟨0x410, [], 64,
    [⟨63, 0, .ro, 0⟩]⟩,
  -- KEY_LOCKSTEP_CNT (R462)
  ⟨0x418, [], 32,
    [⟨31, 0, .ro, 0⟩]⟩,
  -- KEY_CULLET_SET (R462)
  ⟨0x420, [], 32,
    [⟨31, 30, .wo, 0⟩, ⟨25, 24, .wo, 0⟩, ⟨19, 16, .wo, 0⟩, ⟨4, 0, .wo, 0⟩]⟩,
  -- KEY_DECODE_ERR (R30)
  ⟨0x40, [], 64,
    [⟨63, 63, .w1c, 0⟩, ⟨62, 62, .w1c, 0⟩, ⟨61, 61, .ro, 0⟩, ⟨51, 36, .ro, 0⟩, ⟨35, 0, .ro, 0⟩]⟩]

/-- The register map of KEYCTL. -/
def keyCtlRows : List RegRow := keyCtlRows1

/-- The register map of FUSE, part 1. -/
def fuseRows1 : List RegRow := [
  -- FUSE_LIFECYCLE (R443)
  ⟨0x0, [], 32,
    [⟨2, 0, .ro, 0⟩]⟩,
  -- FUSE_POLICY (R443)
  ⟨0x8, [], 32,
    [⟨10, 9, .ro, 0⟩, ⟨8, 8, .ro, 0⟩, ⟨7, 0, .ro, 0⟩]⟩,
  -- FUSE_ROLLBACK (R443)
  ⟨0x10, [], 32,
    [⟨7, 0, .ro, 0⟩]⟩,
  -- FUSE_SERIAL (R443)
  ⟨0x18, [], 64,
    [⟨63, 0, .ro, 0⟩]⟩,
  -- FUSE_FWKEYi (R443)
  ⟨0x40, [(8, 8)], 64,
    [⟨63, 0, .ro, 0⟩]⟩,
  -- FUSE_CULLETi (R443)
  ⟨0x100, [(8, 32)], 64,
    [⟨63, 0, .ro, 0⟩]⟩,
  -- FUSE_PROG (R443)
  ⟨0x200, [], 32,
    [⟨31, 28, .wo, 0⟩, ⟨23, 16, .wo, 0⟩, ⟨15, 8, .wo, 0⟩, ⟨2, 0, .wo, 0⟩]⟩,
  -- FUSE_PROG_DATA (R443)
  ⟨0x208, [], 64,
    [⟨63, 0, .wo, 0⟩]⟩,
  -- FUSE_PROG_STATUS (R443)
  ⟨0x210, [], 32,
    [⟨31, 31, .w1c, 0⟩, ⟨30, 30, .w1c, 0⟩, ⟨29, 29, .ro, 0⟩]⟩]

/-- The register map of FUSE. -/
def fuseRows : List RegRow := fuseRows1

/-- The register map of PKE, part 1. -/
def pkeRows1 : List RegRow := [
  -- PKE_STATUS (R443)
  ⟨0x0, [], 32,
    [⟨23, 16, .ro, 0⟩, ⟨15, 8, .ro, 0⟩, ⟨1, 1, .ro, 0⟩, ⟨0, 0, .ro, 0⟩]⟩,
  -- PKE_CTL (R443)
  ⟨0x8, [], 32,
    [⟨1, 1, .wo, 0⟩, ⟨0, 0, .wo, 0⟩]⟩,
  -- PKE_OPCNT (R443)
  ⟨0x10, [], 32,
    [⟨31, 0, .rw, 0⟩]⟩,
  -- PKE_REFUSED (R443)
  ⟨0x18, [], 32,
    [⟨31, 0, .rw, 0⟩]⟩,
  -- PKE_OPMEM (R443)
  ⟨0x1000, [(8, 512)], 64,
    [⟨63, 0, .rw, 0⟩]⟩]

/-- The register map of PKE. -/
def pkeRows : List RegRow := pkeRows1

/-- The register map of SESS, part 1. -/
def sessRows1 : List RegRow := [
  -- the session table, 32 words to a context (R287); which bits are fields depends on the word (`ctxMask`)
  ⟨0x0, [(8, 524288)], 64,
    [⟨63, 0, .rw, 0⟩]⟩,
  -- SESS_STATE_CNT (R307)
  ⟨0x400000, [], 64,
    [⟨63, 48, .ro, 0⟩, ⟨47, 32, .ro, 0⟩, ⟨31, 16, .ro, 0⟩, ⟨15, 0, .ro, 16384⟩]⟩,
  -- SESS_FRAME_BASE (R307)
  ⟨0x400008, [], 64,
    [⟨47, 5, .rwl, 0⟩]⟩,
  -- SESS_FRAME_COUNT (R307)
  ⟨0x400010, [], 32,
    [⟨19, 0, .rwl, 0⟩]⟩,
  -- SESS_TAG_BASE (R307)
  ⟨0x400018, [], 64,
    [⟨47, 5, .rwl, 0⟩]⟩,
  -- SESS_FRAME_FREE (R307)
  ⟨0x400020, [], 32,
    [⟨19, 0, .ro, 0⟩]⟩,
  -- SESS_EVICT (R307)
  ⟨0x400028, [], 32,
    [⟨31, 0, .rw, 0⟩]⟩,
  -- SESS_LOCK (R307)
  ⟨0x400030, [], 32,
    [⟨0, 0, .w1s, 0⟩]⟩,
  -- SESS_LOCK_VIOL (R307)
  ⟨0x400038, [], 32,
    [⟨31, 0, .rw, 0⟩]⟩]

/-- The register map of SESS. -/
def sessRows : List RegRow := sessRows1

end Sys2Proof.Machine
end

