-- ==== Sys2Proof/Machine/Table.lean ====
section
/-!
DEFINITION. Sparse tables: reading and writing them in their canonical form. A table's `d` gives what an unlisted key
reads as. The canonical form is `SMap.WF`: keys strictly rising, no entry equal to its default, so that equal tables
are equal lists.
-/
namespace Sys2Proof.SMap

variable {α : Type}

/-- What key `k` reads as. -/
def get (d : Nat → α) : SMap α → Nat → α
  | [], k => d k
  | (k', v) :: t, k => if k = k' then v else get d t k

/-- Put an entry at its place in a rising list. -/
def insert : SMap α → Nat → α → SMap α
  | [], k, v => [(k, v)]
  | (k', v') :: t, k, v =>
    if k < k' then (k, v) :: (k', v') :: t
    else if k = k' then (k, v) :: t
    else (k', v') :: insert t k v

/-- Take key `k` out. -/
def erase (m : SMap α) (k : Nat) : SMap α := m.filter (fun e => e.1 ≠ k)

/-- Write `v` at key `k`; writing the default takes the entry out. -/
def set [DecidableEq α] (d : Nat → α) (m : SMap α) (k : Nat) (v : α) : SMap α :=
  if v = d k then erase m k else insert m k v

/-- The entries of a run of values from key `k` that differ from their defaults. -/
def run [DecidableEq α] (d : Nat → α) : Nat → List α → SMap α
  | _, [] => []
  | k, v :: vs => if v = d k then run d (k + 1) vs else (k, v) :: run d (k + 1) vs

/-- Write the values `vs` at the keys from `k` upwards. -/
def setRun [DecidableEq α] (d : Nat → α) (m : SMap α) (k : Nat) (vs : List α) : SMap α :=
  m.filter (fun e => e.1 < k) ++ (run d k vs ++ m.filter (fun e => k + vs.length ≤ e.1))

/-- The values at `n` keys from `k` upwards, read in one pass along the list. -/
def walk (d : Nat → α) : Nat → SMap α → Nat → List α
  | 0, _, _ => []
  | n + 1, m, k =>
    match m with
    | [] => d k :: walk d n [] (k + 1)
    | (k', v) :: t => if k = k' then v :: walk d n t (k + 1) else d k :: walk d n ((k', v) :: t) (k + 1)

/-- The values at the keys `k` to `k + n - 1`. -/
def getRun (d : Nat → α) (m : SMap α) (k n : Nat) : List α :=
  walk d n (m.filter (fun e => k ≤ e.1)) k

/-- Change every listed value. -/
def each [DecidableEq α] (d : Nat → α) (f : Nat → α → α) (m : SMap α) : SMap α :=
  (m.map (fun e => (e.1, f e.1 e.2))).filter (fun e => e.2 ≠ d e.1)

/-- Move the values at the `n` keys from `lo` to the keys from `hi`, whose old values are lost. -/
def move [DecidableEq α] (d : Nat → α) (m : SMap α) (lo hi n : Nat) : SMap α :=
  let inside := fun (b : Nat) (e : Nat × α) => b ≤ e.1 && e.1 < b + n
  (m.filter (inside lo)).foldl (fun t e => set d t (e.1 - lo + hi) e.2)
    (m.filter (fun e => !(inside lo e || inside hi e)))

/-- The canonical form. -/
abbrev WF (d : Nat → α) (m : SMap α) : Prop :=
  m.Pairwise (fun a b => a.1 < b.1) ∧ ∀ e ∈ m, e.2 ≠ d e.1

end Sys2Proof.SMap
end

