-- ==== Sys2Proof/Machine/Regs.lean ====
section
/-!
DEFINITION. Which block and which register a control address names (R26, R27), and what a register reads as at reset.
-/
namespace Sys2Proof.Machine

/-- `lo ≤ a < lo + len`. -/
def inSpan (a lo len : Nat) : Bool := lo ≤ a && a < lo + len

/-- The block of a Spire and the offset inside it, from the offset inside the Spire (R26). -/
def blockInSpire (s : Fin 4) (o : Nat) : Option (Block × Nat) :=
  if o < 0x10_0000 then some (.spr s, o)
  else if o < 0x20_0000 then some (.car s, o - 0x10_0000)
  else if o < 0x30_0000 then some (.sem s, o - 0x20_0000)
  else if o < 0x40_0000 then some (.bel s, o - 0x30_0000)
  else if o < 0x50_0000 then some (.sde s, o - 0x40_0000)
  else if o < 0x60_0000 then some (.blp s, o - 0x50_0000)
  else if o < 0x68_0000 then
    let k := (o - 0x60_0000) / 0x1_0000
    some (.hbm (Fin.ofNat 32 (8 * s.val + k)), (o - 0x60_0000) % 0x1_0000)
  else if inSpan o 0x70_0000 0x2_0000 then
    let p := (o - 0x70_0000) / 0x1_0000
    some (.but (Fin.ofNat 8 (2 * s.val + p)), (o - 0x70_0000) % 0x1_0000)
  else if inSpan o 0x100_0000 0x110_0000 then
    let k := (o - 0x100_0000) / 0x10_0000
    some (.twr (Fin.ofNat 68 (17 * s.val + k)), (o - 0x100_0000) % 0x10_0000)
  else none

/-- The block that holds a control address, and the offset inside it (R26). -/
def blockOf (a : Nat) : Option (Block × Nat) :=
  if a < 0x1_0000 then some (.keyCtl, a)
  else if a < 0x10_0000 then some (.fuse, a - 0x1_0000)
  else if a < 0x13_0000 then
    some (.pke (Fin.ofNat 3 ((a - 0x10_0000) / 0x1_0000)), (a - 0x10_0000) % 0x1_0000)
  else if inSpan a 0x20_0000 0x10_0000 then some (.shk, a - 0x20_0000)
  else if inSpan a 0x30_0000 0x10_0000 then some (.pwr, a - 0x30_0000)
  else if inSpan a 0x40_0000 0x10_0000 then some (.carK, a - 0x40_0000)
  else if inSpan a 0x50_0000 0x10_0000 then some (.alx, a - 0x50_0000)
  else if inSpan a 0x60_0000 0x10_0000 then some (.mgt, a - 0x60_0000)
  else if inSpan a 0x100_0000 0x100_0000 then some (.sess, a - 0x100_0000)
  else if inSpan a 0x1_0000_0000 0x4000_0000 then
    blockInSpire (Fin.ofNat 4 ((a - 0x1_0000_0000) / 0x1000_0000)) ((a - 0x1_0000_0000) % 0x1000_0000)
  else none

/-- The register map a block uses. SHK and MGT have no registers in spec/. -/
def blockKind : Block → BlockKind
  | .keyCtl => .keyCtl | .fuse => .fuse | .pke _ => .pke | .shk => .none | .pwr => .pwr | .carK => .car
  | .alx => .alx | .mgt => .none | .sess => .sess | .spr _ => .spr | .car _ => .car | .sem _ => .sem
  | .bel _ => .bel | .sde _ => .sde | .blp _ => .blp | .hbm _ => .hbm | .but _ => .but | .twr _ => .twr

/-- The rows of a block's register map. -/
def rowsOf : BlockKind → List RegRow
  | .keyCtl => keyCtlRows | .fuse => fuseRows | .pke => pkeRows | .pwr => pwrRows | .car => carRows
  | .alx => alxRows | .sess => sessRows | .spr => sprRows | .sem => semRows | .bel => belRows | .sde => sdeRows
  | .blp => blpRows | .hbm => hbmRows | .but => butRows | .twr => twrRows | .none => []

/-- The Spire on which a block lies; none for the Keystone. -/
def blockSpire : Block → Option (Fin 4)
  | .spr s => some s | .car s => some s | .sem s => some s | .bel s => some s | .sde s => some s | .blp s => some s
  | .hbm h => some (Fin.ofNat 4 (h.val / 8)) | .but p => some (Fin.ofNat 4 (p.val / 2))
  | .twr g => some (Fin.ofNat 4 (g.val / 17)) | _ => none

/-- The lowest control address of a block. -/
def blockBase : Block → Nat
  | .keyCtl => Reg.keyCtlBase | .fuse => Reg.fuseBase | .pke n => Reg.pkeBase n.val | .shk => 0x20_0000
  | .pwr => Reg.pwrBase | .carK => Reg.carBase 4 | .alx => Reg.alxBase | .mgt => 0x60_0000 | .sess => Reg.sessBase
  | .spr s => Reg.spireBase s.val | .car s => Reg.carBase s.val | .sem s => Reg.spireBase s.val + 0x20_0000
  | .bel s => Reg.spireBase s.val + 0x30_0000 | .sde s => Reg.spireBase s.val + 0x40_0000
  | .blp s => Reg.spireBase s.val + 0x50_0000 | .hbm h => Reg.hbmBase h.val | .but p => Reg.butBase p.val
  | .twr g => Reg.twrBase g.val

/-- The indices at which a row's register lies at offset `off`, if it does. -/
def rowIndex (off : Nat) (r : RegRow) : Option (List Nat) :=
  if off < r.off then none
  else
    let d := off - r.off
    match r.idx with
    | [] => if d = 0 then some [] else none
    | [(st, n)] => if d % st = 0 && d / st < n then some [d / st] else none
    | (st, n) :: (st2, n2) :: _ =>
      if d / st < n && d % st % st2 = 0 && d % st / st2 < n2 then some [d / st, d % st / st2] else none

/-- The row of a register map at an offset. -/
def findRow (rows : List RegRow) (off : Nat) : Option RegRow := rows.find? (fun r => (rowIndex off r).isSome)

/-- Whether a register of the Carillon's map exists in the Keystone's Carillon: 256 sources, 4 words, 16 groups, no
target 0 (R394). -/
def carKHas (off : Nat) : Bool :=
  if off < 0x2000 then off < 256 * 8
  else if off < 0x2200 then (off - 0x2000) % 0x80 < 4 * 8
  else if off < 0x3000 then off < 0x2200 + 16 * 8
  else if off < 0x3040 then false
  else true

/-- Registers all of whose fields are reserved: BEL_PERIOD and BEL_GEN of Spires 1 to 3 (R341), the band table in
controllers other than HBM0 (R382), BUT_NODE but for BUT0 of Spire 0 and the route table of BUT1 (R405). -/
def regReserved (b : Block) (off : Nat) : Bool :=
  match b with
  | .bel sp => sp ≠ 0 && (off = 0x8 || off = 0x10)
  | .hbm h => h.val % 8 ≠ 0 && (off = 0x8000 || off = 0x8008)
  | .but p => p.val ≠ 0 && off = 0x8 || p.val % 2 = 1 && inSpan off 0x1000 0x2000
  | _ => false

/-- The register at a control address: its block, offset and row. -/
def findReg (a : Nat) : Option (Block × Nat × RegRow) :=
  match blockOf a with
  | none => none
  | some (b, off) =>
    if b = .carK && !carKHas off then none
    else (findRow (rowsOf (blockKind b)) off).map (fun r =>
      (b, off, if regReserved b off then { r with fields := [] } else r))

/-- The value that the reset columns of a row give. -/
def rowReset (r : RegRow) : Nat := r.fields.foldl (fun v f => v + f.reset <<< f.lo) 0

/-- `n` fields of `w` bits, field j holding `f j`. -/
def packFields (w n : Nat) (f : Nat → Nat) : Nat := (List.range n).foldl (fun v j => v + f j <<< (w * j)) 0

/-- Reset values that depend on the register's index or block: SPR_ID (R28), the identity cullet map with spare slot 16
(DESIGN CHOICE, log 7), BLP_MAP with no expander excluded (R308, DESIGN CHOICE, log 7), CAR_SRCn_CFG (R394), the fused map, engines 0 and 1 active
(DESIGN CHOICE, log 7), wear margins and spares as new (DESIGN CHOICE, log 8; DESIGN CHOICE, log 11). -/
def resetSpecial (b : Block) (off v : Nat) : Nat :=
  match b with
  | .spr s =>
    if off = 0x0 then v + s.val
    else if off = 0x10 then packFields 8 8 (fun j => j)
    else if off = 0x18 then packFields 8 8 (fun j => j + 8)
    else if off = 0x20 then 16
    else if off = 0x1060 then 0xFFFF
    else v
  | .fuse => if inSpan off 0x100 0x100 then culletBlank >>> (8 * (off - 0x100)) % 2 ^ 64 else v
  | .pke n => if off = 0 && n.val < 2 then 2 else v
  | .pwr =>
    if inSpan off 0x100 0x80 then (if (off - 0x100) / 8 % 4 = 2 then 0xFF_FFFF_FFFF else 0xFFFF_FFFF_FFFF_FFFF) else v
  | .keyCtl =>
    if off = 0x400 then packFields 16 4 (fun _ => 0xE910) else if off = 0x408 then 0x2_0001 else v
  | .blp _ => if off = 0x0 then packFields 5 12 (fun j => j) else if off = 0x8 then packFields 5 4 (fun j => j + 12) else v
  | .car _ => if off = 8 * 1023 then 0x8F else v
  | .carK => if off = 8 * 255 then 0x9F else if off < 8 * 255 then 0x10 else v
  | _ => v

/-- What the register at a control address holds after reset. -/
def regReset (a : Nat) : Word :=
  match findReg a with
  | none => 0
  | some (b, off, r) => BitVec.ofNat 64 (resetSpecial b off (rowReset r))

end Sys2Proof.Machine
end

