-- ==== Sys2Proof/Machine/TowerState.lean ====
section
/-!
DEFINITION. The state of one Tower slot (chapters 04 to 08): the two streams, the tile file and queues, the accumulator
banks, the Marver's registers, element-program slots and sequencers, the scalar and instruction memories, and the work
in flight. Its registers that the control space names stand in `State.ctl`.
-/
namespace Sys2Proof.Machine

/-- The states of a stream that TWR_SEX_STATUS reports (R163). -/
inductive RunState | halted | running | waiting | held | stopped
  deriving DecidableEq, Repr

/-- A fault as its report needs it: the code of R9, the 16 bytes of DETAIL, the block of R17 that reports it, and for a fault
whose record is written later the bell in which it occurred (R8). -/
structure FaultInfo where
  code : Nat
  detail : List Byte
  source : Nat
  bell : Option Nat := none
  deriving DecidableEq, Repr

/-- A fault that occurs in bell `b` and is kept for a later report (R8). -/
def FaultInfo.met (f : FaultInfo) (b : Nat) : FaultInfo := { f with bell := some (f.bell.getD b) }

/-- An instruction that waits at issue: the instruction, the bell in which the wait began, and whether R145's limit
applies to it. -/
structure Waiting where
  instr : Instr
  bell : Nat
  timed : Bool
  /-- The fault it has raised, with POSTED, which is taken once every earlier instruction has completed (R150). -/
  fault : Option (FaultInfo × Bool) := none
  deriving DecidableEq, Repr

/-- The registers a stream takes back when an instruction is undone (R146, R151): program counter, s1 to s31,
instruction count, and for A the positions of the loader sequencers. -/
structure Snapshot where
  pc : BitVec 17
  regs : SMap Word
  icount : Word
  deriving DecidableEq, Repr

/-- A loader sequencer (R230 to R240): the values sampled at ARM, the loop position and the tiles left. -/
structure LoaderSeq where
  handle : BitVec 32
  nest : Nat
  len : Nat
  tentative : Nat
  pos : Nat
  left : Nat
  fallback : Bool
  deriving DecidableEq, Repr

/-- A posted operation of a stream (R155). -/
inductive PostedKind
  /-- GET or PUT of `count` positions from `pos` of the tensor `handle`, at offset `ofs` of the Tower's memory, under the
  classes `bands` that it sampled at its start (R382). -/
  | copy (put : Bool) (handle : BitVec 32) (desc : List Byte) (pos count ofs : Nat) (bands : Nat × Nat)
  /-- A SEMP to another Spire. -/
  | semp (spire sem n : Nat)
  deriving DecidableEq, Repr

/-- The forms of a load (R182, R183, R186). -/
inductive LoadShape | tile | transposed | strided | vector
  deriving DecidableEq, Repr

/-- Where a load or store begins (R170): the start index of dimension 0, ROW, OUTER, and a pointer-list entry's OFFSET. -/
structure Place where
  si : Int
  row : Nat
  outer : Nat
  ofs : Nat
  deriving DecidableEq, Repr

/-- A load in flight: its form, handle and descriptor as read at issue, where it begins, the bound beyond which
positions are zero (dimension and bound; R184, R235), whether it delivers only zeros (R237), its queue and tile, WIDTH,
and the snapshot and sequencers that a fault restores. -/
structure Load where
  shape : LoadShape
  h : BitVec 32
  desc : List Byte
  at_ : Place
  bound : Option (Nat × Nat)
  blank : Bool
  q : Nat
  tile : Nat
  width : Nat
  snap : Snapshot
  seqs : SMap LoaderSeq
  deriving DecidableEq, Repr

/-- A TST in flight (R185): its handle and descriptor as read at issue, where it begins, its queue and tile. -/
structure Store where
  h : BitVec 32
  desc : List Byte
  at_ : Place
  q : Nat
  tile : Nat
  snap : Snapshot
  seqs : SMap LoaderSeq
  deriving DecidableEq, Repr

/-- The states of a tile's slot (R135). -/
inductive TileState | empty | filling | full
  deriving DecidableEq, Repr

/-- A tile (R138): queue number (0xF unbound), format tag, slot state, WIDTH, the row bytes (key 2,048 × row + byte: an
element program's result may be 512 elements wide, R224), the block headers (key 16 × row + 2 × block + byte) and the
promotion annex (key 64 × payload + byte), with the number of payloads it holds. -/
structure Tile where
  q : Nat
  tag : Nat
  state : TileState
  width : Nat
  rows : SMap Byte
  hdrs : SMap Byte
  annex : SMap Byte
  payloads : Nat
  /-- The annex payload of a promoted block (key 8 × row + block): its number plus 1. -/
  slots : SMap Nat
  deriving DecidableEq, Repr

/-- The counts of a queue since launch: pushes completed, the claim point, entries taken from a vector or token queue,
the entry that stood at the lowest-numbered bound tile when the tiles were last bound (R142), and whether a peek has
claimed the entry at the claim point (R134, R136). -/
structure QueueCount where
  pushed : Nat
  claimed : Nat
  popped : Nat
  base : Nat
  peeked : Bool
  deriving DecidableEq, Repr

/-- A checkpoint (R146): A's snapshot, its sequencers, and the push counts of LQ0 to LQ3, VQ0, VQ1 and CQA at which
the markers stand (DEDUCED, log 66). -/
structure Checkpoint where
  snap : Snapshot
  seqs : SMap LoaderSeq
  marks : List Nat
  /-- A rollback has restored it: it no longer counts as outstanding (R149; DEDUCED, log 23). -/
  restored : Bool
  deriving DecidableEq, Repr

/-- An accumulator bank (R190, R209): word or ACC42 mode, the 80-bit entries (key 256 × row + column), and the word
count. -/
structure Bank where
  word : Bool
  vals : SMap (BitVec 80)
  count : Nat
  /-- Entries whose codeword is uncorrectable (R209). -/
  bad : List Nat
  deriving DecidableEq, Repr

/-- The operations of X that complete after their issue: the tile operations (R151), and a vector instruction whose queue
entry is not there yet (R134; DEDUCED, log 99). -/
inductive OpKind
  /-- MMA of class 0 H4, 1 H48 or 2 H8. -/
  | mma (cls : Nat)
  | mmw
  | mdrain
  /-- VRED: axis 0 row or 1 column; operation 0 ADD, 1 MAX, 2 MIN, 3 ADDM. -/
  | vred (col : Bool) (opr : Nat)
  /-- EPRG: program and destination queue. -/
  | eprg (prog qd : Nat)
  /-- VPOP, VOP or a modular vector instruction that waits for an entry of VQ0 or VQ1. -/
  | vec (i : Instr)
  deriving DecidableEq, Repr

/-- A claim of a queue entry: the queue (8 for the FTQ), the entry's number, its tile, and pop or peek. -/
structure Claim where
  q : Nat
  n : Nat
  tile : Nat
  pop : Bool
  /-- Whether a peek had claimed the entry at the claim point before this claim. -/
  before : Bool
  deriving DecidableEq, Repr

/-- A tile operation in flight, oldest first in the Tower's list (R151, R205, R213). -/
structure TileOp where
  kind : OpKind
  claims : List Claim
  bank : Nat
  init : Bool
  vd : Nat
  modulus : Nat
  /-- Tile that EPRG fills. -/
  dest : Nat
  started : Bool
  /-- TWR_NUM_CTL as sampled at the start (R70). -/
  numCtl : Nat
  /-- The element program's image and its generation (R224; DEDUCED, log 30). -/
  image : List Byte
  gen : Nat
  rowRegs : List (BitVec 2048)
  colRegs : List (BitVec 2048)
  /-- The bell in which it issued (R145). -/
  bell : Nat
  /-- Entries of the shadow it has taken whose codeword is uncorrectable (R209). -/
  shadow : List Nat
  snap : Snapshot
  deriving DecidableEq, Repr

/-- Where a build takes its image from (R225): a copy from an offset of Tower memory, a table generated by a slot, or an
image that the stream engine has delivered with its EP_LOAD command. -/
inductive EpBuild
  | copy (ofs : Nat)
  | generate (gen : Nat)
  | load (o : Origin) (image : List Byte)
  deriving DecidableEq, Repr

/-- An element-program slot (R221, R225 to R229). -/
structure EpSlot where
  valid : Bool
  gen : Nat
  image : List Byte
  /-- A complete next image that waits for the bell. -/
  next : Option (List Byte)
  /-- A build in progress. -/
  build : Option EpBuild
  /-- A waiting EPRG has promoted the build to full rate (R228). -/
  promoted : Bool
  deriving DecidableEq, Repr

/-- A task (R324): the ring, command number and list index of its LAUNCH. -/
structure Task where
  o : Origin
  deriving DecidableEq, Repr

/-- A launch that waits to start, or has been set up on this Tower (R129, R324). -/
structure LaunchReq where
  o : Origin
  aEntry : BitVec 16
  xEntry : BitVec 16
  bank : Bool
  on : BitVec 64
  ret : BitVec 64
  args : List Word
  /-- Started with both streams stopped by a command break (R339). -/
  broken : Bool
  deriving DecidableEq, Repr

/-- The registers of one stream. -/
structure StreamState where
  run : RunState
  /-- The address of the next instruction; 0x1_0000 after the last word of the bank (R159). -/
  pc : BitVec 17
  regs : SMap Word
  inHandler : Bool
  /-- BANK and ADDR of the EPC register. -/
  epc : BitVec 17
  step : Nat
  icount : Word
  wait : Option Waiting
  /-- IMSWAP's entry address, and whether it is IMSWAP.B. -/
  swap : Option (BitVec 16 × Bool)
  posted : List PostedKind
  /-- The first fault of a posted operation, not yet delivered. -/
  postedFault : Option FaultInfo
  /-- The next record of this stream carries LOST. -/
  lost : Bool
  /-- Where A goes on after its handler when a rollback came meanwhile: the checkpoint, and A's step there (R149). -/
  resume : Option (Snapshot × Nat)
  /-- The instruction at the pc has had its tag break (R202) and issues at RESUME. -/
  tagPassed : Bool
  deriving DecidableEq, Repr

/-- An instruction-memory load in progress (R160): its command, the bank (true IM-B), the words' bytes, and whether all
of them could be read. -/
structure ImLoad where
  o : Origin
  bank : Bool
  bytes : List Byte
  whole : Bool
  deriving DecidableEq, Repr

/-- An accepted remote packet not yet written (R121). -/
structure Packet where
  ofs : Nat
  data : List Byte
  /-- SOURCE of its sender. -/
  sender : Nat
  /-- The Buttress port at which it arrived. -/
  port : Option Nat
  deriving DecidableEq, Repr

/-- The idle states of a Tower (R454). -/
inductive TowerPower | on | gate | park | off
  deriving DecidableEq, Repr

/-- The state of one Tower slot. -/
structure Tower where
  a : StreamState
  x : StreamState
  tiles : SMap Tile
  queues : SMap QueueCount
  vq : SMap (List (BitVec 2048))
  cqa : List Word
  cqx : List Word
  ftq : List Nat
  banks : SMap Bank
  vregs : SMap (BitVec 2048)
  moduli : List Nat
  eps : SMap EpSlot
  seqs : SMap LoaderSeq
  cps : List Checkpoint
  loads : List Load
  stores : List Store
  ops : List TileOp
  /-- The scalar data memory (R130). -/
  sdm : SMap Byte
  imA : SMap Byte
  imB : SMap Byte
  validA : Bool
  validB : Bool
  /-- The active bank: false IM-A, true IM-B. -/
  active : Bool
  /-- Loads of the idle bank in progress, oldest first (R160). -/
  imLoad : List ImLoad
  /-- A committed swap (R160), and whether it waits for the bell (R162). -/
  swapPend : Option Bool
  /-- Banks in transition to On (R113). -/
  rising : List Nat
  packets : List Packet
  scrub : Option (BitVec 64)
  task : Option Task
  /-- Launches that wait for the Tower, oldest first (R324, R357). -/
  launch : List LaunchReq
  power : TowerPower
  /-- Retired or faulty (R451). -/
  retired : Bool
  /-- The last site-0 checksum's row and column with its bell (R449). -/
  lastSite0 : Option (Nat × Nat × Nat)
  /-- Array rows (false) and columns (true) with a hard fault, which wait for a bell without a task, and those replaced
  by spares (R449). -/
  steer : List (Bool × Nat)
  steered : List (Bool × Nat)
  /-- Spare rows in use: (bank, row) redirected (R450). -/
  spareRows : List (Nat × Nat)
  /-- The loader's descriptor cache: groups of 16 entries, most recently used first (R250). -/
  dcache : List Nat
  deriving DecidableEq, Repr

/-- The distance of a tile's rows in its table: the rows of a tile that a load fills are 256 bytes (R138); a result has its
source's WIDTH (R224), which may need more (DEDUCED, log 104). -/
def rowPitch : Nat := 2048

/-- A tile at launch (R129): EMPTY, bound to no queue, tag FP32 (DESIGN CHOICE, log 11). -/
def Tile.init : Tile :=
  { q := 0xF, tag := 0xA, state := .empty, width := 0, rows := [], hdrs := [], annex := [],
    payloads := 0, slots := [] }

/-- A queue's counts at launch. -/
def QueueCount.init : QueueCount := { pushed := 0, claimed := 0, popped := 0, base := 0, peeked := false }

/-- A bank at launch: ACC42 mode, +0 everywhere (R129, R190). -/
def Bank.init : Bank := { word := false, vals := [], count := 0, bad := [] }

/-- An empty element-program slot (DESIGN CHOICE, log 11). -/
def EpSlot.init : EpSlot := { valid := false, gen := 0, image := [], next := none, build := none, promoted := false }

/-- A sequencer with nothing left. -/
def LoaderSeq.init : LoaderSeq :=
  { handle := 0, nest := 0, len := 0, tentative := 0, pos := 0, left := 0, fallback := false }

/-- A halted stream (TWR_SEX_STATUS resets to 0) (DESIGN CHOICE, log 11). -/
def StreamState.init : StreamState :=
  { run := .halted, pc := 0, regs := [], inHandler := false, epc := 0, step := 0, icount := 0, wait := none,
    swap := none, posted := [], postedFault := none, lost := false, resume := none,
    tagPassed := false }

/-- A Tower slot after reset (DESIGN CHOICE, log 11, where the spec states no value). -/
def Tower.init : Tower :=
  { a := .init, x := .init, tiles := [], queues := [], vq := [], cqa := [], cqx := [], ftq := [], banks := [],
    vregs := [], moduli := [], eps := [], seqs := [], cps := [], loads := [], stores := [], ops := [], sdm := [],
    imA := [], imB := [], validA := false, validB := false, active := false, imLoad := [], swapPend := none,
    rising := [], packets := [], scrub := none, task := none, launch := [], power := .on,
    retired := false, lastSite0 := none, steer := [], steered := [], spareRows := [], dcache := [] }

end Sys2Proof.Machine
end

