-- ==== Sys2Proof/Machine/SpireState.lean ====
section
/-!
DEFINITION. The state of the Spire engines (chapters 03, 08, 11, 13): descriptor entries, stream channels, rings,
semaphores, write-combining lines, speculation groups.
-/
namespace Sys2Proof.Machine

/-- A descriptor-table entry (R85 to R87, R95): live, being freed (by the command that asked), its reuse count, and the
length changes that wait for writes in flight. -/
structure DescEntry where
  live : Bool
  freeing : Option Origin
  reuse : Nat
  /-- ACCEPT (some n) or REJECT (none) requests that wait (R94, R95), each with its command. -/
  kv : List (Option Nat × Origin)
  deriving DecidableEq, Repr

/-- A free entry. -/
def DescEntry.init : DescEntry := { live := false, freeing := none, reuse := 0, kv := [] }

/-- A command as fetched (R318): its bytes (one or two slots), command number and list index. -/
structure Cmd where
  bytes : List Byte
  cseq : Nat
  lidx : Nat
  deriving DecidableEq, Repr

/-- A command that has started and not completed: its origin, opcode, engine and start order. -/
structure Running where
  o : Origin
  opcode : Nat
  engine : Nat
  order : Nat
  /-- For a FENCE command in progress: its scope (R330). -/
  fence : Option Nat
  /-- A LAUNCH that a command break holds (R339). -/
  broken : Bool
  deriving DecidableEq, Repr

/-- A LIST in progress (R320): its origin, the commands not yet completed, those run, and the fault that ended it. -/
structure ListRun where
  o : Origin
  left : Nat
  run : Nat
  fault : Option FaultInfo
  deriving DecidableEq, Repr

/-- The commands of a list that have not been fetched (R250): how many, the index of the first, and its address. -/
structure ListRest where
  left : Nat
  idx : Nat
  addr : Nat
  deriving DecidableEq, Repr

/-- The commands of one runner, a ring or the instance of a bell-table entry (R316, R320, R356): those that wait to
start, in order; those that have started; the LISTs in progress; and the PRE wait of the next one (R319): waiting
(some false) or granted (some true). -/
structure RunQ where
  queue : List Cmd
  running : List Running
  lists : List ListRun
  pre : Option Bool
  /-- The commands that follow the listed ones at the front of the queue. -/
  more : Option ListRest
  deriving DecidableEq, Repr

/-- A runner with nothing to do. -/
def RunQ.init : RunQ := { queue := [], running := [], lists := [], pre := none, more := none }

/-- What follows once a completion is written: nothing, its ring stops (R329), or the instance of a bell-table entry ends,
well or not (R356). -/
inductive RecordEnd
  | none
  | stop
  | entry (e bell : Nat) (ok : Bool)
  deriving DecidableEq, Repr

/-- A command ring (R311 to R317, R328, R329, R339). -/
structure Ring where
  /-- The tail line as last read: TAIL and CCONS. -/
  tail : Nat
  ccons : Nat
  /-- A TAIL that R314 refuses has stopped the ring. -/
  tailBad : Bool
  fetched : Nat
  /-- Completion entries written. -/
  compPos : Nat
  stopped : Bool
  /-- A command break holds the next command (R339), until RESUME. -/
  brk : Bool
  /-- The next command has passed its break. -/
  brkPassed : Bool
  /-- Completions held for room (R328): start order, what follows, and the entries, extension entries first. -/
  held : List (Nat × RecordEnd × List (List Byte))
  deriving DecidableEq, Repr

/-- A ring that has not been enabled (R317). -/
def Ring.init : Ring :=
  { tail := 0, ccons := 0, tailBad := false, fetched := 0, compPos := 0, stopped := false, brk := false,
    brkPassed := false, held := [] }

/-- An instance of a bell-table entry (R353 to R360): the entry, its bell, and how far it has come. -/
structure Instance where
  bytes : List Byte
  bell : Nat
  started : Bool
  /-- An attempt to start it at START has failed (R353). -/
  late : Bool
  /-- Start delay beyond START (DESIGN CHOICE, log 4). -/
  delay : Nat
  /-- R354 applies: its required entry has not ended well. -/
  notRun : Bool
  abandoned : Bool
  /-- Its deadline has passed (a SEAL_WINDOW then admits nothing). -/
  past : Bool
  /-- Commands completed, or handles processed. -/
  count : Nat
  /-- Whether something in it has faulted. -/
  bad : Bool
  /-- The first fault that its own record reports (KV_COMMIT, a list that cannot be read). -/
  fault : Option (List Byte)
  /-- The F_DEADLINE record. -/
  miss : Option (List Byte)
  /-- Its record waits for room (R328): it ends when that is written (R356). -/
  ending : Bool
  /-- KV_COMMIT: handles still to process, with their n (none: REJECT only). -/
  todo : List (Nat × Option Nat)
  deriving DecidableEq, Repr

/-- A grid point that a SEQ_MOVE works on (R234, R242): what is left to copy, as source, destination and length. -/
structure GridPoint where
  left : List (Nat × Nat × Nat)
  /-- Bytes written. -/
  wrote : Nat
  /-- Its box, the part of it that reads as zero (R93), and the offset of its pointer-list entry. -/
  box : List (Nat × Nat)
  zbox : Option (List (Nat × Nat))
  ofs : Nat
  deriving DecidableEq, Repr

/-- The pointer list of a walk (R241): the address of its entries, their number, and the bursts of 128 entries that have
been read. -/
structure PlWalk where
  addr : Nat
  count : Nat
  got : List (Nat × List Byte)
  deriving DecidableEq, Repr

/-- The walk of a SEQ_MOVE (R230 to R247). -/
structure SeqWalk where
  nest : List Byte
  /-- The source descriptor as read at the start, its handle, and DST's. -/
  desc : List Byte
  h : BitVec 32
  dst : BitVec 32
  dstDesc : List Byte
  nbuf : Nat
  bstride : Nat
  semFull : Nat
  semEmpty : Nat
  /-- The pointer list that the walk uses (R241). -/
  pl : Option PlWalk
  /-- LEN and TENTATIVE as sampled at the start (R236). -/
  len : Nat
  tentative : Nat
  /-- The next grid point L of R233. -/
  pos : Nat
  /-- Grid points begun, and those completed. -/
  begun : Nat
  done : Nat
  /-- EMPTY has been waited for and obtained for the next point. -/
  granted : Bool
  /-- The channel is in the FIFO of SEM_EMPTY. -/
  waiting : Bool
  cur : Option GridPoint
  /-- Points all of whose bytes are written, and not yet visible: the bytes of each (R243). -/
  landed : List Nat
  /-- SPEC points complete, FULL withheld: the bytes of each (R246). -/
  withheld : List Nat
  /-- A fault has ended the walk (R244): the bytes written of the point that failed, and the fault. -/
  failed : Option (Nat × FaultInfo)
  deriving DecidableEq, Repr

/-- What a stream channel does: a copy of bytes (MOVE, PEER_MOVE), or a walk. -/
inductive ChanWork
  | move (src dst len done : Nat)
  | peer (src port node dst gen len sent acked granted : Nat) (askedBell : Nat)
  | seq (w : SeqWalk)
  deriving DecidableEq, Repr

/-- A stream channel at work (R230, R249): its command, class (0 DEMAND, 1 PARISON, 2 SPEC), group, the group's verdict
(R246), the bell in which it started, and whether its entry has been abandoned (R359). -/
structure Channel where
  o : Origin
  work : ChanWork
  cls : Nat
  group : Nat
  verdict : Option Bool
  bell : Nat
  abandon : Option FaultInfo
  /-- The first uncorrectable codeword that a copy of panes delivered. -/
  note : Option FaultInfo
  /-- The band classes of its Spire's copy when the transfer started: HBM_BAND_LO and HI (R382). -/
  bands : Nat × Nat
  deriving DecidableEq, Repr

/-- Who waits on a semaphore (R331). -/
inductive WaiterId
  | stream (slot : Fin 68) (st : Stream)
  /-- The PRE wait of a ring's next command, or of a bell-table entry's. -/
  | pre (ring : Fin 16)
  | preEntry (e : Fin 1024)
  /-- A SEM_WAIT command. -/
  | cmd (o : Origin)
  /-- A stream channel. -/
  | channel (ch : Fin 16)
  deriving DecidableEq, Repr

/-- A waiter of a semaphore: its identity, SOURCE, the count wanted, the bell in which the wait began, its timeout in
bells. -/
structure Waiter where
  who : WaiterId
  source : Nat
  want : Nat
  since : Nat
  timeout : Nat
  deriving DecidableEq, Repr

/-- A semaphore (R331): its count, waiters oldest first, the last post's bell, SOURCE and whether it was remote. -/
structure Sem where
  count : Nat
  waiters : List Waiter
  lastBell : Nat
  lastSource : Nat
  lastRemote : Bool
  deriving DecidableEq, Repr

/-- A semaphore at reset. -/
def Sem.init : Sem := { count := 0, waiters := [], lastBell := 0, lastSource := 0xFFFF, lastRemote := false }

/-- A LAUNCH in progress (R324): the slots whose tasks have not ended, the tasks ended by HALT and by fault, and the
lowest-numbered faulting logical Tower with its record. -/
structure LaunchRun where
  o : Origin
  left : List Nat
  halts : Nat
  faults : Nat
  first : Option (Nat × List Byte)
  deriving DecidableEq, Repr

/-- A STOP that has not taken effect on every Tower (R158, R324): its command, if one asked, and the slots left. -/
structure StopRun where
  o : Option Origin
  left : List Nat
  deriving DecidableEq, Repr

/-- An IM_LOAD or EP_LOAD in progress (R325): its opcode, the slots left, those done and refused, the first record. -/
structure LoadRun where
  o : Origin
  opcode : Nat
  left : List Nat
  good : Nat
  bad : Nat
  fault : Option (List Byte)
  deriving DecidableEq, Repr

/-- A collective in progress (R414 to R417): its kind, format, combination and mask; handles and the destination's
descriptor; the values of its elements; the current range; the steps left, as dimension and whether it gathers; the
elements that stand in the destination. -/
structure CollOp where
  o : Origin
  kind : Nat
  fmt : Nat
  cmb : Nat
  mask : Nat
  src : BitVec 32
  dst : BitVec 32
  dstDesc : List Byte
  vals : List Nat
  lo : Nat
  len : Nat
  steps : List (Nat × Bool)
  delivered : Nat
  /-- The band classes when it started (R382). -/
  bands : Nat × Nat
  deriving DecidableEq, Repr

/-- What the device sends on its Buttress ports (R346, R404 to R417): bell frames; the bytes of a PEER_MOVE; credit
requests and grants; acknowledgements, with the record of a refusal; the values and the aborts of collectives; packets in
transit, by destination and source node. -/
inductive LinkMsg
  | frame (port : Nat) (f : Frame)
  | write (port node dst gen : Nat) (data : List Byte)
  | creditAsk (port node units : Nat)
  | creditGrant (port units : Nat) (fault : Option FaultInfo)
  | ack (port bytes : Nat) (fault : Option FaultInfo)
  | coll (port : Nat) (data : List Byte)
  | abort (port code : Nat)
  | transit (port dst src : Nat)
  deriving DecidableEq, Repr

/-- A line of the write-combining buffer (R374): the 64-byte burst's stack address, the valid bytes, and the SOURCE of its
last writer. -/
structure WcbLine where
  stack : Nat
  addr : Nat
  bytes : SMap Byte
  mask : BitVec 64
  req : Nat
  deriving DecidableEq, Repr

/-- A parameter-set slot of a Spire (R261, R262): GEN and VALID, the records of its current half and of its next, NEXT's
code, and the PSET_LOAD that builds it. -/
structure PsetSlot where
  gen : Nat
  valid : Bool
  cur : List Byte
  next : List Byte
  code : Nat
  o : Option Origin
  /-- The DPA of the record of the last PSET_LOAD. -/
  src : Nat
  deriving DecidableEq, Repr

/-- A slot at reset. -/
def PsetSlot.init : PsetSlot := { gen := 0, valid := false, cur := [], next := [], code := 0, o := none, src := 0 }

/-- How far a sealed operation has come: it has passed its checks and waits for a window (R361), it is deferred for key
pages (R301), it runs. -/
inductive SealPhase | waiting | deferred | running
  deriving DecidableEq, Repr

/-- An ANNEAL in progress (R278 to R281), a command's own or one inserted by R269: its input and output headers, the next
slice of the plan, the Gallery range of its checkpoint area, whether it has begun, whether a slice has failed from the
present checkpoint, the first bell in which the next slice may start, and the slice's key switches. -/
structure AnnealRun where
  inn : Nat
  out : Nat
  /-- The output header as it was read when VALID was cleared (R258). -/
  old : List Byte
  next : Nat
  area : Nat × Nat
  began : Bool
  failed : Bool
  after : Nat
  ksws : Nat
  deriving DecidableEq, Repr

/-- A SEAL command in progress (R265 to R282, R300, R301): its operands as they stand (the scratch copies after R269), its
phase, the SEAL_WINDOW in which it runs, the input headers and the parameter-set record
with which it started, the pages it has pinned, the bell of its first deferral with DEFER_LIMIT, the bells deferred, the
abandonment of its entry (R359), the anneals to insert (input and scratch headers), and the ANNEAL in progress. -/
structure SealOp where
  o : Origin
  code : Nat
  g : SealArgs
  auto : Bool
  phase : SealPhase
  win : Option Nat
  hdrs : List (List Byte)
  /-- The output header as it was read when VALID was cleared (R258). -/
  old : List Byte
  pset : List Byte
  session : Option Nat
  pins : Option (List Nat)
  since : Option (Nat × Nat)
  bells : Nat
  abandon : Option FaultInfo
  queue : List (Nat × Nat)
  ann : Option AnnealRun
  deriving DecidableEq, Repr

/-- A page-in in progress (R297): the command, or none for a request of R301; session, page, frame, and the Spire whose
Blowpipe digests it. -/
structure KeyJob where
  o : Option Origin
  index : Nat
  page : Nat
  frame : Nat
  spire : Nat
  /-- The classes of the bands at its start, as they stand in HBM_BAND_LO and HI (R382). -/
  bands : Nat × Nat
  deriving DecidableEq, Repr

/-- A SESS_BIND whose signature is being verified (R293): the session, the manifest and COMP_BASE. -/
structure BindJob where
  o : Origin
  index : Nat
  manifest : List Byte
  comp : Nat
  /-- The public-key engine that verifies it. -/
  engine : Nat
  deriving DecidableEq, Repr

/-- A SESS_CLOSE in progress (R305, R306): its command, unless that has been lost (R446); whether its frames are released,
the Tower slots whose scrub waits for the bell, those whose scrub runs, and the checkpoint areas still to scrub (Spire,
first and last offset). -/
structure CloseJob where
  o : Option Origin
  index : Nat
  released : Bool
  wait : List Nat
  active : List Nat
  areas : List (Nat × Nat × Nat)
  deriving DecidableEq, Repr

/-- A key-store slot (R435): its type as KEY_KS_STATE has it (0 empty, 1 Ed448, 2 X448, 3 P-384, 4 reserved), and the
private key. -/
structure KeySlot where
  ty : Nat
  key : List Byte
  deriving DecidableEq, Repr

/-- An empty slot. -/
def KeySlot.init : KeySlot := { ty := 0, key := [] }

/-- An operation of a public-key engine (R433 to R441): its command, opcode and operands; its input block and message as
read at the start; whether its validation has passed; what ATTEST has sampled. -/
structure PkeOp where
  o : Origin
  opcode : Nat
  p : PkeArgs
  inp : List Byte
  msg : List Byte
  valid : Bool
  sample : List Byte
  deriving DecidableEq, Repr

/-- The fuse bank as programmed (R419). The FUSE_ registers hold what the last reset sensed. -/
structure FuseBank where
  lifecycle : BitVec 4
  secret : BitVec 256
  serial : BitVec 64
  fwkey : BitVec 512
  rollback : BitVec 128
  debugBits : BitVec 2
  port : BitVec 9
  cullet : BitVec 2048
  deriving DecidableEq, Repr

/-- The fuse bank of a part that leaves assembly: nothing programmed but that map (DESIGN CHOICE, log 7). -/
def FuseBank.init : FuseBank :=
  { lifecycle := 0, secret := 0, serial := 0, fwkey := 0, rollback := 0, debugBits := 0, port := 0,
    cullet := BitVec.ofNat 2048 culletBlank }

/-- The bell generator (R341 to R348): the period of the bell in progress; that of the last frame taken; whether an edge or
a frame gives the next bell; holdover; whether BEL_JOIN waits for a frame; the bell number that a join takes at the next
bell. -/
structure BellState where
  /-- The output BELL_SYNC has been driven high at the last bell, for 100 ns (R342). -/
  out : Bool
  period : Nat
  framePeriod : Nat
  due : Bool
  holdover : Bool
  joining : Bool
  join : Option Nat
  deriving DecidableEq, Repr

/-- The generator after reset: PERIOD's reset value, the timer running. -/
def BellState.init : BellState :=
  { out := false, period := 100000, framePeriod := 0, due := false, holdover := false, joining := false, join := none }

/-- A BTAB_LOAD in progress (R352): its command, and the entries that it writes, by index 512 × table + entry. -/
structure BtabJob where
  o : Origin
  entries : List (Nat × List Byte)
  deriving DecidableEq, Repr

/-- A pending change of a cullet map (R29): the Spire, the logical Tower (none for the spare slot), the slot. -/
structure CulletWrite where
  spire : Nat
  tower : Option Nat
  slot : Nat
  deriving DecidableEq, Repr

/-- The states of a Spire's supply (R454, R460, R461). -/
inductive SpirePower | on | ret | lost
  deriving DecidableEq, Repr

/-- The power controller and the pins (R454 to R462, R468 to R476). Points P0 to P3 are 0 to 3. -/
structure PowerState where
  /-- SYS_RST_N is low. -/
  rstLow : Bool
  pwrOk : Bool
  /-- D-stby (R454). -/
  stby : Bool
  /-- ALERT_N is asserted for a reason that R462 does not list (R445 site 5, R425, R452, R470). -/
  alertPin : Bool
  /-- THERM_TRIP_N is asserted (R459, R475). -/
  tripPin : Bool
  /-- A fall of FLOW_OK has stopped service, which has not resumed (R460). -/
  flowStop : Bool
  spires : SMap SpirePower
  /-- The last temperature sampled of each Spire, °C. -/
  temps : SMap Nat
  /-- The points that throttling and the power cap ask of each Spire (0: none). -/
  throttle : SMap Nat
  cap : SMap Nat
  /-- A throttled Spire rises one point at the next bell. -/
  rise : SMap Bool
  /-- Samples since a cap step was decided that has not acted; samples below 3,400 W; samples with a cap in force. -/
  capWait : Option Nat
  capRise : Bool
  lowFor : Nat
  capFor : Nat
  /-- The stacks that training will bring up (R377). -/
  train : Option (BitVec 32)
  deriving DecidableEq, Repr

/-- Powered and out of reset (DESIGN CHOICE, log 14). -/
def PowerState.init : PowerState :=
  { rstLow := false, pwrOk := true, stby := false, alertPin := false, tripPin := false, flowStop := false, spires := [],
    temps := [], throttle := [], cap := [], rise := [], capWait := none, capRise := false, lowFor := 0, capFor := 0, train := none }

end Sys2Proof.Machine
end

