-- ==== Sys2Proof/Machine/State.lean ====
section
/-!
DEFINITION. The state of the module as plain data: the queue of waiting commands, the registers of the control space,
the memories, the Towers, the engines, and the Keystone. Sparse tables stand in the canonical form of
`Machine/Table.lean`; what an unlisted key reads as is said with each field.
-/
namespace Sys2Proof.Machine

/-- The reasons for a fault of the model. There are none: a fault of the device is written into its state (fault
records, completions, exceptions), and no command stops the block. -/
inductive Fault
  deriving DecidableEq, Repr

/-- The reasons for a refusal of the model. -/
inductive Refusal
  /-- The arm of a command that has no meaning yet; raised by `Machine/Dispatch.lean` alone (safe). -/
  | notModelled (mnemonic : String)
  deriving DecidableEq, Repr

/-- The machine. -/
structure State where
  /-- Commands that wait, first in, first out. -/
  pending : List Instr
  /-- How many free values have been drawn (the model's own; DESIGN CHOICE, log 4). -/
  free : Nat
  /-- Blocks that Keystone firmware has opened to companion writes (R27; DESIGN CHOICE, log 10). -/
  opened : List Block
  /-- Active values of the registers by control address; unlisted: the reset value of `Machine/Regs.lean`. -/
  ctl : SMap Word
  /-- Staged copies of the RWS registers (R3, R5); unlisted: nothing staged. -/
  staged : SMap (Option Word)
  /-- Stack bytes: key 36 GiB × stack + address; unlisted 0 (R377). -/
  hbm : SMap Byte
  /-- Gallery bytes: key 128 MiB × Spire + offset; unlisted 0 (R127). -/
  gallery : SMap Byte
  /-- Tower-memory bytes: key 24 MiB × slot + offset; unlisted 0 (R113). -/
  tmem : SMap Byte
  /-- Companion memory by physical address; unlisted 0 (DESIGN CHOICE, log 9); no cache lines of it
  (DESIGN CHOICE, log 89). -/
  companion : SMap Byte
  /-- The SPI flash; unlisted 0 (DESIGN CHOICE, log 12). -/
  flash : SMap Byte
  /-- Errors in stored HBM symbols (R370 to R372): key 36 × codeword + position, the bits in error; unlisted 0
  (DESIGN CHOICE, log 87). -/
  hbmErr : SMap Byte
  /-- Errors in stored SRAM codewords (R110): 1 correctable, 2 uncorrectable; unlisted 0 (DESIGN CHOICE, log 87).
  Keys: `Machine/Memory.lean`. -/
  ramErr : SMap Nat
  /-- Corrections per pin since the patrol pass began (R378): key 72 × (32 × stack + channel) + pin. -/
  pinCounts : SMap Nat
  /-- The pins that have crossed the threshold since the patrol pass began (R378). -/
  pinsOver : SMap Bool
  towers : SMap Tower
  descs : SMap DescEntry
  /-- The descriptor cache of each stream engine: groups, most recently used first (R250). -/
  sdeCache : SMap (List Nat)
  /-- The region table: base and limit of region i (R83); unlisted: empty (DESIGN CHOICE, log 13). -/
  regions : SMap (Nat × Nat)
  rings : SMap Ring
  /-- The runners: rings by 16 × Spire + ring, bell-table entries by 64 + 1,024 × Spire + 512 × table + index. -/
  runs : SMap RunQ
  /-- The last ring each engine has served (R316): engine by 16 × (Spire + 1) + code, or code in the Keystone. -/
  lastRing : SMap Nat
  /-- Stream channels by 16 × Spire + channel. -/
  channels : SMap (Option Channel)
  /-- Bell-table entries by 1,024 × Spire + 512 × table + index; unlisted: KIND off. -/
  btabs : SMap (List Byte)
  /-- Instances of bell-table entries, oldest first. -/
  insts : SMap (List Instance)
  /-- The last instance of an entry to end: its bell, and whether it completed without fault (R354). -/
  ended : SMap (Nat × Bool)
  sems : SMap Sem
  wcb : SMap (List WcbLine)
  /-- Fault records delivered to each Spire controller, oldest first (R8). -/
  faultsSpire : SMap (List (List Byte))
  /-- Fault records delivered to the Keystone controller. -/
  faultsKey : List (List Byte)
  /-- Hold-off timers that run (R389): 64 × Carillon + group, Carillon 4 being the Keystone's. -/
  holds : SMap Bool
  /-- The priority stacks (R386), top first, as source and priority: 3 × Carillon + target. -/
  carStacks : SMap (List (Nat × Nat))
  /-- Whether a Carillon has dropped a record since VALID was set (R391). -/
  carLost : SMap Bool
  /-- The sources of R17 from which a record has been dropped since the last one written (R8, R325). -/
  lostFrom : SMap Bool
  /-- What the last command that reads something has returned to its requester. -/
  reply : List Byte
  /-- LAUNCH commands in progress. -/
  launches : List LaunchRun
  /-- IM_LOAD and EP_LOAD commands in progress. -/
  imRuns : List LoadRun
  /-- Collectives in progress by 16 × Spire + channel. -/
  colls : SMap (Option CollOp)
  /-- STOPs in progress. -/
  stops : List StopRun
  /-- Accepted remote packets not yet written to each Gallery (R121, R124). -/
  galPackets : SMap (List Packet)
  /-- The Gallery ranges under SCRUB, oldest first (R116). -/
  galScrub : SMap (List (Nat × Nat))
  /-- What has been sent on the Buttress ports, oldest first. -/
  sent : List LinkMsg
  /-- Consecutive replays of the present flit (R400, R412): ports B0 to B7, 8 for Alxis. -/
  replays : SMap Nat
  /-- Ports whose receiver is training (R410 to R412). -/
  training : SMap Bool
  /-- Group counters of the two Alxis directions (R401). -/
  alxGroups : SMap Nat
  /-- Parameter-set slots by 32 × Spire + slot. -/
  psets : SMap PsetSlot
  /-- The session table: context of index i (R287); unlisted: all zero, FREE. -/
  sess : SMap (List Byte)
  /-- Checkpoint areas that the ANNEALs of a session have used: Spire, first and last Gallery offset (R305). -/
  sessAreas : SMap (List (Nat × Nat × Nat))
  /-- The session and page that hold a frame of the key-frame pool (R296); unlisted: free. -/
  frames : SMap (Option (Nat × Nat))
  /-- The digest last computed of a page that is BAD: key 4,096 × session + page. -/
  digests : SMap (List Byte)
  keyJobs : List KeyJob
  binds : List BindJob
  closes : List CloseJob
  /-- SEAL commands in progress by 16 × Spire + place. -/
  seals : SMap (Option SealOp)
  /-- The key store (R435). -/
  keySlots : SMap KeySlot
  /-- The operations of the public-key engines. -/
  pkes : SMap (Option PkeOp)
  fuses : FuseBank
  /-- DEVICE_SECRET as the last reset sensed it; no register shows it (R422). -/
  secret : BitVec 256
  /-- The bank that the programming request in progress leads to (R421). -/
  fuseJob : Option FuseBank
  /-- The identity-derivation path is open (R422). -/
  idOpen : Bool
  /-- The noise sources have failed their health test (R439). -/
  entropyBad : Bool
  /-- Pending and active Alxis keys by 4 × direction + word (R443). -/
  alxPending : SMap Word
  alxKeys : SMap Word
  gen : BellState
  cullets : List CulletWrite
  /-- Towers under replacement: the slot and the spare that takes its place at the next bell (R449). -/
  replaces : List (Nat × Nat)
  /-- Gallery banks copied into a spare, which switch at the next bell: Spire and bank (R450). -/
  galFix : List (Nat × Nat)
  /-- Expanders out of order by 16 × Spire + Tower: 1 until the next bell, 2 retired (R450, R451). -/
  expDown : SMap Nat
  /-- Retired Spires whose memories are unmapped (R452). -/
  gone : SMap Bool
  /-- BAND_CLASS commands that complete at the next bell (R382), with their bands and classes. -/
  bandCmds : List (Origin × Nat × Nat)
  /-- BTAB_LOADs in progress (R352). -/
  btabJobs : List BtabJob
  /-- Spires whose bell sequencer has disagreed with its copy: EN is cleared at the next bell (R445). -/
  seqBad : SMap Bool
  power : PowerState
  /-- Commands that have started, in order: the count of starts (R330). -/
  starts : Nat
  bellNum : Nat
  deriving DecidableEq, Repr

/-- The machine right after reset (DESIGN CHOICE, log 7; DESIGN CHOICE, log 11; DESIGN CHOICE, log 80). -/
def State.reset : State :=
  { pending := [], free := 0, opened := [], ctl := [], staged := [], hbm := [], gallery := [], tmem := [],
    companion := [], flash := [], hbmErr := [], ramErr := [], pinCounts := [], pinsOver := [], towers := [],
    descs := [], sdeCache := [], regions := [], rings := [], runs := [], lastRing := [], channels := [], btabs := [],
    insts := [], ended := [], sems := [], wcb := [], faultsSpire := [], faultsKey := [], holds := [],
    carStacks := [], carLost := [], lostFrom := [], reply := [], launches := [], imRuns := [], colls := [],
    stops := [], galPackets := [], galScrub := [], sent := [], replays := [], training := [], alxGroups := [],
    psets := [], sess := [], sessAreas := [], frames := [], digests := [], keyJobs := [], binds := [], closes := [],
    seals := [], keySlots := [], pkes := [], fuses := FuseBank.init, secret := 0, fuseJob := none, idOpen := true,
    entropyBad := false, alxPending := [], alxKeys := [], gen := BellState.init, cullets := [], replaces := [],
    galFix := [], expDown := [], gone := [], bandCmds := [], btabJobs := [], seqBad := [], power := PowerState.init,
    starts := 0, bellNum := 0 }

end Sys2Proof.Machine
end

