-- ==== Sys2Proof/Machine/Ops.lean ====
section
/-!
DEFINITION. The shared operations on registers, counters, fault records and interrupt sources.
-/
namespace Sys2Proof.Machine

/-! ### Registers -/

/-- The active value of the register at a control address. -/
def State.reg (s : State) (a : Nat) : Nat := (SMap.get regReset s.ctl a).toNat

/-- Set the register at a control address, as the hardware does. -/
def State.setReg (s : State) (a v : Nat) : State :=
  { s with ctl := SMap.set regReset s.ctl a (BitVec.ofNat 64 v) }

/-- The field [hi:lo] of a register. -/
def State.fld (s : State) (a hi lo : Nat) : Nat := bits (s.reg a) hi lo

/-- Set the field [hi:lo] of a register. -/
def State.setFld (s : State) (a hi lo v : Nat) : State := s.setReg a (setBits (s.reg a) hi lo v)

/-- Add to a 32-bit event counter, which saturates at 0xFFFF_FFFF. -/
def State.count (s : State) (a k : Nat) : State := s.setReg a (satAdd 32 (s.reg a) k)

/-- Add to a 64-bit counter. -/
def State.count64 (s : State) (a k : Nat) : State := s.setReg a (satAdd 64 (s.reg a) k)

/-- The staged copy of a register, if there is one. -/
def State.stagedReg (s : State) (a : Nat) : Option Word := SMap.get (fun _ => none) s.staged a

/-- Stage a value (R3), or take a staged value away. -/
def State.stage (s : State) (a : Nat) (v : Option Word) : State :=
  { s with staged := SMap.set (fun _ => none) s.staged a v }

/-! ### Free values -/

/-- Count one more free value drawn (DESIGN CHOICE, log 4). -/
def State.draw (s : State) : State := { s with free := s.free + 1 }

/-- The clk of the present event within its bell (DESIGN CHOICE, log 4). -/
def State.clk (s : State) : Nat := (Config.clk s.free).toNat

/-! ### Towers -/

/-- The state of a Tower slot. -/
def State.tower (s : State) (g : Nat) : Tower := SMap.get (fun _ => Tower.init) s.towers g

/-- Replace the state of a Tower slot. -/
def State.setTower (s : State) (g : Nat) (t : Tower) : State :=
  { s with towers := SMap.set (fun _ => Tower.init) s.towers g t }

/-- Change the state of a Tower slot. -/
def State.modTower (s : State) (g : Nat) (f : Tower → Tower) : State := s.setTower g (f (s.tower g))

/-- One of the two streams. -/
def Tower.stream (t : Tower) : Stream → StreamState
  | .a => t.a
  | .x => t.x

/-- Replace one of the two streams. -/
def Tower.setStream (t : Tower) (st : Stream) (r : StreamState) : Tower :=
  match st with
  | .a => { t with a := r }
  | .x => { t with x := r }

/-- Change one stream of a Tower slot. -/
def State.modStream (s : State) (g : Nat) (st : Stream) (f : StreamState → StreamState) : State :=
  s.modTower g (fun t => t.setStream st (f (t.stream st)))

/-- Scalar register `r` of a stream: s0 reads as zero (R128). -/
def StreamState.sreg (r : StreamState) (n : Nat) : Word := if n = 0 then 0 else SMap.get (fun _ => 0) r.regs n

/-- Write scalar register `n`: a write to s0 is discarded (R128). -/
def StreamState.setSreg (r : StreamState) (n : Nat) (v : Word) : StreamState :=
  if n = 0 then r else { r with regs := SMap.set (fun _ => 0) r.regs n v }

/-- The Spire of a Tower slot. -/
def slotSpire (g : Nat) : Nat := g / 17

/-- The physical slot number within its Spire. -/
def slotPhys (g : Nat) : Nat := g % 17

/-- The slot that the cullet map gives logical Tower `t` of Spire `sp` (R14, R28). -/
def State.slotOf (s : State) (sp t : Nat) : Nat :=
  17 * sp + (if t < 8 then s.fld (Reg.sprTwrMapLo sp) (8 * t + 4) (8 * t)
    else s.fld (Reg.sprTwrMapHi sp) (8 * (t - 8) + 4) (8 * (t - 8)))

/-- The logical Tower that a slot serves, if the cullet map names it (R14, R16). -/
def State.logicalOf (s : State) (g : Nat) : Option Nat :=
  firstIdx (fun t => s.slotOf (slotSpire g) t = g) (List.range 16)

/-- The slots of a Tower set, by ascending logical index (R323). -/
def State.slotsOf (s : State) (sp : Nat) (set : BitVec 16) : List Nat :=
  (below 16 (fun t => set.getLsbD t)).map (s.slotOf sp)

/-! ### Rings, semaphores, descriptors -/

/-- Ring `r` of Spire `sp`. -/
def State.ring (s : State) (sp r : Nat) : Ring := SMap.get (fun _ => Ring.init) s.rings (16 * sp + r)

/-- Replace a ring. -/
def State.setRing (s : State) (sp r : Nat) (q : Ring) : State :=
  { s with rings := SMap.set (fun _ => Ring.init) s.rings (16 * sp + r) q }

/-- The runner `k`. -/
def State.runq (s : State) (k : Nat) : RunQ := SMap.get (fun _ => RunQ.init) s.runs k

/-- Replace a runner. -/
def State.setRunq (s : State) (k : Nat) (q : RunQ) : State :=
  { s with runs := SMap.set (fun _ => RunQ.init) s.runs k q }

/-- The runner of a ring, and of a bell-table entry. -/
def ringKey (sp r : Nat) : Nat := 16 * sp + r
def entryKey (sp e : Nat) : Nat := 64 + 1024 * sp + e

/-- The runner of a command. -/
def runKey (o : Origin) : Nat :=
  match o.entry with
  | some e => entryKey o.spire.val e.val
  | none => ringKey o.spire.val o.ring.val

/-- The instances of entry `e` of Spire `sp`, oldest first. -/
def State.instances (s : State) (sp e : Nat) : List Instance := SMap.get (fun _ => []) s.insts (1024 * sp + e)

/-- Replace the instances of an entry. -/
def State.setInstances (s : State) (sp e : Nat) (l : List Instance) : State :=
  { s with insts := SMap.set (fun _ => []) s.insts (1024 * sp + e) l }

/-- Change the instance of an entry that runs: the oldest one that has started. -/
def State.modInstance (s : State) (sp e : Nat) (f : Instance → Instance) : State :=
  match s.instances sp e with
  | i :: rest => if i.started then s.setInstances sp e (f i :: rest) else s
  | [] => s

/-- Semaphore `n` of Spire `sp`. -/
def State.sem (s : State) (sp n : Nat) : Sem := SMap.get (fun _ => Sem.init) s.sems (4096 * sp + n)

/-- Replace a semaphore. -/
def State.setSem (s : State) (sp n : Nat) (v : Sem) : State :=
  { s with sems := SMap.set (fun _ => Sem.init) s.sems (4096 * sp + n) v }

/-- Descriptor entry `i` of Spire `sp`. -/
def State.desc (s : State) (sp i : Nat) : DescEntry := SMap.get (fun _ => DescEntry.init) s.descs (16384 * sp + i)

/-- Replace a descriptor entry. -/
def State.setDesc (s : State) (sp i : Nat) (e : DescEntry) : State :=
  { s with descs := SMap.set (fun _ => DescEntry.init) s.descs (16384 * sp + i) e }

/-- SEAL command `k` of a Spire. -/
def State.seal (s : State) (sp k : Nat) : Option SealOp := SMap.get (fun _ => none) s.seals (16 * sp + k)

/-- Replace it. -/
def State.setSeal (s : State) (sp k : Nat) (c : Option SealOp) : State :=
  { s with seals := SMap.set (fun _ => none) s.seals (16 * sp + k) c }

/-- Whether a running sealed sequence holds a Tower slot (R357; DEDUCED, log 48). -/
def State.sealHolds (s : State) (slot : Nat) : Bool :=
  s.seals.any (fun e => match e.2 with
    | some c => c.phase = .running && (s.slotsOf (e.1 / 16) c.g.towers).contains slot
    | none => false)

/-! ### Sources (R17) -/

/-- SOURCE of a unit of a Tower slot: 0 A, 1 X, 2 memory and loader, 3 array, 4 Marver, 5 Tracery. -/
def srcTower (g unit : Nat) : Nat := slotSpire g * 0x1000 + 0x800 + unit * 32 + slotPhys g

/-- SOURCE of a Spire block: class and instance. -/
def srcSpire (sp cls inst : Nat) : Nat := sp * 0x1000 + cls * 0x100 + inst

/-- SOURCE of a Keystone block. -/
def srcKey (cls inst : Nat) : Nat := 0x4000 + cls * 0x100 + inst

/-- The requester field of a control access (R17, R28). -/
def actorSource : Actor → Nat
  | .companion => 0x4600
  | .keystone => 0x4000
  | .spire s => srcSpire s.val 0 0
  | .management => 0x4700

/-- The unit number of a stream (R17). -/
def streamUnit : Stream → Nat
  | .a => 0
  | .x => 1

/-! ### Carillon sources (R383 to R385) -/

/-- The number of a Carillon: 0 to 3 for the Spires, 4 for the Keystone. -/
def carNum : Option (Fin 4) → Nat
  | some s => s.val
  | none => 4

/-- Set PENDING of a source, as a hardware event does (R383, R385). -/
def State.raise (s : State) (car n : Nat) : State :=
  let a := Reg.carPendSet car (n / 64)
  s.setReg a (s.reg a ||| 1 <<< (n % 64))

/-! ### Fault records (R8) -/

/-- A 32-byte fault record; `flags` gives LOST (bit 6) and POSTED (bit 5) beside VALID. -/
def faultRecord (f : FaultInfo) (flags bell clk : Nat) : List Byte :=
  leBytes 1 f.code ++ leBytes 1 (0x80 + flags) ++ leBytes 2 f.source ++ leBytes 8 bell ++ leBytes 4 clk ++
    (f.detail ++ List.replicate 16 0).take 16

/-- Whether a record from a source has been dropped since the last one written from it (R8). -/
def State.hasLost (s : State) (src : Nat) : Bool := SMap.get (fun _ => false) s.lostFrom src

/-- A record from a source is dropped, or the next one has been written (R8). -/
def State.setLost (s : State) (src : Nat) (v : Bool) : State :=
  { s with lostFrom := SMap.set (fun _ => false) s.lostFrom src v }

/-- The record of a fault: the bell is that in which it occurred (R8); its CLK is free (DESIGN CHOICE, log 4). -/
def State.record (s : State) (f : FaultInfo) (flags : Nat) : List Byte :=
  faultRecord f (flags ||| ofBool (s.hasLost f.source) * 64) (f.bell.getD s.bellNum) s.clk

/-- A record of the fault has been written: LOST of its source is told, and the free value of CLK drawn. -/
def State.wrote (s : State) (f : FaultInfo) : State := (if s.hasLost f.source then s.setLost f.source false else s).draw

/-- Deliver a record to a Spire controller: Carillon source 53 (R384). -/
def State.toSpire (s : State) (sp : Nat) (r : List Byte) : State :=
  let old := SMap.get (fun _ => []) s.faultsSpire sp
  ({ s with faultsSpire := SMap.set (fun _ => []) s.faultsSpire sp (old ++ [r]) } : State).raise sp 53

/-- Deliver a record to the Keystone controller: Keystone Carillon source 15, or 16 + s for a record that comes from
Spire s (R384) (DEDUCED, log 75). -/
def State.toKey (s : State) (r : List Byte) : State :=
  let die := field r 3 2 / 0x1000
  ({ s with faultsKey := s.faultsKey ++ [r] } : State).raise 4 (if die < 4 then 16 + die else 15)

/-- Report a fault to a Spire controller. -/
def State.faultToSpire (s : State) (sp : Nat) (f : FaultInfo) : State := (s.toSpire sp (s.record f 0)).wrote f

/-- Report a fault to the Keystone controller. -/
def State.faultToKey (s : State) (f : FaultInfo) : State := (s.toKey (s.record f 0)).wrote f

/-- The fault codes of R9. -/
def F_ILLEGAL : Nat := 0x01
def F_ALIGN : Nat := 0x02
def F_WINDOW : Nat := 0x03
def F_DESC : Nat := 0x04
def F_BANK_OFF : Nat := 0x05
def F_ROW : Nat := 0x06
def F_TILE_FMT : Nat := 0x10
def F_TILE_EMPTY : Nat := 0x11
def F_QUEUE_OVF : Nat := 0x12
def F_ACC_SAT : Nat := 0x13
def F_CHECKSUM : Nat := 0x14
def F_POISON : Nat := 0x15
def F_WAIT_TIMEOUT : Nat := 0x20
def F_DEADLINE : Nat := 0x21
def F_IM_BUSY : Nat := 0x22
def F_CREDIT : Nat := 0x23
def F_KEY_MISMATCH : Nat := 0x30
def F_LEVEL : Nat := 0x31
def F_PARAM : Nat := 0x32
def F_SESSION : Nat := 0x33
def F_KEY_ABSENT : Nat := 0x34
def F_KEY_DIGEST : Nat := 0x35
def F_MEM_UE : Nat := 0x40
def F_LINK : Nat := 0x41
def F_STACK_ORDER : Nat := 0x50

/-- Send a message on a Buttress port. -/
def State.send (s : State) (m : LinkMsg) : State := { s with sent := s.sent ++ [m] }

/-! ### Decode errors (R27, R30) -/

/-- The decode-error register of a die: SPR_DECODE_ERR of a Spire, KEY_DECODE_ERR of the Keystone. -/
def decodeErrReg : Option (Fin 4) → Nat
  | some s => Reg.sprDecodeErr s.val
  | none => Reg.keyDecodeErr

/-- Record a refused control access: the first is held, later ones set OVERRUN (R30). VALID becoming 1 raises Carillon
source 52, or 14 of the Keystone (R384). -/
def State.decodeErr (s : State) (die : Option (Fin 4)) (write : Bool) (req addr : Nat) : State :=
  let a := decodeErrReg die
  if bit (s.reg a) 63 then s.setReg a (s.reg a ||| 1 <<< 62)
  else
    (s.setReg a (1 <<< 63 + ofBool write <<< 61 + (req % 0x10000) <<< 36 + addr % 2 ^ 36)).raise (carNum die)
      (match die with | some _ => 52 | none => 14)

/-- The die that decodes a control address: its Spire's, or the Keystone's. An address that belongs to no die is the
Keystone's (R27; DESIGN CHOICE, log 95). -/
def dieOf (a : Nat) : Option (Fin 4) :=
  match blockOf a with
  | some (b, _) => blockSpire b
  | none => if inSpan a 0x1_0000_0000 0x4000_0000 then some (Fin.ofNat 4 ((a - 0x1_0000_0000) / 0x1000_0000)) else none

/-! ### The companion link (R396, R400, R413) -/

/-- F_LINK (R413). -/
def linkFault (src link port reason lanes peer acked : Nat) : FaultInfo :=
  { code := F_LINK, source := src,
    detail := leBytes 1 link ++ leBytes 1 port ++ leBytes 1 reason ++ leBytes 1 lanes ++ leBytes 2 peer ++
      leBytes 8 acked }

/-- UP of Alxis. -/
def State.alxUp (s : State) : Bool := bit (s.reg Reg.alxStatus) 0

/-- Lanes of a WIDTH code, and the code of the widest width that `n` lanes carry (R396). -/
def alxLanes (code : Nat) : Nat := if code = 0 then 32 else if code = 1 then 16 else 8
def alxCode (n : Nat) : Nat := if 32 ≤ n then 0 else if 16 ≤ n then 1 else 2

/-- F_LINK of Alxis, with the bytes moved. -/
def State.alxFault (s : State) (reason done : Nat) : FaultInfo :=
  linkFault 0x4600 0 0xFF reason (alxLanes (s.fld Reg.alxStatus 7 6)) 0xFFFF done

/-- The fault of a command's access to companion memory while the link is down (R400) (DEDUCED, log 73). -/
def State.alxCut (s : State) : FaultInfo := (s.alxFault 0x02 0).met s.bellNum

end Sys2Proof.Machine
end

