-- ==== Sys2Proof/Machine/Access.lean ====
section
/-!
DEFINITION. Which control accesses are refused (R12, R16, R27, R101, R286, R308, R388, R442), and what a refusal leaves
(R27, R30).
-/
namespace Sys2Proof.Machine

/-- Whether only some requesters reach a block's register at an offset, and this one does not; `write` tells a write
from a read. The Keystone controller alone writes the fuse bank, the power controller and the cullet map (R12),
SPR_PSET_BASE (R286), BLP_MAP (R308), the band table (R24) and the session table (R12, R287), and alone reaches the
registers of R442. -/
def ownerRefuses (actor : Actor) (b : Block) (off : Nat) (write : Bool) : Bool :=
  match b with
  | .keyCtl => write && off = 0x420 && actor ≠ .keystone
  | .fuse => (write || off = 0x200 || off = 0x208) && actor ≠ .keystone
  | .pke _ => actor ≠ .keystone
  | .pwr => write && actor ≠ .keystone
  | .alx => inSpan off 0x200 0x40 && actor ≠ .keystone
  | .spr s => write && ((off = 0x80 && actor ≠ .spire s) || (off = 0x4000 && actor ≠ .keystone))
  | .blp _ => write && off < 0x10 && actor ≠ .keystone
  | .hbm _ => write && (off = 0x8000 || off = 0x8008) && actor ≠ .keystone
  | .sess => write && off < 0x40_0000 && actor ≠ .keystone
  | .car s => inSpan off 0x3000 0xC0 && off % 0x40 < 0x10 &&
      actor ≠ (if off < 0x3040 then .spire s else if off < 0x3080 then .keystone else .companion)
  | .carK => inSpan off 0x3040 0x80 && off % 0x40 < 0x10 && actor ≠ (if off < 0x3080 then .keystone else .companion)
  | _ => false

/-- Whether a requester is shut out of the block of a slot that the cullet map does not assign (R16). -/
def State.slotRefuses (s : State) (actor : Actor) (b : Block) : Bool :=
  match b with
  | .twr g => (s.logicalOf g.val).isNone && actor ≠ .keystone && actor ≠ .spire (Fin.ofNat 4 (g.val / 17))
  | _ => false

/-- Whether a control access is refused: no register there, a block not opened to the companion's writes (R27), or a
register that the requester may not reach. The companion's claim reads need the block opened too (R388). -/
def State.refuses (s : State) (actor : Actor) (a : Nat) (write : Bool) : Bool :=
  match findReg a with
  | none => true
  | some (b, off, _) =>
    let claim := match b with
      | .car _ => off = 0x3080
      | .carK => off = 0x3080
      | _ => false
    ((write || claim) && actor = .companion && !s.opened.contains b) || s.slotRefuses actor b ||
      ownerRefuses actor b off write

/-- The state after a refused access: it is recorded by the die that decodes it (R27, R30). -/
def State.refuse (s : State) (actor : Actor) (a : Nat) (write : Bool) : State :=
  s.decodeErr (dieOf a) write (actorSource actor) a

/-- Make a control write, or record its refusal. While SYS_RST_N is low nothing takes it (R469). -/
def State.guarded (s : State) (actor : Actor) (a : Nat) (k : State → State) : State :=
  if s.power.rstLow then s
  else if s.refuses actor a true then s.refuse actor a true else k s

end Sys2Proof.Machine
end

