-- ==== Sys2Proof/Machine/Fp.lean ====
section
/-!
DEFINITION. Floating numbers of the Marver and the ACC42 accumulator (R51 to R57, R193, R222): exact values, one rounding.
A format is given by its count of mantissa bits: 23 for FP32, 7 for BF16; both have 8 exponent bits.
-/
namespace Sys2Proof.Machine

/-! ### Rounding to nearest, ties to even -/

/-- n / 2^k rounded to nearest, ties to even. -/
def rneShift (n k : Nat) : Nat :=
  let q := n >>> k
  let r := n % 2 ^ k
  if 2 ^ k < 2 * r || (2 * r = 2 ^ k && k ≠ 0 && q % 2 = 1) then q + 1 else q

/-- m · 2^e rounded to an integer, ties to even. -/
def rneScale (m : Nat) (e : Int) : Nat := if 0 ≤ e then m <<< e.toNat else rneShift m (-e).toNat

/-- The integer square root by Newton's steps, with fuel. -/
def isqrtGo : Nat → Nat → Nat → Nat
  | 0, _, x => x
  | k + 1, n, x =>
    let y := (x + n / x) / 2
    if x ≤ y then x else isqrtGo k n y

/-- The integer square root. -/
def isqrt (n : Nat) : Nat := if n = 0 then 0 else isqrtGo 600 n (2 ^ (n.log2 / 2 + 1))

/-! ### Values -/

/-- A value of a floating format: `fin neg m e` is ±m · 2^e. -/
inductive Num
  | nan
  | inf (neg : Bool)
  | fin (neg : Bool) (m : Nat) (e : Int)
  deriving DecidableEq, Repr

/-- The value of a code. -/
def Num.decode (mb v : Nat) : Num :=
  let neg := bit v (8 + mb)
  let ex := bits v (mb + 7) mb
  let fr := v % 2 ^ mb
  if ex = 255 then (if fr = 0 then .inf neg else .nan)
  else if ex = 0 then .fin neg fr (-126 - (mb : Int))
  else .fin neg (2 ^ mb + fr) ((ex : Int) - 127 - mb)

/-- The magnitude code of m · 2^e rounded to a format, and whether the rounding overflows. -/
def roundCode (mb m : Nat) (e : Int) : Nat × Bool :=
  if m = 0 then (0, false)
  else
    let q : Int := max (e + m.log2 - mb) (-126 - (mb : Int))
    let sig := rneScale m (e - q)
    let (sig, q) := if sig = 2 ^ (mb + 1) then (2 ^ mb, q + 1) else (sig, q)
    let ex : Int := if sig < 2 ^ mb then 0 else q + mb + 127
    if 255 ≤ ex then (255 <<< mb, true) else (ex.toNat <<< mb + sig % 2 ^ mb, false)

/-- The sign bit of a format. -/
def signBit (mb : Nat) (neg : Bool) : Nat := ofBool neg <<< (8 + mb)

/-- A quiet NaN, whose sign and payload the spec leaves open (DESIGN CHOICE, log 15). -/
def nanCode (mb seed : Nat) : Nat :=
  let p := (Config.nanPayload seed).toNat
  signBit mb (bit p 22) + 255 <<< mb + 2 ^ (mb - 1) + p % 2 ^ (mb - 1)

/-- The code of a value: overflow gives an infinity (R193, R222). -/
def Num.encode (mb seed : Nat) : Num → Nat
  | .nan => nanCode mb seed
  | .inf neg => signBit mb neg + 255 <<< mb
  | .fin neg m e => signBit mb neg + (roundCode mb m e).1

/-- The largest finite magnitude code. -/
def maxCode (mb : Nat) : Nat := 255 <<< mb - 1

/-- The code under R57: overflow gives the largest finite value, and counts. -/
def Num.encodeSat (mb : Nat) (neg : Bool) (m : Nat) (e : Int) : Nat × Bool :=
  let (c, ovf) := roundCode mb m e
  (signBit mb neg + (if ovf then maxCode mb else c), ovf)

/-- The poisoned value of a format (R57): 0x7FE0_0000 or 0x7FE0. -/
def poisonCode (mb : Nat) : Nat := 0x7FE0_0000 >>> (23 - mb)

/-! ### Arithmetic -/

/-- A finite value's signed significand. -/
def sgn (neg : Bool) (m : Nat) : Int := if neg then -(m : Int) else (m : Int)

/-- The exact sum of two dyadic numbers. -/
def dyAdd (a b : Int × Int) : Int × Int :=
  let e := min a.2 b.2
  (a.1 * (2 ^ (a.2 - e).toNat : Nat) + b.1 * (2 ^ (b.2 - e).toNat : Nat), e)

/-- The sum of two finite values; a zero sum is negative only when both are (IEEE 754). -/
def finAdd (n1 : Bool) (m1 : Nat) (e1 : Int) (n2 : Bool) (m2 : Nat) (e2 : Int) : Num :=
  let s := dyAdd (sgn n1 m1, e1) (sgn n2 m2, e2)
  if s.1 = 0 then .fin (n1 && n2) 0 s.2 else .fin (decide (s.1 < 0)) s.1.natAbs s.2

/-- Addition. -/
def Num.add : Num → Num → Num
  | .nan, _ => .nan
  | _, .nan => .nan
  | .inf a, .inf b => if a = b then .inf a else .nan
  | .inf a, .fin _ _ _ => .inf a
  | .fin _ _ _, .inf b => .inf b
  | .fin a m e, .fin b n f => finAdd a m e b n f

/-- Negation of every value but NaN. -/
def Num.neg : Num → Num
  | .nan => .nan
  | .inf a => .inf (!a)
  | .fin a m e => .fin (!a) m e

/-- Multiplication, exact. -/
def Num.mul : Num → Num → Num
  | .nan, _ => .nan
  | _, .nan => .nan
  | .inf a, .inf b => .inf (a != b)
  | .inf a, .fin b n _ => if n = 0 then .nan else .inf (a != b)
  | .fin a m _, .inf b => if m = 0 then .nan else .inf (a != b)
  | .fin a m e, .fin b n f => .fin (a != b) (m * n) (e + f)

/-- a × b + c, to be rounded once. -/
def Num.fma (a b c : Num) : Num := (a.mul b).add c

/-- Whether the first of two values that are no NaN is less; -0 is less than +0, as minimumNumber takes it. -/
def Num.lt : Num → Num → Bool
  | .inf a, .inf b => a && !b
  | .inf a, .fin _ _ _ => a
  | .fin _ _ _, .inf b => !b
  | .fin a m e, .fin b n f =>
    let s := dyAdd (sgn a m, e) (-(sgn b n), f)
    s.1 < 0 || (s.1 = 0 && m = 0 && a && !b)
  | _, _ => false

/-- IEEE 754-2019 minimumNumber. -/
def Num.minNum : Num → Num → Num
  | .nan, b => b
  | a, .nan => a
  | a, b => if b.lt a then b else a

/-- IEEE 754-2019 maximumNumber. -/
def Num.maxNum : Num → Num → Num
  | .nan, b => b
  | a, .nan => a
  | a, b => if a.lt b then b else a

/-- Greater than zero. -/
def Num.positive : Num → Bool
  | .inf a => !a
  | .fin a m _ => !a && m ≠ 0
  | .nan => false

/-- An integer as a value. -/
def Num.ofInt (i : Int) : Num := .fin (decide (i < 0)) i.natAbs 0

/-- Conversion to a `w`-bit integer (R193): to nearest, ties to even, saturating; NaN gives 0. -/
def Num.toInt (w : Nat) : Num → Int
  | .nan => 0
  | .inf a => if a then -(2 ^ (w - 1) : Nat) else (2 ^ (w - 1) : Nat) - 1
  | .fin a m e =>
    let lo : Int := -(2 ^ (w - 1) : Nat)
    let hi : Int := (2 ^ (w - 1) : Nat) - 1
    let big : Bool := (w : Int) < e + m.log2
    let v : Int := if big && m ≠ 0 then (2 ^ w : Nat) else (rneScale m e : Int)
    max lo (min hi (if a then -v else v))

/-! ### EXP2, LOG2, RSQRT, RECIP (R222; DESIGN CHOICE, log 16) -/

/-- 2^f for the fraction bits of `f`, most significant first: a product of the roots 2^(1/2), 2^(1/4), ..., with 160
fraction bits. -/
def exp2Go : Nat → Nat → Nat → Nat → Nat
  | 0, _, _, acc => acc
  | k + 1, root, f, acc =>
    let r := isqrt (root <<< 160)
    exp2Go k r f (if f.testBit k then (acc * r) >>> 160 else acc)

/-- 2^x for a finite x, as m · 2^e, exact to far more bits than a format has. -/
def exp2Fin (neg : Bool) (m : Nat) (e : Int) : Nat × Int :=
  let v : Int := sgn neg m
  if m ≠ 0 && 20 < e + m.log2 then (1, if neg then -1000 else 1000)
  else
    let s : Int := if 0 ≤ e + 96 then v * (2 ^ (e + 96).toNat : Nat) else v / (2 ^ (-(e + 96)).toNat : Nat)
    let n := s / (2 ^ 96 : Nat)
    let f := (s % (2 ^ 96 : Nat)).toNat
    (exp2Go 96 (2 <<< 160) f (1 <<< 160), n - 160)

/-- The fraction bits of log2 y for y in [1, 2) with 160 fraction bits. -/
def log2Go : Nat → Nat → Nat → Nat
  | 0, _, acc => acc
  | k + 1, y, acc =>
    let y2 := (y * y) >>> 160
    if 2 ^ 161 ≤ y2 then log2Go k (y2 >>> 1) (2 * acc + 1) else log2Go k y2 (2 * acc)

/-- log2 of m · 2^e, m > 0, as an integer over 2^112. -/
def log2Fin (m : Nat) (e : Int) : Int :=
  let l := m.log2
  let y := if l ≤ 160 then m <<< (160 - l) else m >>> (l - 160)
  (e + l) * (2 ^ 112 : Nat) + (log2Go 112 y 0 : Nat)

/-- 1 / (m · 2^e) with a sticky last bit. -/
def recipFin (m : Nat) (e : Int) : Nat × Int :=
  (2 * (2 ^ 256 / m) + ofBool (2 ^ 256 % m ≠ 0), -257 - e)

/-- 1 / √(m · 2^e) with a sticky last bit. -/
def rsqrtFin (m : Nat) (e : Int) : Nat × Int :=
  let (m, e) := if e % 2 = 0 then (m, e) else (2 * m, e - 1)
  let q := isqrt (2 ^ 512 / m)
  (2 * q + ofBool (q * q * m ≠ 2 ^ 512), -257 - e / 2)

/-- A result within 2 units in the last place of the correctly rounded one (R222): which one, the spec leaves to the
device, so the distance is free (DESIGN CHOICE, log 16). -/
def ulpCode (mb op operand : Nat) (neg : Bool) (m : Nat) (e : Int) : Nat :=
  let (c, ovf) := roundCode mb m e
  if ovf then signBit mb neg + c
  else signBit mb neg + min (maxCode mb) (c + (Config.ulpStep op (BitVec.ofNat 32 operand)).val - 2)

/-- The four functions by their OPC: 0xA EXP2, 0xB LOG2, 0xC RSQRT, 0xD RECIP. -/
def fun1 (mb op seed operand : Nat) : Nat :=
  let free := (Config.unstated op operand).toNat % 2 ^ (mb + 9)
  match op, Num.decode mb operand with
  | _, .nan => nanCode mb seed
  | 0xA, .inf neg => if neg then 0 else 255 <<< mb
  | 0xA, .fin neg m e => let (r, q) := exp2Fin neg m e; ulpCode mb op operand false r q
  | 0xB, .inf neg => if neg then nanCode mb seed else 255 <<< mb
  | 0xB, .fin neg m e =>
    if m = 0 then (if neg then free else signBit mb true + 255 <<< mb)
    else if neg then nanCode mb seed
    else
      let l := log2Fin m e
      if l = 0 then ulpCode mb op operand false 0 0 else ulpCode mb op operand (decide (l < 0)) l.natAbs (-112)
  | 0xC, .inf neg => if neg then free else 0
  | 0xC, .fin neg m e =>
    if neg then free else if m = 0 then 255 <<< mb
    else let (r, q) := rsqrtFin m e; ulpCode mb op operand false r q
  | _, .inf neg => signBit mb neg
  | _, .fin neg m e =>
    if m = 0 then signBit mb neg + 255 <<< mb
    else let (r, q) := recipFin m e; ulpCode mb op operand neg r q

/-! ### ACC42 (R51 to R54) -/

/-- The value of an ACC42 code as a signed significand and an exponent (R51). -/
def accVal (v : Nat) : Int × Int :=
  let ex := bits v 40 32
  if ex = 0 then (0, 0) else (sgn (bit v 41) (v % 2 ^ 32), (ex : Int) - 287)

/-- The ACC42 code of an exact value rounded once, and whether it overflowed (R52, R54). -/
def accOf (x : Int × Int) : Nat × Bool :=
  let m := x.1.natAbs
  let s := if x.1 < 0 then 2 ^ 41 else 0
  if m = 0 then (0, false)
  else
    let q : Int := x.2 + m.log2 - 31
    let sig := rneScale m (x.2 - q)
    let (sig, q) := if sig = 2 ^ 32 then (2 ^ 31, q + 1) else (sig, q)
    let ex : Int := q + 287
    if 511 < ex then (s + 511 <<< 32 + (2 ^ 32 - 1), true)
    else if ex < 1 then (0, false)
    else (s + ex.toNat <<< 32 + sig, false)

/-- One addition into an ACC42 value (R52). -/
def accAdd (v : Nat) (x : Int × Int) : Nat × Bool := accOf (dyAdd (accVal v) x)

/-- An ACC42 value as a number. -/
def accNum (v : Nat) : Num :=
  let x := accVal v
  .fin (decide (x.1 < 0)) x.1.natAbs x.2

/-- An ACC42 value in FP32 or BF16 (R57): the code, and whether it saturated. -/
def accToFp (mb v : Nat) : Nat × Bool :=
  let x := accVal v
  Num.encodeSat mb (decide (x.1 < 0)) x.1.natAbs x.2

/-- An ACC42 value received in an interchange word: renormalised exactly (R51). -/
def accCanon (v : Nat) : Nat := if bits v 40 32 = 0 then 0 else (accOf (accVal v)).1

end Sys2Proof.Machine
end

