-- ==== Sys2Proof/Machine/Block.lean ====
section
/-!
DEFINITION. Block records, panes, the block quantiser and the import of MX data (R33 to R50, R58, R59). Formats have the
codes of R75: 0 H4I, 1 H4F, 2 H3I, 3 H2T, 4 H8I, 8 W32, 9 BF16, 0xA FP32, 0xC MXFP4, 0xD MXINT8.
-/
namespace Sys2Proof.Machine

/-! ### Formats -/

def isBlockFmt (f : Nat) : Bool := f ≤ 4
def isMxFmt (f : Nat) : Bool := f = 0xC || f = 0xD
/-- W32, BF16 or FP32. -/
def isPlainFmt (f : Nat) : Bool := f = 8 || f = 9 || f = 0xA
def fmtReserved (f : Nat) : Bool := !(isBlockFmt f || isMxFmt f || isPlainFmt f)

/-- Bits of an element code (R35). -/
def codeBits (f : Nat) : Nat := match f with | 2 => 3 | 3 => 2 | 4 => 8 | _ => 4
/-- Payload bytes of a block. -/
def payloadSize (f : Nat) : Nat := 8 * codeBits f
/-- Record size and records per pane (R38). -/
def recSize (f : Nat) : Nat := payloadSize f + 2
def perPane (f : Nat) : Nat := match f with | 2 => 19 | 3 => 28 | 4 => 7 | _ => 15
/-- Bytes of an element of W32, BF16 or FP32. -/
def elemBytes (f : Nat) : Nat := if f = 9 then 2 else 4
/-- Elements of a tile row at most (R138). -/
def tagMax (f : Nat) : Nat := match f with | 4 => 256 | 8 => 64 | 9 => 128 | 0xA => 64 | _ => 512
/-- Tags that a tile can have (R138, R142). -/
def tagOk (f : Nat) : Bool := isBlockFmt f || isPlainFmt f

/-! ### Elements -/

/-- The element codes of a payload (R36). -/
def payloadCodes (f : Nat) (p : List Byte) : List Nat :=
  let v := leNat p
  (List.range 64).map (fun k => v >>> (codeBits f * k) % 2 ^ codeBits f)

/-- A payload from its element codes. -/
def codesPayload (f : Nat) (cs : List Nat) : List Byte := leBytes (payloadSize f) (packFields8 (codeBits f) cs)
where
  packFields8 (w : Nat) : List Nat → Nat
    | [] => 0
    | c :: t => c % 2 ^ w + packFields8 w t <<< w

/-- The cell values of the magnitude codes of H4F (R35). -/
def fp4Cells : List Nat := [0, 1, 2, 3, 4, 6, 8, 12]

/-- The cell value of an element code (R35, R37). -/
def cellVal (f c : Nat) : Int :=
  if f = 1 then sgn (bit c 3) (fp4Cells.getD (c % 8) 0)
  else if f = 3 then (match c % 4 with | 1 => 1 | 3 => -1 | _ => 0)
  else toSigned (codeBits f) c

/-- A block as the array sees it: scale byte, guard byte, format of its codes, and cell values. -/
structure Blk where
  scale : Nat
  guard : Nat
  cells : List Int
  /-- f of R34: 1 for an H4F block that is not promoted. -/
  half : Nat
  deriving DecidableEq, Repr

def Blk.poisoned (b : Blk) : Bool := b.scale = 255
def Blk.zero (b : Blk) : Bool := bit b.guard 6
def guardP (g : Nat) : Bool := bit g 7
def guardZ (g : Nat) : Bool := bit g 6

/-- The exponent that a block's scale gives (R34). -/
def Blk.exp (b : Blk) : Int := (b.scale : Int) - 127 - b.half

/-- The block of a record: its header, its payload, and the H8I payload when it is promoted. -/
def blkOf (f scale guard : Nat) (payload promoted : List Byte) : Blk :=
  let p := guardP guard && f < 4
  { scale := scale, guard := guard,
    cells := if p then (payloadCodes 4 promoted).map (cellVal 4) else (payloadCodes f payload).map (cellVal f),
    half := if f = 1 && !p then 1 else 0 }

/-- The exact block sum (R32, R45): the digit passes combine into the plain sum of products. -/
def blockSum (a b : List Int) : Int := (a.zipWith (· * ·) b).foldl (· + ·) 0

/-- The value of element k of a block as a number (R34). A poisoned block gives no value. -/
def Blk.num (b : Blk) (k : Nat) : Num :=
  if b.poisoned then .nan else if b.zero then .fin false 0 0
  else let v := b.cells.getD k 0; .fin (decide (v < 0)) v.natAbs b.exp

/-! ### Panes -/

/-- One byte into the CRC-8 of R41. -/
def crc8Step (c : Nat) (b : Byte) : Nat :=
  (List.range 8).foldl (fun v _ => if 128 ≤ v then (2 * v) % 256 ^^^ 0x07 else 2 * v) (c ^^^ b.toNat)

/-- CRC-8 with polynomial 0x07, initial value 0, no reflection, no final XOR (R41). -/
def crc8 (bs : List Byte) : Nat := bs.foldl crc8Step 0

/-- A pane with its padding zero and its trailer computed: `recs` are its record bytes in order (R38, R39, R41). -/
def sealPane (seq : Nat) (recs : List Byte) : List Byte :=
  let body := (recs ++ List.replicate 510 0).take 510
  body ++ leBytes 1 (crc8 body) ++ leBytes 1 (seq % 256)

/-- Record j of a pane: bytes. -/
def paneRec (f : Nat) (pane : List Byte) (j : Nat) : List Byte := (pane.drop (j * recSize f)).take (recSize f)

/-- The records of a pane with record j replaced. -/
def setRec (f : Nat) (pane : List Byte) (j : Nat) (r : List Byte) : List Byte := patch pane (j * recSize f) r

/-! ### The quantiser (R58, R59) -/

/-- The largest code value of a format (R58). -/
def qmax (f : Nat) : Nat := match f with | 0 => 7 | 1 => 6 | 2 => 3 | 3 => 1 | _ => 127

/-- m · 2^e, in half units, rounded on the extended FP4 grid, ties to mantissa bit 0: the result in half units. -/
def fp4Round (m : Nat) (e : Int) : Nat :=
  if m = 0 then 0
  else
    let q : Int := max 0 (e + m.log2 - 1)
    rneScale m (e - q) <<< q.toNat

/-- The FP4 magnitude code of a grid value of at most 12 half units. -/
def fp4Code (h : Nat) : Nat := (firstIdx (· = h) fp4Cells).getD 0

/-- The code of one element x · 2^-e and whether it was clipped (R59). -/
def quantElem (f : Nat) (e : Int) (neg : Bool) (m : Nat) (x : Int) : Nat × Bool :=
  if f = 1 then
    let h := fp4Round m (x - e + 1)
    let c := fp4Code (min h 12)
    (if c = 0 then 0 else c + ofBool neg * 8, 12 < h)
  else
    let v : Int := sgn neg (rneScale m (x - e))
    let w := codeBits f
    let lo : Int := if f = 3 then -1 else -(2 ^ (w - 1) : Nat)
    let hi : Int := (qmax f : Int)
    let u := max lo (min hi v)
    (ofSigned w u, v ≠ u)

/-- The smallest e with m · 2^x ≤ q · 2^e, clamped to -127 to 127 (R59). -/
def quantExp (q m : Nat) (x : Int) : Int :=
  let k : Int := (q.log2 : Int) - m.log2
  let fits : Bool := if 0 ≤ k then m <<< k.toNat ≤ q else m ≤ q <<< (-k).toNat
  let k := if fits then k else k - 1
  max (-127) (min 127 (x - k))

/-- A record as quantised, before promotion is considered: poisoned, all zero, or its scale, codes and count. -/
structure QRec where
  scale : Nat
  guard : Nat
  codes : List Nat
  clipped : Nat
  deriving DecidableEq, Repr

/-- A magnitude list in descending order: insertion of one. -/
def insertMag (a : Nat × Int) : List (Nat × Int) → List (Nat × Int)
  | [] => [a]
  | b :: t => if (dyAdd ((a.1 : Int), a.2) (-(b.1 : Int), b.2)).1 ≤ 0 then b :: insertMag a t else a :: b :: t

/-- The magnitude of a finite value. -/
def magOf : Num → Nat × Int
  | .fin _ m e => (m, e)
  | _ => (0, 0)

/-- Quantise 64 values at a guard count, unpromoted (R59). -/
def quantise (f guard : Nat) (xs : List Num) : QRec :=
  if xs.any (fun x => match x with | .fin _ _ _ => false | _ => true) then
    { scale := 255, guard := 0, codes := List.replicate 64 0, clipped := 0 }
  else
    let mags := (xs.map magOf).foldl (fun l a => insertMag a l) []
    let m := mags.getD guard (0, 0)
    let m := if m.1 = 0 then mags.getD 0 (0, 0) else m
    if m.1 = 0 then { scale := 127, guard := 0x40, codes := List.replicate 64 0, clipped := 0 }
    else
      let e := quantExp (qmax f) m.1 m.2
      let cs := xs.map (fun x => match x with | .fin n v q => quantElem f e n v q | _ => (0, false))
      { scale := (e + 127).toNat, guard := min (cs.filter (·.2)).length 63, codes := cs.map (·.1),
        clipped := (cs.filter (·.2)).length }

/-- The last line of R59: a record that is not promoted and holds only zero codes is a Z block. -/
def QRec.settle (r : QRec) : QRec :=
  if r.scale ≠ 255 && r.codes.all (· = 0) then { r with scale := 127, guard := r.guard % 64 + 0x40 } else r

/-! ### Import of MX data (R48, R49) -/

/-- One half of an MXFP4 block: codes scaled down by 2^d, and how many were altered. -/
def mxFp4Half (d : Nat) (cs : List Nat) : List Nat × Nat :=
  let out := cs.map (fun c =>
    let h := fp4Round (fp4Cells.getD (c % 8) 0) (-(d : Int))
    let k := fp4Code h
    if k = 0 then 0 else k + c / 8 % 2 * 8)
  (out, ((out.zip cs).filter (fun p => p.1 ≠ p.2)).length)

/-- One half of an MXINT8 block. -/
def mxInt8Half (d : Nat) (cs : List Nat) : List Nat × Nat :=
  let out := cs.map (fun c => let i := toSigned 8 c; ofSigned 8 (sgn (decide (i < 0)) (rneShift i.natAbs d)))
  (out, ((out.zip cs).filter (fun p => p.1 ≠ p.2)).length)

/-- A block from two MX halves with scales X0 and X1 (R49): MXFP4 (0xC) into H4F, MXINT8 (0xD) into H8I. -/
def mxImport (f x0 x1 : Nat) (c0 c1 : List Nat) : QRec :=
  if x0 = 255 || x1 = 255 then { scale := 255, guard := 0, codes := List.replicate 64 0, clipped := 0 }
  else
    let s := if f = 0xC then max x0 x1 else max x0 x1 - 6
    let (a, n) := if f = 0xC then mxFp4Half (s - x0) c0 else mxInt8Half (s + 6 - x0) c0
    let (b, k) := if f = 0xC then mxFp4Half (s - x1) c1 else mxInt8Half (s + 6 - x1) c1
    let codes := a ++ b
    { scale := s, guard := min (n + k) 63 + ofBool (codes.all (· = 0)) * 0x40, codes := codes, clipped := n + k }

end Sys2Proof.Machine
end

