-- ==== Sys2Proof/Machine/SemOps.lean ====
section
/-!
DEFINITION. Posting to semaphores (R331, R333, R335).
-/
namespace Sys2Proof.Machine

/-- Whether Spire `sp` is retired (R452): KEY_CULLET_POOL2.SPIRES. -/
def State.spireRetired (s : State) (sp : Nat) : Bool := bit (s.reg Reg.keyCulletPool2) (18 + sp)

/-- F_QUEUE_OVF with reason SEM_OVERFLOW (R333) (DEDUCED, log 65). -/
def semOverflow (sp n count k source : Nat) : FaultInfo :=
  { code := F_QUEUE_OVF, source := srcSpire sp 2 0,
    detail := leBytes 2 n ++ leBytes 2 count ++ leBytes 2 k ++ leBytes 2 source }

/-- POST(k) to semaphore `n` of Spire `sp` (R331): refused whole when the count would pass 65,535 (R333)
(DEDUCED, log 65). -/
def State.postSem (s : State) (sp n k source : Nat) (remote : Bool) : State × Option FaultInfo :=
  let m := s.sem sp n
  if k = 0 then (s, none)
  else if m.count + k > 65535 then
    (s.count (Reg.semOvfCnt sp) 1, some (semOverflow sp n m.count k source))
  else
    (s.setSem sp n { m with count := m.count + k, lastBell := s.bellNum, lastSource := source, lastRemote := remote },
      none)

/-- Whether semaphore window `w` is enabled and contains index `n`. -/
def State.semWindowHas (s : State) (sp w n : Nat) : Bool :=
  bit (s.reg (Reg.semWinCtl sp w)) 31 && s.fld (Reg.semWinRange sp w) 11 0 ≤ n &&
    n ≤ s.fld (Reg.semWinRange sp w) 27 16

/-- Whether semaphore window `w` permits source index `x`. -/
def State.semWindowSrc (s : State) (sp w x : Nat) : Bool := bit (s.reg (Reg.semWinCtl sp w)) x

/-- F_WINDOW of a refused remote post (R335). -/
def State.semWindowFault (s : State) (sp n k sender node : Nat) : FaultInfo :=
  let w := if s.spireRetired sp then none else firstIdx (fun w => s.semWindowHas sp w n) (List.range 16)
  { code := F_WINDOW, source := srcSpire sp 2 0,
    detail := leBytes 1 (match w with | some _ => 0x05 | none => 0x04) ++
      leBytes 1 (match w with | some w => w | none => 0xFF) ++ leBytes 2 sender ++ leBytes 2 node ++ leBytes 2 n ++
      leBytes 2 k }

/-- A remote post from source index `x` (R335): it must fall in an enabled window that permits the source. A refusal
also reports to the Spire controller. A retired Spire refuses every post (R452). -/
def State.postRemote (s : State) (sp x sender node n k : Nat) : State × Option FaultInfo :=
  if !s.spireRetired sp && (List.range 16).any (fun w => s.semWindowHas sp w n && s.semWindowSrc sp w x) then
    s.postSem sp n k sender true
  else
    let f := s.semWindowFault sp n k sender node
    ((s.count (Reg.semWinDrop sp) 1).faultToSpire sp f, some f)

/-- A post made on Spire `from` to semaphore `n` of Spire `sp` by the block `sender`: local posts pass no window
(DEDUCED, log 65). -/
def State.postFrom (s : State) (frm sp sender n k : Nat) : State × Option FaultInfo :=
  if frm = sp then s.postSem sp n k sender false else s.postRemote sp frm sender 0xFFFF n k

/-- The timeout of a wait in bells: its own, or the semaphore's TIMEOUT, where 0 acts as 2 (R334). -/
def State.semTimeout (s : State) (sp n own : Nat) : Nat :=
  if own ≠ 0 then own
  else if s.fld (Reg.semCfg sp n) 7 0 = 0 then 2 else s.fld (Reg.semCfg sp n) 7 0

/-- WAIT(k) (R331): served at once when the count suffices and nobody waits; otherwise the waiter joins the FIFO. -/
def State.waitSem (s : State) (sp n k own source : Nat) (who : WaiterId) : State × Bool :=
  let m := s.sem sp n
  if m.waiters = [] && k ≤ m.count then (s.setSem sp n { m with count := m.count - k }, true)
  else
    let w : Waiter := { who := who, source := source, want := k, since := s.bellNum, timeout := s.semTimeout sp n own }
    (s.setSem sp n { m with waiters := m.waiters ++ [w] }, false)

end Sys2Proof.Machine
end

