-- ==== Sys2Proof/Machine/Complete.lean ====
section
/-!
DEFINITION. How a command completes (R319 steps 5 and 6, R320, R327 to R329): the post, the completion record, the
interrupt, HALT_ON_FAULT, and the LIST it belongs to.
-/
namespace Sys2Proof.Machine

/-- A device write of bytes to a DPA in the companion aperture (R21); other addresses take nothing (DEDUCED, log 62). -/
def State.companionWrite (s : State) (a : Nat) (bs : List Byte) : State :=
  if 2 ^ 47 ≤ a then { s with companion := SMap.setRun (fun _ => 0) s.companion (a - 2 ^ 47) bs } else s

/-- A device read of companion memory at a DPA in the aperture. What a ring or line that lies elsewhere holds is not stated
(R311, R312; DEDUCED, log 62). -/
def State.companionRead (s : State) (a n : Nat) : List Byte :=
  if 2 ^ 47 ≤ a then SMap.getRun (fun _ => 0) s.companion (a - 2 ^ 47) n
  else (List.range n).map (fun i => Config.freeByte (a + i))

/-- Entries of a ring's completion ring (R327). -/
def State.compEntries (s : State) (sp r : Nat) : Nat := 2 ^ (s.fld (Reg.sprRingCfg sp r) 19 16 + 4)

/-- Write the entries of one completion (R327, R328): the extension entries, which follow the record's place, and then
the record, which takes PHASE from its position. `es` lists the extension entries first and the record last. INTR in the
record raises the ring's completion source (R318, R384). -/
def State.writeEntries (s : State) (sp r : Nat) (es : List (List Byte)) : State :=
  let q := s.ring sp r
  let n := s.compEntries sp r
  let base := s.reg (Reg.sprRingCompBase sp r)
  let exts := es.dropLast
  let rec_ := es.getLastD []
  let s := exts.zipIdx.foldl (fun (t : State) (e : List Byte × Nat) =>
    t.companionWrite (base + 32 * ((q.compPos + 1 + e.2) % n)) e.1) s
  let s := s.companionWrite (base + 32 * (q.compPos % n))
    (patch rec_ 1 (leBytes 1 (byteAt rec_ 1 + ((q.compPos / n + 1) % 2) * 32)))
  let s := s.setRing sp r { q with compPos := q.compPos + es.length }
  if bit (byteAt rec_ 1) 4 then s.raise sp r else s

/-- Whether a completion of `k` entries can be written (R328): Alxis is up (R400), nothing older is held, and `k` entries
are free (DEDUCED, log 73). -/
def State.compRoom (s : State) (sp r k : Nat) : Bool :=
  let q := s.ring sp r
  s.alxUp && q.held.isEmpty && q.compPos + k ≤ s.compEntries sp r + q.ccons

/-- Stop a ring (R329): Carillon source 16 + r (R384). -/
def State.stopRing (s : State) (sp r : Nat) : State :=
  (s.setRing sp r { s.ring sp r with stopped := true }).raise sp (16 + r)

/-- The instance of an entry in a bell has ended, well or not (R356). -/
def State.dropInstance (s : State) (sp e bell : Nat) (ok : Bool) : State :=
  let s := s.setInstances sp e ((s.instances sp e).filter (fun i => i.bell ≠ bell))
  { s with ended := SMap.set (fun _ => (0, false)) s.ended (1024 * sp + e) (bell, ok) }

/-- Write the entries of a completion, and what follows (R329, R356). -/
def State.writeRecord (s : State) (sp r : Nat) (fin : RecordEnd) (es : List (List Byte)) : State :=
  let s := s.writeEntries sp r es
  match fin with
  | .none => s
  | .stop => s.stopRing sp r
  | .entry e bell ok => s.dropInstance sp e bell ok

/-- Write a completion, or hold it until room appears (R328); `order` is its command's place in the order of starts, `fin` what
follows. -/
def State.putEntries (s : State) (sp r order : Nat) (fin : RecordEnd) (es : List (List Byte)) : State :=
  if s.compRoom sp r es.length then s.writeRecord sp r fin es
  else
    let q := s.ring sp r
    s.setRing sp r { q with held := q.held ++ [(order, fin, es)] }

/-- A completion record (R327) with PHASE 0. -/
def completionRecord (o : Origin) (opcode code bell : Nat) (fault : Bool) (exts : Nat) (result : List Byte) :
    List Byte :=
  leBytes 1 code ++ leBytes 1 (0x80 + ofBool fault * 64 + ofBool o.intr * 16 + exts * 4) ++
    leBytes 1 (16 * o.spire.val + o.ring.val) ++ leBytes 1 opcode ++ leBytes 4 o.cseq.toNat ++
    leBytes 2 o.lidx.toNat ++ leBytes 2 o.tag.toNat ++ leBytes 8 bell ++ (result ++ List.replicate 12 0).take 12

/-- Whether two origins are of one command. -/
def sameCmd (a b : Origin) : Bool := a.cseq = b.cseq && a.lidx = b.lidx

/-- What the instance of a bell-table entry keeps of a command of its list that has completed. -/
def Instance.listed (i : Instance) (fault : Bool) : Instance :=
  { i with count := i.count + 1, bad := i.bad || fault }

/-- The record of one command, without its list: steps 5 and 6 of R319. A fault record `f` becomes the first extension
entry (R327); a post that is refused appears as the command's fault (R333, R335). -/
def State.completeOne (s : State) (o : Origin) (opcode : Nat) (result : List Byte) (f : Option (List Byte))
    (ext : List (List Byte)) : State :=
  let sp := o.spire.val
  let r := o.ring.val
  let k := runKey o
  let (s, f) : State × Option (List Byte) := match f, o.post with
    | none, some p =>
      match s.postFrom sp p.spire.val (srcSpire sp 0 0) p.sem.toNat p.count.toNat with
      | (s, none) => (s, none)
      | (s, some g) => (s.wrote g, some (s.record g 0))
    | f, _ => (s, f)
  let exts := f.toList ++ ext
  let q := s.runq k
  let order := match q.running.find? (fun e => sameCmd e.o o) with | some e => e.order | none => s.starts
  let s := s.setRunq k { q with running := q.running.filter (fun e => !sameCmd e.o o) }
  let s :=
    if o.nocomp && f.isNone then s
    else s.putEntries sp r order (if f.isSome && o.entry.isNone && bit (s.reg (Reg.sprRingCfg sp r)) 30 then .stop else .none) (exts ++ [completionRecord o opcode
      (match f with | some f => byteAt f 0 | none => 0) s.bellNum f.isSome exts.length result])
  match o.entry with
  | some e => s.modInstance sp e.val (·.listed f.isSome)
  | none => s

/-- The record of a LIST that has ended (R320). -/
def State.completeList (s : State) (l : ListRun) : State :=
  let s' := s.completeOne l.o 0x04 (leBytes 4 l.run) (l.fault.map (fun f => s.record f 0)) []
  match l.fault with | some f => s'.wrote f | none => s'

/-- One more command of the LIST with number `cseq` on runner `k` has completed: the last one ends the LIST. -/
def State.listStep (s : State) (k : Nat) (cseq : BitVec 32) : State :=
  let q := s.runq k
  match q.lists.find? (fun l => l.o.cseq = cseq) with
  | none => s
  | some l =>
    let l' := { l with left := l.left - 1, run := l.run + 1 }
    if l'.left = 0 then
      (s.setRunq k { q with lists := q.lists.filter (fun e => e.o.cseq ≠ cseq) }).completeList l'
    else s.setRunq k { q with lists := q.lists.map (fun e => if e.o.cseq = cseq then l' else e) }

/-- Complete a command, and the LIST whose last command it is. -/
def State.completeStep (s : State) (o : Origin) (opcode : Nat) (result : List Byte) (f : Option (List Byte))
    (ext : List (List Byte)) : State :=
  let s := s.completeOne o opcode result f ext
  if o.lidx = 0xFFFF || o.entry.isSome then s else s.listStep (runKey o) o.cseq

/-- The engine code of a ring (R310). -/
def State.ringEngineOf (s : State) (sp r : Nat) : Nat := s.fld (Reg.sprRingCfg sp r) 27 24

/-- The Spire of runner `k`. -/
def keySpire (k : Nat) : Nat := if k < 64 then k / 16 else (k - 64) / 1024

/-- Whether the work of an engine on runner `k` lies in the scope of a FENCE (R330): on a Keystone ring, scope 2 acts as
scope 1 and covers the Keystone engine. -/
def inScope (f : Running) (scope k engine : Nat) : Bool :=
  let own := f.o.spire.val
  let scope := if 8 ≤ f.engine then min scope 1 else scope
  k = runKey f.o || (scope = 1 && engine = f.engine && (keySpire k = own || 8 ≤ f.engine)) ||
    (scope = 2 && keySpire k = own && engine < 8)

/-- Whether every command within a FENCE's scope that started before it has completed with its records written; the
LIST that the FENCE is part of does not count. -/
def State.fenceDone (s : State) (f : Running) (scope : Nat) : Bool :=
  s.runs.all (fun e => e.2.running.all (fun r =>
    !(r.order < f.order && inScope f scope e.1 r.engine) ||
      (e.1 = runKey f.o && f.o.lidx ≠ 0xFFFF && r.o.lidx = 0xFFFF && r.o.cseq = f.o.cseq))) &&
  s.rings.all (fun e => e.2.held.all (fun h =>
    !(h.1 < f.order && inScope f scope e.1 (s.ringEngineOf (e.1 / 16) (e.1 % 16)))))

/-- A FENCE command in progress that may complete. -/
def State.openFence (s : State) : Option Running :=
  s.runs.findSome? (fun e => e.2.running.find? (fun r => match r.fence with
    | some scope => s.fenceDone r scope
    | none => false))

/-- Complete the FENCE commands that may complete; `k` bounds their number. -/
def State.settleFences : Nat → State → State
  | 0, s => s
  | k + 1, s => match s.openFence with
    | none => s
    | some r => (s.completeStep r.o 0x01 [] none []).settleFences k

/-- The FENCE commands in progress. -/
def State.fences (s : State) : Nat :=
  s.runs.foldl (fun n e => n + (e.2.running.filter (fun r => r.fence.isSome)).length) 0

/-- Complete a command: its own record, that of the LIST whose last command it is (R320), and the FENCE commands that
waited for it. A list that a bell-table entry runs ends with that entry's record, which ENTRY_END writes. -/
def State.complete (s : State) (o : Origin) (opcode : Nat) (result : List Byte) (f : Option (List Byte))
    (ext : List (List Byte) := []) : State :=
  let s := s.completeStep o opcode result f ext
  s.settleFences s.fences

/-- Complete with success. -/
def State.completeOk (s : State) (o : Origin) (opcode : Nat) (result : List Byte := []) : State :=
  s.complete o opcode result none

/-- Complete with a fault record. -/
def State.completeFault (s : State) (o : Origin) (opcode : Nat) (f : FaultInfo) (result : List Byte := []) : State :=
  (s.complete o opcode result (some (s.record f 0))).wrote f

/-- Ring-level F_ILLEGAL (R340). -/
def ringIllegal (o : Origin) (reason opcode : Nat) : FaultInfo :=
  { code := F_ILLEGAL, source := srcSpire o.spire.val 0 0,
    detail := leBytes 1 reason ++ leBytes 1 o.ring.val ++ leBytes 4 o.cseq.toNat ++ leBytes 1 opcode }

/-- ENGINE of the entry whose oldest instance runs (R350); 16, which is no engine, when there is none. -/
def State.entryEngine (s : State) (sp e : Nat) : Nat :=
  match s.instances sp e with
  | i :: _ => bits (byteAt i.bytes 1) 3 0
  | [] => 16

/-- The engine to which a command's ring, or the entry whose list it is of, is bound (R310, R350). -/
def State.ringEngine (s : State) (o : Origin) : Nat :=
  match o.entry with
  | some e => s.entryEngine o.spire.val e.val
  | none => s.ringEngineOf o.spire.val o.ring.val

/-- Run an engine command on its ring: on a ring, or in an entry's list, bound to another engine it completes with F_ILLEGAL,
reason ENGINE, and stops the ring (R326, R356; DEDUCED, log 63). -/
def State.onEngine (s : State) (o : Origin) (engine opcode : Nat) (run : State → State) : State :=
  if s.ringEngine o = engine then run s
  else
    let s := s.completeFault o opcode (ringIllegal o 0x22 opcode)
    if o.entry.isSome then s else s.stopRing o.spire.val o.ring.val

end Sys2Proof.Machine
end

