-- ==== Sys2Proof/Machine/TowerOps.lean ====
section
/-!
DEFINITION. Operations on one Tower's tiles, queues, banks and registers (R133 to R143).
-/
namespace Sys2Proof.Machine

/-- Tile `i`. -/
def Tower.tile (t : Tower) (i : Nat) : Tile := SMap.get (fun _ => Tile.init) t.tiles i

/-- Replace tile `i`. -/
def Tower.setTile (t : Tower) (i : Nat) (v : Tile) : Tower :=
  { t with tiles := SMap.set (fun _ => Tile.init) t.tiles i v }

/-- The counts of queue `q`. -/
def Tower.queue (t : Tower) (q : Nat) : QueueCount := SMap.get (fun _ => QueueCount.init) t.queues q

/-- Replace the counts of queue `q`. -/
def Tower.setQueue (t : Tower) (q : Nat) (v : QueueCount) : Tower :=
  { t with queues := SMap.set (fun _ => QueueCount.init) t.queues q v }

/-- The entries of vector queue `q`, oldest first. -/
def Tower.vecs (t : Tower) (q : Nat) : List (BitVec 2048) := SMap.get (fun _ => []) t.vq q

/-- Replace the entries of vector queue `q`. -/
def Tower.setVecs (t : Tower) (q : Nat) (v : List (BitVec 2048)) : Tower :=
  { t with vq := SMap.set (fun _ => []) t.vq q v }

/-- Accumulator bank `b`. -/
def Tower.bank (t : Tower) (b : Nat) : Bank := SMap.get (fun _ => Bank.init) t.banks b

/-- Replace accumulator bank `b`. -/
def Tower.setBank (t : Tower) (b : Nat) (v : Bank) : Tower :=
  { t with banks := SMap.set (fun _ => Bank.init) t.banks b v }

/-- Marver register v`n`. -/
def Tower.vreg (t : Tower) (n : Nat) : BitVec 2048 := SMap.get (fun _ => 0) t.vregs n

/-- Write Marver register v`n`. -/
def Tower.setVreg (t : Tower) (n : Nat) (v : BitVec 2048) : Tower :=
  { t with vregs := SMap.set (fun _ => 0) t.vregs n v }

/-- Element-program slot `n`. -/
def Tower.ep (t : Tower) (n : Nat) : EpSlot := SMap.get (fun _ => EpSlot.init) t.eps n

/-- Replace element-program slot `n`. -/
def Tower.setEp (t : Tower) (n : Nat) (v : EpSlot) : Tower :=
  { t with eps := SMap.set (fun _ => EpSlot.init) t.eps n v }

/-- Loader sequencer `k`. -/
def Tower.seq (t : Tower) (k : Nat) : LoaderSeq := SMap.get (fun _ => LoaderSeq.init) t.seqs k

/-- Replace loader sequencer `k`. -/
def Tower.setSeq (t : Tower) (k : Nat) (v : LoaderSeq) : Tower :=
  { t with seqs := SMap.set (fun _ => LoaderSeq.init) t.seqs k v }

/-- The tiles bound to queue `q`, ascending: the ring of R135. -/
def Tower.ringTiles (t : Tower) (q : Nat) : List Nat := below 16 (fun i => (t.tile i).q = q)

/-- The tile of entry number `n` of a tile queue. -/
def Tower.entryTile (t : Tower) (q n : Nat) : Nat :=
  let r := t.ringTiles q
  r.getD ((n - (t.queue q).base) % r.length) 0

/-- Whether entry number `n` of tile queue `q` is FULL. -/
def Tower.entryFull (t : Tower) (q n : Nat) : Bool := n < (t.queue q).pushed

/-- Whether SQ `q` is a tile queue (R133). LQ0 to LQ3 always are. -/
def Tower.isTileQueue (t : Tower) (q : Nat) : Bool := q < 4 || !(t.ringTiles q).isEmpty

/-- The tile at the tail of tile queue `q` (R135). -/
def Tower.tailTile (t : Tower) (q : Nat) : Nat := t.entryTile q (t.queue q).pushed

/-- The marker state of R147: each A → X queue with its count of pushes at a checkpoint. -/
def axQueues : List Nat := [0, 1, 2, 3, 4, 5, 9]

/-- Banks that count as on the FTQ (R143): pushed, or named by an MDRAIN that waits. -/
def Tower.bankOnFtq (t : Tower) (b : Nat) : Bool :=
  t.ftq.contains b || t.ops.any (fun o => o.kind = .mdrain && o.bank = b)

/-- Claim an entry of a queue (R134): a pop moves the claim point on, a peek marks its entry. -/
def Tower.claim (t : Tower) (q : Nat) (pop : Bool) : Tower × Claim :=
  let k := t.queue q
  (t.setQueue q (if pop then { k with claimed := k.claimed + 1, peeked := false } else { k with peeked := true }),
    { q := q, n := k.claimed, tile := if q < 8 then t.entryTile q k.claimed else 0, pop := pop, before := k.peeked })

/-- Return one claim (R135): the claim point goes back to its entry. -/
def Tower.unclaim (t : Tower) (c : Claim) : Tower :=
  t.setQueue c.q { t.queue c.q with claimed := min (t.queue c.q).claimed c.n, peeked := c.before }

/-- The number of the FULL entry that tile `k` holds. -/
def Tower.entryOf (t : Tower) (k : Nat) : Nat :=
  let q := (t.tile k).q
  let c := t.queue q
  let r := (t.ringTiles q).length
  ((List.range r).map (fun j => c.pushed - 1 - j)).find? (fun n => t.entryTile q n = k) |>.getD 0

/-- Whether the entry that a tile holds is claimed (R163). -/
def Tower.tileClaimed (t : Tower) (k : Nat) : Bool :=
  let c := t.queue (t.tile k).q
  let n := t.entryOf k
  n < c.claimed || (n = c.claimed && c.peeked)

/-- Cancel one tile operation: its claims return and the tile it was filling is EMPTY again. -/
def Tower.cancelOp (t : Tower) (o : TileOp) : Tower :=
  let t := o.claims.reverse.foldl Tower.unclaim t
  match o.kind with
  | .eprg _ _ => if o.started then t.setTile o.dest { Tile.init with q := (t.tile o.dest).q, tag := (t.tile o.dest).tag }
    else t
  | _ => t

/-- Cancel the tile operations from index `k` on (R151). -/
def Tower.cancelFrom (t : Tower) (k : Nat) : Tower :=
  let t' := (t.ops.drop k).reverse.foldl Tower.cancelOp t
  { t' with ops := t.ops.take k }

/-- Take a stream's registers back to a snapshot. -/
def StreamState.restore (r : StreamState) (p : Snapshot) : StreamState :=
  { r with pc := p.pc, regs := p.regs, icount := p.icount, wait := none, swap := none }

/-- The snapshot a stream would be restored to if the instruction it is at were undone. -/
def StreamState.snap (r : StreamState) : Snapshot := { pc := r.pc, regs := r.regs, icount := r.icount }

/-- Cancel a load in flight: the tile it fills is EMPTY again and no row is kept (R135). -/
def Tower.cancelLoad (t : Tower) (l : Load) : Tower :=
  match l.shape with
  | .vector => t
  | _ => t.setTile l.tile { Tile.init with q := (t.tile l.tile).q, tag := (t.tile l.tile).tag }

/-- The position in the ring at which a tile queue's entries are discarded: entries with numbers from `n` on become
EMPTY and the tail goes back (R149). -/
def Tower.discardTiles (t : Tower) (q n : Nat) : Tower :=
  let c := t.queue q
  let t := (List.range (c.pushed - n)).foldl (fun (t : Tower) i =>
    let k := t.entryTile q (n + i)
    t.setTile k { Tile.init with q := (t.tile k).q, tag := (t.tile k).tag }) t
  t.setQueue q { c with pushed := min c.pushed n, claimed := min c.claimed n }

/-- Discard the entries of one A → X queue pushed after count `n` (R149). -/
def Tower.discardQueue (t : Tower) (q n : Nat) : Tower :=
  let c := t.queue q
  if q < 4 then t.discardTiles q n
  else if q = 9 then
    { t with cqa := t.cqa.take (n - c.popped) }.setQueue 9 { c with pushed := min c.pushed n }
  else (t.setVecs q ((t.vecs q).take (n - c.popped))).setQueue q { c with pushed := min c.pushed n }

/-- Discard what A pushed and loads after checkpoint `cp` (R149). -/
def Tower.discardAfter (t : Tower) (cp : Checkpoint) : Tower :=
  let gone := fun (l : Load) => decide (cp.snap.icount ≤ l.snap.icount)
  let t := (t.loads.filter gone).foldl Tower.cancelLoad t
  let t := { t with loads := t.loads.filter (fun l => !gone l) }
  (axQueues.zip cp.marks).foldl (fun t p => t.discardQueue p.1 p.2) t

/-- Roll A back to X's step (R149) and leave it in run state `r`. A halted stream stays halted, and a handler of A
continues; the checkpoint at which A goes on after its handler is then kept in `resume`. The restored checkpoint stays
listed, marked restored, so that a second rollback finds it (DEDUCED, log 23). -/
def Tower.rollbackA (t : Tower) (r : RunState) : Tower :=
  match t.cps, decide (t.x.step < t.a.step) with
  | cp :: _, true =>
    let t := t.discardAfter cp
    let t := { t with cps := [{ cp with restored := true }], seqs := cp.seqs }
    if t.a.inHandler then
      { t with a := { t.a with resume := some (cp.snap, t.x.step + 1), step := t.x.step + 1 } }
    else
      let run := if t.a.run = .halted then .halted else r
      { t with a := { t.a.restore cp.snap with run := run, step := t.x.step + 1 } }
  | _, _ =>
    if t.a.inHandler || t.a.run = .halted then t
    else { t with a := { t.a with run := r, wait := none, swap := none } }

end Sys2Proof.Machine
end

