-- ==== Sys2Proof/Machine/RegWrite.lean ====
section
/-!
DEFINITION. What a write does to a register's fields (R3, R4, R7), and how staged values become active (R5, R6, R337),
with the combinations that are refused and what follows a change.
-/
namespace Sys2Proof.Machine

/-- The bits of a row's fields whose type satisfies `p`. -/
def fieldMask (r : RegRow) (p : RegTy → Bool) : Word :=
  r.fields.foldl (fun m f => if p f.ty then m ||| BitVec.ofNat 64 ((2 ^ (f.hi + 1 - f.lo) - 1) <<< f.lo) else m) 0

/-- The row of the register at a control address; an address with none has no fields. -/
def rowAt (a : Nat) : RegRow :=
  match findReg a with
  | some (_, _, r) => r
  | none => { off := 0, idx := [], width := 64, fields := [] }

/-- `old` with the bits of `m` taken from `v`. -/
def mergeBits (old v m : Word) : Word := (old &&& ~~~m) ||| (v &&& m)

/-- A write's effect on the fields of a register (R3): RW takes the value, RWL too unless the block is locked (R7), W1C
and W1S act bit by bit, RWS writes the staged copy; reserved, RO and WO fields take nothing. -/
def State.writeFields (s : State) (a : Nat) (v : Word) (locked : Bool) : State :=
  let r := rowAt a
  let old : Word := BitVec.ofNat 64 (s.reg a)
  let v1 := mergeBits old v (fieldMask r (fun t => t = .rw || (t = .rwl && !locked)))
  let v2 := v1 &&& ~~~(v &&& fieldMask r (fun t => t = .w1c))
  let v3 := v2 ||| (v &&& fieldMask r (fun t => t = .w1s))
  let s := if v3 = old then s else s.setReg a v3.toNat
  let m := fieldMask r (fun t => t = .rws)
  if m = 0 then s else s.stage a (some (v &&& m))

/-- The bits of RWS fields. -/
def rwsMask (a : Nat) : Word := fieldMask (rowAt a) (fun t => t = .rws)

/-- The active value of a register once its staged copy is active. -/
def State.stagedValue (s : State) (a : Nat) : Word :=
  match s.stagedReg a with
  | none => BitVec.ofNat 64 (s.reg a)
  | some v => mergeBits (BitVec.ofNat 64 (s.reg a)) v (rwsMask a)

/-- The control addresses with staged copies in one block; in all blocks for none. -/
def State.stagedIn (s : State) (b : Option Block) : List Nat :=
  (s.staged.filter (fun e => match b with
    | none => true
    | some b => (match blockOf e.1 with | some (b', _) => b' = b | none => false))).map (·.1)

/-- Make the staged copy of one register active, but for the bits of `refuse`; its staged copy is then gone. -/
def State.activate (s : State) (a : Nat) (refuse : Word) : State :=
  let old : Word := BitVec.ofNat 64 (s.reg a)
  (s.setReg a (mergeBits (s.stagedValue a) old refuse).toNat).stage a none

/-- Whether the byte ranges [a, b) and [c, d) share a byte. -/
def overlaps (a b c d : Nat) : Bool := max a c < min b d

/-- Whether Gallery window `n` of Spire `sp` is enabled over a byte of the descriptor table or of the parameter-set
tables (R126): 16,384 entries of 64 bytes (R85), 32 slots of 1 MiB (R261). Offsets are within the Gallery. -/
def State.windowOnTables (s : State) (sp n : Nat) : Bool :=
  let lo := s.fld (Reg.sprGalWinBase sp n) 27 8 * 256
  let hi := s.fld (Reg.sprGalWinLimit sp n) 27 8 * 256
  let d := s.reg (Reg.sprDescBase sp) % 0x1000_0000
  let p := s.reg (Reg.sprPsetBase sp) % 0x1000_0000
  bit (s.reg (Reg.sprGalWinCtl sp n)) 31 &&
    ((s.reg (Reg.sprDescBase sp) ≠ 0 && overlaps lo hi d (d + 0x10_0000)) ||
      (s.reg (Reg.sprPsetBase sp) ≠ 0 && overlaps lo hi p (p + 0x200_0000)))

/-- Whether an engine code is one of R310. -/
def engineOk (e : Nat) : Bool := e ≤ 4 || (8 ≤ e && e ≤ 10)

/-- The expander that BLP_MAP gives Tower `t`. -/
def State.expander (s : State) (sp t : Nat) : Nat :=
  if t < 12 then s.fld (Reg.blpMapLo sp) (5 * t + 4) (5 * t) else s.fld (Reg.blpMapHi sp) (5 * (t - 12) + 4) (5 * (t - 12))

/-- The expanders of a Spire that are excluded or retired (R308, R447, R450, R451): those whose Towers are marked, and,
once the spare is used, the one that BLP_MAP names no more; the spare of a repair that waits for its bell is neither
(DEDUCED, log 77). -/
def State.expGone (s : State) (sp : Nat) : List Nat :=
  let down := fun t => SMap.get (fun _ => 0) s.expDown (16 * sp + t)
  let used := (List.range 16).map (s.expander sp)
  let repairing := (List.range 16).any (fun t => down t = 1)
  (List.range 17).filter (fun e => (List.range 16).any (fun t => s.expander sp t = e && down t ≠ 0) ||
    (!used.contains e && !bit (s.reg Reg.keyCulletPool) (16 * sp + 14) && !repairing))

/-- Whether a BLP_MAP names one expander for two Towers, a value above 16, or one of `gone` (R308). -/
def blpMapBad (gone : List Nat) (lo hi : Nat) : Bool :=
  let es := (List.range 12).map (fun t => bits lo (5 * t + 4) (5 * t)) ++
    (List.range 4).map (fun t => bits hi (5 * t + 4) (5 * t))
  es.any (fun e => 16 < e || gone.contains e) || !es.Nodup

/-- The 2-bit fields of a band register that would hold 3 (R382). -/
def bandThrees (v : Nat) : Word :=
  (List.range 32).foldl (fun (m : Word) k => if bits v (2 * k + 1) (2 * k) = 3 then m ||| (3 <<< (2 * k)) else m) 0

/-- Staged bits that a commit refuses and records as a refused access, given the state `c` in which every staged value
of the commit would be active: a reserved engine code and a live ring's fields (R310, R317), Gallery windows over the
tables (R126), the Keystone's target 0 (R383), BELL_SYNC as input and output and a PERIOD out of range (R342, R343),
mandatory encryption (R401), an expander map (R308), a band class of 3 (R382). -/
def State.refusedBits (s c : State) (b : Block) (off a : Nat) : Word :=
  match b with
  | .spr sp =>
    if inSpan off 0x5000 0x400 then
      let r := (off - 0x5000) / 0x40
      let live := bit (s.reg (Reg.sprRingCfg sp.val r)) 31
      if (off - 0x5000) % 0x40 = 0x8 then
        let e := c.fld (Reg.sprRingCfg sp.val r) 27 24
        if bit (c.reg a) 31 && !engineOk e && !live then 0xFFFF_FFFF
        else if live then 0x0F0F_000F &&& (BitVec.ofNat 64 (s.reg a) ^^^ BitVec.ofNat 64 (c.reg a)) else 0
      else if live && s.reg a ≠ c.reg a then ~~~0 else 0
    else if inSpan off 0x2000 0x2000 && c.windowOnTables sp.val ((off - 0x2000) / 0x20) then ~~~0
    else 0
  | .carK => if off < 0x800 && bits (c.reg a) 5 4 = 0 then 0x30 else 0
  | .bel _ =>
    if off = 0x8 && (c.reg a < 2000 || 2000000 < c.reg a) then ~~~0
    else if off = 0x10 && bits (c.reg a) 1 0 = 1 && bit (c.reg a) 31 then ~~~0
    else 0
  | .alx => if off = 0x20 && bit (s.reg Reg.fusePolicy) 8 && bit (s.reg a) 31 && !bit (c.reg a) 31 then ~~~0 else 0
  | .blp sp => if (off = 0 || off = 8) &&
      blpMapBad (s.expGone sp.val) (c.reg (Reg.blpMapLo sp.val)) (c.reg (Reg.blpMapHi sp.val)) then ~~~0 else 0
  | .hbm _ => if off = 0x8000 || off = 0x8008 then bandThrees (c.reg a) else 0
  | _ => 0

/-- Fields of the staged type that are RO in one instance: the Carillon's own fault source keeps EN and PRIO (R391). -/
def silentBits (b : Block) (off : Nat) : Word :=
  match b with
  | .car _ => if off = 8 * 1023 then 0x8F else 0
  | .carK => if off = 8 * 255 then 0x8F else 0
  | _ => 0

/-- The bytes of one bank of a slot's Tower memory are lost; when it is On again they are zero with valid check bits (R113). -/
def State.loseBank (s : State) (g n : Nat) : State :=
  let hit := fun (k : Nat) => inSpan k (g * 0x180_0000) 0x180_0000 && (k - g * 0x180_0000) / 256 % 64 = n
  { s with
    tmem := s.tmem.filter (fun e => !hit e.1), ramErr := s.ramErr.filter (fun e => !hit (16 * e.1)) }

/-- What a change of a Tower's bank masks begins (R112, R113): banks that go Off lose their contents, banks that become
On are in transition until BANK_POWER_TRANSITION_END. -/
def State.banksChanged (s : State) (old : State) (g : Nat) : State :=
  let on0 := old.reg (Reg.twrBankOn g)
  let ret0 := old.reg (Reg.twrBankRet g)
  let on1 := s.reg (Reg.twrBankOn g)
  let ret1 := s.reg (Reg.twrBankRet g)
  let off := below 64 (fun n => (bit on0 n || bit ret0 n) && !(bit on1 n || bit ret1 n))
  let up := below 64 (fun n => bit on1 n && !bit on0 n)
  let s := off.foldl (fun (t : State) n => t.loseBank g n) s
  if on0 = on1 then s
  else s.modTower g (fun t => { t with rising := (t.rising ++ up).filter (fun n => bit on1 n) })

/-- The next generation of a window (R121): 1 to 65,535 and round again. -/
def nextGen (g : Nat) : Nat := if g % 65536 = 65535 then 1 else g % 65536 + 1

/-- The windows of a block that the control addresses `as` reach: windows stand every 0x20 from offset `lo`. -/
def windowsAt (as : List Nat) (b : Block) (lo n : Nat) : List Nat :=
  (as.filterMap (fun a => match blockOf a with
    | some (b', off) => if b' = b && inSpan off lo (n * 0x20) then some ((off - lo) / 0x20) else none
    | none => none)).eraseDups

/-- GEN of each window whose BASE, LIMIT, EN or SRC has changed moves on (R121). -/
def State.windowGens (s old : State) (ws : List Nat) (base limit ctl gen : Nat → Nat) : State :=
  ws.foldl (fun (t : State) w =>
    if old.reg (base w) ≠ s.reg (base w) || old.reg (limit w) ≠ s.reg (limit w) || old.reg (ctl w) ≠ s.reg (ctl w) then
      t.setReg (gen w) (nextGen (t.reg (gen w)))
    else t) s

/-- A memory whose MODE becomes WINDOW clears its balances (R120). -/
def State.modeChanged (s old : State) (ctl : Nat) (bal : Nat → Nat) : State :=
  if bit (old.reg ctl) 0 && !bit (s.reg ctl) 0 then
    (List.range 16).foldl (fun (t : State) x => t.setReg (bal x) 0) s
  else s

/-- Rings whose EN becomes 1 count from 0 (R317); completions that wait for room stay (R328). -/
def State.ringsChanged (s old : State) (sp : Nat) : State :=
  (List.range 16).foldl (fun (t : State) r =>
    if bit (s.reg (Reg.sprRingCfg sp r)) 31 && !bit (old.reg (Reg.sprRingCfg sp r)) 31 then 
      t.setRing sp r { t.ring sp r with tail := 0, ccons := 0, tailBad := false, fetched := 0, compPos := 0 }
    else t) s

/-- A committed EPOCH makes the pending keys active, and the group counters restart (R443); a refused one (R401) does not. -/
def State.keyCommit (s old : State) (as : List Nat) : State :=
  if as.contains Reg.alxCryptCtl && old.refusedBits (old.activate Reg.alxCryptCtl 0) .alx 0x20 Reg.alxCryptCtl = 0 then
    let keys := s.alxPending.foldl (fun (m : SMap Word) e => SMap.set (fun _ => 0) m e.1 e.2) s.alxKeys
    { s with alxKeys := keys, alxPending := [], alxGroups := [] }
  else s

/-- What follows once staged values of one block are active. -/
def State.afterCommit (s old : State) (as : List Nat) (b : Block) : State :=
  match b with
  | .twr g =>
    (((s.windowGens old (windowsAt as b 0x5100 64) (Reg.twrWinBase g.val) (Reg.twrWinLimit g.val) (Reg.twrWinCtl g.val)
      (Reg.twrWinGen g.val)).modeChanged old (Reg.twrMemCtl g.val) (Reg.twrCredBal g.val)).banksChanged old g.val)
  | .spr sp =>
    (((s.windowGens old (windowsAt as b 0x2000 256) (Reg.sprGalWinBase sp.val) (Reg.sprGalWinLimit sp.val) (Reg.sprGalWinCtl sp.val)
      (Reg.sprGalWinGen sp.val)).modeChanged old (Reg.sprGalCtl sp.val) (Reg.sprGalCredBal sp.val)).ringsChanged old
        sp.val)
  | .alx => s.keyCommit old as
  | _ => s

/-- The requester recorded for a refused commit: the controller of the die (DEDUCED, log 25). -/
def dieSource : Option (Fin 4) → Nat
  | some s => srcSpire s.val 0 0
  | none => 0x4000

/-- Where a refused commit of a block is recorded: BLP_MAP refusals in KEY_DECODE_ERR (R308), others in the die's. -/
def refusalDie : Block → Option (Fin 4)
  | .blp _ => none
  | b => blockSpire b

/-- Make staged values active together (R5): those at the addresses `as`, which lie in the blocks `bs`. A refused
combination keeps the active value and is recorded (DEDUCED, log 25). -/
def State.commitAll (s : State) (as : List Nat) (bs : List Block) : State :=
  let cand := as.foldl (fun (t : State) a => t.activate a 0) s
  let s1 := as.foldl (fun (t : State) a =>
    match blockOf a with
    | none => t
    | some (b, off) =>
      let bad := s.refusedBits cand b off a
      let t := t.activate a (bad ||| silentBits b off)
      if bad &&& rwsMask a = 0 then t else t.decodeErr (refusalDie b) true (dieSource (refusalDie b)) a) s
  bs.foldl (fun t b => t.afterCommit s as b) s1

/-- A COMMIT write of 1 to a block (R5, R337). -/
def State.commitBlock (s : State) (b : Block) : State :=
  let as := s.stagedIn (some b)
  if as.isEmpty then s else s.commitAll as [b]

/-- The blocks with staged values. -/
def State.stagedBlocks (s : State) : List Block :=
  ((s.stagedIn none).filterMap (fun a => (blockOf a).map (·.1))).eraseDups

/-- At a bell every staged value becomes active (R3, R349). -/
def State.commitBell (s : State) : State := s.commitAll (s.stagedIn none) s.stagedBlocks

end Sys2Proof.Machine
end

