-- ==== Sys2Proof/Machine/Keccak.lean ====
section
/-!
DEFINITION. SHAKE256 (FIPS 202), which the spec names without restating it (PRESUMED, log 17), and CRC-32C (R255).
-/
namespace Sys2Proof.Crypto

/-- The bits from which the round constants are made: a register over x^8 + x^6 + x^5 + x^4 + 1, whose lowest bit is given out
at each step; `k` steps. -/
def lfsrBits : Nat → Nat → List Bool
  | 0, _ => []
  | k + 1, v =>
    let w := 2 * v
    (v % 2 = 1) :: lfsrBits k (if 256 ≤ w then w ^^^ 0x171 else w)

/-- The round constants: seven bits of the sequence each, bit j at place 2^j - 1; `k` rounds. -/
def constants : Nat → List Bool → List (BitVec 64)
  | 0, _ => []
  | k + 1, l =>
    BitVec.ofNat 64 (((l.take 7).zipIdx.map (fun e => e.1.toNat <<< (2 ^ e.2 - 1))).sum) :: constants k (l.drop 7)

/-- Lane i = x + 5y of a state of 25 lanes. -/
def ln (a : List (BitVec 64)) (i : Nat) : BitVec 64 := a.getD i 0

/-- θ: every lane takes in the parities of the two columns beside its own. -/
def mixColumns (a : List (BitVec 64)) : List (BitVec 64) :=
  let parity := fun x => [0, 5, 10, 15, 20].foldl (fun v y => v ^^^ ln a (x % 5 + y)) 0
  let beside := (List.range 5).map (fun x => parity (x + 4) ^^^ (parity (x + 1)).rotateLeft 1)
  a.zipIdx.map (fun e => e.1 ^^^ ln beside (e.2 % 5))

/-- Where π takes lane x + 5y: to y + 5(2x + 3y). -/
def lanePlace (i : Nat) : Nat := i / 5 + 5 * ((2 * i + i / 5 * 3) % 5)

/-- ρ and π: from lane (1, 0) each lane goes to the place of the next, rotated by one triangular number after the other. `a` is the
state before, `b` the state as far as it has been made, `t` the lanes visited, `i` the lane to move; `k` lanes are left. -/
def moveLanes (a : List (BitVec 64)) : Nat → Nat → Nat → List (BitVec 64) → List (BitVec 64)
  | 0, _, _, b => b
  | k + 1, t, i, b =>
    moveLanes a k (t + 1) (lanePlace i) (b.set (lanePlace i) ((ln a i).rotateLeft ((t + 1) * (t + 2) / 2 % 64)))

/-- χ: every lane with the two after it in its row. -/
def mixRow : List (BitVec 64) → List (BitVec 64)
  | [p, q, r, u, v] => [p ^^^ (r &&& ~~~q), q ^^^ (u &&& ~~~r), r ^^^ (v &&& ~~~u), u ^^^ (p &&& ~~~v), v ^^^ (q &&& ~~~p)]
  | row => row

/-- One round: θ, ρ and π, χ by rows, and ι, which adds the round constant to lane (0, 0). -/
def keccakRound (a : List (BitVec 64)) (rc : BitVec 64) : List (BitVec 64) :=
  let t := mixColumns a
  let b := moveLanes t 24 0 1 t
  let e := [0, 5, 10, 15, 20].flatMap (fun y => mixRow ((b.drop y).take 5))
  e.modifyHead (· ^^^ rc)

/-- The permutation: 24 rounds. -/
def keccakF (a : List (BitVec 64)) : List (BitVec 64) := (constants 24 (lfsrBits 168 1)).foldl keccakRound a

/-- Absorb one block of 136 bytes. -/
def absorb (a : List (BitVec 64)) (blk : List Byte) : List (BitVec 64) :=
  keccakF (a.zipIdx.map (fun p => p.1 ^^^ BitVec.ofNat 64 (leNat ((blk.drop (8 * p.2)).take 8))))

/-- The blocks of a padded message; `k` bounds their number. -/
def blocks : Nat → List Byte → List (List Byte)
  | 0, _ => []
  | k + 1, m => if m.isEmpty then [] else m.take 136 :: blocks k (m.drop 136)

/-- The message with the padding of SHAKE. -/
def padded (m : List Byte) : List Byte :=
  let z := 135 - m.length % 136
  if z = 0 then m ++ [0x9F] else m ++ [0x1F] ++ List.replicate (z - 1) 0 ++ [0x80]

/-- The lanes as bytes. -/
def laneBytes (a : List (BitVec 64)) : List Byte := a.flatMap (fun l => leBytes 8 l.toNat)

/-- Blocks of output squeezed from a state. -/
def squeeze : Nat → List (BitVec 64) → List Byte
  | 0, _ => []
  | k + 1, a => (laneBytes a).take 136 ++ squeeze k (keccakF a)

/-- The state after a message. -/
def sponge (m : List Byte) : List (BitVec 64) :=
  (blocks (m.length / 136 + 1) (padded m)).foldl absorb (List.replicate 25 0)

/-- The first `n` bytes of SHAKE256 of a message. -/
def shake256 (m : List Byte) (n : Nat) : List Byte := (squeeze (n / 136 + 1) (sponge m)).take n

/-- One byte of CRC-32C, reflected. -/
def crcByte (c : Nat) (b : Byte) : Nat :=
  (List.range 8).foldl (fun v _ => if v % 2 = 1 then v / 2 ^^^ 0x82F63B78 else v / 2) (c ^^^ b.toNat)

/-- CRC-32C (R255). -/
def crc32c (bs : List Byte) : Nat := bs.foldl crcByte 0xFFFF_FFFF ^^^ 0xFFFF_FFFF

end Sys2Proof.Crypto
end

