-- ==== Sys2Proof/Machine/Crypto.lean ====
section
/-!
DEFINITION. The public-key arithmetic of chapter 16: Ed448 (RFC 8032), X448 (RFC 7748), P-384 (FIPS 186), RSA. The spec names
these standards without restating them; their constants and formulas are the standards' (PRESUMED, log 17).
-/
namespace Sys2Proof.Crypto

/-! ### Modular arithmetic -/

/-- The bits of a number, most significant first. -/
def bitsOf (n : Nat) : List Bool := ((List.range (n.log2 + 1)).map n.testBit).reverse

/-- b^e mod m. -/
def powMod (b e m : Nat) : Nat :=
  (bitsOf e).foldl (fun r t => if t then r * r % m * (b % m) % m else r * r % m) (1 % m)

/-- a - b mod m. -/
def subMod (m a b : Nat) : Nat := (a + m - b % m) % m

/-- The inverse modulo a prime. -/
def invMod (p a : Nat) : Nat := powMod a (p - 2) p

/-! ### Edwards448 -/

def p448 : Nat := 2 ^ 448 - 2 ^ 224 - 1
/-- The order of the base point. -/
def l448 : Nat := 2 ^ 446 - 13818066809895115352007386748515426880336692474882178609894547503885
def baseX : Nat := 224580040295924300187604334099896036246789641632564134246125461686950415467406032909029192869357953282578032075146446173674602635247710
def baseY : Nat := 298819210078481492676017930443930673437544040154080242095928241372331506189835876003536878655418784733982303233503462500531545062832660

/-- A point in projective coordinates. -/
structure EdPoint where
  x : Nat
  y : Nat
  z : Nat
  deriving DecidableEq, Repr

def EdPoint.zero : EdPoint := { x := 0, y := 1, z := 1 }
def EdPoint.base : EdPoint := { x := baseX, y := baseY, z := 1 }

/-- The complete addition law of x² + y² = 1 - 39081 x² y². -/
def EdPoint.add (s t : EdPoint) : EdPoint :=
  let p := p448
  let a := s.z * t.z % p
  let b := a * a % p
  let c := s.x * t.x % p
  let d := s.y * t.y % p
  let e := 39081 * (c * d % p) % p
  let f := (b + e) % p
  let g := subMod p b e
  let h := (s.x + s.y) * (t.x + t.y) % p
  { x := a * f % p * subMod p h (c + d) % p, y := a * g % p * subMod p d c % p, z := f * g % p }

/-- n times a point. -/
def EdPoint.mul (n : Nat) (s : EdPoint) : EdPoint :=
  (bitsOf n).foldl (fun r t => if t then (r.add r).add s else r.add r) EdPoint.zero

/-- Whether two projective points are the same. -/
def EdPoint.same (s t : EdPoint) : Bool :=
  s.x * t.z % p448 = t.x * s.z % p448 && s.y * t.z % p448 = t.y * s.z % p448

/-- The 57-byte code of a point. -/
def EdPoint.encode (s : EdPoint) : List Byte :=
  let i := invMod p448 s.z
  leBytes 56 (s.y * i % p448) ++ leBytes 1 (s.x * i % p448 % 2 * 128)

/-- x of a y and a sign, if there is one. -/
def edX (y sign : Nat) : Option Nat :=
  let p := p448
  let w := subMod p (y * y) 1 * invMod p (subMod p (p - 39081 * (y * y % p) % p) 1) % p
  let x := powMod w ((p + 1) / 4) p
  if x * x % p ≠ w then none
  else if x = 0 && sign = 1 then none
  else some (if x % 2 = sign then x else p - x)

/-- The point that 57 bytes spell. -/
def edDecode (b : List Byte) : Option EdPoint :=
  let y := field b 55 0
  if p448 ≤ y || byteAt b 56 % 128 ≠ 0 then none
  else (edX y (byteAt b 56 / 128)).map (fun x => { x := x, y := y, z := 1 })

/-- ASCII text as bytes. -/
def text (t : String) : List Byte := t.toList.map (fun c => BitVec.ofNat 8 c.toNat)

/-- dom4 of RFC 8032 for PureEd448. -/
def dom4 (ctx : List Byte) : List Byte := text "SigEd448" ++ leBytes 1 0 ++ leBytes 1 ctx.length ++ ctx

/-- The secret scalar and the prefix of a private key. -/
def edSecret (sk : List Byte) : Nat × List Byte :=
  let h := shake256 sk 114
  (leNat (leBytes 1 (byteAt h 0 / 4 * 4) ++ ((h.drop 1).take 54) ++ leBytes 1 (byteAt h 55 % 128 + 128)), h.drop 57)

/-- The public key. -/
def ed448Public (sk : List Byte) : List Byte := (EdPoint.base.mul (edSecret sk).1).encode

/-- Sign a message under a context. -/
def ed448Sign (sk ctx msg : List Byte) : List Byte :=
  let (s, pre) := edSecret sk
  let pk := (EdPoint.base.mul s).encode
  let r := leNat (shake256 (dom4 ctx ++ pre ++ msg) 114) % l448
  let rb := (EdPoint.base.mul r).encode
  let k := leNat (shake256 (dom4 ctx ++ rb ++ pk ++ msg) 114) % l448
  rb ++ leBytes 57 ((r + k * s) % l448)

/-- Verify a signature of valid inputs: [4][S]B = [4]R + [4][k]A. -/
def ed448Verify (pk ctx msg sig : List Byte) : Bool :=
  match edDecode pk, edDecode (sig.take 57) with
  | some a, some r =>
    let k := leNat (shake256 (dom4 ctx ++ sig.take 57 ++ pk ++ msg) 114) % l448
    let s := leNat (sig.drop 57)
    ((EdPoint.base.mul s).mul 4).same ((r.add (a.mul k)).mul 4)
  | _, _ => false

/-! ### X448 -/

/-- State of the ladder: (x2 : z2) and (x3 : z3). -/
structure Ladder where
  x2 : Nat
  z2 : Nat
  x3 : Nat
  z3 : Nat

/-- One step of the ladder for a bit of the scalar. -/
def ladderStep (u : Nat) (l : Ladder) (t : Bool) : Ladder :=
  let p := p448
  let (xa, za, xb, zb) := if t then (l.x3, l.z3, l.x2, l.z2) else (l.x2, l.z2, l.x3, l.z3)
  let a := (xa + za) % p
  let b := subMod p xa za
  let aa := a * a % p
  let bb := b * b % p
  let e := subMod p aa bb
  let da := subMod p xb zb * a % p
  let cb := (xb + zb) % p * b % p
  let x3 := (da + cb) * (da + cb) % p
  let z3 := u * (subMod p da cb * subMod p da cb % p) % p
  let x2 := aa * bb % p
  let z2 := e * (aa + 39081 * e) % p
  if t then { x2 := x3, z2 := z3, x3 := x2, z3 := z2 } else { x2 := x2, z2 := z2, x3 := x3, z3 := z3 }

/-- The scalar of a 56-byte private key. -/
def xScalar (k : List Byte) : Nat := leNat (leBytes 1 (byteAt k 0 / 4 * 4) ++ ((k.drop 1).take 54) ++
  leBytes 1 (byteAt k 55 % 128 + 128))

/-- X448 of a private key and a peer's u. -/
def x448 (k : List Byte) (u : Nat) : List Byte :=
  let l := (bitsOf (xScalar k)).foldl (ladderStep u) { x2 := 1, z2 := 0, x3 := u, z3 := 1 }
  leBytes 56 (l.x2 * invMod p448 l.z2 % p448)

/-- Whether u is of a point on the curve and not on its twist. -/
def onCurve448 (u : Nat) : Bool :=
  let w := (u * u % p448 * u + 156326 * (u * u % p448) + u) % p448
  powMod w ((p448 - 1) / 2) p448 ≠ p448 - 1

/-! ### P-384 -/

def p384 : Nat := 2 ^ 384 - 2 ^ 128 - 2 ^ 96 + 2 ^ 32 - 1
def b384 : Nat := 0xb3312fa7e23ee7e4988e056be3f82d19181d9c6efe8141120314088f5013875ac656398d8a2ed19d2a85c8edd3ec2aef
def n384 : Nat := 0xffffffffffffffffffffffffffffffffffffffffffffffffc7634d81f4372ddf581a0db248b0a77aecec196accc52973
def g384 : Option (Nat × Nat) :=
  some (0xaa87ca22be8b05378eb1c71ef320ad746e1d3b628ba79b9859f741e082542a385502f25dbf55296c3a545e3872760ab7,
    0x3617de4a96262c6f5d9e98bf9292dc29f8f41dbd289a147ce9da3113b5f0b8c00a60b1ce1d7e819d7a431d7c90ea0e5f)

/-- Addition of affine points; none is the point at infinity. -/
def ecAdd (a b : Option (Nat × Nat)) : Option (Nat × Nat) :=
  let p := p384
  match a, b with
  | none, q => q
  | q, none => q
  | some (x1, y1), some (x2, y2) =>
    if x1 = x2 && (y1 + y2) % p = 0 then none
    else
      let m := if x1 = x2 then subMod p (3 * (x1 * x1)) 3 * invMod p (2 * y1) % p
        else subMod p y2 y1 * invMod p (subMod p x2 x1) % p
      let x3 := subMod p (m * m) (x1 + x2)
      some (x3, subMod p (m * subMod p x1 x3) y1)

/-- n times a point. -/
def ecMul (n : Nat) (a : Option (Nat × Nat)) : Option (Nat × Nat) :=
  (bitsOf n).foldl (fun r t => if t then ecAdd (ecAdd r r) a else ecAdd r r) none

/-- Whether (x, y) lies on the curve. -/
def onP384 (x y : Nat) : Bool := y * y % p384 = subMod p384 (x * x % p384 * x + b384) (3 * x)

/-- A big-endian number, and a number as `n` big-endian bytes. -/
def beNat (b : List Byte) : Nat := leNat b.reverse
def beBytes (n v : Nat) : List Byte := (leBytes n v).reverse

/-- The code of a point. -/
def ecBytes : Option (Nat × Nat) → List Byte
  | some (x, y) => beBytes 48 x ++ beBytes 48 y
  | none => List.replicate 96 0

/-- Sign a hash with the nonce k. -/
def p384Sign (d k : Nat) (hash : List Byte) : List Byte :=
  let r := match ecMul k g384 with | some (x, _) => x % n384 | none => 0
  beBytes 48 r ++ beBytes 48 (invMod n384 k * ((beNat hash + r * d) % n384) % n384)

/-- Verify a signature of valid inputs. -/
def p384Verify (q : Nat × Nat) (hash : List Byte) (r s : Nat) : Bool :=
  let w := invMod n384 s
  match ecAdd (ecMul (beNat hash * w % n384) g384) (ecMul (r * w % n384) (some q)) with
  | some (x, _) => x % n384 = r
  | none => false

end Sys2Proof.Crypto
end

