-- ==== Sys2Proof/Machine/RepairLog.lean ====
section
/-!
DEFINITION. The signed repair log in SPI flash (R448): its copies, which of them is in use, and the append of an entry.
-/
namespace Sys2Proof.Machine
open Sys2Proof.Crypto

/-- A key-store slot. -/
def State.keySlot (s : State) (k : Nat) : KeySlot := SMap.get (fun _ => KeySlot.init) s.keySlots k

/-- A copy of the log: its flash offset, and its entries. -/
def logBase (i : Nat) : Nat := 0x21_0000 + 0x8000 * i

/-- Bytes of the flash. -/
def State.flashGet (s : State) (a n : Nat) : List Byte := SMap.getRun (fun _ => 0) s.flash a n

/-- COUNT of a copy. -/
def State.logCount (s : State) (i : Nat) : Nat := field (s.flashGet (logBase i) 64) 7 6
def State.logSeq (s : State) (i : Nat) : Nat := field (s.flashGet (logBase i) 64) 15 8

/-- The bytes of a copy, signature included. -/
def State.logBytes (s : State) (i : Nat) : List Byte := s.flashGet (logBase i) (64 + 8 * s.logCount i + 114)

/-- KEY_ID_PUB, 57 bytes. -/
def State.idPub (s : State) : List Byte := ((List.range 8).flatMap (fun i => leBytes 8 (s.reg (Reg.keyIdPub i)))).take 57

/-- Whether a copy is whole and its signature verifies. -/
def State.logOk (s : State) (i : Nat) : Bool :=
  let b := s.logBytes i
  let n := 64 + 8 * s.logCount i
  field b 3 0 = 0x474C_5A55 && byteAt b 4 = 1 && byteAt b 5 = 0 && s.logCount i ≤ 4000 &&
    (((b.take 64).drop 16).all (· = 0)) && ed448Verify s.idPub (text "UZD-REPAIR") (b.take n) (b.drop n)

/-- The copy in use: the higher SEQ among the valid ones. -/
def State.logBest (s : State) : Option Nat :=
  match s.logOk 0, s.logOk 1 with
  | true, true => some (if s.logSeq 0 < s.logSeq 1 then 1 else 0)
  | true, false => some 0
  | false, true => some 1
  | false, false => none

/-- Whether the copy in use holds an entry. -/
def State.logHas (s : State) (die kind unit index : Nat) : Bool :=
  match s.logBest with
  | none => false
  | some i => (List.range (s.logCount i)).any (fun k =>
      ((s.logBytes i).drop (64 + 8 * k)).take 8 = leBytes 1 die ++ leBytes 1 kind ++ leBytes 2 unit ++ leBytes 4 index)

/-- Append an entry (R448): the older copy is written with SEQ + 1 and signed by slot 0. Without the identity key (RMA), or
with 4,000 entries, the log stays (DESIGN CHOICE, log 12; DEDUCED, log 59; DEDUCED, log 84). -/
def State.logAppend (s : State) (die kind unit index : Nat) : State :=
  if (s.keySlot 0).ty ≠ 1 then s
  else
    let old := match s.logBest with
      | some i => (i, s.logSeq i, ((s.logBytes i).drop 64).take (8 * s.logCount i))
      | none => (1, 0, [])
    let (i, seq, es) := old
    let n := es.length / 8
    if 4000 ≤ n then s
    else
      let e := leBytes 1 die ++ leBytes 1 kind ++ leBytes 2 unit ++ leBytes 4 index
      let b := leBytes 4 0x474C_5A55 ++ leBytes 1 1 ++ leBytes 1 0 ++ leBytes 2 (n + 1) ++ leBytes 8 (seq + 1) ++
        leBytes 48 0 ++ es ++ e
      let whole := b ++ ed448Sign (s.keySlot 0).key (text "UZD-REPAIR") b
      { s with flash := SMap.setRun (fun _ => 0) s.flash (logBase (1 - i)) whole }

end Sys2Proof.Machine
end

