-- ==== Sys2Proof/Machine/Memory.lean ====
section
/-!
DEFINITION. The data address space (R18 to R25), the HBM's mapping, code and write-combining buffer (R367 to R376), the
SRAM banks' states and codewords (R102, R110 to R114, R123).
-/
namespace Sys2Proof.Machine

/-! ### Where an address lies -/

/-- The used bytes of the HBM range, of a Gallery and of a Tower memory (R18). -/
def hbmSize : Nat := 0x120_0000_0000
def gallerySize : Nat := 0x800_0000
def towerSize : Nat := 0x180_0000
def stackSize : Nat := 0x9_0000_0000

/-- What an address names: HBM, a Gallery, the Tower memory of a slot, companion memory. -/
inductive Loc
  | hbm
  | gallery (sp ofs : Nat)
  | tower (slot ofs : Nat)
  | companion (pa : Nat)
  | unmapped
  deriving DecidableEq, Repr

/-- Whether a Spire's memories are unmapped, from the bell after its retirement (R452). -/
def State.spireGone (s : State) (sp : Nat) : Bool := SMap.get (fun _ => false) s.gone sp

/-- What an address names (R18); the Gallery and the Tower memories of a retired Spire are unmapped (R452). -/
def State.loc (s : State) (a : Nat) : Loc :=
  if a < hbmSize then .hbm
  else if inSpan a 0x4000_0000_0000 0x4000_0000 then
    let sp := (a - 0x4000_0000_0000) / 0x1000_0000
    let o := a % 0x1000_0000
    if o < gallerySize && !s.spireGone sp then .gallery sp o else .unmapped
  else if inSpan a 0x5000_0000_0000 0x8000_0000 then
    let g := (a - 0x5000_0000_0000) / 0x200_0000
    let o := a % 0x200_0000
    if o < towerSize && !s.spireGone (g / 16) then .tower (s.slotOf (g / 16) (g % 16)) o
    else .unmapped
  else if inSpan a (2 ^ 47) (2 ^ 47) then .companion (a - 2 ^ 47)
  else .unmapped

/-- The first address beyond the row of R18 in which a mapped address lies. -/
def rowEnd (a : Nat) : Nat :=
  if a < hbmSize then hbmSize
  else if a < 0x5000_0000_0000 then a / 0x1000_0000 * 0x1000_0000 + gallerySize
  else if a < 2 ^ 47 then a / 0x200_0000 * 0x200_0000 + towerSize
  else 2 ^ 48

/-- The lowest unmapped address that the `n` bytes from `a` touch (R19). -/
def State.firstUnmapped (s : State) (a n : Nat) : Option Nat :=
  if n = 0 then none
  else match s.loc a with
  | .unmapped => some (min a (2 ^ 48))
  | _ => if rowEnd a < a + n then some (rowEnd a) else none

/-- A number that tells the rows of R18 apart (R20). -/
def rowId (a : Nat) : Nat :=
  if a < hbmSize then 0
  else if a < 0x5000_0000_0000 then 1 + (a - 0x4000_0000_0000) / 0x1000_0000
  else if a < 2 ^ 47 then 5 + (a - 0x5000_0000_0000) / 0x200_0000
  else 69

/-! ### HBM mapping (R23) -/

/-- The class of a band, from the copy of Spire `sp` (R382). -/
def State.bandClass (s : State) (sp b : Nat) : Nat :=
  if b < 32 then s.fld (Reg.hbmBandLo (8 * sp)) (2 * b + 1) (2 * b)
  else s.fld (Reg.hbmBandHi (8 * sp)) (2 * (b - 32) + 1) (2 * (b - 32))

/-- The stack and stack-internal address of an HBM address under a class (R23). -/
def hbmMap (cls a : Nat) : Nat × Nat :=
  let b := a >>> 35
  let o := a % 2 ^ 35
  let base := b <<< 30
  if cls = 1 then
    let sp := o >>> 33
    let i := (o % 2 ^ 33) >>> 12
    (8 * sp + i % 8, base + i / 8 * 4096 + o % 4096)
  else if cls = 2 then (o >>> 30, base + o % 2 ^ 30)
  else
    let i := o >>> 12
    (i % 32, base + i / 32 * 4096 + o % 4096)

/-- The DPA of a stack-internal address: the inverse of R23 under a class. -/
def hbmUnmap (cls stack addr : Nat) : Nat :=
  let b := addr >>> 30
  let r := addr % 2 ^ 30
  if cls = 1 then b <<< 35 + (stack / 8) <<< 33 + (r / 4096 * 8 + stack % 8) * 4096 + r % 4096
  else if cls = 2 then b <<< 35 + stack <<< 30 + r
  else b <<< 35 + (r / 4096 * 32 + stack) * 4096 + r % 4096

/-- The pieces of an HBM range that lie in one 4 KiB granule each: offset from the start, stack, address, length. `k`
bounds the number of pieces. -/
def State.hbmPieces (s : State) (sp : Nat) : Nat → Nat → Nat → Nat → List (Nat × Nat × Nat × Nat)
  | 0, _, _, _ => []
  | k + 1, o, a, n =>
    if n = 0 then []
    else
      let m := min n (4096 - a % 4096)
      let p := hbmMap (s.bandClass sp (a >>> 35)) a
      (o, p.1, p.2, m) :: s.hbmPieces sp k (o + m) (a + m) (n - m)

/-- The key of a stack byte. -/
def hbmKey (stack addr : Nat) : Nat := stack * stackSize + addr

/-! ### The HBM code (R370 to R372) -/

/-- Multiply by α = 0x02 in GF(2^8) modulo 0x11D. -/
def gfDouble (x : Nat) : Nat := if x < 128 then 2 * x else (2 * x) ^^^ 0x11D

/-- α^n · x. -/
def gfShift : Nat → Nat → Nat
  | 0, x => x
  | n + 1, x => gfShift n (gfDouble x)

/-- The syndrome S_i of an error pattern: pairs of a position (the power of x in R371) and the bits in error. -/
def syndrome (i : Nat) (es : List (Nat × Nat)) : Nat := es.foldl (fun v e => v ^^^ gfShift (i * e.1 % 255) e.2) 0

/-- Whether the syndromes fit one symbol error at position `p`; the error is then S_0. -/
def fitsAt (es : List (Nat × Nat)) (p : Nat) : Bool :=
  let v := syndrome 0 es
  v ≠ 0 && (List.range 4).all (fun i => syndrome i es = gfShift (i * p % 255) v)

/-- The outcomes of a read of one codeword (R372). -/
inductive CodeResult
  | clean
  | corrected (pos bits : Nat)
  | addrError
  | multi
  deriving DecidableEq, Repr

/-- The outcome that an error pattern gives (R372). -/
def decodeErrors (es : List (Nat × Nat)) : CodeResult :=
  if (List.range 4).all (fun i => syndrome i es = 0) then .clean
  else match (List.range 36).find? (fitsAt es) with
  | some p => .corrected p (syndrome 0 es)
  | none => if (List.range 5).any (fun k => fitsAt es (36 + k)) then .addrError else .multi

/-- The stored errors of codeword `cw` (key stack byte / 32): positions as powers of x. -/
def State.cwErrors (s : State) (cw : Nat) : List (Nat × Nat) :=
  (s.hbmErr.filter (fun e => e.1 / 36 = cw)).map (fun e => (e.1 % 36, e.2.toNat))

/-- A stack that has not been trained refuses every access with F_MEM_UE, TYPE MULTI (R377). -/
def State.trained (s : State) (stack : Nat) : Bool := bit (s.reg (Reg.hbmStatus stack)) 0

/-- The outcome of reading codeword `cw` of a stack. -/
def State.cwRead (s : State) (stack cw : Nat) : CodeResult :=
  if !s.trained stack then .multi
  else
    let es := s.cwErrors cw
    if es.isEmpty then .clean else decodeErrors es

/-- Bank, row and channel of a stack-internal address (R367). -/
def hbmBank (addr : Nat) : Nat := (addr >>> 16) % 48
def hbmRow (addr : Nat) : Nat := (addr >>> 16) / 48
def hbmChannel (addr : Nat) : Nat := (addr >>> 11) % 32
def hbmBurst (addr : Nat) : Nat := (addr >>> 6) % 32

/-- F_MEM_UE of an HBM codeword (R373). -/
def State.hbmUeFault (s : State) (sp stack addr ty req : Nat) : FaultInfo :=
  { code := F_MEM_UE, source := srcSpire (stack / 8) 6 (stack % 8),
    detail := leBytes 1 stack ++ leBytes 1 (hbmChannel addr) ++ leBytes 1 (hbmBank addr) ++ leBytes 2 (hbmRow addr) ++
      leBytes 1 (hbmBurst addr) ++ leBytes 1 ((addr >>> 5) % 2 + ty * 4) ++
      leBytes 6 (hbmUnmap (s.bandClass sp (addr >>> 30)) stack (addr / 32 * 32)) ++ leBytes 2 req }

/-- Report an uncorrectable HBM codeword (R373): the count, the log, Carillon source 65 + 2k, and copies to the Spire
and Keystone controllers. -/
def State.hbmUeReport (s : State) (stack addr ty : Nat) (f : FaultInfo) : State :=
  let s := s.count (Reg.hbmUeCnt stack) 1
  let log := Reg.hbmUeLog stack
  let s :=
    if bit (s.reg log) 63 then s.setReg log (s.reg log ||| 1 <<< 62)
    else (s.setReg log (1 <<< 63 + ty <<< 60 + hbmChannel addr <<< 55 + hbmBank addr <<< 49 + hbmRow addr <<< 35 +
      hbmBurst addr <<< 30 + ((addr >>> 5) % 2) <<< 29)).raise (stack / 8) (65 + 2 * (stack % 8))
  (s.faultToSpire (stack / 8) f).faultToKey f

/-- The two pins of a position (R370): data symbols at positions 4 to 35, check symbols at 0 to 3. Bits [3:0] of a symbol
are its even pin's, bits [7:4] its odd pin's: the pin that carries bits `v` in error stands first, the even one when both
do (DEDUCED, log 91). -/
def pinPair (pos v : Nat) : List Nat :=
  let p := if pos < 4 then 2 * (32 + pos) else 2 * (pos - 4)
  if v % 16 = 0 then [p + 1, p] else [p, p + 1]

/-- Count one correction against a pin (R378): one whose count has reached PIN_THRESH is recorded as suspect, once in a
patrol pass, and firmware adds it to the repair log, unless it stands there (R448). -/
def State.countPin (s : State) (stack ch pin : Nat) : State :=
  let k := 72 * (32 * stack + ch) + pin
  let n := SMap.get (fun _ => 0) s.pinCounts k + 1
  let s := { s with pinCounts := SMap.set (fun _ => 0) s.pinCounts k n }
  if n < s.fld (Reg.hbmCtl stack) 15 8 || SMap.get (fun _ => false) s.pinsOver k then s
  else
    let s := { s with pinsOver := SMap.set (fun _ => false) s.pinsOver k true }
    let r := Reg.hbmPinSuspect stack
    let s := (s.setFld (Reg.hbmStatus stack) 2 2 1).raise (stack / 8) (64 + 2 * (stack % 8))
    let s := if s.logHas (stack / 8) 8 stack (256 * ch + pin) then s
      else s.logAppend (stack / 8) 8 stack (256 * ch + pin)
    if bit (s.reg r) 63 then s.setReg r (s.reg r ||| 1 <<< 62)
    else s.setReg r (1 <<< 63 + (n % 256) <<< 24 + pin <<< 8 + ch)

/-- Count a corrected codeword, whose symbol `pos` had bits `v` in error (R372). -/
def State.hbmCorrected (s : State) (stack addr pos v : Nat) : State :=
  (pinPair pos v).foldl (fun (t : State) p => t.countPin stack (hbmChannel addr) p) (s.count (Reg.hbmCeCnt stack) 1)

/-! ### The write-combining buffer (R374, R375) -/

/-- The lines of a Spire's buffer, least recently used first. -/
def State.lines (s : State) (sp : Nat) : List WcbLine := SMap.get (fun _ => []) s.wcb sp

/-- Replace a Spire's lines. -/
def State.setLines (s : State) (sp : Nat) (l : List WcbLine) : State :=
  { s with wcb := SMap.set (fun _ => []) s.wcb sp l }

/-- Store bytes in a stack: the codewords written get valid check bytes. -/
def State.stackPut (s : State) (stack addr : Nat) (bs : List Byte) : State :=
  let k := hbmKey stack addr
  let lo := k / 32
  let hi := (k + bs.length + 31) / 32
  { s with
    hbm := SMap.setRun (fun _ => 0) s.hbm k bs,
    hbmErr := s.hbmErr.filter (fun e => !(lo ≤ e.1 / 36 && e.1 / 36 < hi)) }

/-- Bytes stored in a stack. -/
def State.stackGet (s : State) (stack addr n : Nat) : List Byte :=
  SMap.getRun (fun _ => 0) s.hbm (hbmKey stack addr) n

/-- The bits of the symbol at position `p` that a read leaves in error (R372): the stored ones, but for the symbol that the
controller corrects. Of a pattern whose syndromes point at another symbol, or at none, wrong bits are delivered. -/
def residual (es : List (Nat × Nat)) (p : Nat) : Nat :=
  (match decodeErrors es with | .corrected q v => (q, v) :: es | _ => es).foldl
    (fun (v : Nat) (e : Nat × Nat) => if e.1 = p then v ^^^ e.2 else v) 0

/-- The bytes of a stack as its controller reads them (R370 to R372). -/
def State.stackRead (s : State) (stack addr n : Nat) : List Byte :=
  let k := hbmKey stack addr
  let raw := s.stackGet stack addr n
  if s.hbmErr.all (fun e => e.1 / 36 < k / 32 || (k + n + 31) / 32 ≤ e.1 / 36) then raw
  else raw.zipIdx.map (fun b =>
    b.1 ^^^ BitVec.ofNat 8 (residual (s.cwErrors ((k + b.2) / 32)) (4 + (k + b.2) % 32)))

/-- The bytes `o` to `o + n - 1` of a line's burst that are valid, over the bytes below. -/
def lineOver (l : WcbLine) (o : Nat) (bs : List Byte) : List Byte :=
  bs.zipIdx.map (fun p => if l.mask.getLsbD (o + p.2) then SMap.get (fun _ => 0) l.bytes (o + p.2) else p.1)

/-- The line of a burst, if the buffer has one. -/
def State.lineOf (s : State) (stack addr : Nat) : Option WcbLine :=
  (s.lines (stack / 8)).find? (fun l => l.stack = stack && l.addr = addr / 64 * 64)

/-- Whether a line holds all 32 bytes of the codeword at an address: a read of it does not reach the stack (R375). -/
def State.lineHolds (s : State) (stack addr : Nat) : Bool :=
  match s.lineOf stack addr with
  | some l => (List.range 32).all (fun i => l.mask.getLsbD (addr % 64 + i))
  | none => false

/-- Take a line out of the buffer. -/
def State.dropLine (s : State) (stack addr : Nat) : State :=
  s.setLines (stack / 8) ((s.lines (stack / 8)).filter (fun l => !(l.stack = stack && l.addr = addr / 64 * 64)))

/-- One codeword half of a line at write-out (R374): a wholly valid half is written; otherwise the stored codeword is
read and merged, and an uncorrectable one takes nothing; its report names the last writer of the line (R373; DEDUCED,
log 91). The burst's other half is read too when no byte of it is
valid: a correctable codeword gets its check bytes anew. -/
def State.writeHalf (s : State) (l : WcbLine) (h : Nat) : State :=
  let o := 32 * h
  let a := l.addr + o
  let valid := below 32 (fun i => l.mask.getLsbD (o + i))
  if valid.length = 32 then s.stackPut l.stack a (lineOver l o (List.replicate 32 0))
  else match s.cwRead l.stack (hbmKey l.stack a / 32) with
    | .multi =>
      let f := s.hbmUeFault (l.stack / 8) l.stack a 1 l.req
      s.hbmUeReport l.stack a 1 f
    | .addrError =>
      let f := s.hbmUeFault (l.stack / 8) l.stack a 2 l.req
      s.hbmUeReport l.stack a 2 f
    | .corrected pos v => (s.hbmCorrected l.stack a pos v).stackPut l.stack a (lineOver l o (s.stackRead l.stack a 32))
    | .clean => if valid.isEmpty then s else s.stackPut l.stack a (lineOver l o (s.stackRead l.stack a 32))

/-- Write a line out (R374) (DEDUCED, log 78). -/
def State.writeOut (s : State) (l : WcbLine) : State :=
  let s := s.dropLine l.stack l.addr
  let s := if l.mask = BitVec.allOnes 64 then s else s.count (Reg.hbmRmwCnt l.stack) 1
  (s.writeHalf l 0).writeHalf l 1

/-- Write out every line of a Spire's buffer (R376). -/
def State.writeOutAll (s : State) (sp : Nat) : State := (s.lines sp).foldl State.writeOut s

/-- The mask of `n` bytes from byte `o` of a burst. -/
def byteMask (o n : Nat) : BitVec 64 := BitVec.ofNat 64 ((2 ^ n - 1) <<< o)

/-- A write of part of one burst: it enters the burst's line, a new one when there is none, after the least recently used
line has made room (R374: 32,768 lines). A line all of whose bytes are valid is written out. `req` is the writer. -/
def State.linePut (s : State) (stack addr : Nat) (bs : List Byte) (req : Nat) : State :=
  let o := addr % 64
  let old := (s.lineOf stack addr).getD { stack := stack, addr := addr / 64 * 64, bytes := [], mask := 0, req := req }
  let l : WcbLine := { old with
    bytes := SMap.setRun (fun _ => 0) old.bytes o bs, mask := old.mask ||| byteMask o bs.length, req := req }
  let s := s.dropLine stack addr
  if l.mask = BitVec.allOnes 64 then s.writeOut l
  else
    let s := match s.lines (stack / 8) with
      | v :: t => if 32768 ≤ t.length + 1 then s.writeOut v |>.count (Reg.sprWcbEvict (stack / 8)) 1 else s
      | [] => s
    s.setLines (stack / 8) (s.lines (stack / 8) ++ [l])

/-- A write within one granule of a stack (R374): whole bursts go to the controller, with their lines; the parts at
either end enter lines. -/
def State.granulePut (s : State) (stack addr : Nat) (bs : List Byte) (req : Nat) : State :=
  let head := min bs.length ((64 - addr % 64) % 64)
  let mid := (bs.length - head) / 64 * 64
  let s := if head = 0 then s else s.linePut stack addr (bs.take head) req
  let s :=
    if mid = 0 then s
    else
      let t := s.setLines (stack / 8) ((s.lines (stack / 8)).filter (fun l =>
        !(l.stack = stack && addr + head ≤ l.addr && l.addr < addr + head + mid)))
      t.stackPut stack (addr + head) ((bs.drop head).take mid)
  let rest := bs.drop (head + mid)
  if rest.isEmpty then s else s.linePut stack (addr + head + mid) rest req

/-- A read within one granule, with the lines' valid bytes over the stack's (R375). -/
def State.granuleGet (s : State) (stack addr n : Nat) : List Byte :=
  let raw := s.stackRead stack addr n
  ((s.lines (stack / 8)).filter (fun l => l.stack = stack && addr < l.addr + 64 && l.addr < addr + n)).foldl
    (fun bs l => bs.zipIdx.map (fun p =>
      let a := addr + p.2
      if l.addr ≤ a && a < l.addr + 64 && l.mask.getLsbD (a - l.addr) then SMap.get (fun _ => 0) l.bytes (a - l.addr)
      else p.1)) raw

/-! ### SRAM (R102, R110 to R114, R123) -/

/-- The key of a Tower-memory byte, of a Gallery byte, and of a 16-byte codeword of either in `ramErr`. -/
def tmKey (g o : Nat) : Nat := g * towerSize + o
def galKey (sp o : Nat) : Nat := sp * gallerySize + o
def tmCw (g o : Nat) : Nat := tmKey g o / 16
def galCw (sp o : Nat) : Nat := 68 * towerSize / 16 + galKey sp o / 16

/-- The states of a bank that an access meets (R112 to R114). -/
inductive BankState | on | rising | retention | off
  deriving DecidableEq, Repr

/-- The state of bank `n` of a slot. -/
def State.bankState (s : State) (g n : Nat) : BankState :=
  if bit (s.reg (Reg.twrBankOn g)) n then (if (s.tower g).rising.contains n then .rising else .on)
  else if bit (s.reg (Reg.twrBankRet g)) n then .retention else .off

/-- The bank of a Tower-memory offset (R102). -/
def bankOf (o : Nat) : Nat := o / 256 % 64

/-- F_BANK_OFF (R114): a tile row, or 0xFFFF, and the requester's SOURCE. -/
def bankOffFault (g o : Nat) (b : BankState) (row req : Nat) : FaultInfo :=
  { code := F_BANK_OFF, source := srcTower g 2,
    detail := leBytes 1 (bankOf o) ++ leBytes 1 (match b with | .retention => 1 | _ => 2) ++ leBytes 2 row ++
      leBytes 4 o ++ leBytes 2 req }

/-- The first offset of `n` bytes from `o` of a slot's Tower memory that lies in a bank in Retention or Off. -/
def State.firstOff (s : State) (g o n : Nat) : Option (Nat × BankState) :=
  let rows := (List.range (if n = 0 then 0 else (o + n - 1) / 256 - o / 256 + 1)).map (fun k =>
    if k = 0 then o else (o / 256 + k) * 256)
  (rows.find? (fun a => match s.bankState g (bankOf a) with
    | .retention => true | .off => true | _ => false)).map (fun a => (a, s.bankState g (bankOf a)))

/-- Whether any of `n` bytes from `o` lies in a bank that is becoming On: the access waits (R113). -/
def State.anyRising (s : State) (g o n : Nat) : Bool :=
  !(s.tower g).rising.isEmpty && (List.range (if n = 0 then 0 else (o + n - 1) / 256 - o / 256 + 1)).any (fun k =>
    s.bankState g (bankOf (o + 256 * k)) = .rising)

/-- F_MEM_UE of an SRAM codeword (R111): Tower memory of a slot, or a Gallery. -/
def towerUeFault (g o req : Nat) : FaultInfo :=
  { code := F_MEM_UE, source := srcTower g 2,
    detail := leBytes 1 (bankOf o) ++ leBytes 1 0 ++ leBytes 2 (o / 256 / 64) ++ leBytes 1 (o / 16 % 16) ++ leBytes 1 0 ++
      leBytes 4 o ++ leBytes 2 req }

def galleryUeFault (sp o req : Nat) : FaultInfo :=
  { code := F_MEM_UE, source := srcSpire sp 9 0,
    detail := leBytes 1 (o / 256 % 64) ++ leBytes 1 0 ++ leBytes 2 (o / 16384) ++ leBytes 1 (o / 16 % 16) ++ leBytes 1 1 ++
      leBytes 4 o ++ leBytes 2 req }

/-- The codewords in [lo, hi) whose error is `k`. -/
def State.ramCws (s : State) (k lo hi : Nat) : List Nat :=
  (s.ramErr.filter (fun e => lo ≤ e.1 && e.1 < hi && e.2 = k)).map (·.1)

/-! ### Reads and writes by DPA -/

/-- The bytes at a DPA range that lies in one row, as the Spire `sp` maps HBM. -/
def State.memGet (s : State) (sp a n : Nat) : List Byte :=
  match s.loc a with
  | .hbm => (s.hbmPieces sp (n / 4096 + 2) 0 a n).flatMap (fun p => s.granuleGet p.2.1 p.2.2.1 p.2.2.2)
  | .gallery g o => SMap.getRun (fun _ => 0) s.gallery (galKey g o) n
  | .tower g o => SMap.getRun (fun _ => 0) s.tmem (tmKey g o) n
  | .companion p => SMap.getRun (fun _ => 0) s.companion p n
  | .unmapped => List.replicate n 0

/-- Store bytes of a slot's Tower memory: codewords written whole get valid check bits. -/
def State.towerPut (s : State) (g o : Nat) (bs : List Byte) : State :=
  { s with
    tmem := SMap.setRun (fun _ => 0) s.tmem (tmKey g o) bs,
    ramErr := s.ramErr.filter (fun e => !((tmKey g o + 15) / 16 ≤ e.1 && e.1 < (tmKey g o + bs.length) / 16)) }

/-- Whether any of the byte runs (a key and a length) lies in codeword `c`; whether they cover it whole. -/
def runsReach (rs : List (Nat × Nat)) (c : Nat) : Bool := rs.any (fun r => r.1 < 16 * c + 16 && 16 * c < r.1 + r.2)
def runsCover (rs : List (Nat × Nat)) (c : Nat) : Bool :=
  (List.range 16).all (fun i => rs.any (fun r => r.1 ≤ 16 * c + i && 16 * c + i < r.1 + r.2))

/-- The codewords with an error of kind `k` that the runs cover in part: the write reads them first (R103). -/
def State.partCws (s : State) (k : Nat) (rs : List (Nat × Nat)) : List Nat :=
  (s.ramErr.filter (fun e => e.2 = k && runsReach rs e.1 && !runsCover rs e.1)).map (·.1)

/-- The codewords of the runs get valid check bits. -/
def State.clearRuns (s : State) (rs : List (Nat × Nat)) : State :=
  { s with ramErr := s.ramErr.filter (fun e => !runsReach rs e.1) }

/-- One write access of a slot's Tower memory (R103). Where it covers part of a codeword whose read half is
uncorrectable, the write is dropped, with F_MEM_UE (R111); a correctable one is counted (R110) (DEDUCED, log 27). -/
def State.towerWrite (s : State) (g o : Nat) (bs : List Byte) (req : Nat) : State × Option FaultInfo :=
  let run := [(tmKey g o, bs.length)]
  match s.partCws 2 run with
  | c :: _ =>
    let f := towerUeFault g (16 * c - tmKey g 0) req
    (s.faultToSpire (g / 17) f, some f)
  | [] =>
    let s := match (s.partCws 1 run).length with | 0 => s | k + 1 => s.count (Reg.twrMemCe g) (k + 1)
    ((s.towerPut g o bs).clearRuns run, none)

/-- Store bytes of a Gallery. -/
def State.galleryPut (s : State) (sp o : Nat) (bs : List Byte) : State :=
  let b := 68 * towerSize / 16
  { s with
    gallery := SMap.setRun (fun _ => 0) s.gallery (galKey sp o) bs,
    ramErr := s.ramErr.filter (fun e =>
      !(b + (galKey sp o + 15) / 16 ≤ e.1 && e.1 < b + (galKey sp o + bs.length) / 16)) }

/-- One write access of a Gallery, as `towerWrite` (R103, R110 and R111 apply to the Gallery, R123); Carillon source 96
with the record (R384) (DEDUCED, log 27). -/
def State.galleryWrite (s : State) (sp o : Nat) (bs : List Byte) (req : Nat) : State × Option FaultInfo :=
  let run := [(68 * towerSize + galKey sp o, bs.length)]
  match s.partCws 2 run with
  | c :: _ =>
    let f := galleryUeFault sp (16 * c - (68 * towerSize + galKey sp 0)) req
    ((s.raise sp 96).faultToSpire sp f, some f)
  | [] =>
    let s := match (s.partCws 1 run).length with | 0 => s | k + 1 => s.count (Reg.sprGalCe sp) (k + 1)
    ((s.galleryPut sp o bs).clearRuns run, none)

/-- Store bytes at a DPA range that lies in one row for the writer `req` (the Keystone controller's, R17, where none is
given): HBM by way of the write-combining buffer. A stack that has not been trained takes nothing and reports it (R377). -/
def State.memPut (s : State) (sp a : Nat) (bs : List Byte) (req : Nat := 0x4000) : State :=
  match s.loc a with
  | .hbm => (s.hbmPieces sp (bs.length / 4096 + 2) 0 a bs.length).foldl (fun t p =>
      if t.trained p.2.1 then t.granulePut p.2.1 p.2.2.1 ((bs.drop p.1).take p.2.2.2) req
      else t.hbmUeReport p.2.1 p.2.2.1 1 (t.hbmUeFault sp p.2.1 (p.2.2.1 / 32 * 32) 1 req)) s
  | .gallery g o => s.galleryPut g o bs
  | .tower g o => s.towerPut g o bs
  | .companion p => { s with companion := SMap.setRun (fun _ => 0) s.companion p bs }
  | .unmapped => s

/-- An uncorrectable codeword met by a read: its first byte's distance from the start of the range (0 when it begins
before it), and its record. -/
structure UeHit where
  ofs : Nat
  len : Nat
  fault : FaultInfo
  /-- For HBM: the stack, address and TYPE, for the controller's report. -/
  hbm : Option (Nat × Nat × Nat)
  deriving DecidableEq, Repr

/-- The uncorrectable HBM codewords of one piece; a codeword whose 32 bytes a line holds is not read (R375). -/
def State.pieceUes (s : State) (sp req : Nat) (p : Nat × Nat × Nat × Nat) : List UeHit :=
  let (o, stack, addr, n) := p
  let first := addr / 32
  let cws := (List.range ((addr + n - 1) / 32 - first + 1)).map (· + first)
  let errs := (s.hbmErr.map (fun e => e.1 / 36))
  (cws.filter (fun c => !s.trained stack || errs.contains (hbmKey stack (32 * c) / 32))).filterMap (fun c =>
    let ty := match s.cwRead stack (hbmKey stack (32 * c) / 32) with | .multi => 1 | .addrError => 2 | _ => 0
    if s.lineHolds stack (32 * c) || ty = 0 then none
    else some
      { ofs := o + (32 * c - addr), len := 32, fault := s.hbmUeFault sp stack (32 * c) ty req,
        hbm := some (stack, 32 * c, ty) })

/-- The uncorrectable codewords that a read of a DPA range meets, in address order. -/
def State.memUes (s : State) (sp req a n : Nat) : List UeHit :=
  match s.loc a with
  | .hbm => (s.hbmPieces sp (n / 4096 + 2) 0 a n).flatMap (s.pieceUes sp req)
  | .gallery g o => (s.ramCws 2 (galCw g o) (galCw g (o + n + 15))).map (fun c =>
      let co := (c - galCw g 0) * 16
      { ofs := co - o, len := 16, fault := galleryUeFault g co req, hbm := none })
  | .tower g o => (s.ramCws 2 (tmCw g o) (tmCw g (o + n + 15))).map (fun c =>
      let co := (c - tmCw g 0) * 16
      { ofs := co - o, len := 16, fault := towerUeFault g co req, hbm := none })
  | _ => []

/-- Report an uncorrectable codeword to the controllers that R111 and R373 name: the Spire controller, and for HBM the
Keystone too; Carillon source 96 for a Gallery codeword (R384). -/
def State.ueReport (s : State) (sp : Nat) (u : UeHit) : State :=
  match u.hbm with
  | some (stack, addr, ty) => s.hbmUeReport stack addr ty u.fault
  | none =>
    let s := if u.fault.source / 256 % 16 = 9 then s.raise (u.fault.source / 4096) 96 else s
    s.faultToSpire sp u.fault

/-- Count the corrected codewords of a read (R110, R372); a codeword that a line holds whole is not read (R375). -/
def State.countCorrected (s : State) (sp a n : Nat) : State :=
  match s.loc a with
  | .tower g o => match (s.ramCws 1 (tmCw g o) (tmCw g (o + n + 15))).length with
    | 0 => s
    | k + 1 => s.count (Reg.twrMemCe g) (k + 1)
  | .gallery g o => match (s.ramCws 1 (galCw g o) (galCw g (o + n + 15))).length with
    | 0 => s
    | k + 1 => s.count (Reg.sprGalCe g) (k + 1)
  | .hbm =>
    if s.hbmErr.isEmpty then s
    else (s.hbmPieces sp (n / 4096 + 2) 0 a n).foldl (fun t p =>
      let first := p.2.2.1 / 32
      (List.range ((p.2.2.1 + p.2.2.2 - 1) / 32 - first + 1)).foldl (fun (t : State) c =>
        if t.lineHolds p.2.1 (32 * (c + first)) then t
        else match t.cwRead p.2.1 (hbmKey p.2.1 (32 * (c + first)) / 32) with
        | .corrected pos v => t.hbmCorrected p.2.1 (32 * (c + first)) pos v
        | _ => t) t) s
  | _ => s

end Sys2Proof.Machine
end

