-- ==== Sys2Proof/Machine/Desc.lean ====
section
/-!
DEFINITION. Tensor descriptors (R72 to R100): the 64-byte layout, the checks at creation, the use of a handle, positions
and addresses, clamping and suppression, pointer lists.
-/
namespace Sys2Proof.Machine

/-- A descriptor (R75). -/
structure Desc where
  base : Nat
  fmt : Nat
  rank : Nat
  kv : Bool
  cls : Nat
  layout : Nat
  seqDim : Nat
  gen : Nat
  region : Nat
  sizes : List Nat
  strides : List Nat
  aux0 : Nat
  aux1 : Nat
  deriving DecidableEq, Repr

/-- The descriptor that 64 bytes spell (R75). -/
def parseDesc (b : List Byte) : Desc :=
  { base := field b 5 0, fmt := bits (byteAt b 6) 3 0, rank := bits (byteAt b 6) 6 4, kv := bit (byteAt b 6) 7,
    cls := bits (byteAt b 7) 1 0, layout := bits (byteAt b 7) 3 3, seqDim := bits (byteAt b 7) 6 4,
    gen := field b 9 8, region := field b 11 10,
    sizes := (List.range 6).map (fun d => field b (14 + 7 * d) (12 + 7 * d)),
    strides := (List.range 6).map (fun d => if d = 0 then 1 else field b (18 + 7 * d) (15 + 7 * d)),
    aux0 := field b 57 54, aux1 := field b 61 58 }

def Desc.size (d : Desc) (k : Nat) : Nat := d.sizes.getD k 1
def Desc.stride (d : Desc) (k : Nat) : Nat := d.strides.getD k 0

/-- The bytes with CHECK computed (R75). -/
def checkDesc (b : List Byte) : List Byte := b.take 63 ++ leBytes 1 (crc8 (b.take 63))

/-- F_DESC (R81). -/
def descFault (src reason : Nat) (dim : Nat := 0xFF) (pl : Nat := 0xFFFF) (handle : Nat := 0) (addr : Nat := 0) :
    FaultInfo :=
  { code := F_DESC, source := src,
    detail := leBytes 1 reason ++ leBytes 1 dim ++ leBytes 2 pl ++ leBytes 4 handle ++ leBytes 8 addr }

/-! ### Positions and addresses -/

/-- The largest position (R80). -/
def Desc.pmax (d : Desc) : Nat :=
  (List.range d.rank).foldl (fun p k => p + d.stride k * (d.size k - 1)) 0

/-- The position of an index tuple (R72). -/
def Desc.pos (d : Desc) (idx : List Nat) : Nat :=
  (List.range d.rank).foldl (fun p k => p + d.stride k * idx.getD k 0) 0

/-- The address of the pane of block b, and of its record (R74). -/
def Desc.paneAddr (d : Desc) (b : Nat) : Nat := d.base + 512 * (b / perPane d.fmt)
def Desc.recAddr (d : Desc) (b : Nat) : Nat := d.paneAddr b + recSize d.fmt * (b % perPane d.fmt)

/-- The address of an element of W32, BF16 or FP32 (R74); a diagonal layout rotates its row (R99). -/
def Desc.elemAddr (d : Desc) (p : Nat) : Nat :=
  let o := elemBytes d.fmt * p
  if d.layout = 1 then d.base + o / 256 * 256 + (o % 256 + 4 * (o / 256 % 64)) % 256 else d.base + o

/-- The addresses of the extent, first and last (R80). -/
def Desc.extent (d : Desc) : Nat × Nat :=
  let p := d.pmax
  (d.base,
    if isBlockFmt d.fmt then d.base + 512 * (p / 64 / perPane d.fmt) + 511
    else if d.fmt = 0xC then d.base + p / 2
    else if d.fmt = 0xD then d.base + p
    else d.base + elemBytes d.fmt * p + (elemBytes d.fmt - 1))

/-- The promotion area of a descriptor: its base and length in bytes (R76, R77). -/
def Desc.promo (d : Desc) : Nat × Nat :=
  if isBlockFmt d.fmt && !d.kv then (d.base + 64 * d.aux0, 64 * d.aux1) else (d.base, 0)

/-- The address of a promoted payload, when it lies wholly in the promotion area (R43, R44). -/
def Desc.promoAddr (d : Desc) (ofs : Nat) : Option Nat :=
  let (b, n) := d.promo
  if 64 * ofs + 64 ≤ n then some (b + 64 * ofs) else none

/-- The ranges that creation checks: extent, promotion area and scale array, as first address and length (R80). -/
def Desc.ranges (d : Desc) : List (Nat × Nat) :=
  let (lo, hi) := d.extent
  let (pb, pn) := d.promo
  (lo, hi + 1 - lo) :: (if pn = 0 then [] else [(pb, pn)]) ++
    (if isMxFmt d.fmt && !d.kv && d.aux1 ≠ 0 then [(d.base + d.aux0, d.aux1)] else [])

/-! ### Bounds -/

/-- What a read's index tuple comes to (R88, R93): zero data, or the bounded tuple and whether it was clamped. -/
inductive ReadAt
  | zero
  | at (idx : List Nat) (clamped : Bool)
  deriving DecidableEq, Repr

/-- One index of a read bounded to its dimension: the nearer end (R88). For block formats dimension 0 clamps by whole
blocks. -/
def Desc.clampDim (d : Desc) (k : Nat) (i : Int) : Nat :=
  let n : Int := d.size k
  if k = 0 && isBlockFmt d.fmt then
    let b := i / 64
    let b' := max 0 (min b (n / 64 - 1))
    (64 * b' + (i - 64 * b)).toNat
  else (max 0 (min i (n - 1))).toNat

/-- Bound a read's tuple: no clamp along SEQ_DIM of a KV descriptor, whose positions outside [0, `tent`) read as zero
(R93) (DEDUCED, log 67). -/
def Desc.readAt (d : Desc) (tent : Nat) (idx : List Int) : ReadAt :=
  let q := idx.getD d.seqDim 0
  if d.kv && (q < 0 || (tent : Int) ≤ q) then .zero
  else
    let out := (List.range 6).map (fun k =>
      if d.kv && k = d.seqDim then (idx.getD k 0).toNat else d.clampDim k (idx.getD k 0))
    .at out ((List.range 6).any (fun k => (out.getD k 0 : Int) ≠ idx.getD k 0))

/-- The tuple of a write, unless it is suppressed (R89, R91) (DEDUCED, log 67). -/
def Desc.writeAt (d : Desc) (committed : Nat) (idx : List Int) : Option (List Nat) :=
  if (List.range 6).all (fun k => 0 ≤ idx.getD k 0 && idx.getD k 0 < (d.size k : Int)) &&
      !(d.kv && idx.getD d.seqDim 0 < (committed : Int)) then
    some ((List.range 6).map (fun k => (idx.getD k 0).toNat))
  else none

/-- The outer indices that OUTER names: dimensions 2 to RANK - 1 (R170). -/
def Desc.outer (d : Desc) (o : Nat) : List Int :=
  (List.range (d.rank - 2)).map (fun j =>
    let below := (List.range j).foldl (fun p m => p * d.size (2 + m)) 1
    ((if j + 3 < d.rank then o / below % d.size (2 + j) else o / below : Nat) : Int))

/-- The index tuple of element i0 of row i1 at outer index OUTER. -/
def Desc.tuple (d : Desc) (i0 i1 : Int) (outer : Nat) : List Int := i0 :: i1 :: d.outer outer

/-! ### Creation (R80) -/

/-- Check 1 to 3 and 5 look at the descriptor alone (DEDUCED, log 70). -/
def Desc.fieldBad (b : List Byte) (d : Desc) : Option Nat :=
  if fmtReserved d.fmt || d.rank = 0 || 6 < d.rank then some 0xFF
  else match (List.range 6).find? (fun k =>
      if k < d.rank then d.size k = 0 else d.size k ≠ 1 || (k ≠ 0 && d.stride k ≠ 0)) with
  | some k => some k
  | none =>
    if bit (byteAt b 7) 7 || field b 18 15 ≠ 0 || byteAt b 62 ≠ 0 || (!d.kv && d.seqDim ≠ 0) ||
        (isPlainFmt d.fmt && !d.kv && (d.aux0 ≠ 0 || d.aux1 ≠ 0)) ||
        (isMxFmt d.fmt && !d.kv && d.aux1 < d.pmax / 32 + 1) then some 0xFF
    else none

/-- Check 2: the first dimension that is no multiple. -/
def Desc.multipleBad (d : Desc) : Option Nat :=
  let m := if isBlockFmt d.fmt then 64 else if isMxFmt d.fmt then 32 else 1
  (List.range d.rank).find? (fun k => if k = 0 then d.size 0 % m ≠ 0 else d.stride k % m ≠ 0)

/-- The alignment of BASE (check 3). -/
def Desc.alignment (d : Desc) : Nat := if isBlockFmt d.fmt then 256 else if isMxFmt d.fmt then 32 else elemBytes d.fmt

/-- Whether an address lies in a Tower memory. -/
def inTower (a : Nat) : Bool := inSpan a 0x5000_0000_0000 0x8000_0000

/-- R99. -/
def Desc.layoutOk (d : Desc) : Bool :=
  d.layout = 0 || (inTower d.base && isPlainFmt d.fmt && 2 ≤ d.rank && d.size 0 * elemBytes d.fmt = 256 &&
    d.stride 1 = d.size 0 && d.base % 65536 = 0 && d.size 1 % 256 = 0)

/-- Check 5. -/
def Desc.kvOk (d : Desc) : Bool :=
  !d.kv || (!isMxFmt d.fmt && d.seqDim < d.rank && d.aux0 ≤ d.aux1 && d.aux1 ≤ d.size d.seqDim)

/-- The base and limit of a region. -/
def State.region (s : State) (i : Nat) : Nat × Nat := SMap.get (fun _ => (0, 0)) s.regions i

/-- The first address of a range outside a region, whose limit is exclusive (DESIGN CHOICE, log 13). -/
def outside (r : Nat × Nat) (a n : Nat) : Option Nat :=
  if a < r.1 then some a else if r.2 < a + n then some (max a r.2) else none

/-- The first address of an HBM range that lies in a band of another class (check 9). -/
def State.classBad (s : State) (sp cls a n : Nat) : Option Nat :=
  if hbmSize ≤ a then (if cls = 3 then none else some a)
  else if cls = 3 then some a
  else ((List.range ((a + n - 1) >>> 35 - a >>> 35 + 1)).find? (fun k => s.bandClass sp (a >>> 35 + k) ≠ cls)).map
    (fun k => if k = 0 then a else (a >>> 35 + k) <<< 35)

/-- Whether an enabled window contains `n` bytes at offset `o`: window n's BASE, LIMIT and CTL registers, and the size
of the memory (R119, chapter 04's register notes). -/
def State.windowHas (s : State) (base limit ctl size o n : Nat) : Bool :=
  bit (s.reg ctl) 31 && s.reg base ≤ o && o + n ≤ s.reg limit && s.reg limit ≤ size

/-- Whether one window whose GEN is `gen` contains the range (check 10). -/
def State.windowGenOk (s : State) (gen a n : Nat) : Bool :=
  match s.loc a with
  | .tower g o => (List.range 64).any (fun w =>
      s.windowHas (Reg.twrWinBase g w) (Reg.twrWinLimit g w) (Reg.twrWinCtl g w) towerSize o n &&
        s.fld (Reg.twrWinGen g w) 15 0 = gen)
  | .gallery sp o => (List.range 256).any (fun w =>
      s.windowHas (Reg.sprGalWinBase sp w) (Reg.sprGalWinLimit sp w) (Reg.sprGalWinCtl sp w) gallerySize o n &&
        s.fld (Reg.sprGalWinGen sp w) 15 0 = gen)
  | _ => false

/-- Whether a Spire has a descriptor table (R85). -/
def State.hasTable (s : State) (sp : Nat) : Bool :=
  let b := s.reg (Reg.sprDescBase sp)
  inSpan b (0x4000_0000_0000 + 0x1000_0000 * sp) gallerySize

/-- The lowest free entry of a Spire's table (DESIGN CHOICE, log 20). -/
def State.freeEntry (s : State) (sp : Nat) : Option Nat :=
  (List.range 16384).find? (fun i => !(s.desc sp i).live)

/-- The first check of R80 that a descriptor fails, as its F_DESC; `b` are the bytes the command carries. -/
def State.createFault (s : State) (sp src region : Nat) (b : List Byte) : Option FaultInfo :=
  let d := parseDesc b
  let rs := d.ranges
  match Desc.fieldBad b d with
  | some k => some (descFault src 0x05 (dim := k))
  | none =>
  match d.multipleBad with
  | some k => some (descFault src 0x07 (dim := k))
  | none =>
  if d.base % d.alignment ≠ 0 then some (descFault src 0x06 (addr := d.base))
  else if !d.layoutOk then some (descFault src 0x0E)
  else if !d.kvOk then some (descFault src 0x08 (dim := if d.seqDim < 6 then d.seqDim else 0xFF))
  else match rs.findSome? (fun r => s.firstUnmapped r.1 r.2) with
  | some a => some (descFault src 0x01 (addr := a))
  | none =>
  match rs.find? (fun r => rowId r.1 ≠ rowId d.base) with
  | some r => some (descFault src 0x02 (addr := r.1))
  | none =>
  match rs.findSome? (fun r => outside (s.region region) r.1 r.2) with
  | some a => some (descFault src 0x04 (addr := a))
  | none =>
  match rs.findSome? (fun r => s.classBad sp d.cls r.1 r.2) with
  | some a => some (descFault src 0x03 (addr := a))
  | none =>
  if d.gen ≠ 0 && !s.windowGenOk d.gen d.base (d.extent.2 + 1 - d.base) then some (descFault src 0x10 (addr := d.base))
  else if !s.hasTable sp || (s.freeEntry sp).isNone then some (descFault src 0x0D)
  else none

/-! ### The table (R79, R84 to R87) -/

/-- The Gallery offset of entry i. -/
def State.entryOfs (s : State) (sp i : Nat) : Nat := s.reg (Reg.sprDescBase sp) % 0x1000_0000 + 64 * i

/-- The bytes of entry i. -/
def State.entryBytes (s : State) (sp i : Nat) : List Byte :=
  SMap.getRun (fun _ => 0) s.gallery (galKey sp (s.entryOfs sp i)) 64

/-- The handle of entry i (R84). -/
def State.handleOf (s : State) (sp i : Nat) : Nat := sp <<< 30 + (s.desc sp i).reuse <<< 14 + i

/-- The reason for which R86 refuses a use of a handle by a unit of Spire `sp`. -/
def State.handleStale (s : State) (sp h : Nat) : Option Nat :=
  let e := s.desc sp (h % 16384)
  if bits h 31 30 ≠ sp then some 0x0F
  else if bits h 29 24 ≠ 0 || s.spireGone sp || !s.hasTable sp || !e.live || e.freeing.isSome || e.reuse ≠ bits h 23 14 then some 0x09
  else none

/-- Whether CHECK of entry `i` matches its other bytes (R79). -/
def State.entryOk (s : State) (sp i : Nat) : Bool :=
  let b := s.entryBytes sp i
  byteAt b 63 = crc8 (b.take 63)

/-- The reason for which a use of a handle by a unit of Spire `sp` is refused (R86, R79). -/
def State.handleBad (s : State) (sp h : Nat) : Option Nat :=
  match s.handleStale sp h with
  | some r => some r
  | none => if s.entryOk sp (h % 16384) then none else some 0x0A

/-- Offsets of the uncorrectable codewords in `n` bytes from offset `o` of a Gallery. -/
def State.galUes (s : State) (sp o n : Nat) : List Nat :=
  (s.ramCws 2 (galCw sp o) (galCw sp (o + n + 15))).map (fun c => (c - galCw sp 0) * 16)

/-- A read of `n` bytes from offset `o` of a Gallery for the requester `req`: corrected codewords are counted, uncorrectable
ones reported to the Spire controller (R110, R111, R123; source 96, R384). -/
def State.galleryRead (s : State) (sp o n req : Nat) : State :=
  let s := match (s.ramCws 1 (galCw sp o) (galCw sp (o + n + 15))).length with
    | 0 => s
    | k + 1 => s.count (Reg.sprGalCe sp) (k + 1)
  (s.galUes sp o n).foldl (fun (t : State) u => (t.raise sp 96).faultToSpire sp (galleryUeFault sp u req)) s

/-- Read entry `i` from the table without a cache: an uncorrectable codeword, and a CHECK that does not match, refuse the
operation that named the handle (R79, R111). -/
def State.readEntry (s : State) (sp i src h : Nat) : State × Except FaultInfo (List Byte) :=
  let o := s.entryOfs sp i
  (s.galleryRead sp o 64 src,
    match s.galUes sp o 64 with
    | u :: _ => .error (galleryUeFault sp u src)
    | [] => if s.entryOk sp i then .ok (s.entryBytes sp i) else .error (descFault src 0x0A (handle := h)))

/-- Use a handle: the descriptor's bytes as they stand, or the F_DESC that refuses the use. -/
def State.useHandle (s : State) (sp src h : Nat) : Except FaultInfo (List Byte) :=
  match s.handleBad sp h with
  | some r => .error (descFault src r (handle := h))
  | none => .ok (s.entryBytes sp (h % 16384))

/-- Write the lengths of a KV entry, with its CHECK (R82, R92, R94). An entry whose CHECK does not match is left alone
(R79). -/
def State.setLengths (s : State) (sp i : Nat) (f : Nat → Nat → Nat × Nat) : State :=
  let b := s.entryBytes sp i
  if !s.entryOk sp i then s
  else
    let (c, t) := f (field b 57 54) (field b 61 58)
    s.galleryPut sp (s.entryOfs sp i) (checkDesc (patch b 54 (leBytes 4 c ++ leBytes 4 t)))

/-- The larger of an index and one met before. -/
def maxTop (a : Option Nat) (i : Nat) : Option Nat :=
  match a with | some j => some (max i j) | none => some i

/-! ### Pointer lists (R96 to R98) -/

/-- An entry of a pointer list: LEN (none for 0xFF_FFFF) and OFFSET. -/
structure PlEntry where
  len : Option Nat
  ofs : Nat
  deriving DecidableEq, Repr

def parsePl (b : List Byte) : PlEntry :=
  let v := field b 7 0
  { len := if bits v 63 40 = 0xFF_FFFF then none else some (bits v 63 40), ofs := bits v 39 0 }

/-- The check of entry e when the walk reaches it (R98) (DEDUCED, log 26). -/
def State.plFault (s : State) (src h e : Nat) (d : Desc) (p : PlEntry) : Option FaultInfo :=
  if isBlockFmt d.fmt && p.ofs % 64 ≠ 0 then some (descFault src 0x07 (pl := e) (handle := h))
  else
    let b := p.ofs / 64
    let lo := if isBlockFmt d.fmt then d.paneAddr b
      else if isMxFmt d.fmt then (if d.fmt = 0xC then d.base + p.ofs / 2 else d.base + p.ofs)
      else d.base + elemBytes d.fmt * p.ofs
    let top := d.pmax + p.ofs
    let hi := if isBlockFmt d.fmt then d.paneAddr (top / 64) + 511
      else if isMxFmt d.fmt then (if d.fmt = 0xC then d.base + top / 2 else d.base + top)
      else d.base + elemBytes d.fmt * top + (elemBytes d.fmt - 1)
    match s.firstUnmapped lo (hi + 1 - lo), outside (s.region d.region) lo (hi + 1 - lo) with
    | some a, _ => some (descFault src 0x0B (pl := e) (handle := h) (addr := a))
    | none, some a => some (descFault src 0x0B (pl := e) (handle := h) (addr := a))
    | none, none =>
      if rowId lo ≠ rowId d.base then some (descFault src 0x0B (pl := e) (handle := h) (addr := lo)) else none

end Sys2Proof.Machine
end

