-- ==== Sys2Proof/Machine/Exception.lean ====
section
/-!
DEFINITION. Taking a Tower exception, returning from one, stopping and resuming a Tower (R149 to R158).
-/
namespace Sys2Proof.Machine

/-- DETAIL of the faults of R156. -/
def towerDetail (reason : Nat) (st : Stream) (pc : BitVec 17) (bank : Bool) (q tile acc tag dfmt : Nat) : List Byte :=
  leBytes 1 reason ++ leBytes 1 (streamUnit st) ++ leBytes 2 pc.toNat ++ leBytes 1 (ofBool bank) ++ leBytes 1 q ++
    leBytes 1 tile ++ leBytes 1 acc ++ leBytes 1 tag ++ leBytes 1 dfmt

/-- A fault of stream `st` of slot `g` at its present instruction, with the layout of R156 and no further operands. -/
def State.streamFault (s : State) (g : Nat) (st : Stream) (code reason : Nat) (q : Nat := 0xFF) (tile : Nat := 0xFF)
    (acc : Nat := 0xFF) (tag : Nat := 0) (dfmt : Nat := 0xFF) : FaultInfo :=
  { code := code, source := srcTower g (streamUnit st),
    detail := towerDetail reason st ((s.tower g).stream st).pc (s.tower g).active q tile acc tag dfmt }

/-- Take stream `st` of slot `g` out of the semaphore FIFO it waits in, when it waits at a SEMW. -/
def State.dropWaiter (s : State) (g : Nat) (st : Stream) : State :=
  match ((s.tower g).stream st).wait with
  | some w =>
    match w.instr with
    | .semw _ sa _ =>
      let n := bits (((s.tower g).stream st).sreg sa.toNat).toNat 11 0
      let m := s.sem (slotSpire g) n
      s.setSem (slotSpire g) n
        { m with waiters := m.waiters.filter (fun w => w.who ≠ .stream (Fin.ofNat 68 g) st) }
    | _ => s
  | none => s

/-- BANK and ADDR of an EPC register for an address in the active bank (R163). -/
def epcOf (active : Bool) (pc : BitVec 17) : BitVec 17 :=
  BitVec.ofNat 17 (ofBool active * 0x1_0000 + pc.toNat % 0x1_0000)

/-- A Tower's X at a stop: every tile operation in flight is cancelled, and its registers are those of the oldest
(R158). -/
def Tower.stopX (t : Tower) : Tower :=
  match t.ops with
  | [] => t
  | o :: _ => { t.cancelFrom 0 with x := t.x.restore o.snap }

/-- The checkpoints that A passed at or before the instruction with count `n` (R150, R158), and how many it passed after
it. -/
def Tower.cpsUpTo (t : Tower) (n : Word) : List Checkpoint × Nat :=
  let cps := t.cps.filter (fun c => decide (c.snap.icount ≤ n))
  (cps, t.cps.length - cps.length)

/-- A Tower's A at a stop: loads in flight are cancelled, so that each runs again, and A is rolled back (R149, R158;
a load of X's own step takes A back to it, DEDUCED, log 24). A handler's loads go on. -/
def Tower.stopA (t : Tower) : Tower :=
  if t.a.inHandler then t.rollbackA .stopped
  else
    let t := t.rollbackA .stopped
    match t.loads with
    | [] => t
    | l :: _ =>
      let t' := t.loads.foldl Tower.cancelLoad t
      let (cps, gone) := t.cpsUpTo l.snap.icount
      { t' with
        loads := [], cps := cps, seqs := l.seqs,
        a := { t.a.restore l.snap with run := .stopped, step := t.a.step - gone } }

/-- Stop both streams of a Tower (R158): each stream's resume address stands in its EPC. A halted stream stays
halted (DEDUCED, log 69). -/
def State.stopTower (s : State) (g : Nat) : State :=
  let s := (if (s.tower g).a.inHandler then s else s.dropWaiter g .a).dropWaiter g .x
  s.modTower g (fun t =>
    let t := t.stopX.stopA
    let x := if t.x.run = .halted then t.x
      else { t.x with run := .stopped, wait := none, swap := none, epc := epcOf t.active t.x.pc }
    let a := if t.a.run = .halted then t.a else { t.a with epc := epcOf t.active t.a.pc }
    { t with x := x, a := a, swapPend := none })

/-- Restart a stopped Tower at its EPCs (R158). -/
def State.resumeTower (s : State) (g : Nat) : State :=
  s.modTower g (fun t =>
    let go := fun (r : StreamState) =>
      if r.run = .stopped then { r with run := .running, pc := BitVec.ofNat 17 (r.epc.toNat % 0x1_0000) } else r
    { t with a := go t.a, x := go t.x })

/-- A task has ended, by HALT of both streams or with a fault record (R154, R178, R324): its LAUNCH completes when every
named Tower's task has ended. The clk of the longest task in RESULT is free (DESIGN CHOICE, log 4). -/
def State.taskEnded (s : State) (g : Nat) (rec : Option (List Byte)) : State :=
  let mine := fun (l : LaunchRun) => (s.tower g).task.any (fun k => k.o = l.o) && l.left.contains g
  let s := s.modTower g (fun t => { t with task := none })
  match s.launches.find? mine with
  | none => s
  | some l =>
    let t := (s.logicalOf g).getD 16
    let l' : LaunchRun := { l with
      left := l.left.filter (· ≠ g), halts := l.halts + ofBool rec.isNone, faults := l.faults + ofBool rec.isSome,
      first := match rec, l.first with
        | some r, some (u, q) => if t < u then some (t, r) else some (u, q)
        | some r, none => some (t, r)
        | none, f => f }
    if l'.left.isEmpty then
      ({ s with launches := s.launches.filter (fun e => !mine e), free := s.free + 1 } : State).complete l.o
        0x20 (leBytes 2 l'.halts ++ leBytes 2 l'.faults ++ leBytes 8 (Config.clk64 s.free).toNat) (l'.first.map (·.2))
    else { s with launches := s.launches.map (fun e => if mine e then l' else e) }

/-- Copies of F_CHECKSUM and F_MEM_UE records go to the Spire controller (R157). -/
def State.copyToSpire (s : State) (g : Nat) (code : Nat) (r : List Byte) : State :=
  if code = F_CHECKSUM || code = F_MEM_UE then s.toSpire (slotSpire g) r else s

/-- End the task with a fault record: both streams stop, the record goes to the Spire controller and into LAUNCH's
completion (R154). -/
def State.faultTask (s : State) (g : Nat) (r : List Byte) : State :=
  ((s.stopTower g).toSpire (slotSpire g) r).taskEnded g (some r)

/-- Take an exception in stream `st` of slot `g` at the instruction at its pc (R152, R154). `posted` marks a posted
fault (R155). With a handler the record goes to the exception area, EPC and IN_HANDLER are set and the stream goes on at
the handler address; X's entry holds A (R149). A stream that leaves IMSWAP so ends
the rendezvous (R161, R162). With none, or inside a handler, the task ends, and the stream that faulted
stops even inside its handler (R154). -/
def State.takeFault (s : State) (g : Nat) (st : Stream) (f : FaultInfo) (posted : Bool := false) : State :=
  let t := s.tower g
  let r := t.stream st
  let flags := ofBool r.lost * 64 ||| ofBool posted * 32
  let ev := s.reg (match st with | .a => Reg.twrAEvec g | .x => Reg.twrXEvec g)
  let evec := bits ev 15 2 * 4
  let s := s.dropWaiter g st
  let s := if st = .x && !t.a.inHandler then s.dropWaiter g .a else s
  let s := if r.swap.isSome then s.modTower g (fun t => { t with swapPend := none }) else s
  if evec = 0 || r.inHandler then
    let f' : FaultInfo := if r.inHandler then
      { code := F_ILLEGAL, source := srcTower g (streamUnit st),
        detail := towerDetail 0x08 st r.pc t.active 0xFF 0xFF 0xFF f.code 0xFF } else f
    let rec_ := s.record f' flags
    let s := s.modStream g st (fun r => { r with lost := false, wait := none, swap := none })
    ((s.faultTask g rec_).modStream g st (fun r => { r with run := .stopped })).wrote f'
  else
    let rec_ := s.record f flags
    let area := match st with | .a => 0x3_FF00 | .x => 0x3_FF20
    let s := s.modTower g (fun t =>
      let r' := { r with
        lost := false, wait := none, swap := none, epc := epcOf t.active r.pc, inHandler := true,
        pc := BitVec.ofNat 17 evec, run := .running }
      let t := { t with sdm := SMap.setRun (fun _ => 0) t.sdm area rec_ }.setStream st r'
      match st with
      | .a => t
      | .x => t.rollbackA .held)
    (s.copyToSpire g f.code rec_).wrote f

/-- A tile operation of X faults (R151): it and every younger one are cancelled, X's registers are restored to the
record of its issue, and the exception is taken there. -/
def State.faultOp (s : State) (g k : Nat) (f : FaultInfo) : State :=
  match (s.tower g).ops[k]? with
  | none => s
  | some o =>
    ((s.dropWaiter g .x).modTower g (fun t => { t.cancelFrom k with x := t.x.restore o.snap })).takeFault g .x f

/-- Load number `k` of A faults: it and every younger load are cancelled, and A's registers and sequencers are those of
its issue, so that the exception is precise (R150). -/
def State.faultLoad (s : State) (g k : Nat) (f : FaultInfo) : State :=
  match (s.tower g).loads[k]? with
  | none => s
  | some l =>
    let s := s.modTower g (fun t =>
      let t' := (t.loads.drop k).foldl Tower.cancelLoad t
      let (cps, gone) := t.cpsUpTo l.snap.icount
      { t' with loads := t.loads.take k, seqs := l.seqs, cps := cps, a := { t.a.restore l.snap with step := t.a.step - gone } })
    s.takeFault g .a f

/-- The oldest TST of A in flight faults: it and the younger loads are cancelled, its claim returns, and A's registers
are those of its issue, so that the exception is precise (R68, R150). -/
def State.faultStore (s : State) (g : Nat) (f : FaultInfo) : State :=
  match (s.tower g).stores with
  | [] => s
  | st :: rest =>
    let s := s.modTower g (fun t =>
      let gone := fun (l : Load) => decide (st.snap.icount ≤ l.snap.icount)
      let t := (t.loads.filter gone).foldl Tower.cancelLoad t
      let q := t.queue st.q
      let t := t.setQueue st.q { q with claimed := q.claimed - 1 }
      let (cps, n) := t.cpsUpTo st.snap.icount
      { t with
        stores := rest, loads := t.loads.filter (fun l => !gone l), seqs := st.seqs, cps := cps,
        a := { t.a.restore st.snap with step := t.a.step - n } })
    s.takeFault g .a f

/-- Return from the handler of stream `st` to `addr` (R153): IN_HANDLER clears. X's return releases A; A's return while
X is in its handler or the Tower is stopped holds A, at the restored checkpoint when it was rolled back (R149). -/
def State.excReturn (s : State) (g : Nat) (st : Stream) (addr : BitVec 17) : State :=
  s.modTower g (fun t =>
    match st with
    | .x =>
      let a := if t.a.run = .held && !t.a.inHandler then { t.a with run := .running } else t.a
      { t with x := { t.x with inHandler := false, pc := addr }, a := a }
    | .a =>
      let a := match t.a.resume with
        | some (p, n) => { t.a.restore p with inHandler := false, resume := none, step := n }
        | none => { t.a with pc := addr, inHandler := false }
      let run := if t.x.run = .stopped then .stopped else if t.x.inHandler then .held else .running
      { t with a := { a with run := run, epc := if run = .stopped then epcOf t.active a.pc else a.epc } })

end Sys2Proof.Machine
end

