-- ==== Sys2Proof/Machine/Load.lean ====
section
/-!
DEFINITION. What the loader and the store path move between Tower memory and tiles (R37, R42 to R50, R68, R88 to R93,
R110 to R114, R138 to R140, R182 to R186, R235).
-/
namespace Sys2Proof.Machine

/-- A fold that stops at the first error. -/
def foldE {α β ε : Type} (f : α → β → Except ε α) : α → List β → Except ε α
  | a, [] => .ok a
  | a, b :: t => match f a b with | .error e => .error e | .ok a' => foldE f a' t

/-- The offset of an address inside a Tower memory. -/
def tmOfs (a : Nat) : Nat := a % 0x200_0000

/-- Bytes of a slot's Tower memory. -/
def State.tmRead (s : State) (g o n : Nat) : List Byte := SMap.getRun (fun _ => 0) s.tmem (tmKey g o) n

/-- Offsets of the uncorrectable codewords that `n` bytes from offset `o` of a slot's memory overlap. -/
def State.tmUes (s : State) (g o n : Nat) : List Nat :=
  (s.ramCws 2 (tmCw g o) ((tmKey g o + n + 15) / 16)).map (fun c => 16 * c - tmKey g 0)

/-- The corrected codewords of a read of `n` bytes from offset `o` are counted (R110). -/
def State.noteRead (s : State) (g o n : Nat) : State :=
  match (s.ramCws 1 (tmCw g o) ((tmKey g o + n + 15) / 16)).length with
  | 0 => s
  | k + 1 => s.count (Reg.twrMemCe g) (k + 1)

/-- F_ROW (R67). -/
def rowFault (g row reason tile ofs : Nat) : FaultInfo :=
  { code := F_ROW, source := srcTower g 2,
    detail := leBytes 2 row ++ leBytes 1 reason ++ leBytes 1 tile ++ leBytes 4 ofs }

/-- F_BANK_OFF when the `n` bytes from `o` touch a bank in Retention or Off (R114). -/
def State.offFault (s : State) (g o n row : Nat) : Option FaultInfo :=
  (s.firstOff g o n).map (fun p => bankOffFault g p.1 p.2 row (srcTower g 0))

/-- What a load has gathered: the tile's row bytes and headers in reverse order of rows, its annex payloads, the rows
that clamping returned, the accesses of Tower memory (a number that tells apart accesses which read the same bytes anew,
offset and length), and the uncorrectable codewords that poisoned blocks. -/
structure Gather where
  rows : List (List Byte)
  hdrs : List (List Byte)
  annex : List (List Byte)
  slots : SMap Nat
  clamps : Nat
  reads : List (Nat × Nat × Nat)
  ues : List Nat
  deriving DecidableEq, Repr

/-- One block delivered: header, payload, whether it was clamped, and the gathering so far. -/
structure BlockOut where
  scale : Nat
  guard : Nat
  payload : List Byte
  clamped : Bool
  g : Gather

/-- A Z block with scale byte 127 (R93, R235). -/
def zBlock (f : Nat) (g : Gather) : BlockOut :=
  { scale := 127, guard := 0x40, payload := List.replicate (payloadSize f) 0, clamped := false, g := g }

/-- Whether the codewords `ues` reach the `n` bytes from `o`. -/
def reached (ues : List Nat) (o n : Nat) : Bool := ues.any (fun u => u < o + n && o < u + 16)

/-- The block of a native block format at block index `b` of the stream (R37, R42 to R44, R47, R140). `key` is
8 × row + block. The byte offset that PROMO_RANGE reports is the payload's offset modulo the size of a Tower's memory
(R67; DESIGN CHOICE, log 96). -/
def State.nativeBlock (s : State) (g : Nat) (l : Load) (d : Desc) (row key b : Nat) (clamped : Bool) (ga : Gather) :
    Except (FaultInfo × Gather) BlockOut :=
  let po := tmOfs (d.paneAddr b)
  match s.offFault g po 512 row with
  | some f => .error (f, ga)
  | none =>
    let pane := s.tmRead g po 512
    let ues := s.tmUes g po 512
    let ga := { ga with reads := (0, po, 512) :: ga.reads, ues := ues ++ ga.ues }
    if ues.isEmpty && byteAt pane 510 ≠ crc8 (pane.take 510) then .error (rowFault g row 0x01 l.tile po, ga)
    else if ues.isEmpty && byteAt pane 511 ≠ b / perPane d.fmt % 256 then .error (rowFault g row 0x02 l.tile po, ga)
    else
      let j := b % perPane d.fmt
      let r := paneRec d.fmt pane j
      let hit := reached ues (po + j * recSize d.fmt) (recSize d.fmt) || reached ues (po + 510) 2
      let scale := if hit then 255 else byteAt r 0
      let guard := byteAt r 1
      let payload := r.drop 2
      let out : BlockOut := { scale := scale, guard := guard, payload := payload, clamped := clamped, g := ga }
      if guardP guard && d.fmt < 4 && !guardZ guard && scale ≠ 255 then
        match d.promoAddr (field payload 3 0) with
        | none => .error (rowFault g row 0x03 l.tile (tmOfs (d.promo.1 + 64 * field payload 3 0) % 2 ^ 32), ga)
        | some a =>
          let ao := tmOfs a
          if 512 ≤ ga.annex.length then .error (rowFault g row 0x10 l.tile ao, ga)
          else match s.offFault g ao 64 row with
          | some f => .error (f, ga)
          | none =>
            let pu := s.tmUes g ao 64
            .ok { out with
              scale := if pu.isEmpty then scale else 255,
              g := { ga with
                annex := ga.annex ++ [s.tmRead g ao 64],
                slots := ga.slots ++ [(key, ga.annex.length + 1)],
                reads := (key + 1, ao, 64) :: ga.reads, ues := pu ++ ga.ues } }
      else if d.fmt = 3 && !guardZ guard && !guardP guard && scale ≠ 255 &&
          (payloadCodes 3 payload).any (· = 2) then .ok { out with scale := 255 }
      else .ok out

/-- One half of an imported block: scale byte and element codes at position `p` (R74). -/
def State.mxHalf (s : State) (g : Nat) (d : Desc) (row p : Nat) (ga : Gather) :
    Except (FaultInfo × Gather) (Nat × List Nat × Bool × Gather) :=
  let eo := tmOfs (if d.fmt = 0xC then d.base + p / 2 else d.base + p)
  let n := if d.fmt = 0xC then 16 else 32
  let so := tmOfs (d.base + d.aux0 + p / 32)
  match s.offFault g eo n row, s.offFault g so 1 row with
  | some f, _ => .error (f, ga)
  | none, some f => .error (f, ga)
  | none, none =>
    let bs := s.tmRead g eo n
    let ues := s.tmUes g eo n ++ s.tmUes g so 1
    let cs := if d.fmt = 0xC then bs.flatMap (fun b => [b.toNat % 16, b.toNat / 16]) else bs.map (·.toNat)
    .ok (byteAt (s.tmRead g so 1) 0, cs, !ues.isEmpty,
      { ga with reads := (0, eo, n) :: (0, so, 1) :: ga.reads, ues := ues ++ ga.ues })

/-- An imported block whose first half lies at position `p`; `two` says whether the second half exists (R49). -/
def State.mxBlock (s : State) (g : Nat) (d : Desc) (row p : Nat) (two clamped : Bool) (ga : Gather) :
    Except (FaultInfo × Gather) BlockOut :=
  match s.mxHalf g d row p ga with
  | .error f => .error f
  | .ok (x0, c0, u0, ga) =>
    let done := fun (x1 : Nat) (c1 : List Nat) (u : Bool) (ga : Gather) =>
      let r := mxImport d.fmt x0 x1 c0 c1
      let f := if d.fmt = 0xC then 1 else 4
      Except.ok (ε := FaultInfo × Gather)
        ({ scale := if u then 255 else r.scale, guard := if u then 0 else r.guard, payload := codesPayload f r.codes,
           clamped := clamped, g := ga } : BlockOut)
    if two then
      match s.mxHalf g d row (p + 32) ga with
      | .error f => .error f
      | .ok (x1, c1, u1, ga) => done x1 c1 (u0 || u1) ga
    else done x0 (List.replicate 32 0) u0 ga

/-- Whether a tuple lies at or beyond a load's bound (R184, R235). -/
def beyond (bound : Option (Nat × Nat)) (idx : List Int) : Bool :=
  match bound with
  | some (k, b) => decide ((b : Int) ≤ idx.getD k 0)
  | none => false

/-- One block of a load: element index `i0` of row index `i1`. -/
def State.loadBlock (s : State) (g : Nat) (l : Load) (d : Desc) (row key : Nat) (i0 i1 : Int) (ga : Gather) :
    Except (FaultInfo × Gather) BlockOut :=
  let idx := d.tuple i0 i1 l.at_.outer
  let f := if d.fmt = 0xC then 1 else if d.fmt = 0xD then 4 else d.fmt
  if l.blank || beyond l.bound idx then .ok (zBlock f ga)
  else if isMxFmt d.fmt then
    -- blocks of 64 along dimension 0; the last may lack its second half
    let nb : Int := ((d.size 0 + 63) / 64 : Nat)
    let b := max 0 (min (i0 / 64) (nb - 1))
    match d.readAt d.aux1 ((64 * b) :: idx.drop 1) with
    | .zero => .ok (zBlock f ga)
    | .at t c => s.mxBlock g d row (d.pos t + l.at_.ofs) (decide (64 * b + 32 < (d.size 0 : Int))) (c || b ≠ i0 / 64) ga
  else match d.readAt d.aux1 idx with
  | .zero => .ok (zBlock f ga)
  | .at t c => s.nativeBlock g l d row key ((d.pos t + l.at_.ofs) / 64) c ga

/-- The number of the access in which a load reads an element of tile row `r` (R107 to R109): one pass over the rows for
each tile row, but for the native transposed read, which reads the rows of a unit once (DEDUCED, log 92). -/
def Load.access (l : Load) (d : Desc) (r : Nat) : Nat :=
  match l.shape with
  | .transposed => if d.layout = 1 then r else r / (if d.fmt = 9 then 128 else 64)
  | _ => r

/-- One element of W32, BF16 or FP32: its bytes and whether it was clamped. -/
def State.loadElem (s : State) (g : Nat) (l : Load) (d : Desc) (row : Nat) (i0 i1 : Int) (ga : Gather) :
    Except (FaultInfo × Gather) (List Byte × Bool × Gather) :=
  let idx := d.tuple i0 i1 l.at_.outer
  let w := elemBytes d.fmt
  if l.blank || beyond l.bound idx then .ok (List.replicate w 0, false, ga)
  else match d.readAt d.aux1 idx with
  | .zero => .ok (List.replicate w 0, false, ga)
  | .at t c =>
    let o := tmOfs (d.elemAddr (d.pos t + l.at_.ofs))
    match s.offFault g o w row with
    | some f => .error (f, ga)
    | none => match s.tmUes g o w with
      | u :: _ => .error (towerUeFault g u (srcTower g 0), ga)
      | [] => .ok (s.tmRead g o w, c, { ga with reads := (l.access d row, o, w) :: ga.reads })

/-- The elements of one row of W32, BF16 or FP32 at the index pairs `is`. -/
def State.loadElems (s : State) (g : Nat) (l : Load) (d : Desc) (row : Nat) (is : List (Int × Int)) (ga : Gather) :
    Except (FaultInfo × Gather) (List Byte × Bool × Gather) :=
  foldE (fun (a : List Byte × Bool × Gather) (i : Int × Int) =>
    match s.loadElem g l d row i.1 i.2 a.2.2 with
    | .error f => .error f
    | .ok (b, c, ga) => .ok (a.1 ++ b, a.2.1 || c, ga)) ([], false, ga) is

/-- The index pairs (i0, i1) of the elements of tile row `r` (R182, R183). -/
def Load.pairs (l : Load) (f r : Nat) : List (Int × Int) :=
  let row : Int := l.at_.row
  (List.range l.width).map (fun e => match l.shape with
    | .transposed =>
      let u := if f = 9 then 128 else 64
      (l.at_.si + (r % u : Nat), row + (u * (r / u) + e : Nat))
    | .strided => (l.at_.si + (r : Int), row + (e : Int))
    | _ => (l.at_.si + (e : Int), row + (r : Int)))

/-- Tile row `r` of a load. -/
def State.loadRow (s : State) (g : Nat) (l : Load) (d : Desc) (ga : Gather) (r : Nat) : Except (FaultInfo × Gather) Gather :=
  if isPlainFmt d.fmt then
    match s.loadElems g l d r (l.pairs d.fmt r) ga with
    | .error f => .error f
    | .ok (bs, c, ga) => .ok { ga with rows := bs :: ga.rows, hdrs := [] :: ga.hdrs, clamps := ga.clamps + ofBool c }
  else
    match foldE (fun (a : List Byte × List Byte × Bool × Gather) (b : Nat) =>
        match s.loadBlock g l d r (8 * r + b) (l.at_.si + (64 * b : Nat)) (l.at_.row + (r : Int)) a.2.2.2 with
        | .error f => .error f
        | .ok o => .ok (a.1 ++ o.payload, a.2.1 ++ leBytes 1 o.scale ++ leBytes 1 o.guard, a.2.2.1 || o.clamped, o.g))
        ([], [], false, ga) (List.range ((l.width + 63) / 64)) with
    | .error f => .error f
    | .ok (bs, hs, c, ga) => .ok { ga with rows := bs :: ga.rows, hdrs := hs :: ga.hdrs, clamps := ga.clamps + ofBool c }

/-- Rows of bytes as a table: row r begins at key n × r. -/
def rowTable (n : Nat) (rows : List (List Byte)) : SMap Byte :=
  rows.zipIdx.flatMap (fun p => SMap.run (fun _ => 0) (n * p.2) p.1)

/-- What a load delivers, or the fault that ends it with what had been read before. A vector is one row. -/
def State.gather (s : State) (g : Nat) (l : Load) : Except (FaultInfo × Gather) Gather :=
  foldE (fun ga r => s.loadRow g l (parseDesc l.desc) ga r)
    { rows := [], hdrs := [], annex := [], slots := [], clamps := 0, reads := [], ues := [] }
    (match l.shape with | .vector => [0] | _ => List.range 256)

/-- Whether a bank is still coming On (R113) or under SCRUB (R116): loads and stores are then not yet granted. -/
def State.waitsForBank (s : State) (g : Nat) : Bool := !(s.tower g).rising.isEmpty || (s.tower g).scrub.isSome

/-- Counts and reports of what a load has read: clamps (R88), corrected codewords, once for each access (R110), poisoned
codewords (R111). -/
def State.afterGather (s : State) (g : Nat) (ga : Gather) : State :=
  let s := if ga.clamps = 0 then s else s.count (Reg.twrDescClamp g) ga.clamps
  let n := ((ga.reads.eraseDups).flatMap (fun p =>
    (s.ramCws 1 (tmCw g p.2.1) ((tmKey g p.2.1 + p.2.2 + 15) / 16)).map (fun c => (p.1, c)))).eraseDups.length
  let s := if n = 0 then s else s.count (Reg.twrMemCe g) n
  ga.ues.eraseDups.foldl (fun (t : State) u => t.faultToSpire (slotSpire g) (towerUeFault g u (srcTower g 0))) s

/-- The tile that a load fills (R138). -/
def Load.tileOf (l : Load) (old : Tile) (ga : Gather) : Tile :=
  { q := old.q, tag := old.tag, state := .full, width := l.width,
    rows := rowTable rowPitch ga.rows.reverse, hdrs := rowTable 16 ga.hdrs.reverse,
    annex := SMap.run (fun _ => 0) 0 ga.annex.flatten, payloads := ga.annex.length, slots := ga.slots }

/-- Push what a load delivers (R135): the tile becomes FULL and the tail moves on, or the vector joins its queue. -/
def Tower.push (t : Tower) (l : Load) (ga : Gather) : Tower :=
  let q := t.queue l.q
  let t := match l.shape with
    | .vector => t.setVecs l.q (t.vecs l.q ++ [BitVec.ofNat 2048 (leNat (ga.rows.getD 0 []))])
    | _ => t.setTile l.tile (l.tileOf (t.tile l.tile) ga)
  t.setQueue l.q { q with pushed := q.pushed + 1 }

/-! ### Tiles as the operations see them -/

/-- Bytes of row `r` of a tile. -/
def Tile.row (t : Tile) (r : Nat) : List Byte := SMap.getRun (fun _ => 0) t.rows (rowPitch * r) rowPitch

/-- Scale and guard byte of block `b` of row `r`. -/
def Tile.hdr (t : Tile) (r b : Nat) : Nat × Nat :=
  ((SMap.get (fun _ => 0) t.hdrs (16 * r + 2 * b)).toNat, (SMap.get (fun _ => 0) t.hdrs (16 * r + 2 * b + 1)).toNat)

/-- The payload of block `b` of row `r`. -/
def Tile.payload (t : Tile) (r b : Nat) : List Byte :=
  SMap.getRun (fun _ => 0) t.rows (rowPitch * r + payloadSize t.tag * b) (payloadSize t.tag)

/-- The H8I payload of a promoted block. -/
def Tile.promoted (t : Tile) (r b : Nat) : List Byte :=
  match SMap.get (fun _ => 0) t.slots (8 * r + b) with
  | 0 => List.replicate 64 0
  | k + 1 => SMap.getRun (fun _ => 0) t.annex (64 * k) 64

/-- Block `b` of row `r`. -/
def Tile.blk (t : Tile) (r b : Nat) : Blk :=
  let h := t.hdr r b
  blkOf t.tag h.1 h.2 (t.payload r b) (t.promoted r b)

/-- Element `k` of row `r` of a W32, BF16 or FP32 tile, as stored. -/
def Tile.elem (t : Tile) (r k : Nat) : Nat :=
  leNat (SMap.getRun (fun _ => 0) t.rows (rowPitch * r + elemBytes t.tag * k) (elemBytes t.tag))

/-! ### The store path (R185) -/

/-- A new record of a store: the tile row and block it comes from, and its block index in the tensor. -/
structure NewRec where
  row : Nat
  blk : Nat
  at_ : Nat
  deriving DecidableEq, Repr

/-- A store's progress: the state, the rows with a suppressed part, and the largest SEQ_DIM index stored (R92). -/
structure StoreRun where
  s : State
  sup : List Nat
  top : Option Nat

/-- The records a store writes, in row order, and the rows in which some are suppressed (R89, R91). -/
def newRecs (d : Desc) (p : Place) (width : Nat) : List (NewRec × Nat) × List Nat :=
  (List.range 256).foldl (fun a (r : Nat) =>
    (List.range ((width + 63) / 64)).foldl (fun (a : List (NewRec × Nat) × List Nat) (b : Nat) =>
      match d.writeAt d.aux0 (d.tuple (p.si + (64 * b : Nat)) (p.row + (r : Int)) p.outer) with
      | none => (a.1, a.2 ++ [r])
      | some t =>
        let i := t.getD d.seqDim 0 + (if d.seqDim = 0 then 63 else 0)
        (a.1 ++ [({ row := r, blk := b, at_ := d.pos t / 64 }, i)], a.2)) a) ([], [])

/-- The bytes of a tile's record as the store path writes it: in an H8I tensor P is written as 0 (R43). -/
def Tile.record (t : Tile) (r b : Nat) : List Byte :=
  let h := t.hdr r b
  leBytes 1 h.1 ++ leBytes 1 (if t.tag = 4 then h.2 % 128 else h.2) ++ t.payload r b

/-- Store one pane: the checks of its new promoted records, the merge with the records that stay, the payloads, and the
pane with its trailer (R111, R185). PROMO_RANGE of a store reports the pane's offset (R67; DESIGN CHOICE, log 96). -/
def State.storePane (s : State) (g : Nat) (st : Store) (d : Desc) (t : Tile) (pane : Nat) (rs : List NewRec) :
    Except FaultInfo State :=
  let n := perPane d.fmt
  let po := tmOfs (d.base + 512 * pane)
  let row := (rs.headD { row := 0, blk := 0, at_ := 0 }).row
  let promoted := rs.filter (fun r => d.fmt < 4 && guardP (t.hdr r.row r.blk).2 && !guardZ (t.hdr r.row r.blk).2 &&
    (t.hdr r.row r.blk).1 ≠ 255)
  match promoted.find? (fun r => (d.promoAddr (field (t.payload r.row r.blk) 3 0)).isNone) with
  | some r => .error (rowFault g r.row 0x03 st.tile po)
  | none =>
  let dst := promoted.map (fun r => (tmOfs ((d.promoAddr (field (t.payload r.row r.blk) 3 0)).getD 0), t.promoted r.row r.blk))
  match s.offFault g po 512 row, dst.findSome? (fun p => s.offFault g p.1 64 row) with
  | some f, _ => .error f
  | none, some f => .error f
  | none, none =>
    let whole := (List.range n).all (fun j => rs.any (fun r => r.at_ % n = j))
    let old := if whole then List.replicate 512 0 else s.tmRead g po 512
    let ues := if whole then [] else s.tmUes g po 512
    let kept := (List.range n).foldl (fun p j =>
      if reached ues (po + j * recSize d.fmt) (recSize d.fmt) then
        setRec d.fmt p j (leBytes 1 255 ++ List.replicate (recSize d.fmt - 1) 0)
      else p) (old.take (n * recSize d.fmt))
    let body := rs.foldl (fun p r => setRec d.fmt p (r.at_ % n) (t.record r.row r.blk)) kept
    let s := ues.foldl (fun (s : State) u => s.faultToSpire (slotSpire g) (towerUeFault g u (srcTower g 0))) s
    let s := match (if whole then [] else s.ramCws 1 (tmCw g po) (tmCw g (po + 512))).length with
      | 0 => s
      | k + 1 => s.count (Reg.twrMemCe g) (k + 1)
    let s := dst.foldl (fun (s : State) p => s.towerPut g p.1 p.2) s
    .ok (s.towerPut g po (sealPane pane body))

/-- Store a block-format tile, pane by pane in the order in which its rows reach them. -/
def State.storeBlocks (s : State) (g : Nat) (st : Store) (d : Desc) (t : Tile) : StoreRun × Option FaultInfo :=
  let (recs, sup) := newRecs d st.at_ t.width
  let panes := (recs.map (fun r => r.1.at_ / perPane d.fmt)).eraseDups
  let out := panes.foldl (fun (a : StoreRun × Option FaultInfo) p =>
    match a.2 with
    | some _ => a
    | none =>
      let mine := recs.filter (fun r => r.1.at_ / perPane d.fmt = p)
      match a.1.s.storePane g st d t p (mine.map (·.1)) with
      | .error f => (a.1, some f)
      | .ok s => ({ a.1 with s := s, top := mine.foldl (fun t r => maxTop t r.2) a.1.top }, none))
    ({ s := s, sup := [], top := none }, none)
  ({ out.1 with sup := sup.eraseDups }, out.2)

/-- Why an element of a row cannot be written: its bank is not On (R114), or it lies in an uncorrectable codeword that
the row's elements `rs` cover only in part (R103, R111). -/
def State.elemFault (s : State) (g w row : Nat) (rs : List (Nat × Nat)) (o : Nat) : Option FaultInfo :=
  match s.offFault g o w row with
  | some f => some f
  | none => ((s.partCws 2 rs).find? (runsReach [(tmKey g o, w)])).map (fun c =>
      towerUeFault g (16 * c - tmKey g 0) (srcTower g 0))

/-- Store one row of elements. From the first element that cannot be written on nothing is written; the elements before it
are written only when `part` (VST; R114). Correctable codewords written in part are counted (R110). The exception that
a fault becomes sends the Spire controller its copy (R157) (DEDUCED, log 27). -/
def State.storeElems (s : State) (g : Nat) (d : Desc) (p : Place) (row : Nat) (part : Bool) (es : List (List Byte)) :
    StoreRun × Option FaultInfo :=
  let w := elemBytes d.fmt
  let places := es.zipIdx.filterMap (fun e =>
    (d.writeAt d.aux0 (d.tuple (p.si + (e.2 : Int)) (p.row + (row : Int)) p.outer)).map (fun t =>
      (tmOfs (d.elemAddr (d.pos t + p.ofs)), e.1, t.getD d.seqDim 0)))
  let sup := if places.length < es.length then [row] else []
  let rs := places.map (fun q => (tmKey g q.1, w))
  let bad := firstIdx (fun (q : Nat × List Byte × Nat) => (s.elemFault g w row rs q.1).isSome) places
  let go := match bad with | none => places | some k => if part then places.take k else []
  let out := go.map (fun q => (tmKey g q.1, w))
  let f := match bad with
    | none => none
    | some k => match places[k]? with | some q => s.elemFault g w row rs q.1 | none => none
  let s := match (s.partCws 1 out).length with | 0 => s | k + 1 => s.count (Reg.twrMemCe g) (k + 1)
  let s := (go.foldl (fun (s : State) q => s.towerPut g q.1 q.2.1) s).clearRuns out
  ({ s := s, sup := sup, top := go.foldl (fun t q => maxTop t q.2.2) none }, f)

/-- Store a W32, BF16 or FP32 tile row by row. -/
def State.storeRows (s : State) (g : Nat) (st : Store) (d : Desc) (t : Tile) : StoreRun × Option FaultInfo :=
  (List.range 256).foldl (fun (a : StoreRun × Option FaultInfo) r =>
    match a.2 with
    | some _ => a
    | none =>
      let es := (List.range t.width).map (fun k => ((t.row r).drop (elemBytes d.fmt * k)).take (elemBytes d.fmt))
      let (o, f) := a.1.s.storeElems g d st.at_ r false es
      ({ s := o.s, sup := a.1.sup ++ o.sup, top := match o.top with | some i => maxTop a.1.top i | none => a.1.top }, f))
    ({ s := s, sup := [], top := none }, none)

end Sys2Proof.Machine
end

