-- ==== Sys2Proof/Machine/Issue.lean ====
section
/-!
DEFINITION. How an Igkel instruction issues (R128, R148, R151, R166 to R168, R480): the checks in their order, the waits
at issue, and what happens to the program counter and the instruction count.
-/
namespace Sys2Proof.Machine

/-- What an instruction does once it issues. -/
inductive Res
  /-- It completes, and the stream goes on with the next instruction. -/
  | done (s : State)
  /-- It completes, and the stream goes on at an address. -/
  | jump (s : State) (pc : BitVec 17)
  /-- It completes and leaves the stream as the state says (HALT, a return from a handler). -/
  | stay (s : State)
  /-- It raises a fault and has no effect (R150). -/
  | fault (f : FaultInfo) (posted : Bool)
  /-- It raises a fault once a descriptor or a pointer list has been fetched for it. -/
  | faultAt (s : State) (f : FaultInfo)
  /-- It waits at issue; `timed` says whether R145's limit applies. -/
  | wait (s : State) (timed : Bool)

/-- The address of the instruction after this one (R168). -/
def nextPc (c : Issue) (pc : BitVec 17) : BitVec 17 := pc + (if c.long.isSome then 8 else 4)

/-- Check 1 of R480: a non-zero field that the instruction does not name, X or Y used by an instruction that defines no
use for them (R167), or a fetch beyond the bank (R159, R168). `xy` says whether the instruction uses X and Y. -/
def badWord (c : Issue) (pc : BitVec 17) (xy : Bool) : Bool :=
  c.rsv || (match c.long with | some l => !xy && (l.x ≠ 0 || l.y ≠ 0) | none => false) ||
    0xFFFF < (nextPc c pc - 1).toNat

/-- The word with one more reason for OPCODE (check 1 of R480). -/
def markBad (c : Issue) (b : Bool) : Issue := { c with rsv := c.rsv || b }

/-- X and Y of a long form. -/
def longX (c : Issue) : Nat := match c.long with | some l => l.x.toNat | none => 0
def longY (c : Issue) : Nat := match c.long with | some l => l.y.toNat | none => 0

/-- Whether A must wait before an effect outside its queues and registers (R148): its step exceeds X's, or an older load
or store is in flight. -/
def Tower.aGated (t : Tower) : Bool := t.x.step < t.a.step || !t.loads.isEmpty || !t.stores.isEmpty

/-- Whether a count break of the stream has come due (R201). -/
def State.countBreakDue (s : State) (g : Nat) (st : Stream) : Bool :=
  match st with
  | .a => bit (s.reg (Reg.twrDbgCtl g)) 0 && (s.tower g).a.icount.toNat = s.reg (Reg.twrAIbrk g)
  | .x => bit (s.reg (Reg.twrDbgCtl g)) 1 && (s.tower g).x.icount.toNat = s.reg (Reg.twrXIbrk g)

/-- Whether a tag break holds the instruction (R202). -/
def State.tagBreakDue (s : State) (g : Nat) (st : Stream) (tag : BitVec 8) : Bool :=
  let d := s.reg (Reg.twrDbgCtl g)
  bit d (match st with | .a => 2 | .x => 3) && !((s.tower g).stream st).tagPassed &&
    (tag.toNat ^^^ bits d 23 16) &&& bits d 31 24 = 0

/-- Whether the debug breaks let the instruction issue. -/
def State.breakFree (s : State) (c : Issue) : Bool :=
  !s.countBreakDue c.slot.val c.stream &&
    (match c.long with | some l => !s.tagBreakDue c.slot.val c.stream l.tag | none => true)

/-- The wait of an instruction at issue: a wait that has begun keeps the bell in which it began, and a wait under R148 or
R151 is no part of one that R145 limits. -/
def StreamState.await (r : StreamState) (i : Instr) (bell : Nat) (timed : Bool)
    (fault : Option (FaultInfo × Bool) := none) : StreamState :=
  let b := match r.wait with | some w => if w.instr = i && w.timed = timed then w.bell else bell | none => bell
  { r with run := .waiting, wait := some { instr := i, bell := b, timed := timed, fault := fault } }

/-- The stream after an instruction that goes on at `pc`: one more instruction issued (R200). -/
def StreamState.advance (r : StreamState) (pc : BitVec 17) : StreamState :=
  { r with pc := pc, icount := r.icount + 1, wait := none, tagPassed := false }

/-- The queue at which an instruction waits, for DETAIL: 0xFF for none. -/
def waitQueue : Instr → Stream → Nat
  | .tld _ q _ _ _, _ => q.toNat
  | .tldT _ q _ _ _ _, _ => q.toNat
  | .tldS _ q _ _ _, _ => q.toNat
  | .sequencedTld _ q _ _ _ _, _ => q.toNat
  | .pld _ q _ _ _, _ => q.toNat
  | .vld _ q _ _ _, _ => q.toNat
  | .tst _ q _ _ _, _ => q.toNat
  | .vst _ q _ _ _, _ => q.toNat
  | .vpush _ q _, _ => q.toNat
  | .csrw _ _ _, .a => 9
  | .csrw _ _ _, .x => 10
  | .tqPush _ _, .a => 9
  | .tqPush _ _, .x => 10
  | .csrr _ _ _, .a => 10
  | .csrr _ _ _, .x => 9
  | .tqPop _ _, .a => 10
  | .tqPop _ _, .x => 9
  | _, _ => 0xFF

/-- What makes an instruction wait before its own rule: R148 in A, R151 in X. -/
structure Gate where
  /-- It has an effect outside the A → X queues and A's registers (R148). -/
  a : Bool
  /-- Its effect cannot be undone in X (R151). -/
  x : Bool

/-- Whether an earlier instruction of the stream has not completed: a load or store of A, a tile operation of X. A fault at
issue waits for it (R150). -/
def Tower.older (t : Tower) : Stream → Bool
  | .a => !t.loads.isEmpty || !t.stores.isEmpty
  | .x => !t.ops.isEmpty

/-- An instruction faults at issue. The exception is taken once every earlier instruction has completed (R150): until
then the instruction waits with its fault, which what happens meanwhile does not change (R143). -/
def State.issueFault (s : State) (g : Nat) (st : Stream) (i : Instr) (f : FaultInfo) (posted : Bool := false) : State :=
  if (s.tower g).older st then s.modStream g st (fun r => r.await i s.bellNum false (some (f.met s.bellNum, posted)))
  else s.takeFault g st f posted

/-- Issue an instruction: checks 1 and 2 of R480, then the word's own checks 3 and 4 (`word`), then the gates, then its
rule (`body`), which makes the checks of step 5. A stream that does not run issues nothing (DEDUCED, log 3;
DESIGN CHOICE, log 5) (DESIGN CHOICE, log 6; DEDUCED, log 66). -/
def issue (c : Issue) (i : Instr) (inA inX xy : Bool) (gate : Gate) (word : State → Option FaultInfo)
    (body : State → Res) (s : State) : Host.Outcome State Fault Refusal :=
  let g := c.slot.val
  let st := c.stream
  let t := s.tower g
  let r := t.stream st
  if r.run ≠ .running || !s.breakFree c then .next s
  else if badWord c r.pc xy then .next (s.issueFault g st i (s.streamFault g st F_ILLEGAL 0x01))
  else if !(match st with | .a => inA | .x => inX) then
    .next (s.issueFault g st i (s.streamFault g st F_ILLEGAL 0x02))
  else match word s with
  | some f => .next (s.issueFault g st i f)
  | none =>
    if (match st with | .a => gate.a && t.aGated | .x => gate.x && !t.ops.isEmpty) then
      .next (s.modStream g st (fun r => r.await i s.bellNum false))
    else match body s with
      | .done s' => .next (s'.modStream g st (fun r => r.advance (nextPc c r.pc)))
      | .jump s' pc => .next (s'.modStream g st (fun r => r.advance pc))
      | .stay s' => .next s'
      | .fault f posted => .next (s.issueFault g st i f posted)
      | .faultAt s' f => .next (s'.issueFault g st i f)
      | .wait s' timed => .next (s'.modStream g st (fun r => r.await i s.bellNum timed))

/-- No check 3 or 4 of its own. -/
def noCheck : State → Option FaultInfo := fun _ => none

/-- No gate. -/
def Gate.none : Gate := { a := false, x := false }

/-- Both gates. -/
def Gate.both : Gate := { a := true, x := true }

/-- Scalar register `n` of the issuing stream. -/
def State.sreg (s : State) (c : Issue) (n : BitVec 5) : Word := ((s.tower c.slot.val).stream c.stream).sreg n.toNat

/-- Write a scalar register of the issuing stream. -/
def State.setSreg (s : State) (c : Issue) (n : BitVec 5) (v : Word) : State :=
  s.modStream c.slot.val c.stream (fun r => r.setSreg n.toNat v)

/-- The pc of the issuing stream. -/
def State.pcOf (s : State) (c : Issue) : BitVec 17 := ((s.tower c.slot.val).stream c.stream).pc

/-- F_ILLEGAL of the issuing stream with a reason. -/
def State.illegal (s : State) (c : Issue) (reason : Nat) (q : Nat := 0xFF) : FaultInfo :=
  s.streamFault c.slot.val c.stream F_ILLEGAL reason q

end Sys2Proof.Machine
end

