-- ==== Sys2Proof/Machine/Remote.lean ====
section
/-!
DEFINITION. Remote writes (R118 to R121, R124), and the reads and writes of DPA ranges that the stream engines and posted
copies make (R19, R111, R114, R373, R377).
-/
namespace Sys2Proof.Machine

/-- The registers that guard one memory: a Tower memory's or a Gallery's. -/
structure MemRegs where
  mode : Nat
  winDrop : Nat
  credBase : Nat
  credLimit : Nat
  credRefused : Nat
  credAvail : Nat
  bal : Nat → Nat
  base : Nat → Nat
  limit : Nat → Nat
  ctl : Nat → Nat
  gen : Nat → Nat
  windows : Nat
  size : Nat
  owner : Nat
  spire : Nat

def towerRegs (g : Nat) : MemRegs :=
  { mode := Reg.twrMemCtl g, winDrop := Reg.twrWinDrop g, credBase := Reg.twrCredBase g,
    credLimit := Reg.twrCredLimit g, credRefused := Reg.twrCredRefused g, credAvail := Reg.twrCredAvail g,
    bal := Reg.twrCredBal g, base := Reg.twrWinBase g, limit := Reg.twrWinLimit g, ctl := Reg.twrWinCtl g,
    gen := Reg.twrWinGen g, windows := 64, size := towerSize, owner := srcTower g 2, spire := slotSpire g }

def galleryRegs (sp : Nat) : MemRegs :=
  { mode := Reg.sprGalCtl sp, winDrop := Reg.sprGalWinDrop sp, credBase := Reg.sprGalCredBase sp,
    credLimit := Reg.sprGalCredLimit sp, credRefused := Reg.sprGalCredRefused sp, credAvail := Reg.sprGalCredAvail sp,
    bal := Reg.sprGalCredBal sp, base := Reg.sprGalWinBase sp, limit := Reg.sprGalWinLimit sp,
    ctl := Reg.sprGalWinCtl sp, gen := Reg.sprGalWinGen sp, windows := 256, size := gallerySize,
    owner := srcSpire sp 9 0, spire := sp }

/-- The sender of remote packets: its source index x, its SOURCE, its Buttress node or 0xFFFF, and the generation its
packets carry (R119). -/
structure Sender where
  x : Nat
  source : Nat
  node : Nat
  gen : Nat
  deriving DecidableEq, Repr

/-- Whether window w contains the packet. -/
def State.winHas (s : State) (m : MemRegs) (w o n : Nat) : Bool :=
  s.windowHas (m.base w) (m.limit w) (m.ctl w) m.size o n

/-- R119: why a packet is refused in WINDOW mode, as reason and window; none when it is accepted. -/
def State.windowRefusal (s : State) (m : MemRegs) (sd : Sender) (o n : Nat) : Option (Nat × Nat) :=
  let ok := fun w => s.winHas m w o n && bit (s.reg (m.ctl w)) sd.x && (sd.gen = 0 || sd.gen = s.fld (m.gen w) 15 0)
  if (List.range m.windows).any ok then none
  else match (List.range m.windows).find? (fun w => s.winHas m w o n) with
    | none => some (0x01, 0xFF)
    | some w => some (if bit (s.reg (m.ctl w)) sd.x then 0x03 else 0x02, w)

/-- F_WINDOW (R119). -/
def windowFault (m : MemRegs) (sd : Sender) (reason w o n : Nat) : FaultInfo :=
  { code := F_WINDOW, source := m.owner,
    detail := leBytes 1 reason ++ leBytes 1 w ++ leBytes 2 sd.source ++ leBytes 2 sd.node ++ leBytes 4 o ++ leBytes 2 n ++
      leBytes 2 sd.gen }

/-- F_CREDIT (R120). -/
def creditFault (m : MemRegs) (sd : Sender) (reason o n bal : Nat) : FaultInfo :=
  { code := F_CREDIT, source := m.owner,
    detail := leBytes 1 reason ++ leBytes 1 sd.x ++ leBytes 2 sd.source ++ leBytes 4 o ++ leBytes 2 n ++ leBytes 4 bal }

/-- Whether a memory is in CREDIT mode. -/
def State.creditMode (s : State) (m : MemRegs) : Bool := bit (s.reg m.mode) 0

/-- Check one packet (R118 to R120): the state with balances and counters brought up to date, and the refusal, which
also goes to the owner's Spire controller. -/
def State.packetCheck (s : State) (m : MemRegs) (sd : Sender) (o n : Nat) : State × Option FaultInfo :=
  if s.creditMode m then
    let b := s.reg (m.bal sd.x)
    let lo := s.reg m.credBase
    let hi := s.reg m.credLimit
    let inside := lo ≤ o && o + n ≤ hi && hi ≤ m.size
    if inside && n ≤ b then (s.setReg (m.bal sd.x) (b - n), none)
    else
      let f := creditFault m sd (if inside then 0x01 else 0x02) o n b
      ((s.count m.credRefused 1).faultToSpire m.spire f, some f)
  else match s.windowRefusal m sd o n with
    | none => (s, none)
    | some (r, w) =>
      let f := windowFault m sd r w o n
      ((s.count m.winDrop 1).faultToSpire m.spire f, some f)

/-- Write an accepted packet into a slot's Tower memory: a bank that is not On drops it (R114). -/
def State.towerPacket (s : State) (g o : Nat) (bs : List Byte) (sender : Nat) : State × Option FaultInfo :=
  match s.firstOff g o bs.length with
  | some (a, b) =>
    let f := bankOffFault g a b 0xFFFF sender
    (s.faultToSpire (slotSpire g) f, some f)
  | none => s.towerWrite g o bs sender

/-! ### Waits that an access made in one step sits out (R105, R106, R113, R116) -/

/-- The Buttress port of the source index of a sender. -/
def portOf (x : Nat) : Option Nat := if inSpan x 4 8 then some (x - 4) else none

/-- Answer a peer: a grant, or an acknowledgement; nobody for a sender on the device. -/
def State.answer (s : State) (port : Option Nat) (m : Nat → LinkMsg) : State :=
  match port with
  | some p => s.send (m p)
  | none => s

/-- The Gallery ranges under SCRUB, oldest first. -/
def State.scrubs (s : State) (sp : Nat) : List (Nat × Nat) := SMap.get (fun _ => []) s.galScrub sp

/-- The accepted packets of a Gallery. -/
def State.galQueue (s : State) (sp : Nat) : List Packet := SMap.get (fun _ => []) s.galPackets sp

/-- SCRUB's rows (R116): every byte of the named banks that are On is zero, with valid check bits. -/
def State.zeroBanks (s : State) (g : Nat) (banks : BitVec 64) : State :=
  let hit := fun (k : Nat) => inSpan k (g * towerSize) towerSize && banks.getLsbD (bankOf (k - g * towerSize)) &&
    s.bankState g (bankOf (k - g * towerSize)) = .on
  { s with tmem := s.tmem.filter (fun e => !hit e.1), ramErr := s.ramErr.filter (fun e => !hit (16 * e.1)) }

/-- The same for the bytes lo to hi - 1 of a Gallery. -/
def State.zeroRange (s : State) (sp lo hi : Nat) : State :=
  { s with
    gallery := s.gallery.filter (fun e => !inSpan e.1 (galKey sp lo) (hi - lo)),
    ramErr := s.ramErr.filter (fun e => !inSpan e.1 (galCw sp lo) ((hi - lo) / 16)) }

/-- An accepted packet of a Tower memory, or of a Gallery, is written, and its sender answered (R121, R407). -/
def State.landTower (s : State) (g : Nat) (p : Packet) : State :=
  let (s, f) := s.towerPacket g p.ofs p.data p.sender
  s.answer p.port (fun q => .ack q (if f.isSome then 0 else p.data.length) f)
def State.landGallery (s : State) (sp : Nat) (p : Packet) : State :=
  let (s, f) := s.galleryWrite sp p.ofs p.data p.sender
  s.answer p.port (fun q => .ack q (if f.isSome then 0 else p.data.length) f)

/-- The transitions to On of a slot's banks have ended: the clk of waiting are free (DESIGN CHOICE, log 4). -/
def State.endRising (s : State) (g : Nat) : State :=
  if (s.tower g).rising.isEmpty then s
  else ((s.count (Reg.twrMemStall g) s.clk).draw).modTower g (fun t => { t with rising := [] })

/-- Before an access that a command makes in its own step: what it waits for comes to pass first (R105, R106, R113, R116;
DEDUCED, log 92). The banks are On, banks under SCRUB are zero (the SCRUB's end is still to come), and the packets accepted
before it are written. -/
def State.settle (s : State) (a : Nat) : State :=
  match s.loc a with
  | .tower g _ =>
    let s := s.endRising g
    let s := match (s.tower g).scrub with
      | none => s
      | some banks => (s.zeroBanks g banks).modTower g (fun t => { t with scrub := some 0 })
    if (s.tower g).packets.isEmpty then s
    else (s.tower g).packets.foldl (fun (t : State) p => t.landTower g p) (s.modTower g (fun t => { t with packets := [] }))
  | .gallery g _ =>
    let s := if (s.scrubs g).isEmpty then s
      else { (s.scrubs g).foldl (fun (t : State) r => t.zeroRange g r.1 r.2) s with
        galScrub := SMap.set (fun _ => []) s.galScrub g ((s.scrubs g).map (fun _ => (0, 0))) }
    if (s.galQueue g).isEmpty then s
    else (s.galQueue g).foldl (fun (t : State) p => t.landGallery g p)
      { s with galPackets := SMap.set (fun _ => []) s.galPackets g [] }
  | _ => s

/-- Whether an access of a stream must wait: for a bank that is becoming On (R113), a SCRUB (R116), packets accepted before
it at the same port (R105, R106), or Alxis (R400). -/
def State.segWaits (s : State) (a n : Nat) : Bool :=
  match s.loc a with
  | .tower g o => s.anyRising g o n || (s.tower g).scrub.isSome || !(s.tower g).packets.isEmpty
  | .gallery g o => (s.scrubs g).any (fun r => overlaps o (o + n) r.1 r.2) || !(s.galQueue g).isEmpty
  | .companion _ => !s.alxUp
  | _ => false

/-- A remote packet: checked and written. -/
def State.remotePacket (s : State) (u : MemUnit) (o : Nat) (bs : List Byte) (sd : Sender) : State × Option FaultInfo :=
  let m := match u with | .tower g => towerRegs g.val | .gallery sp => galleryRegs sp.val
  match s.packetCheck m sd o bs.length with
  | (s, some f) => (s, some f)
  | (s, none) => match u with
    | .tower g => s.towerPacket g.val o bs sd.source
    | .gallery sp => s.galleryWrite sp.val o bs sd.source

/-- The packets of a write of bytes from an offset: each within one 256-byte row. `k` bounds their number. -/
def packets : Nat → Nat → List Byte → List (Nat × List Byte)
  | 0, _, _ => []
  | k + 1, o, bs =>
    if bs.isEmpty then []
    else
      let n := 256 - o % 256
      (o, bs.take n) :: packets k (o + n) (bs.drop n)

/-- Writes of one row each, one after another, until one faults: the bytes written, and the fault. -/
def State.rowWrites (s : State) (w : State → Nat → List Byte → State × Option FaultInfo) (ps : List (Nat × List Byte)) :
    State × Nat × Option FaultInfo :=
  ps.foldl (fun (a : State × Nat × Option FaultInfo) p =>
    match a.2.2 with
    | some _ => a
    | none => match w a.1 p.1 p.2 with
      | (s, none) => (s, a.2.1 + p.2.length, none)
      | (s, some f) => (s, a.2.1, some f)) (s, 0, none)

/-- Remote packets one after another, until one is refused: the bytes accepted, and the refusal. -/
def State.remotePackets (s : State) (u : MemUnit) (sd : Sender) (ps : List (Nat × List Byte)) :
    State × Nat × Option FaultInfo :=
  s.rowWrites (fun t o bs => t.remotePacket u o bs sd) ps

/-- The first byte of an HBM range that lies in a stack not trained (R377), with the fault of the access. -/
def State.untrained (s : State) (sp req a n : Nat) : Option (Nat × FaultInfo × Nat × Nat) :=
  ((s.hbmPieces sp (n / 4096 + 2) 0 a n).find? (fun p => !s.trained p.2.1)).map (fun p =>
    (p.1, s.hbmUeFault sp p.2.1 (p.2.2.1 / 32 * 32) 1 req, p.2.1, p.2.2.1))

/-- Write bytes to a DPA range as an engine of Spire `sp`: Tower memories, and Galleries of other Spires, by remote
packets; `own` also sends the packets of the own Gallery through its windows (PUT, R187); companion memory is reached only
while Alxis is up (R400). The bytes written, and the
fault that ended it. -/
def State.putRange (s : State) (sp : Nat) (sd : Sender) (own : Bool) (a : Nat) (bs : List Byte) :
    State × Nat × Option FaultInfo :=
  let s := s.settle a
  match s.loc a with
  | .tower g o => s.remotePackets (.tower (Fin.ofNat 68 g)) sd (packets (bs.length / 256 + 2) o bs)
  | .gallery t o =>
    if t = sp && !own then
      s.rowWrites (fun u x b => u.galleryWrite t x b sd.source) (packets (bs.length / 256 + 2) o bs)
    else s.remotePackets (.gallery (Fin.ofNat 4 t)) sd (packets (bs.length / 256 + 2) o bs)
  | .hbm => match s.untrained sp sd.source a bs.length with
    | some (k, f, stack, addr) =>
      ((s.memPut sp a (bs.take k) sd.source).hbmUeReport stack addr 1 f, k, some (f.met s.bellNum))
    | none => (s.memPut sp a bs sd.source, bs.length, none)
  | .companion _ => if s.alxUp then (s.memPut sp a bs sd.source, bs.length, none) else (s, 0, some s.alxCut)
  | _ => (s.memPut sp a bs sd.source, bs.length, none)

/-- What a read of a range gives: the state with reports made, the bytes up to where it ends, the uncorrectable
codewords that were delivered, and the fault that ended it. -/
structure ReadOut where
  s : State
  bytes : List Byte
  hits : List UeHit
  fault : Option FaultInfo

/-- Read a DPA range as an engine of Spire `sp` for the requester `req`. Bank states end it (R114), a stack that has not
been trained (R377), and Alxis when it is down (R400); an uncorrectable codeword ends it, or is delivered when `through` says that the data is of a block
format (R111, R373). -/
def State.readRange (s : State) (sp req a n : Nat) (through : Bool) : ReadOut :=
  let s := s.settle a
  let (n0, off, cold) : Nat × Option FaultInfo × Option (Nat × Nat) := match s.loc a with
    | .tower g o => (match s.firstOff g o n with
      | some (x, b) => (x - o, some (bankOffFault g x b 0xFFFF req), none)
      | none => (n, none, none))
    | .hbm => (match s.untrained sp req a n with
      | some (k, f, stack, addr) => (k, some f, some (stack, addr))
      | none => (n, none, none))
    | .companion _ => if s.alxUp then (n, none, none) else (0, some s.alxCut, none)
    | _ => (n, none, none)
  let ues := if n0 = 0 then [] else s.memUes sp req a n0
  match ues, through with
  | u :: _, false =>
    { s := (s.countCorrected sp a u.ofs).ueReport sp u, bytes := s.memGet sp a u.ofs, hits := [],
      fault := some u.fault }
  | us, _ =>
    let s' := us.foldl (fun t u => t.ueReport sp u) (s.countCorrected sp a n0)
    { s := match off, cold with
        | some f, some (stack, addr) => s'.hbmUeReport stack addr 1 f
        | _, _ => s',
      bytes := s.memGet sp a n0, hits := us, fault := off }

/-! ### Band classes of a transfer (R382) -/

/-- HBM_BAND_LO and HI of a Spire's copy, and their replacement. -/
def State.bandsOf (s : State) (sp : Nat) : Nat × Nat := (s.reg (Reg.hbmBandLo (8 * sp)), s.reg (Reg.hbmBandHi (8 * sp)))
def State.putBands (s : State) (sp : Nat) (b : Nat × Nat) : State :=
  (s.setReg (Reg.hbmBandLo (8 * sp)) b.1).setReg (Reg.hbmBandHi (8 * sp)) b.2

/-- Accesses of a transfer that sampled the classes `b` when it started: they are mapped by these, whatever the band table
has become (R382). -/
def State.underBands {α : Type} (s : State) (sp : Nat) (b : Nat × Nat) (f : State → State × α) : State × α :=
  let cur := s.bandsOf sp
  if b = cur then f s
  else
    let (t, a) := f (s.putBands sp b)
    (t.putBands sp cur, a)

/-- A list of ranges read, or written, one after another until one faults. -/
def State.readPieces (s : State) (sp req : Nat) (through : Bool) (ps : List (Nat × Nat)) : ReadOut :=
  ps.foldl (fun (r : ReadOut) p =>
    match r.fault with
    | some _ => r
    | none =>
      let q := r.s.readRange sp req p.1 p.2 through
      { s := q.s, bytes := r.bytes ++ q.bytes, hits := r.hits ++ q.hits, fault := q.fault })
    { s := s, bytes := [], hits := [], fault := none }
def State.putPieces (s : State) (sp : Nat) (sd : Sender) (ps : List (Nat × Nat)) (bs : List Byte) :
    State × Nat × Option FaultInfo :=
  let out := ps.foldl (fun (a : (State × Nat × Option FaultInfo) × List Byte) p =>
    match a.1.2.2 with
    | some _ => a
    | none =>
      let (t, got, f) := a.1.1.putRange sp sd false p.1 (a.2.take p.2)
      ((t, a.1.2.1 + got, f), a.2.drop p.2)) ((s, 0, none), bs)
  out.1

/-- Panes read into a stream with uncorrectable codewords: the blocks they reach are poisoned and the trailer computed
again (R42, R47). -/
def poisonPanes (f : Nat) (hits : List UeHit) (bs : List Byte) : List Byte :=
  if hits.isEmpty then bs
  else (List.range (bs.length / 512)).flatMap (fun p =>
    let pane := (bs.drop (512 * p)).take 512
    let mine := hits.filter (fun u => u.ofs < 512 * p + 512 && 512 * p < u.ofs + u.len)
    if mine.isEmpty then pane
    else
      let all := mine.any (fun u => 512 * p + 510 < u.ofs + u.len)
      let body := (List.range (perPane f)).foldl (fun b j =>
        let o := 512 * p + j * recSize f
        if all || mine.any (fun u => u.ofs < o + recSize f && o < u.ofs + u.len) then patch b (j * recSize f) [255] else b)
        pane
      sealPane (byteAt pane 511) (body.take (perPane f * recSize f)))

end Sys2Proof.Machine
end

