-- ==== Sys2Proof/Machine/Seq.lean ====
section
/-!
DEFINITION. Loop nests (R231 to R238) and the loader sequencers (R239, R240), and the descriptor caches (R250, R251).
-/
namespace Sys2Proof.Machine

/-! ### Loop nests -/

/-- A loop nest as both kinds of sequencer use it (R231). -/
structure Nest where
  ords : List Nat
  serp : Nat
  bound : Nat
  ldim : Nat
  /-- Grid counts by dimension code (R232). -/
  counts : List Nat
  /-- Tile extents by dimension code. -/
  texts : List Nat
  deriving DecidableEq, Repr

def Nest.count (n : Nest) (d : Nat) : Nat := n.counts.getD d 1
def Nest.text (n : Nest) (d : Nat) : Nat := n.texts.getD d 1

/-- All grid points of a nest. -/
def Nest.total (n : Nest) : Nat := n.ords.foldl (fun p d => p * n.count d) 1

/-- The loop of R233: levels from the innermost, the part of L that is left, and the span so far. -/
def nestGo (n : Nest) (L : Nat) : List Nat → Nat → Nat → Nat → List (Nat × Nat)
  | [], _, _, _ => []
  | d :: ds, level, rem, span =>
    let c := n.count d
    let k := rem % c
    let span := span * c
    (d, if bit n.serp level && L / span % 2 = 1 then c - 1 - k else k) :: nestGo n L ds (level + 1) (rem / c) span

/-- The grid index of dimension code `d` at grid point L (R233). -/
def Nest.idx (n : Nest) (L d : Nat) : Nat :=
  match (nestGo n L n.ords 0 L 1).find? (fun p => p.1 = d) with | some p => p.2 | none => 0

/-- Whether grid point L lies wholly at or beyond the bound B (R235). -/
def Nest.beyondAll (n : Nest) (b L : Nat) : Bool := n.bound ≠ 0 && b ≤ n.idx L n.ldim * n.text n.ldim

/-- The first grid point from L on that a walk under BOUND = 1 does not omit, with the number omitted (R236); `k` bounds
the walk (DEDUCED, log 67). -/
def Nest.nextPoint (n : Nest) (b : Nat) : Nat → Nat → Nat × Nat
  | 0, L => (L, 0)
  | k + 1, L =>
    if n.total ≤ L then (L, 0)
    else if n.bound = 1 && n.beyondAll b L then let (m, c) := n.nextPoint b k (L + 1); (m, c + 1)
    else (L, 0)

/-- Grid points that a walk delivers: under BOUND = 1 with C_LDIM replaced by min(C_LDIM, ⌈B / TEXT⌉) (R236). -/
def Nest.left (n : Nest) (b : Nat) : Nat :=
  n.ords.foldl (fun p d => p * (if n.bound = 1 && d = n.ldim then
    min (n.count d) ((b + n.text d - 1) / n.text d) else n.count d)) 1

/-- Whether six order fields and the bound fields make a valid nest (R232). -/
def Nest.valid (n : Nest) (rank : Nat) (pl : Bool) : Bool :=
  n.ords.Nodup && n.ords.all (· ≤ 6) && (List.range rank).all (fun d => n.ords.contains d) &&
    (n.ords.contains 6 == pl) && n.ords.contains n.ldim && n.bound ≠ 3

/-! ### Descriptor caches (R250, R251) -/

/-- Use group `k` of a cache of `n` groups: whether it was missing, and the cache after. -/
def cacheUse (n k : Nat) (c : List Nat) : Bool × List Nat :=
  (!c.contains k, (k :: c.filter (· ≠ k)).take n)

/-- Who reads a descriptor entry: a Tower's loader, or the stream engine of a Spire, each with its cache. -/
inductive DescUser
  | loader (g : Nat)
  | sde (sp : Nat)
  deriving DecidableEq, Repr

/-- The Spire whose table a user reads. -/
def DescUser.spire : DescUser → Nat
  | .loader g => slotSpire g
  | .sde sp => sp

/-- The groups in a user's cache, and how many it holds. -/
def State.cacheOf (s : State) : DescUser → List Nat
  | .loader g => (s.tower g).dcache
  | .sde sp => SMap.get (fun _ => []) s.sdeCache sp
def DescUser.size : DescUser → Nat
  | .loader _ => 4
  | .sde _ => 64

/-- Replace a user's cache. -/
def State.setCache (s : State) (u : DescUser) (c : List Nat) : State :=
  match u with
  | .loader g => s.modTower g (fun t => { t with dcache := c })
  | .sde sp => { s with sdeCache := SMap.set (fun _ => []) s.sdeCache sp c }

/-- The counter of a user's misses. -/
def DescUser.misses : DescUser → Nat
  | .loader g => Reg.twrSeqDmiss g
  | .sde sp => Reg.sdeDcacheMiss sp

/-- A user looks for the group of entry `i`: a miss is counted and reads the 1 KiB of the group from the table (R250), whose
corrected and uncorrectable codewords are counted and reported (R110, R111). A group with an uncorrectable codeword is not
kept (DEDUCED, log 92). -/
def State.touchGroup (s : State) (u : DescUser) (src i : Nat) : State :=
  let k := i / 16
  let o := s.entryOfs u.spire (16 * k)
  let (miss, c) := cacheUse u.size k (s.cacheOf u)
  if !miss then s.setCache u c
  else
    let s' := (s.count u.misses 1).galleryRead u.spire o 1024 src
    if (s.galUes u.spire o 1024).isEmpty then s'.setCache u c else s'

/-- Fetch the entry that a handle in use names (R79, R111, R250): the state after the fetch, and the descriptor's bytes or
the fault of an uncorrectable codeword or of CHECK. A group in the cache is not read again. -/
def State.fetchEntry (s : State) (u : DescUser) (src h : Nat) : State × Except FaultInfo (List Byte) :=
  let i := h % 16384
  let hit := (s.cacheOf u).contains (i / 16)
  (s.touchGroup u src i,
    match (if hit then [] else s.galUes u.spire (s.entryOfs u.spire i) 64) with
    | o :: _ => .error (galleryUeFault u.spire o src)
    | [] => if s.entryOk u.spire i then .ok (s.entryBytes u.spire i) else .error (descFault src 0x0A (handle := h)))

/-- Use a handle (R79, R86, R111, R250): R86's refusals, and then the fetch. -/
def State.fetchDesc (s : State) (u : DescUser) (src h : Nat) : State × Except FaultInfo (List Byte) :=
  match s.handleStale u.spire h with
  | some r => (s, .error (descFault src r (handle := h)))
  | none => s.fetchEntry u src h

/-- Every cached copy of a group on a Spire is invalidated (R251). -/
def State.dropGroup (s : State) (sp i : Nat) : State :=
  let s := (List.range 17).foldl (fun (s : State) p =>
    if (s.tower (17 * sp + p)).dcache.contains (i / 16) then
      s.modTower (17 * sp + p) (fun t => { t with dcache := t.dcache.filter (· ≠ i / 16) })
    else s) s
  { s with sdeCache := SMap.set (fun _ => []) s.sdeCache sp ((SMap.get (fun _ => []) s.sdeCache sp).filter (· ≠ i / 16)) }

/-- Change the lengths of a KV entry: the entry, its CHECK, and the caches (R92, R94, R251). -/
def State.changeLengths (s : State) (sp i : Nat) (f : Nat → Nat → Nat × Nat) : State :=
  (s.setLengths sp i f).dropGroup sp i

/-- The update of R92 at the end of a write through a handle. -/
def State.kvWritten (s : State) (h : BitVec 32) (d : Desc) (top : Option Nat) : State :=
  match d.kv, top with
  | true, some i =>
    let sp := bits h.toNat 31 30
    if (s.desc sp (h.toNat % 16384)).reuse = bits h.toNat 23 14 then
      s.changeLengths sp (h.toNat % 16384) (fun c t => (c, max t (i + 1)))
    else s
  | _, _ => s

/-! ### The loader sequencers -/

/-- The tile width of a load: the tag's maximum, SIZE0, and a limit where one is given (R139, R182). -/
def loadWidth (d : Desc) (tag limit : Nat) : Nat :=
  let w := min (tagMax tag) (d.size 0)
  if limit = 0 then w else min w limit

/-- The tag that a descriptor's format loads into (R141). -/
def loadTag (fmt : Nat) : Nat := if fmt = 0xC then 1 else if fmt = 0xD then 4 else fmt

/-- The loop nest of a loader sequencer: NEST's fields over a descriptor (R232). -/
def loaderNest (d : Desc) (nest : Nat) : Nest :=
  let w := loadWidth d (loadTag d.fmt) (bits nest 39 30)
  let texts := [w, 256, 1, 1, 1, 1]
  { ords := (List.range 6).map (fun l => bits nest (3 * l + 2) (3 * l)), serp := bits nest 23 18,
    bound := bits nest 25 24, ldim := bits nest 28 26, texts := texts,
    counts := (List.range 6).map (fun k => if k < d.rank then (d.size k + texts.getD k 1 - 1) / texts.getD k 1 else 1) }

/-- The bound B along LDIM (R235). -/
def boundOf (d : Desc) (ldim len tent : Nat) : Nat :=
  let b := min len (d.size ldim)
  if d.kv && ldim = d.seqDim then min b tent else b

/-- ARM of sequencer k (R240): samples the registers, checks the handle and the nest, and starts the walk at its first
point; or the fault that refuses it. -/
def State.armSeq (s : State) (g k : Nat) : State × Option FaultInfo :=
  let src := srcTower g 0
  let h := s.reg (Reg.twrSeqHandle g k)
  let nest := s.reg (Reg.twrSeqNest g k)
  let len := s.fld (Reg.twrSeqLen g k) 23 0
  match s.fetchDesc (.loader g) src h with
  | (s, .error f) => (s, some f)
  | (s, .ok b) =>
    let d := parseDesc b
    let n := loaderNest d nest
    if !n.valid d.rank false then (s, some (descFault src 0x05 (handle := h)))
    else
      let bd := boundOf d n.ldim len d.aux1
      let (pos, skipped) := n.nextPoint bd n.total 0
      let q : LoaderSeq :=
        { handle := BitVec.ofNat 32 h, nest := nest, len := len, tentative := d.aux1, pos := pos, left := n.left bd,
          fallback := n.bound = 2 }
      let s := s.modTower g (fun t => t.setSeq k q)
      (if skipped = 0 then s else s.count (Reg.twrSeqSkip g) skipped, none)

/-- ABANDON (R240). -/
def State.abandonSeq (s : State) (g k : Nat) : State :=
  s.modTower g (fun t => t.setSeq k { t.seq k with left := 0 })

end Sys2Proof.Machine
end

