-- ==== Sys2Proof/Machine/LoadExec.lean ====
section
/-!
DEFINITION. The Tower-memory instructions TLD, PLD, VLD, TST, VST, GET and PUT (R182 to R188, R239), and the events that
complete them.
-/
namespace Sys2Proof.Machine

/-- The start word and the start index of dimension 0 (R170). -/
def State.placeOf (s : State) (c : Issue) (ss si : BitVec 5) : Place :=
  let w := (s.sreg c ss).toNat
  { si := (s.sreg c si).toInt, row := bits w 63 40, outer := bits w 39 0, ofs := 0 }

/-- A handle used by stream A for a tensor that must lie in the Tower's own memory (R79, R86, R182): the state once the
loader has fetched its descriptor (R250), and the descriptor or the fault. -/
def State.ownTensor (s : State) (c : Issue) (h : Nat) : State × Except FaultInfo (List Byte) :=
  let g := c.slot.val
  match s.fetchDesc (.loader g) (srcTower g 0) h with
  | (s, .error f) => (s, .error f)
  | (s, .ok b) =>
    (s, if s.loc (parseDesc b).base = .tower g (tmOfs (parseDesc b).base) then .ok b
      else .error (descFault (srcTower g 0) 0x11 (handle := h) (addr := (parseDesc b).base)))

/-- F_TILE_FMT of A's instruction on a tile. -/
def State.fmtFault (s : State) (c : Issue) (reason q tile tag dfmt : Nat) : FaultInfo :=
  s.streamFault c.slot.val c.stream F_TILE_FMT reason q tile 0xFF tag dfmt

/-- F_DESC with reason LAYOUT. -/
def layoutFault (c : Issue) (h : Nat) : FaultInfo := descFault (srcTower c.slot.val 0) 0x0E (handle := h)

/-- Issue a tile load whose handle has been read (R182): the tile at the tail of q, the format check, WIDTH, and the load
in flight with its tile FILLING. `limit` is 8 × WLIM or NEST's WIDTH. -/
def State.tileLoad (s : State) (c : Issue) (q h : Nat) (desc : List Byte) (shape : LoadShape) (p : Place)
    (bound : Option (Nat × Nat)) (blank : Bool) (limit : Nat) : Res :=
  let g := c.slot.val
  let t := s.tower g
  let d := parseDesc desc
  let k := t.tailTile q
  let v := t.tile k
  if (t.ringTiles q).isEmpty then .faultAt s (s.streamFault g .a F_TILE_EMPTY 0x02 q)
  else if v.state ≠ .empty then .wait s true
  else if v.tag ≠ loadTag d.fmt then .faultAt s (s.fmtFault c 0x02 q k v.tag d.fmt)
  else if isBlockFmt v.tag && (limit % 64 ≠ 0 || p.si % 64 ≠ 0) then .faultAt s (s.illegal c 0x0A q)
  else
    let w := match shape with
      | .transposed => if d.fmt = 9 then 128 else 64
      | _ => loadWidth d v.tag limit
    let l : Load :=
      { shape := shape, h := BitVec.ofNat 32 h, desc := desc, at_ := p, bound := bound, blank := blank, q := q,
        tile := k, width := w, snap := t.a.snap, seqs := t.seqs }
    .done (s.modTower g (fun t =>
      { t.setTile k { v with state := .filling, width := w } with loads := t.loads ++ [l] }))

/-- Queue number checks of step 3 (R480): a number outside the role's queues raises Q_KIND. -/
def queueCheck (c : Issue) (ok : Nat → Bool) (q : BitVec 4) : State → Option FaultInfo :=
  fun s => if ok q.toNat then none else some (s.illegal c 0x07 q.toNat)

def isLq (q : Nat) : Bool := q < 4
def isVq (q : Nat) : Bool := q = 4 || q = 5
def isSq (q : Nat) : Bool := q = 6 || q = 7

/-- The word with its X checked where only Y and the flag X[9] have a use: X[8:0] must be zero (R182, R239). -/
def xFree (c : Issue) : Issue := markBad c (longX c < 512 && longX c ≠ 0)

/-- A sequenced TLD (R239): the operand rules, LEFT, the grid point at which its sequencer stands, and the load of that
point; LEFT goes down and the walk moves to its next point. -/
def State.sequenced (s : State) (c : Issue) (q : BitVec 4) (sh ss si : BitVec 5) (flags : Nat) : Res :=
  let g := c.slot.val
  let k := q.toNat
  let t := s.tower g
  let sq := t.seq k
  if sh ≠ 0 || ss ≠ 0 || si ≠ 0 || longY c ≠ 0 || longX c % 512 ≠ 0 || flags ≠ 0 then .fault (s.illegal c 0x0A k) false
  else if sq.left = 0 then .fault (s.illegal c 0x0B k) false
  else match s.ownTensor c sq.handle.toNat with
  | (s, .error f) => .faultAt s f
  | (s, .ok b) =>
    let d := parseDesc b
    let n := loaderNest d sq.nest
    let bd := if n.bound = 2 then boundOf d n.ldim (s.fld (Reg.twrSeqLen g k) 23 0) d.aux1
      else boundOf d n.ldim sq.len sq.tentative
    let blank := n.bound = 2 && n.beyondAll bd sq.pos
    let outer := n.idx sq.pos 2 + d.size 2 * (n.idx sq.pos 3 + d.size 3 * (n.idx sq.pos 4 + d.size 4 * n.idx sq.pos 5))
    let p : Place :=
      { si := (n.idx sq.pos 0 * n.text 0 : Nat), row := n.idx sq.pos 1 * 256, outer := outer, ofs := 0 }
    match s.tileLoad c k sq.handle.toNat b .tile p (if n.bound = 0 then none else some (n.ldim, bd)) blank
        (bits sq.nest 39 30) with
    | .done s =>
      let (pos, skipped) := n.nextPoint bd n.total (sq.pos + 1)
      let s := s.modTower g (fun t => t.setSeq k { sq with pos := pos, left := sq.left - 1 })
      let m := skipped + ofBool blank
      .done (if m = 0 then s else s.count (Reg.twrSeqSkip g) m)
    | r => r

/-- TLD (R182), or the sequenced TLD that a long form with X[9] = 1 is (R239). -/
def execTld (c : Issue) (q : BitVec 4) (sh ss si : BitVec 5) (s : State) : Host.Outcome State Fault Refusal :=
  issue (xFree c) (.tld c q sh ss si) true false true .none (queueCheck c isLq q)
    (fun s =>
      if 512 ≤ longX c then s.sequenced c q sh ss si 0
      else
        let h := (s.sreg c sh).toNat % 2 ^ 32
        match s.ownTensor c h with
        | (s, .error f) => .faultAt s f
        | (s, .ok b) => s.tileLoad c q.toNat h b .tile (s.placeOf c ss si) none false (8 * longY c)) s

/-- The sequenced TLD (R239). -/
def execSequencedTld (c : Issue) (q : BitVec 4) (sh ss si : BitVec 5) (flags : BitVec 2) (s : State) :
    Host.Outcome State Fault Refusal :=
  issue c (.sequencedTld c q sh ss si flags) true false true .none (queueCheck c isLq q)
    (fun s => s.sequenced c q sh ss si flags.toNat) s

/-- TLD.T (R183, R99, R100, R108, R109); `both` is the word that also has S set. -/
def execTldT (c : Issue) (q : BitVec 4) (sh ss si : BitVec 5) (both : Bool) (s : State) :
    Host.Outcome State Fault Refusal :=
  issue (xFree c) (.tldT c q sh ss si both) true false true .none
    (fun s => match queueCheck c isLq q s with
      | some f => some f
      | none => if both || 512 ≤ longX c then some (s.illegal c 0x0A q.toNat) else none)
    (fun s =>
      let h := (s.sreg c sh).toNat % 2 ^ 32
      match s.ownTensor c h with
      | (s, .error f) => .faultAt s f
      | (s, .ok b) =>
        let d := parseDesc b
        if !isPlainFmt d.fmt || d.stride 1 * elemBytes d.fmt ≠ 256 || d.base % 256 ≠ 0 then
          .faultAt s (layoutFault c h)
        else s.tileLoad c q.toNat h b .transposed (s.placeOf c ss si) none false (8 * longY c)) s

/-- TLD.S (R183, R107) (DEDUCED, log 67). -/
def execTldS (c : Issue) (q : BitVec 4) (sh ss si : BitVec 5) (s : State) : Host.Outcome State Fault Refusal :=
  issue (xFree c) (.tldS c q sh ss si) true false true .none
    (fun s => match queueCheck c isLq q s with
      | some f => some f
      | none => if 512 ≤ longX c then some (s.illegal c 0x0A q.toNat) else none)
    (fun s =>
      let h := (s.sreg c sh).toNat % 2 ^ 32
      match s.ownTensor c h with
      | (s, .error f) => .faultAt s f
      | (s, .ok b) =>
        let d := parseDesc b
        if !isPlainFmt d.fmt then .faultAt s (layoutFault c h)
        else if d.stride 1 * elemBytes d.fmt % 256 ≠ 0 then
          .faultAt s (descFault (srcTower c.slot.val 0) 0x06 (handle := h))
        else s.tileLoad c q.toNat h b .strided (s.placeOf c ss si) none false (8 * longY c)) s

/-- A read of the own Tower memory at issue (PLD's pointer list), once its banks are On: its bytes, or the fault of a bank
that is not On or of an uncorrectable codeword (R111, R114). -/
def State.issueRead (s : State) (g o n : Nat) : Except FaultInfo (List Byte) :=
  match s.offFault g o n 0xFFFF with
  | some f => .error f
  | none => match s.tmUes g o n with
    | u :: _ => .error (towerUeFault g u (srcTower g 0))
    | [] => .ok (s.tmRead g o n)

/-- PLD (R184): entry `se` of the pointer list at `sl` (DEDUCED, log 26; DEDUCED, log 67). -/
def execPld (c : Issue) (q : BitVec 4) (sl se ss : BitVec 5) (s : State) : Host.Outcome State Fault Refusal :=
  issue (markBad c (longX c ≠ 0)) (.pld c q sl se ss) true false true .none (queueCheck c isLq q)
    (fun s =>
      let g := c.slot.val
      let src := srcTower g 0
      let lo := (s.sreg c sl).toNat % 2 ^ 25
      let e := (s.sreg c se).toNat % 4096
      if lo % 8 ≠ 0 then .fault (s.streamFault g .a F_ALIGN 0x03) false
      else if towerSize < lo + 16 || towerSize < lo + 16 + 8 * e + 8 then .fault (descFault src 0x11 (pl := e)) false
      -- the loader's accesses are made in program order, and wait for banks (R105, R113, R116)
      else if s.waitsForBank g || !(s.tower g).loads.isEmpty then .wait s false
      else match s.issueRead g lo 16, (s.noteRead g lo 16).issueRead g (lo + 16 + 8 * e) 8 with
      | .error f, _ => .fault f false
      | .ok _, .error f => .faultAt (s.noteRead g lo 16) f
      | .ok hd, .ok en =>
        let s := (s.noteRead g lo 16).noteRead g (lo + 16 + 8 * e) 8
        let h := field hd 3 0
        let n := field hd 5 4
        if n = 0 || 4096 < n then .faultAt s (descFault src 0x05 (pl := e) (handle := h))
        else match s.ownTensor c h with
        | (s, .error f) => .faultAt s f
        | (s, .ok b) =>
          let d := parseDesc b
          let p := parsePl en
          match s.plFault src h e d p with
          | some f => .faultAt s f
          | none =>
            let dim := if d.kv then d.seqDim else 1
            s.tileLoad c q.toNat h b .tile { s.placeOf c ss 0 with ofs := p.ofs }
              (some (dim, p.len.getD (d.size dim))) false (8 * longY c)) s

/-- VLD (R186): 64 elements, or 128 of BF16. -/
def execVld (c : Issue) (q : BitVec 4) (sh ss si : BitVec 5) (s : State) : Host.Outcome State Fault Refusal :=
  issue c (.vld c q sh ss si) true false false .none (queueCheck c isVq q)
    (fun s =>
      let g := c.slot.val
      let t := s.tower g
      let h := (s.sreg c sh).toNat % 2 ^ 32
      match s.ownTensor c h with
      | (s, .error f) => .faultAt s f
      | (s, .ok b) =>
        let d := parseDesc b
        if !isPlainFmt d.fmt then .faultAt s (s.fmtFault c 0x02 q.toNat 0xFF 0 d.fmt)
        else if 8 ≤ (t.vecs q.toNat).length + (t.loads.filter (fun l => l.q = q.toNat)).length then .wait s true
        else
          let l : Load :=
            { shape := .vector, h := BitVec.ofNat 32 h, desc := b, at_ := s.placeOf c ss si, bound := none,
              blank := false, q := q.toNat, tile := 0, width := if d.fmt = 9 then 128 else 64, snap := t.a.snap,
              seqs := t.seqs }
          .done (s.modTower g (fun t => { t with loads := t.loads ++ [l] }))) s

/-- The oldest load in flight completes when it is one of queue `q` (R135, R182): its bytes are read, and its tile is pushed
FULL, or its fault is taken at the load (R68, R111, R114, R150). The loader's accesses are made in program order (R105,
R106, R108), so that no younger load of another queue completes before it. Not enabled while a bank is coming On or under
SCRUB, or when the load would fault before an older store has completed (DEDUCED, log 66). -/
def execLoadPush (slot : Fin 68) (q : BitVec 4) (s : State) : Host.Outcome State Fault Refusal :=
  let g := slot.val
  let t := s.tower g
  match t.loads with
  | [] => .next s
  | l :: rest =>
    if l.q ≠ q.toNat || s.waitsForBank g then .next s
    else match s.gather g l with
    | .error (f, ga) =>
      if t.stores.any (fun st => decide (st.snap.icount ≤ l.snap.icount)) then .next s
      else .next ((s.afterGather g ga).faultLoad g 0 f)
    | .ok ga => .next ((s.afterGather g ga).modTower g (fun t => { t.push l ga with loads := rest }))

/-- TST (R185): claims the FULL tile at the claim point of SQ q. -/
def execTst (c : Issue) (q : BitVec 4) (sh ss si : BitVec 5) (s : State) : Host.Outcome State Fault Refusal :=
  issue c (.tst c q sh ss si) true false false { a := true, x := false } (queueCheck c isSq q)
    (fun s =>
      let g := c.slot.val
      let t := s.tower g
      let h := (s.sreg c sh).toNat % 2 ^ 32
      match s.ownTensor c h with
      | (s, .error f) => .faultAt s f
      | (s, .ok b) =>
        let d := parseDesc b
        let qn := q.toNat
        if !t.isTileQueue qn then .faultAt s (s.illegal c 0x07 qn)
        else
          let qc := t.queue qn
          let k := t.entryTile qn qc.claimed
          let v := t.tile k
          if !t.entryFull qn qc.claimed then .wait s true
          else if v.tag ≠ d.fmt then .faultAt s (s.fmtFault c 0x02 qn k v.tag d.fmt)
          else
            let p := s.placeOf c ss si
            if isBlockFmt v.tag && p.si % 64 ≠ 0 then .faultAt s (s.illegal c 0x0A qn)
            else
              let st : Store :=
                { h := BitVec.ofNat 32 h, desc := b, at_ := p, q := qn, tile := k, snap := t.a.snap, seqs := t.seqs }
              .done (s.modTower g (fun t =>
                { t.setQueue qn { qc with claimed := qc.claimed + 1 } with
                  stores := t.stores ++ [st] }))) s

/-- Count the rows a store suppressed (R89). -/
def State.countSup (s : State) (g : Nat) (rows : List Nat) : State :=
  if rows.isEmpty then s else s.count (Reg.twrDescWrsup g) rows.length

/-- The last write of a TST is granted (R185): the tile's WIDTH elements of each row are stored, the tile becomes EMPTY
and TENTATIVE is updated (R92); or its fault is taken at the TST, with what was stored before it (R68, R114). -/
def execTileStoreComplete (slot : Fin 68) (s : State) : Host.Outcome State Fault Refusal :=
  let g := slot.val
  let t := s.tower g
  match t.stores with
  | [] => .next s
  | st :: rest =>
    if s.waitsForBank g then .next s
    else
      let d := parseDesc st.desc
      let v := t.tile st.tile
      let (o, f) := if isBlockFmt d.fmt then s.storeBlocks g st d v else s.storeRows g st d v
      let s' := (o.s.countSup g o.sup).kvWritten st.h d o.top
      match f with
      | some f => if t.loads.any (fun l => decide (l.snap.icount < st.snap.icount)) then .next s else .next (s'.faultStore g f)
      | none =>
        .next (s'.modTower g (fun t =>
          let q := t.queue st.q
          { (t.setTile st.tile { Tile.init with q := v.q, tag := v.tag }).setQueue st.q { q with popped := q.popped + 1 } with
            stores := rest }))

/-- VST (R186): pops one vector entry of SQ q and stores it. -/
def execVst (c : Issue) (q : BitVec 4) (sh ss si : BitVec 5) (s : State) : Host.Outcome State Fault Refusal :=
  issue c (.vst c q sh ss si) true false false { a := true, x := false } (queueCheck c isSq q)
    (fun s =>
      let g := c.slot.val
      let t := s.tower g
      let h := (s.sreg c sh).toNat % 2 ^ 32
      match s.ownTensor c h with
      | (s, .error f) => .faultAt s f
      | (s, .ok b) =>
        let d := parseDesc b
        let qn := q.toNat
        if !isPlainFmt d.fmt then .faultAt s (s.fmtFault c 0x02 qn 0xFF 0 d.fmt)
        else if t.isTileQueue qn then .faultAt s (s.illegal c 0x07 qn)
        else match t.vecs qn with
        | [] => .wait s true
        | v :: vs =>
          if s.waitsForBank g then .wait s false
          else
            let w := elemBytes d.fmt
            let es := (List.range (256 / w)).map (fun k => leBytes w (v.toNat >>> (8 * w * k)))
            let (o, f) := s.storeElems g d (s.placeOf c ss si) 0 true es
            let s' := (o.s.countSup g o.sup).kvWritten (BitVec.ofNat 32 h) d o.top
            match f with
            -- what was stored before the fault stays stored; the entry stays in its queue (R114, R135)
            | some f => .stay (s'.takeFault g .a f)
            | none => .done (s'.modTower g (fun t =>
                (t.setVecs qn vs).setQueue qn { t.queue qn with popped := (t.queue qn).popped + 1 }))) s

/-! ### GET and PUT (R187, R188) -/

/-- The DPA runs of the positions `pos` to `pos + count - 1`, in position order (R187). -/
def Desc.runs (d : Desc) (pos count : Nat) : List (Nat × Nat) :=
  if isBlockFmt d.fmt then
    let n := 64 * perPane d.fmt
    [(d.base + 512 * (pos / n), 512 * (count / n))]
  else if d.fmt = 0xC then [(d.base + pos / 2, (pos + count - 1) / 2 + 1 - pos / 2)]
  else if d.fmt = 0xD then [(d.base + pos, count)]
  else if d.layout = 1 then (List.range count).map (fun k => (d.elemAddr (pos + k), elemBytes d.fmt))
  else [(d.elemAddr pos, elemBytes d.fmt * count)]

/-- The first condition of R187 that fails: the fault, and whether it is posted. -/
def copyFault (c : Issue) (s : State) (h ofs pos count : Nat) (d : Desc) : Option (FaultInfo × Bool) :=
  let src := srcTower c.slot.val 0
  let n := 64 * perPane d.fmt
  let len := (d.runs pos count).foldl (fun t r => t + r.2) 0
  if isBlockFmt d.fmt && (pos % n ≠ 0 || count % n ≠ 0) then some (descFault src 0x07 (handle := h), true)
  else if (if isBlockFmt d.fmt then d.pmax / n < (pos + count - 1) / n else d.pmax < pos + count - 1) then
    some (descFault src 0x11 (handle := h) (addr := d.extent.2 + 1), true)
  else if ofs % (if isBlockFmt d.fmt then 256 else if isPlainFmt d.fmt then elemBytes d.fmt else 1) ≠ 0 then
    some (s.streamFault c.slot.val c.stream F_ALIGN 0x03, false)
  else if towerSize < ofs + len then some (descFault src 0x11 (handle := h), true)
  else if d.kv then some (descFault src 0x12 (handle := h), true)
  else none

/-- Keep a posted fault that occurs in bell `bell` for the next FENCE, FENCE.CP or HALT; later ones are dropped and LOST is
told (R8, R155). -/
def StreamState.postFault (r : StreamState) (bell : Nat) (f : FaultInfo) : StreamState :=
  match r.postedFault with
  | none => { r with postedFault := some (f.met bell) }
  | some _ => { r with lost := true }

/-- Issue a GET or PUT (R187): at most 16 are outstanding. A condition that fails is a posted fault, but for the
alignment of the Tower-memory offset (R199). -/
def execCopy (c : Issue) (i : Instr) (put : Bool) (sm sh sr : BitVec 5) (s : State) : Host.Outcome State Fault Refusal :=
  issue c i true false false { a := true, x := false } noCheck (fun s =>
    let g := c.slot.val
    let h := (s.sreg c sh).toNat % 2 ^ 32
    let ofs := (s.sreg c sm).toNat % 2 ^ 25
    let pos := bits (s.sreg c sr).toNat 39 0
    let count := bits (s.sreg c sr).toNat 63 40
    let post := fun (s : State) (f : FaultInfo) => Res.done (s.modStream g .a (fun r => r.postFault s.bellNum f))
    if count = 0 then .done s
    else if 16 ≤ ((s.tower g).a.posted.filter (fun p => match p with | .copy _ _ _ _ _ _ _ => true | _ => false)).length then
      .wait s false
    else match s.fetchDesc (.sde (slotSpire g)) (srcTower g 0) h with
    | (s, .error f) => post s f
    | (s, .ok b) => match copyFault c s h ofs pos count (parseDesc b) with
      | some (f, true) => post s f
      | some (f, false) => .faultAt s f
      | none => .done (s.modStream g .a (fun r =>
          { r with posted := r.posted ++ [.copy put (BitVec.ofNat 32 h) b pos count ofs (s.bandsOf (slotSpire g))] }))) s

/-- GET (R187) (DEDUCED, log 67). -/
def execGet (c : Issue) (sm sh sr : BitVec 5) (s : State) : Host.Outcome State Fault Refusal :=
  execCopy c (.get c sm sh sr) false sm sh sr s

/-- PUT (R187) (DEDUCED, log 29; DEDUCED, log 67). -/
def execPut (c : Issue) (sm sh sr : BitVec 5) (s : State) : Host.Outcome State Fault Refusal :=
  execCopy c (.put c sm sh sr) true sm sh sr s

/-- Write bytes of the own Tower memory for a GET (an owner write, R187), row by row: up to the first bank that is not On,
or to a row whose write is dropped (R111, R114) (DEDUCED, log 27). -/
def State.ownWrite (s : State) (g o : Nat) (bs : List Byte) (req : Nat) : State × Option FaultInfo :=
  let off := s.firstOff g o bs.length
  let bs := match off with | some (a, _) => bs.take (a - o) | none => bs
  match s.rowWrites (fun t x b => t.towerWrite g x b req) (packets (bs.length / 256 + 2) o bs) with
  | (t, _, some f) => (t, some f)
  | (t, _, none) => (t, off.map (fun p => bankOffFault g p.1 p.2 0xFFFF req))

/-- One run of a GET or PUT: the state after it, and the fault that ended it (DEDUCED, log 29). -/
def State.copyRun (s : State) (g : Nat) (put : Bool) (d : Desc) (a n ofs : Nat) : State × Option FaultInfo :=
  let sp := slotSpire g
  let req := srcSpire sp 4 0
  let block := isBlockFmt d.fmt
  let own := 0x5000_0000_0000 + (16 * sp + (s.logicalOf g).getD 0) * 0x200_0000 + ofs
  let r := if put then s.readRange sp req own n block else s.readRange sp req a n block
  let bs := if block then poisonPanes d.fmt r.hits r.bytes else r.bytes
  if put then
    let (s, _, f) := r.s.putRange sp { x := sp, source := req, node := 0xFFFF, gen := d.gen } true a bs
    (s, match f with | some f => some f | none => r.fault)
  else
    let (s, f) := r.s.ownWrite g ofs bs req
    (s, match f with | some f => some f | none => r.fault)

/-- The oldest posted operation of a stream completes (R155, R179, R188). -/
def execPostedOpComplete (slot : Fin 68) (st : Stream) (s : State) : Host.Outcome State Fault Refusal :=
  let g := slot.val
  match ((s.tower g).stream st).posted with
  | [] => .next s
  | p :: rest =>
    let s0 := s.modStream g st (fun r => { r with posted := rest })
    match p with
    | .semp sp n k =>
      let (s, f) := s0.postFrom (slotSpire g) sp (srcTower g (streamUnit st)) n k
      .next (match f with | none => s | some f => s.modStream g st (fun r => r.postFault s.bellNum f))
    | .copy put _ desc pos count ofs bands =>
      if s.waitsForBank g || !(s.tower g).packets.isEmpty then .next s
      else
        let d := parseDesc desc
        let (s, _, f) := s0.underBands (slotSpire g) bands (fun s =>
          (d.runs pos count).foldl (fun (a : State × Nat × Option FaultInfo) r =>
            match a.2.2 with
            | some _ => a
            | none =>
              let (s, f) := a.1.copyRun g put d r.1 r.2 a.2.1
              (s, a.2.1 + r.2, f)) (s, ofs, none))
        .next (match f with | none => s | some f => s.modStream g st (fun r => r.postFault s.bellNum f))

end Sys2Proof.Machine
end

