-- ==== Sys2Proof/Machine/Array.lean ====
section
/-!
DEFINITION. The matrix array (R31, R32, R45, R46, R52 to R55, R62, R63, R189 to R192, R204 to R212): MMA, MMW, MDRAIN, TREL,
TCFG and the events that start and complete them.
-/
namespace Sys2Proof.Machine

/-! ### Accumulation -/

/-- The block steps of a tile of a width: a block that the width cuts counts (DEDUCED, log 28). -/
def blockSteps (width : Nat) : Nat := (width + 63) / 64

/-- One block step into an ACC42 entry: bits [41:0] the value, 42 POISON, 43 SAT (R46, R52, R54, R209); and whether the
addition overflowed. -/
def accStep (v : Nat) (a b : Blk) : Nat × Bool :=
  if a.poisoned || b.poisoned then (v ||| 2 ^ 42, false)
  else if a.zero || b.zero then (v, false)
  else
    let (n, ovf) := accAdd (v % 2 ^ 42) (blockSum a.cells b.cells, a.exp + b.exp)
    (n + (v / 2 ^ 42 % 4 ||| (if ovf then 2 else 0)) * 2 ^ 42, ovf)

/-- An entry after all its block steps: its bits, its overflows, and the step of the first. -/
structure CellOut where
  v : Nat
  sats : Nat
  first : Option Nat
  deriving DecidableEq, Repr

/-- The block steps of one accumulator, in ascending order (R53). -/
def cellRun (v : Nat) (as bs : List Blk) : CellOut :=
  ((as.zip bs).zipIdx).foldl (fun (o : CellOut) p =>
    let (n, ovf) := accStep o.v p.1.1 p.1.2
    { v := n, sats := o.sats + ofBool ovf,
      first := match o.first with | some k => some k | none => if ovf then some p.2 else none })
    { v := v, sats := 0, first := none }

/-- The blocks of each row of a tile. -/
def Tile.blocks (t : Tile) (steps : Nat) : List (List Blk) :=
  (List.range 256).map (fun r => (List.range steps).map (t.blk r))

/-- All entries of a bank as numbers, in row-major order. -/
def Bank.entries (b : Bank) : List Nat := (SMap.getRun (fun _ => 0) b.vals 0 65536).map (·.toNat)

/-- A bank's entries from numbers. -/
def entryTable (vs : List Nat) : SMap (BitVec 80) := SMap.run (fun _ => 0) 0 (vs.map (BitVec.ofNat 80))

/-- The rows of 256 of a row-major list. -/
def rowsOf256 : Nat → List Nat → List (List Nat)
  | 0, _ => []
  | k + 1, l => l.take 256 :: rowsOf256 k (l.drop 256)

/-- MMA over old entries (R189): the entries, row by row. -/
def mmaRun (old : List (List Nat)) (as bs : List (List Blk)) : List (List CellOut) :=
  (old.zip as).map (fun r => (r.1.zip bs).map (fun c => cellRun c.1 r.2 c.2))

/-- MMW over old entries (R191). -/
def mmwRun (old : List (List Nat)) (as bs : List (List Nat)) : List (List Nat) :=
  (old.zip as).map (fun r => (r.1.zip bs).map (fun c =>
    c.1 % 2 ^ 72 + ((r.2.zip c.2).map (fun p => p.1 * p.2)).foldl (· + ·) 0))

/-- A block step's count of live blocks that run extra passes: promoted, or of an H8I tile (R204). -/
def extraBlocks (tag : Nat) (bs : List Blk) : Nat :=
  (bs.filter (fun b => (tag = 4 || guardP b.guard) && !b.zero && !b.poisoned)).length

/-- Whether every block of a step is Z or poisoned, so that it is skipped (R206). -/
def deadStep (bs : List Blk) : Bool := bs.all (fun b => b.zero || b.poisoned)

/-- The clk of the extra passes of step s (R204): none for a skipped step. -/
def stepExtra (ta tb : Nat) (as bs : List Blk) : Nat :=
  if deadStep as || deadStep bs then 0
  else
    let m := (extraBlocks ta as + 3) / 4
    let n := (extraBlocks tb bs + 3) / 4
    m + n + (if m ≠ 0 && n ≠ 0 then m else 0)

/-- Column s of a table of blocks. -/
def stepBlocks (t : List (List Blk)) (s : Nat) : List Blk := t.filterMap (fun r => r[s]?)

/-! ### Faults of the array -/

/-- F_ACC_SAT (R67): subcode 0 ACC42, 1 WORD_COUNT. -/
def accSatFault (g bank sub row col step : Nat) : FaultInfo :=
  { code := F_ACC_SAT, source := srcTower g 3,
    detail := leBytes 1 bank ++ leBytes 1 sub ++ leBytes 2 row ++ leBytes 2 col ++ leBytes 4 step }

/-- F_CHECKSUM of the array: the checker (site 0) or the scale-and-add comparison (site 1) (R67, R220). -/
def checkFault (g bank : Nat) (c : CheckFail) : FaultInfo :=
  { code := F_CHECKSUM, source := srcTower g 3,
    detail := leBytes 1 bank ++ leBytes 1 c.pass.toNat ++ leBytes 2 c.row.toNat ++ leBytes 2 c.col.toNat ++
      leBytes 4 c.step.toNat ++ leBytes 1 (if c.site = 1 then 1 else 0) }

/-- F_MEM_UE of an accumulator store (R209) (DEDUCED, log 68). -/
def accUeFault (g bank entry : Nat) : FaultInfo :=
  { code := F_MEM_UE, source := srcTower g 3,
    detail := leBytes 1 bank ++ leBytes 1 0 ++ leBytes 2 (entry / 256) ++ leBytes 1 0 ++ leBytes 1 2 ++
      leBytes 4 (10 * entry) ++ leBytes 2 (srcTower g 1) }

/-- Whether an operation runs on the array. -/
def OpKind.onArray : OpKind → Bool
  | .mma _ => true
  | .mmw => true
  | _ => false

/-- Whether an operation runs on the Marver. -/
def OpKind.onMarver : OpKind → Bool
  | .vred _ _ => true
  | .eprg _ _ => true
  | _ => false

/-- Whether an operation waits for the FTQ, and so for an operation that may be younger: an array operation into a bank that
stands on it, or a Marver operation whose entry has not been pushed (R143). -/
def Tower.waitsForFtq (t : Tower) (o : TileOp) : Bool :=
  !o.started && (if o.kind.onArray then t.ftq.contains o.bank else o.claims.any (fun c => c.q = 8 && !t.entryFull 8 c.n))

/-- Whether operation `k` may complete or fault: every older one has completed, so that a fault finds the effects of none
that is younger (R150, R151), but for operations that wait for the FTQ with none running (DEDUCED, log 69). -/
def Tower.inTurn (t : Tower) (k : Nat) : Bool :=
  let older := t.ops.take k
  older.all (fun o => !o.started) && (match older with | [] => true | o :: _ => t.waitsForFtq o)

/-- Operation `k` faults once every older one has completed (R150); until then the event is not enabled. `s'` holds the
counts that the fault's own rule makes (DEDUCED, log 69). -/
def State.opFault (s : State) (g k : Nat) (s' : State) (f : FaultInfo) : Host.Outcome State Fault Refusal :=
  if (s.tower g).inTurn k then .next (s'.faultOp g k f) else .next s

/-- The state in which X stands at an operation's own issue: a late fault names the operation's address (R156). -/
def State.atOp (s : State) (g : Nat) (o : TileOp) : State := s.modTower g (fun t => { t with x := t.x.restore o.snap })

/-- The array rows and columns that a site-0 report makes hard faults: those that the slot's last one named too, within
1,000 bells (R449). -/
def Tower.hardFaults (t : Tower) (r c bell : Nat) : List (Bool × Nat) :=
  match t.lastSite0 with
  | some (r0, c0, b) =>
    if b + 1000 < bell then []
    else (if r0 = r then [(false, r)] else []) ++ (if c0 = c then [(true, c)] else [])
  | none => []

/-- Every F_CHECKSUM counts (R66); the site-0 row and column are kept for the replacement rule of R449. -/
def State.countCheck (s : State) (g : Nat) (site0 : Option (Nat × Nat)) : State :=
  let s := s.count (Reg.twrChkCnt g) 1
  match site0 with
  | some (r, c) => s.modTower g (fun t =>
      { t with lastSite0 := some (r, c, s.bellNum), steer := (t.steer ++ t.hardFaults r c s.bellNum).eraseDups })
  | none => s

/-! ### Issue (R189 to R191) -/

/-- The mode of a bank once the operations `ops` have run (R190). -/
def Tower.modeAfter (t : Tower) (ops : List TileOp) (bank : Nat) : Bool :=
  ops.foldl (fun m o => if o.bank = bank && o.init then (match o.kind with | .mmw => true | .mma _ => false | _ => m) else m)
    (t.bank bank).word

/-- The word count of a bank once the operations `ops` have run (R63). -/
def Tower.countAfter (t : Tower) (ops : List TileOp) (bank : Nat) : Nat :=
  ops.foldl (fun n o => if o.bank = bank && o.kind = .mmw then
    (if o.init then 0 else n) + (match o.claims with | c :: _ => (t.tile c.tile).width | [] => 0) else n)
    (t.bank bank).count

/-- Whether the tags of the two operands are accepted (R141): the index of the operand that is not. -/
def tagsBad (k : OpKind) (ta tb : Nat) : Option Nat :=
  match k with
  | .mma 0 => if 4 ≤ ta then some 0 else if 4 ≤ tb then some 1 else none
  | .mma 1 => if 4 < ta then some 0 else if 4 < tb then some 1 else if (ta = 4) = (tb = 4) then some 1 else none
  | .mma _ => if ta ≠ 4 then some 0 else if tb ≠ 4 then some 1 else none
  | _ => if ta ≠ 8 then some 0 else if tb ≠ 8 then some 1 else none

/-- The faults of an array operation that need both operands FULL (R189, R63): `k` operations are older. -/
def State.arrayLate (s : State) (g k : Nat) (o : TileOp) : Option FaultInfo :=
  let t := s.tower g
  match o.claims with
  | [a, b] =>
    if (t.tile a.tile).width ≠ (t.tile b.tile).width then
      some (s.streamFault g .x F_TILE_FMT 0x04 b.q b.tile o.bank)
    else if o.kind = .mmw && 64 < (if o.init then 0 else t.countAfter (t.ops.take k) o.bank) + (t.tile a.tile).width then
      some (accSatFault g o.bank 0x01 0 0 0)
    else none
  | _ => none

/-- The record of a tile operation at its issue (R151). -/
def State.newOp (s : State) (g : Nat) (kind : OpKind) (claims : List Claim) (bank : Nat) (init : Bool) : TileOp :=
  { kind := kind, claims := claims, bank := bank, init := init, vd := 0, modulus := 0, dest := 0, started := false,
    numCtl := s.reg (Reg.twrNumCtl g), image := [], gen := 0, rowRegs := [], colRegs := [], bell := s.bellNum,
    shadow := [], snap := (s.tower g).x.snap }

/-- Issue an MMA or MMW: both claims are registered, A first, then B (R134); the checks of R137, R141, R190. -/
def execMatrix (c : Issue) (i : Instr) (kind : OpKind) (bank : BitVec 2) (qa : BitVec 4) (pa : Bool) (qb : BitVec 4)
    (pb init : Bool) (s : State) : Host.Outcome State Fault Refusal :=
  issue c i false true false .none
    (fun s => match queueCheck c isLq qa s with | some f => some f | none => queueCheck c isLq qb s)
    (fun s =>
      let g := c.slot.val
      let t := s.tower g
      if (t.ringTiles qa.toNat).isEmpty then .fault (s.streamFault g .x F_TILE_EMPTY 0x02 qa.toNat) false
      else if (t.ringTiles qb.toNat).isEmpty then .fault (s.streamFault g .x F_TILE_EMPTY 0x02 qb.toNat) false
      else
        let (t1, ca) := t.claim qa.toNat pa
        let (t2, cb) := t1.claim qb.toNat pb
        match tagsBad kind (t.tile ca.tile).tag (t.tile cb.tile).tag with
        | some k =>
          let x := if k = 0 then ca else cb
          .fault (s.streamFault g .x F_TILE_FMT 0x01 x.q x.tile bank.toNat (t.tile x.tile).tag) false
        | none =>
          if !init && t.modeAfter t.ops bank.toNat ≠ (kind = .mmw) then
            .fault (s.streamFault g .x F_TILE_FMT 0x05 0xFF 0xFF bank.toNat) false
          else
            let o := s.newOp g kind [ca, cb] bank.toNat init
            let both := t.entryFull ca.q ca.n && t.entryFull cb.q cb.n
            match (if both then s.arrayLate g t.ops.length o else none) with
            | some f => .fault f false
            | none => .done (s.setTower g { t2 with ops := t2.ops ++ [o] })) s

/-- MMA.H4 (R189). -/
def execMmaH4 (c : Issue) (bank : BitVec 2) (qa : BitVec 4) (pa : Bool) (qb : BitVec 4) (pb init : Bool) (s : State) :
    Host.Outcome State Fault Refusal := execMatrix c (.mmaH4 c bank qa pa qb pb init) (.mma 0) bank qa pa qb pb init s

/-- MMA.H48 (R189). -/
def execMmaH48 (c : Issue) (bank : BitVec 2) (qa : BitVec 4) (pa : Bool) (qb : BitVec 4) (pb init : Bool) (s : State) :
    Host.Outcome State Fault Refusal := execMatrix c (.mmaH48 c bank qa pa qb pb init) (.mma 1) bank qa pa qb pb init s

/-- MMA.H8 (R189). -/
def execMmaH8 (c : Issue) (bank : BitVec 2) (qa : BitVec 4) (pa : Bool) (qb : BitVec 4) (pb init : Bool) (s : State) :
    Host.Outcome State Fault Refusal := execMatrix c (.mmaH8 c bank qa pa qb pb init) (.mma 2) bank qa pa qb pb init s

/-- MMW (R191). -/
def execMmw (c : Issue) (bank : BitVec 2) (qa : BitVec 4) (pa : Bool) (qb : BitVec 4) (pb init : Bool) (s : State) :
    Host.Outcome State Fault Refusal := execMatrix c (.mmw c bank qa pa qb pb init) .mmw bank qa pa qb pb init s

/-- MDRAIN (R143): names a bank that must not count as on the FTQ (DEDUCED, log 70). -/
def execMdrain (c : Issue) (bank : BitVec 2) (s : State) : Host.Outcome State Fault Refusal :=
  issue c (.mdrain c bank) false true false .none noCheck (fun s =>
    let g := c.slot.val
    let t := s.tower g
    if t.bankOnFtq bank.toNat then .fault (s.streamFault g .x F_QUEUE_OVF 0x01 8 0xFF bank.toNat) false
    else .done (s.modTower g (fun t => { t with ops := t.ops ++ [s.newOp g .mdrain [] bank.toNat false] }))) s

/-! ### Completion -/

/-- Tiles whose entries were popped and that no operation names any more become EMPTY (R215). -/
def Tower.release (t : Tower) (cs : List Claim) : Tower :=
  cs.foldl (fun (t : Tower) c =>
    if c.q < 8 && c.n < (t.queue c.q).claimed &&
        !t.ops.any (fun o => o.claims.any (fun d => d.q = c.q && d.n = c.n)) then
      t.setTile c.tile { Tile.init with q := (t.tile c.tile).q, tag := (t.tile c.tile).tag }
    else t) t

/-- Take operation `k` out of the list and release what it claimed. -/
def Tower.finishOp (t : Tower) (k : Nat) (o : TileOp) : Tower :=
  { t with ops := t.ops.take k ++ t.ops.drop (k + 1) }.release o.claims

/-- The first array operation that has not started can start (R205, R210, R143): its entries are FULL, a shadow is free
and its bank does not count as on the FTQ by an older MDRAIN. It then samples TWR_NUM_CTL (R70). -/
def execArrayOpStart (slot : Fin 68) (s : State) : Host.Outcome State Fault Refusal :=
  let g := slot.val
  let t := s.tower g
  match firstIdx (fun (o : TileOp) => o.kind.onArray && !o.started) t.ops with
  | none => .next s
  | some k => match t.ops[k]? with
    | none => .next s
    | some o =>
      let running := (t.ops.filter (fun o => o.kind.onArray && o.started)).length
      let drained := t.ftq.contains o.bank || (t.ops.take k).any (fun m => m.kind = .mdrain && m.bank = o.bank)
      if 2 ≤ running || drained || !o.claims.all (fun c => t.entryFull c.q c.n) then .next s
      else match (s.atOp g o).arrayLate g k o with
      | some f => s.opFault g k s f
      | none => .next (s.modTower g (fun t =>
          { t with ops := t.ops.set k { o with started := true, numCtl := s.reg (Reg.twrNumCtl g) } }))

/-- What a completing array operation leaves: the bank, and the counts of steps, skipped steps, extra clk and
saturations; or the fault that aborts it (R54, R68). -/
def arrayResult (g : Nat) (o : TileOp) (old : Bank) (a b : Tile) : Except FaultInfo (Bank × Nat × Nat × Nat × Nat) :=
  let olds := rowsOf256 256 (if o.init then List.replicate 65536 0 else old.entries)
  match o.kind with
  | .mmw =>
    let words := fun (t : Tile) => (List.range 256).map (fun r => (List.range a.width).map (t.elem r))
    let n := (if o.init then 0 else old.count) + a.width
    .ok ({ word := true, vals := entryTable (mmwRun olds (words a) (words b)).flatten, count := n, bad := o.shadow }, 64, 0, 0, 0)
  | _ =>
    let steps := blockSteps a.width
    let as := a.blocks steps
    let bs := b.blocks steps
    let out := mmaRun olds as bs
    let firsts := out.zipIdx.flatMap (fun r => r.1.zipIdx.filterMap (fun c => c.1.first.map (fun k => (k, r.2, c.2))))
    match firsts, bit o.numCtl 16 with
    | f :: rest, true =>
      let m := rest.foldl (fun m x => if x.1 < m.1 then x else m) f
      .error (accSatFault g o.bank 0 m.2.1 m.2.2 m.1)
    | _, _ =>
      let flat := out.flatten
      let skips := ((List.range steps).filter (fun k => deadStep (stepBlocks as k) || deadStep (stepBlocks bs k))).length
      let extra := ((List.range steps).map (fun k => stepExtra a.tag b.tag (stepBlocks as k) (stepBlocks bs k))).foldl (· + ·) 0
      .ok ({ word := false, vals := entryTable (flat.map (·.v)), count := 0, bad := o.shadow }, steps, skips, extra,
        (flat.map (·.sats)).foldl (· + ·) 0)

/-- The block steps of an array operation that run a pass, with the counts of promoted A and B blocks (R204, R206). -/
def liveSteps (a b : Tile) : List (Nat × Nat × Nat) :=
  let steps := blockSteps a.width
  let as := a.blocks steps
  let bs := b.blocks steps
  (List.range steps).filterMap (fun k =>
    if deadStep (stepBlocks as k) || deadStep (stepBlocks bs k) then none
    else some (k, extraBlocks a.tag (stepBlocks as k), extraBlocks b.tag (stepBlocks bs k)))

/-- Whether a failing check of the array names a comparison that the operation makes (R65, R204, R206, R208, R212): a pass
of a step that runs; of an MMW, one of its 64 blocks, whose sums pass no scale-and-add stage (DEDUCED, log 69). -/
def TileOp.checkMade (o : TileOp) (a b : Tile) (c : CheckFail) : Bool :=
  match o.kind with
  | .mmw => c.site ≠ 1 && c.step.toNat < 64
  | _ => (liveSteps a b).any (fun p =>
      p.1 = c.step.toNat &&
        (match c.pass.toNat with | 0 => true | 1 => p.2.1 ≠ 0 | 2 => p.2.2 ≠ 0 | _ => p.2.1 ≠ 0 && p.2.2 ≠ 0))

/-- An uncorrectable entry that an array operation reads (R209, R210): of the bank that a non-initialising operation begins
with, or of its shadow, which every later block step reads. -/
def Tower.arrayUe (t : Tower) (o : TileOp) (a b : Tile) : Option Nat :=
  let first := if o.init then none else (t.bank o.bank).bad.head?
  let later := match o.kind with
    | .mmw => if 2 ≤ a.width then o.shadow.head? else none
    | _ => if 2 ≤ (liveSteps a b).length then o.shadow.head? else none
  first.or later

/-- The oldest started array operation completes (R207): its shadow becomes the bank and its popped entries are
released; or a checker finds a mismatch (R65, R212), or it faults. -/
def execArrayOpComplete (slot : Fin 68) (bad : Option CheckFail) (s : State) : Host.Outcome State Fault Refusal :=
  let g := slot.val
  let t := s.tower g
  match firstIdx (fun (o : TileOp) => o.kind.onArray) t.ops with
  | none => .next s
  | some k => match t.ops[k]? with
    | none => .next s
    | some o =>
      if !o.started || !t.inTurn k then .next s
      else match o.claims with
      | [ca, cb] =>
        let a := t.tile ca.tile
        let b := t.tile cb.tile
        match bad.filter (o.checkMade a b), t.arrayUe o a b with
        | some c, _ =>
          s.opFault g k (s.countCheck g (if c.site = 1 then none else some (c.row.toNat, c.col.toNat)))
            (checkFault g o.bank c)
        | none, some e => s.opFault g k s (accUeFault g o.bank e)
        | none, none => match arrayResult g o (t.bank o.bank) a b with
          | .error f => s.opFault g k s f
          | .ok (bank, steps, skips, extra, sats) =>
            let s := s.modTower g (fun t => (t.setBank o.bank bank).finishOp k o)
            let s := s.count64 (Reg.twrArrSteps g) steps
            let s := if extra = 0 then s else s.count64 (Reg.twrArrXclk g) extra
            let s := if skips = 0 then s else s.count (Reg.twrArrSkip g) skips
            .next (if sats = 0 then s else s.count (Reg.twrAccSatcnt g) sats)
      | _ => .next s

/-- The poisoned accumulators of a bank, in row-major order. -/
def Bank.poisons (b : Bank) : List Nat :=
  if b.word then [] else (b.vals.filter (fun e => e.2.getLsbD 42)).map (·.1)

/-- The oldest MDRAIN pushes its bank onto the FTQ once every older array operation into it has completed (R143); under
POISON_TRAP a bank with poisoned accumulators raises F_POISON instead (R57, R68). -/
def execMdrainPush (slot : Fin 68) (s : State) : Host.Outcome State Fault Refusal :=
  let g := slot.val
  let t := s.tower g
  match firstIdx (fun (o : TileOp) => o.kind = .mdrain) t.ops with
  | none => .next s
  | some k => match t.ops[k]? with
    | none => .next s
    | some o =>
      if (t.ops.take k).any (fun m => m.kind.onArray && m.bank = o.bank) || !t.inTurn k then .next s
      else
        let ps := (t.bank o.bank).poisons
        match ps, bit o.numCtl 17 with
        | p :: _, true =>
          s.opFault g k s
            { code := F_POISON, source := srcTower g 3,
              detail := leBytes 1 o.bank ++ leBytes 1 0 ++ leBytes 2 (p / 256) ++ leBytes 2 (p % 256) ++ leBytes 4 ps.length }
        | _, _ =>
          let s := s.modTower g (fun t =>
            let q := t.queue 8
            { t.finishOp k o with ftq := t.ftq ++ [o.bank] }.setQueue 8 { q with pushed := q.pushed + 1 })
          .next (if ps.isEmpty then s else s.count (Reg.twrPoisonCnt g) ps.length)

/-! ### TREL and TCFG (R136, R142) -/

/-- TREL (R136). -/
def execTrel (c : Issue) (q : BitVec 4) (s : State) : Host.Outcome State Fault Refusal :=
  issue c (.trel c q) false true false { a := false, x := true } (queueCheck c isLq q) (fun s =>
    let g := c.slot.val
    let t := s.tower g
    let k := t.queue q.toNat
    if (t.ringTiles q.toNat).isEmpty then .fault (s.streamFault g .x F_TILE_EMPTY 0x02 q.toNat) false
    else if !t.entryFull q.toNat k.claimed || !k.peeked then .fault (s.streamFault g .x F_TILE_EMPTY 0x01 q.toNat) false
    else
      let i := t.entryTile q.toNat k.claimed
      .done (s.modTower g (fun t =>
        (t.setTile i { Tile.init with q := (t.tile i).q, tag := (t.tile i).tag }).setQueue q.toNat
          { k with claimed := k.claimed + 1, peeked := false }))) s

/-- Whether a queue holds a FULL or FILLING tile, or vector entries (R142). -/
def Tower.queueHolds (t : Tower) (q : Nat) : Bool :=
  q ≠ 0xF && ((t.ringTiles q).any (fun i => (t.tile i).state ≠ .empty) || !(t.vecs q).isEmpty)

/-- The tail and claim point of a queue stand at its lowest-numbered bound tile (R142). -/
def Tower.rebase (t : Tower) (q : Nat) : Tower :=
  if q = 0xF then t
  else
    let k := t.queue q
    t.setQueue q { k with claimed := k.pushed, base := k.pushed, peeked := false }

/-- TCFG has taken the last tile of queue `q`: A's instruction that waits there is checked again and faults (R137). -/
def State.recheckQueue (s : State) (g q : Nat) : State :=
  let t := s.tower g
  match t.a.run, t.a.wait with
  | .waiting, some w =>
    if !(t.ringTiles q).isEmpty || !w.timed || w.fault.isSome || waitQueue w.instr .a ≠ q then s
    else if q < 4 then s.issueFault g .a w.instr (s.streamFault g .a F_TILE_EMPTY 0x02 q)
    else match w.instr with
    | .tst _ _ _ _ _ => s.issueFault g .a w.instr (s.streamFault g .a F_ILLEGAL 0x07 q)
    | _ => s
  | _, _ => s

/-- TCFG (R142). -/
def execTcfg (c : Issue) (tile q tag : BitVec 4) (s : State) : Host.Outcome State Fault Refusal :=
  issue c (.tcfg c tile q tag) false true false { a := false, x := true }
    (fun s =>
      if !(q.toNat < 4 || q.toNat = 6 || q.toNat = 7 || q.toNat = 0xF) then some (s.illegal c 0x07 q.toNat)
      else if !tagOk tag.toNat then some (s.illegal c 0x0A q.toNat) else none)
    (fun s =>
      let g := c.slot.val
      let t := s.tower g
      let i := tile.toNat
      let was := (t.tile i).q
      if t.loads.any (fun l => l.shape ≠ .vector && l.tile = i) || t.stores.any (fun st => st.tile = i) then .wait s false
      else if t.queueHolds was || t.queueHolds q.toNat then
        .fault (s.streamFault g .x F_TILE_FMT 0x03 (if t.queueHolds was then was else q.toNat) i) false
      else .done ((s.modTower g (fun t =>
        ((t.setTile i { Tile.init with q := q.toNat, tag := tag.toNat }).rebase was).rebase q.toNat)).recheckQueue g was)) s

end Sys2Proof.Machine
end

