-- ==== Sys2Proof/Machine/Vector.lean ====
section
/-!
DEFINITION. The vector instructions of the Marver (R193, R194, R197, R217 to R220): VOP, VADDM, VSUBM, VMULM, VPOP, VPUSH.
-/
namespace Sys2Proof.Machine

/-! ### Lanes -/

/-- Lane `k` of `w` bits of a v register. -/
def lane (w : Nat) (v : BitVec 2048) (k : Nat) : Nat := bits v.toNat (w * k + w - 1) (w * k)

/-- A v register from its lanes of `w` bits, lane 0 first. -/
def packLanes (w : Nat) (ls : List Nat) : BitVec 2048 :=
  BitVec.ofNat 2048 (ls.foldr (fun x v => x % 2 ^ w + v <<< w) 0)

/-- Bits of a lane of a type (R193): 0 FP32, 1 BF16, 2 INT32, 3 INT16. -/
def tyBits (ty : Nat) : Nat := if ty % 2 = 0 then 32 else 16
/-- Mantissa bits of a floating type. -/
def tyMant (ty : Nat) : Nat := if ty = 0 then 23 else 7
/-- Whether a type is an integer type. -/
def tyInt (ty : Nat) : Bool := 2 ≤ ty

/-- A seed for the free sign and payload of lane `k`'s NaN. -/
def State.seed (s : State) (k : Nat) : Nat := s.free * 2 ^ 24 + k

/-! ### Lane functions (R193) -/

/-- An integer function on lanes of `w` bits: the result wraps. -/
def intFn (w : Nat) (f : Int → Int → Int) (a b : Nat) : Nat := ofSigned w (f (toSigned w a) (toSigned w b))

/-- A floating function on codes, rounded once (DEDUCED, log 68). -/
def fpFn (mb seed : Nat) (f : Num → Num → Num) (a b : Nat) : Nat :=
  (f (Num.decode mb a) (Num.decode mb b)).encode mb seed

/-- Addition. -/
def laneAdd (ty seed a b : Nat) : Nat :=
  if tyInt ty then intFn (tyBits ty) (· + ·) a b else fpFn (tyMant ty) seed Num.add a b

/-- Subtraction. -/
def laneSub (ty seed a b : Nat) : Nat :=
  if tyInt ty then intFn (tyBits ty) (· - ·) a b else fpFn (tyMant ty) seed (fun x y => x.add y.neg) a b

/-- Multiplication. -/
def laneMul (ty seed a b : Nat) : Nat :=
  if tyInt ty then intFn (tyBits ty) (· * ·) a b else fpFn (tyMant ty) seed Num.mul a b

/-- a × b + c, rounded once (DEDUCED, log 68). -/
def laneFma (ty seed a b c : Nat) : Nat :=
  if tyInt ty then ofSigned (tyBits ty) (toSigned (tyBits ty) a * toSigned (tyBits ty) b + toSigned (tyBits ty) c)
  else ((Num.decode (tyMant ty) a).fma (Num.decode (tyMant ty) b) (Num.decode (tyMant ty) c)).encode (tyMant ty) seed

/-- Minimum. -/
def laneMin (ty seed a b : Nat) : Nat :=
  if tyInt ty then intFn (tyBits ty) min a b else fpFn (tyMant ty) seed Num.minNum a b

/-- Maximum. -/
def laneMax (ty seed a b : Nat) : Nat :=
  if tyInt ty then intFn (tyBits ty) max a b else fpFn (tyMant ty) seed Num.maxNum a b

/-- Shift left by b modulo the lane width. -/
def laneShl (ty a b : Nat) : Nat := a <<< (b % tyBits ty) % 2 ^ tyBits ty

/-- Arithmetic shift right by b modulo the lane width. -/
def laneShr (ty a b : Nat) : Nat := ofSigned (tyBits ty) (toSigned (tyBits ty) a >>> (b % tyBits ty))

/-- Clamp an integer to `w` bits. -/
def clampInt (w : Nat) (i : Int) : Int := max (-(2 ^ (w - 1) : Nat)) (min ((2 ^ (w - 1) : Nat) - 1) i)

/-- Conversion of a lane from type `frm` to type `ty`. -/
def laneCvt (frm ty seed a : Nat) : Nat :=
  match tyInt frm, tyInt ty with
  | true, true => ofSigned (tyBits ty) (clampInt (tyBits ty) (toSigned (tyBits frm) a))
  | true, false => (Num.ofInt (toSigned (tyBits frm) a)).encode (tyMant ty) seed
  | false, true => ofSigned (tyBits ty) ((Num.decode (tyMant frm) a).toInt (tyBits ty))
  | false, false => (Num.decode (tyMant frm) a).encode (tyMant ty) seed

/-- Lane by lane over two registers; `f` takes the lane's number. -/
def lanes2 (w : Nat) (f : Nat → Nat → Nat → Nat) (a b : BitVec 2048) : BitVec 2048 :=
  packLanes w ((List.range (2048 / w)).map (fun k => f k (lane w a k) (lane w b k)))

/-! ### Operands (R169, R193) -/

/-- Check 3 of R480 on a selector: a queue end must be of VQ0 or VQ1. -/
def selKind (c : Issue) (sel : BitVec 6) (s : State) : Option FaultInfo :=
  if sel.getLsbD 5 && !isVq (bits sel.toNat 3 0) then some (s.illegal c 0x07 (bits sel.toNat 3 0)) else none

/-- The oldest entry of a vector queue is popped. -/
def Tower.popVec (t : Tower) (q : Nat) : Tower :=
  (t.setVecs q ((t.vecs q).drop 1)).setQueue q { t.queue q with popped := (t.queue q).popped + 1 }

/-- What a selector reads, and the Tower after it; none when the queue end is empty. -/
def Tower.select (t : Tower) (sel : BitVec 6) : Option (BitVec 2048 × Tower) :=
  if sel.getLsbD 5 then
    let q := bits sel.toNat 3 0
    match t.vecs q with
    | [] => none
    | v :: _ => some (v, if sel.getLsbD 4 then t.popVec q else t)
  else some (t.vreg (bits sel.toNat 4 0), t)

/-- A vector instruction waits for its entry without holding up X (R134): it stands among the operations that have not
completed, where its wait may time out (R145; DEDUCED, log 99). -/
def State.vecWaits (s : State) (g : Nat) (i : Instr) (vd : Nat) : Res :=
  .done (s.modTower g (fun t => { t with ops := t.ops ++ [{ s.newOp g (.vec i) [] 0 false with vd := vd }] }))

/-- F_CHECKSUM of a vector instruction or Marver operation (R220): site 2 or 3, the bank or 0xFF, the lane. -/
def residueFault (g bank site : Nat) (c : CheckFail) : FaultInfo :=
  { code := F_CHECKSUM, source := srcTower g 4,
    detail := leBytes 1 bank ++ leBytes 1 0 ++ leBytes 2 c.row.toNat ++ leBytes 2 0xFFFF ++ leBytes 4 0 ++ leBytes 1 site }

/-- A vector instruction that writes v register `vd` (R151, R193): `allowed` is its type check (check 4 of R480), `late`
the check of its register values, `f` its result from the Tower and the two operands, which wait in `State.vecWaits` for
an empty queue end; `bad` a failing residue check at
site `site` (R219), which leaves everything unchanged. -/
def vecInstr (c : Issue) (i : Instr) (sa sb : BitVec 6) (useA useB allowed : Bool) (late : State → Option FaultInfo)
    (bad : Option (CheckFail × Nat)) (vd : BitVec 5) (f : State → BitVec 2048 → BitVec 2048 → BitVec 2048)
    (post : State → State) (s : State) : Host.Outcome State Fault Refusal :=
  issue c i false true false { a := false, x := true }
    (fun s => match (if useA then selKind c sa s else none), (if useB then selKind c sb s else none) with
      | some f, _ => some f
      | none, some f => some f
      | none, none => if allowed then none else some (s.illegal c 0x0A))
    (fun s => match late s with
      | some f => .fault f false
      | none =>
        let g := c.slot.val
        let t := s.tower g
        match (if useA then t.select sa else some (0, t)) with
        | none => s.vecWaits g i vd.toNat
        | some (a, t1) => match (if useB then t1.select sb else some (0, t1)) with
          | none => s.vecWaits g i vd.toNat
          | some (b, t2) => match bad with
            | some (k, site) => .stay ((s.countCheck g none).takeFault g .x (residueFault g 0xFF site k))
            | none => .done (post ((s.setTower g (t2.setVreg vd.toNat (f s a b))).draw))) s

/-- No further check, no further effect. -/
def noLate : State → Option FaultInfo := fun _ => none

/-- A two-operand VOP. -/
def vop2 (c : Issue) (i : Instr) (ty : BitVec 2) (vd : BitVec 5) (sa sb : BitVec 6) (allowed : Bool)
    (bad : Option CheckFail) (f : Nat → Nat → Nat → Nat → Nat) (s : State) : Host.Outcome State Fault Refusal :=
  vecInstr c i sa sb true true allowed noLate (bad.map (fun b => (b, 2))) vd
    (fun s a b => lanes2 (tyBits ty.toNat) (fun k => f ty.toNat (s.seed k)) a b) id s

/-- VOP.ADD. -/
def execVopAdd (c : Issue) (ty : BitVec 2) (vd : BitVec 5) (sa sb : BitVec 6) (bad : Option CheckFail) (s : State) :
    Host.Outcome State Fault Refusal := vop2 c (.vopAdd c ty vd sa sb bad) ty vd sa sb true bad laneAdd s

/-- VOP.SUB. -/
def execVopSub (c : Issue) (ty : BitVec 2) (vd : BitVec 5) (sa sb : BitVec 6) (bad : Option CheckFail) (s : State) :
    Host.Outcome State Fault Refusal := vop2 c (.vopSub c ty vd sa sb bad) ty vd sa sb true bad laneSub s

/-- VOP.MUL. -/
def execVopMul (c : Issue) (ty : BitVec 2) (vd : BitVec 5) (sa sb : BitVec 6) (bad : Option CheckFail) (s : State) :
    Host.Outcome State Fault Refusal := vop2 c (.vopMul c ty vd sa sb bad) ty vd sa sb true bad laneMul s

/-- VOP.FMA: vd + a × b, rounded once; floating types only. -/
def execVopFma (c : Issue) (ty : BitVec 2) (vd : BitVec 5) (sa sb : BitVec 6) (bad : Option CheckFail) (s : State) :
    Host.Outcome State Fault Refusal :=
  vecInstr c (.vopFma c ty vd sa sb bad) sa sb true true (!tyInt ty.toNat) noLate (bad.map (fun b => (b, 2))) vd
    (fun s a b =>
      let w := tyBits ty.toNat
      let d := (s.tower c.slot.val).vreg vd.toNat
      lanes2 w (fun k x y => laneFma ty.toNat (s.seed k) x y (lane w d k)) a b) id s

/-- VOP.MIN. -/
def execVopMin (c : Issue) (ty : BitVec 2) (vd : BitVec 5) (sa sb : BitVec 6) (s : State) :
    Host.Outcome State Fault Refusal := vop2 c (.vopMin c ty vd sa sb) ty vd sa sb true none laneMin s

/-- VOP.MAX. -/
def execVopMax (c : Issue) (ty : BitVec 2) (vd : BitVec 5) (sa sb : BitVec 6) (s : State) :
    Host.Outcome State Fault Refusal := vop2 c (.vopMax c ty vd sa sb) ty vd sa sb true none laneMax s

/-- VOP.AND: integer types only. -/
def execVopAnd (c : Issue) (ty : BitVec 2) (vd : BitVec 5) (sa sb : BitVec 6) (s : State) :
    Host.Outcome State Fault Refusal :=
  vop2 c (.vopAnd c ty vd sa sb) ty vd sa sb (tyInt ty.toNat) none (fun _ _ a b => a &&& b) s

/-- VOP.OR: integer types only. -/
def execVopOr (c : Issue) (ty : BitVec 2) (vd : BitVec 5) (sa sb : BitVec 6) (s : State) :
    Host.Outcome State Fault Refusal :=
  vop2 c (.vopOr c ty vd sa sb) ty vd sa sb (tyInt ty.toNat) none (fun _ _ a b => a ||| b) s

/-- VOP.XOR: integer types only. -/
def execVopXor (c : Issue) (ty : BitVec 2) (vd : BitVec 5) (sa sb : BitVec 6) (s : State) :
    Host.Outcome State Fault Refusal :=
  vop2 c (.vopXor c ty vd sa sb) ty vd sa sb (tyInt ty.toNat) none (fun _ _ a b => a ^^^ b) s

/-- VOP.SHL: integer types only. -/
def execVopShl (c : Issue) (ty : BitVec 2) (vd : BitVec 5) (sa sb : BitVec 6) (s : State) :
    Host.Outcome State Fault Refusal :=
  vop2 c (.vopShl c ty vd sa sb) ty vd sa sb (tyInt ty.toNat) none (fun ty _ a b => laneShl ty a b) s

/-- VOP.SHR: integer types only. -/
def execVopShr (c : Issue) (ty : BitVec 2) (vd : BitVec 5) (sa sb : BitVec 6) (s : State) :
    Host.Outcome State Fault Refusal :=
  vop2 c (.vopShr c ty vd sa sb) ty vd sa sb (tyInt ty.toNat) none (fun ty _ a b => laneShr ty a b) s

/-- VOP.MOV: a non-zero SB is a field the instruction does not name. -/
def execVopMov (c : Issue) (ty : BitVec 2) (vd : BitVec 5) (sa sb : BitVec 6) (s : State) :
    Host.Outcome State Fault Refusal :=
  vecInstr (markBad c (sb ≠ 0)) (.vopMov c ty vd sa sb) sa sb true false true noLate none vd (fun _ a _ => a) id s

/-- The lanes of a conversion: lane k comes from lane k; lanes that the source type does not have are free (DESIGN CHOICE, log 31). -/
def cvtLanes (s : State) (frm ty : Nat) (a : BitVec 2048) : BitVec 2048 :=
  packLanes (tyBits ty) ((List.range (2048 / tyBits ty)).map (fun k =>
    if k < 2048 / tyBits frm then laneCvt frm ty (s.seed k) (lane (tyBits frm) a k)
    else (Config.unstated 0x0C (s.seed k)).toNat % 2 ^ tyBits ty))

/-- VOP.CVT: from type SB[1:0] to TY; SB[5:2] = 0. -/
def execVopCvt (c : Issue) (ty : BitVec 2) (vd : BitVec 5) (sa sb : BitVec 6) (s : State) :
    Host.Outcome State Fault Refusal :=
  vecInstr (markBad c (4 ≤ sb.toNat)) (.vopCvt c ty vd sa sb) sa sb true false true noLate none vd
    (fun s a _ => cvtLanes s sb.toNat ty.toNat a) id s

/-- VOP.BCAST: the low bits of scalar register SA[4:0] in every lane; SA[5] = 0 and SB = 0. -/
def execVopBcast (c : Issue) (ty : BitVec 2) (vd : BitVec 5) (sa sb : BitVec 6) (s : State) :
    Host.Outcome State Fault Refusal :=
  vecInstr (markBad c (sa.getLsbD 5 || sb ≠ 0)) (.vopBcast c ty vd sa sb) sa sb false false true noLate none vd
    (fun s _ _ =>
      let w := tyBits ty.toNat
      packLanes w (List.replicate (2048 / w) (s.sreg c (sa.setWidth 5)).toNat)) id s

/-! ### Modular vectors (R194, R217, R218) -/

/-- The constants cache after a use of modulus `q`: the four most recently used, the latest first (R218). -/
def useModulus (l : List Nat) (q : Nat) : List Nat := (q :: l.filter (· ≠ q)).take 4

/-- A modular vector instruction: q = RQ[31:0] must be at least 2. -/
def vecMod (c : Issue) (i : Instr) (vd : BitVec 5) (sa sb : BitVec 6) (rq : BitVec 5) (bad : Option (CheckFail × Nat))
    (f : Nat → Nat → Nat → Nat) (s : State) : Host.Outcome State Fault Refusal :=
  let q := fun (s : State) => (s.sreg c rq).toNat % 2 ^ 32
  vecInstr c i sa sb true true true (fun s => if q s < 2 then some (s.illegal c 0x0A) else none) bad vd
    (fun s a b => lanes2 32 (fun _ x y => f (q s) (x % q s) (y % q s)) a b)
    (fun s => s.modTower c.slot.val (fun t => { t with moduli := useModulus t.moduli (q s) })) s

/-- VADDM. -/
def execVaddm (c : Issue) (vd : BitVec 5) (sa sb : BitVec 6) (rq : BitVec 5) (bad : Option CheckFail) (s : State) :
    Host.Outcome State Fault Refusal :=
  vecMod c (.vaddm c vd sa sb rq bad) vd sa sb rq (bad.map (fun b => (b, 3))) (fun q x y => (x + y) % q) s

/-- VSUBM. -/
def execVsubm (c : Issue) (vd : BitVec 5) (sa sb : BitVec 6) (rq : BitVec 5) (bad : Option CheckFail) (s : State) :
    Host.Outcome State Fault Refusal :=
  vecMod c (.vsubm c vd sa sb rq bad) vd sa sb rq (bad.map (fun b => (b, 3))) (fun q x y => (x + q - y) % q) s

/-- VMULM: its product (site 2) and its reduction (site 3) are checked. -/
def execVmulm (c : Issue) (vd : BitVec 5) (sa sb : BitVec 6) (rq : BitVec 5) (bad : Option CheckFail) (s : State) :
    Host.Outcome State Fault Refusal :=
  vecMod c (.vmulm c vd sa sb rq bad) vd sa sb rq (bad.map (fun b => (b, if b.site = 2 then 2 else 3)))
    (fun q x y => x * y % q) s

/-! ### VPOP and VPUSH (R197) -/

/-- VPOP pops the oldest entry of VQ q into vd; one that finds none waits without holding up X (R134). -/
def execVpop (c : Issue) (vd : BitVec 5) (q : BitVec 4) (s : State) : Host.Outcome State Fault Refusal :=
  issue c (.vpop c vd q) false true false { a := false, x := true } (queueCheck c isVq q) (fun s =>
    match (s.tower c.slot.val).vecs q.toNat with
    | [] => s.vecWaits c.slot.val (.vpop c vd q) vd.toNat
    | v :: _ => .done (s.modTower c.slot.val (fun t => (t.popVec q.toNat).setVreg vd.toNat v))) s

/-- VPUSH pushes va onto SQ q, which must have no bound tile (R133); on a full queue it waits. -/
def execVpush (c : Issue) (q : BitVec 4) (va : BitVec 5) (s : State) : Host.Outcome State Fault Refusal :=
  issue c (.vpush c q va) false true false { a := false, x := true } (queueCheck c isSq q) (fun s =>
    let t := s.tower c.slot.val
    let qn := q.toNat
    if t.isTileQueue qn then .fault (s.illegal c 0x07 qn) false
    else if 8 ≤ (t.vecs qn).length then .wait s true
    else .done (s.modTower c.slot.val (fun t =>
      (t.setVecs qn (t.vecs qn ++ [t.vreg va.toNat])).setQueue qn
        { t.queue qn with pushed := (t.queue qn).pushed + 1 }))) s

end Sys2Proof.Machine
end

