-- ==== Sys2Proof/Machine/Marver.lean ====
section
/-!
DEFINITION. The Marver's tile operations (R57 to R60, R195, R196, R213 to R224): VRED, EPRG, and the events that start and
complete them.
-/
namespace Sys2Proof.Machine

/-! ### Images of element programs (R221) -/

def epHeader (img : List Byte) : Nat := field img 7 0
def epLen (img : List Byte) : Nat := epHeader img % 32 + 1
def epOut (img : List Byte) : Nat := bits (epHeader img) 7 5
def epIn (img : List Byte) : Nat := bits (epHeader img) 9 8
def epWide (img : List Byte) : Bool := bit (epHeader img) 10
def epRv (img : List Byte) : Nat := bits (epHeader img) 20 16
def epCv (img : List Byte) : Nat := bits (epHeader img) 25 21
def epTags (img : List Byte) : Nat := bits (epHeader img) 47 32
/-- Constant Kn. -/
def epK (img : List Byte) (n : Nat) : Nat := field img (8 + 4 * n + 3) (8 + 4 * n)
/-- Micro-operation n. -/
def epOp (img : List Byte) (n : Nat) : Nat := field img (40 + 4 * n + 3) (40 + 4 * n)
/-- Entry e of the lookup table. -/
def epLut (img : List Byte) (e : Nat) : Nat := field img (256 + 4 * e + 3) (256 + 4 * e)

/-! ### Micro-operations (R222) -/

/-- The type of a micro-operation as a VOP type: 0 FP32, 1 BF16, 2 INT32, 3 INT16. -/
def opTy (wide int : Bool) : Nat := ofBool wide + ofBool int * 2

/-- What an element program sees at one element: the mode, X, its RV and CV lanes, its row and column, and a seed for free
values. -/
structure ElemIn where
  wide : Bool
  x : Nat
  rv : Nat
  cv : Nat
  i : Nat
  j : Nat
  seed : Nat
  deriving DecidableEq, Repr

/-- The value of a source code in a micro-operation of integer or floating type. Temporaries carry their value and whether
it is an integer. -/
def epSrc (img : List Byte) (e : ElemIn) (ts : List (Nat × Bool)) (int : Bool) (c : Nat) : Nat :=
  let idx := fun (n : Nat) => if int then n else (Num.ofInt n).encode (if e.wide then 7 else 23) 0
  if c < 8 then (ts.getD c (0, false)).1
  else if c = 0x08 then e.x
  else if c = 0x09 then e.rv
  else if c = 0x0A then e.cv
  else if c = 0x0B then idx e.i
  else if c = 0x0C then idx e.j
  else epK img (c % 8)

/-- What a micro-operation delivers: its value, and whether it is an integer (DEDUCED, log 68). Under WIDE16, 32-bit operands
give their low 16 bits, and CVT 0 and 1 convert between BF16 and INT16 (R221, R222; DESIGN CHOICE, log 98). -/
def epFn (img : List Byte) (e : ElemIn) (opc imm : Nat) (int : Bool) (seed a b c : Nat) : Nat × Bool :=
  let ty := opTy e.wide int
  let w := tyBits ty
  let mb := if e.wide then 7 else 23
  let p := a % 2 ^ w
  let q := b % 2 ^ w
  let r := c % 2 ^ w
  match opc with
  | 0x01 => (if bit imm 0 then laneSub ty seed p q else laneAdd ty seed p q, int)
  | 0x02 => (laneMul ty seed p q, int)
  | 0x03 => (laneFma ty seed p q r, int)
  | 0x04 => (laneMin ty seed p q, int)
  | 0x05 => (laneMax ty seed p q, int)
  | 0x06 => (laneMin ty seed (laneMax ty seed p q) r, int)
  | 0x07 => (if (if int then decide (0 < toSigned w p) else (Num.decode mb p).positive) then q else r, int)
  | 0x08 =>
    if imm = 0 then (laneCvt (opTy e.wide false) (opTy e.wide true) seed p, true)
    else if imm = 1 then (laneCvt (opTy e.wide true) (opTy e.wide false) seed p, false)
    else ((Num.decode mb p).encode 7 seed <<< (if e.wide then 0 else 16), false)
  | 0x09 => (a % epK img (imm % 8), true)
  | 0x0E => (epLut img (max 0 (min 255 (toSigned w p))).toNat, true)
  | _ => (fun1 mb opc seed p, false)

/-- One micro-operation (DEDUCED, log 68). -/
def epStep (img : List Byte) (e : ElemIn) (ts : List (Nat × Bool)) (n : Nat) : List (Nat × Bool) :=
  let u := epOp img n
  let int := bit u 8
  let v := fun (c : Nat) => epSrc img e ts int c
  ts.set (bits u 26 24)
    (epFn img e (bits u 31 27) (bits u 7 0) int (e.seed * 32 + n) (v (bits u 23 19)) (v (bits u 18 14)) (v (bits u 13 9)))

/-- The result of an element program at one element (R223): T0 to T7 start at zero. -/
def epRun (img : List Byte) (e : ElemIn) : Nat × Bool :=
  ((List.range (epLen img)).foldl (epStep img e) (List.replicate 8 (0, false))).getD (epOut img) (0, false)

/-! ### Sources (R195, R213) -/

/-- The source of a Marver tile operation: a bank or a tile. -/
inductive MSource
  | bank (b : Nat)
  | tile (k : Nat)
  deriving DecidableEq, Repr

/-- The source that a claim names, once it is known: an FTQ entry is a bank pushed or to be pushed by an older MDRAIN. -/
def Tower.sourceOf (t : Tower) (ops : List TileOp) (c : Claim) : Option MSource :=
  if c.q < 8 then some (.tile c.tile)
  else
    let banks := t.ftq ++ (ops.filter (fun o => o.kind = .mdrain)).map (·.bank)
    (banks[c.n - (t.queue 8).popped]?).map .bank

/-- Whether the source of a claim is available: its tile is FULL, or its bank is on the FTQ (R134, R143). -/
def Tower.sourceReady (t : Tower) (c : Claim) : Bool :=
  if c.q < 8 then t.entryFull c.q c.n else c.n < (t.queue 8).pushed

/-- The columns of a source. -/
def Tower.sourceWidth (t : Tower) : MSource → Nat
  | .bank _ => 256
  | .tile k => (t.tile k).width

/-- The bank number that a record names: 0xFF for a tile. -/
def MSource.bankNo : MSource → Nat
  | .bank b => b
  | .tile _ => 0xFF

/-- Whether a source is a word-mode bank. -/
def Tower.wordBank (t : Tower) : MSource → Bool
  | .bank b => (t.bank b).word
  | .tile _ => false

/-- An element as the Marver presents it: its bits (FP32, BF16, a 72-bit sum or a W32 word), its poison mark, and whether it
saturated under R57. -/
structure Shown where
  x : Nat
  mark : Bool
  sat : Bool
  deriving DecidableEq, Repr

/-- A NaN code of a format. -/
def isNanCode (mb c : Nat) : Bool := bits c (mb + 7) mb = 255 && c % 2 ^ mb ≠ 0

/-- An ACC42 entry presented in FP32 or BF16 (R57). -/
def shownAcc (mb v : Nat) : Shown :=
  if bit v 42 then { x := poisonCode mb, mark := true, sat := false }
  else let (c, sat) := accToFp mb (v % 2 ^ 42); { x := c, mark := false, sat := sat }

/-- A floating tile element with `src` mantissa bits presented with `mb`. -/
def shownFp (src mb c seed : Nat) : Shown :=
  if isNanCode src c then { x := poisonCode mb, mark := true, sat := false }
  else { x := if src = mb then c else (Num.decode src c).encode mb seed, mark := false, sat := false }

/-- The elements of a block presented (R34, R46). -/
def shownBlk (mb : Nat) (b : Blk) : List Shown :=
  (List.range 64).map (fun k =>
    if b.poisoned then { x := poisonCode mb, mark := true, sat := false }
    else { x := (b.num k).encode mb 0, mark := false, sat := false })

/-- Row `i` of a source as presented in 16-bit mode or not. -/
def Tower.shownRow (t : Tower) (src : MSource) (wide : Bool) (i : Nat) : List Shown :=
  let mb := if wide then 7 else 23
  match src with
  | .bank b =>
    let k := t.bank b
    (SMap.getRun (fun _ => 0) k.vals (256 * i) 256).map (fun v =>
      if k.word then { x := v.toNat % 2 ^ 72, mark := false, sat := false } else shownAcc mb v.toNat)
  | .tile n =>
    let k := t.tile n
    if isBlockFmt k.tag then
      ((List.range ((k.width + 63) / 64)).flatMap (fun b => shownBlk mb (k.blk i b))).take k.width
    else (List.range k.width).map (fun j =>
      let c := k.elem i j
      if k.tag = 8 then { x := c, mark := false, sat := false }
      else shownFp (if k.tag = 9 then 7 else 23) mb c 0)

/-! ### Element programs over a source (R223, R224) -/

/-- What an element program delivers for one element. -/
structure ElemOut where
  v : Nat
  int : Bool
  mark : Bool
  deriving DecidableEq, Repr

/-- The results of one row. -/
def epRow (img : List Byte) (rvs cvs : List (BitVec 2048)) (seed i : Nat) (xs : List Shown) : List ElemOut :=
  let wide := epWide img
  let low := fun (v : Nat) => if wide then v % 2 ^ 16 else v
  let rv := low (lane 32 (rvs.getD (i / 64) 0) (i % 64))
  xs.zipIdx.map (fun p =>
    let e : ElemIn :=
      { wide := wide, x := p.1.x, rv := rv, cv := low (lane 32 (cvs.getD (p.2 / 64) 0) (p.2 % 64)), i := i, j := p.2,
        seed := seed + 512 * i + p.2 }
    let r := epRun img e
    { v := r.1, int := r.2, mark := p.1.mark })

/-- A result as a value. -/
def ElemOut.num (wide : Bool) (r : ElemOut) : Num :=
  if r.mark then .nan
  else if r.int then Num.ofInt (toSigned (if wide then 16 else 32) r.v)
  else Num.decode (if wide then 7 else 23) r.v

/-- A result in a destination of W32, BF16 or FP32 (R223). -/
def ElemOut.plain (wide : Bool) (tag seed : Nat) (r : ElemOut) : Nat :=
  if tag = 8 then (if r.mark then 0x7FE0_0000 else r.v % 2 ^ 32)
  else
    let mb := if tag = 9 then 7 else 23
    if r.mark then poisonCode mb
    else if !r.int && wide = (tag = 9) then r.v % 2 ^ (mb + 9)
    else (r.num wide).encode mb seed

/-- The progress of the quantiser over a tile: the records' headers and payloads (latest first), the next promotion offset,
the annex, and the counts of R60. -/
structure QuantRun where
  next : Nat
  annex : List (List Byte)
  slots : SMap Nat
  blocks : Nat
  clipped : Nat
  promoted : Nat
  zero : Nat
  poison : Nat
  denied : Nat
  deriving DecidableEq, Repr

/-- One record of the quantiser (R59): its scale and guard bytes, its payload, and the progress. -/
def quantBlock (f ctl limit key : Nat) (xs : List Num) (q : QuantRun) : List Byte × List Byte × QuantRun :=
  let r := quantise f (bits ctl 6 4) xs
  let sat := min r.clipped 63
  let wants := bit ctl 14 && f < 4 && max (bits ctl 13 8) 1 ≤ sat
  if wants && q.next < limit && q.annex.length < 512 then
    let h := quantise 4 0 xs
    (leBytes 1 h.scale ++ leBytes 1 0x80,
      (leBytes 4 q.next ++ List.replicate (payloadSize f - 4) 0),
      { q with
        next := q.next + 1, annex := q.annex ++ [codesPayload 4 h.codes],
        slots := q.slots ++ [(key, q.annex.length + 1)], blocks := q.blocks + 1, promoted := q.promoted + 1 })
  else
    let r := r.settle
    (leBytes 1 r.scale ++ leBytes 1 r.guard, codesPayload f r.codes,
      { q with
        blocks := q.blocks + 1, clipped := q.clipped + sat, zero := q.zero + ofBool (guardZ r.guard && r.scale ≠ 255),
        poison := q.poison + ofBool (r.scale = 255), denied := q.denied + ofBool wants })

/-- The values of block `b` of a row, with zeros beyond its end. -/
def blockOfRow (wide : Bool) (rs : List ElemOut) (b : Nat) : List Num :=
  let xs := (rs.drop (64 * b)).take 64
  xs.map (ElemOut.num wide) ++ List.replicate (64 - xs.length) (.fin false 0 0)

/-- One row through the quantiser: its header and payload bytes. -/
def quantRow (f ctl limit : Nat) (wide : Bool) (i : Nat) (rs : List ElemOut) (q : QuantRun) :
    List Byte × List Byte × QuantRun :=
  (List.range ((rs.length + 63) / 64)).foldl (fun (a : List Byte × List Byte × QuantRun) b =>
    let (h, p, q) := quantBlock f ctl limit (8 * i + b) (blockOfRow wide rs b) a.2.2
    (a.1 ++ h, a.2.1 ++ p, q)) ([], [], q)

/-- The whole tile through the quantiser: rows of headers and payloads. -/
def quantTile (f ctl limit next : Nat) (wide : Bool) (rows : List (List ElemOut)) :
    List (List Byte) × List (List Byte) × QuantRun :=
  let q0 : QuantRun :=
    { next := next, annex := [], slots := [], blocks := 0, clipped := 0, promoted := 0, zero := 0, poison := 0,
      denied := 0 }
  let out := rows.zipIdx.foldl (fun (a : List (List Byte) × List (List Byte) × QuantRun) p =>
    let (h, b, q) := quantRow f ctl limit wide p.2 p.1 a.2.2
    (h :: a.1, b :: a.2.1, q)) ([], [], q0)
  (out.1.reverse, out.2.1.reverse, out.2.2)

/-- The counts that a completing quantising operation makes (R59, R60). -/
def State.quantCounts (s : State) (g ctl : Nat) (q : QuantRun) : State :=
  let n := ctl % 16
  let s := s.count64 (Reg.twrQstatBlocks g n) q.blocks
  let s := s.count64 (Reg.twrQstatClipped g n) q.clipped
  let s := s.count64 (Reg.twrQstatPromoted g n) q.promoted
  let s := s.count64 (Reg.twrQstatZero g n) q.zero
  let s := s.count64 (Reg.twrQstatPoison g n) q.poison
  let s := s.count (Reg.twrPromoDenied g) q.denied
  s.setReg (Reg.twrPromoNext g) (q.next % 2 ^ 32)

/-! ### Faults -/

/-- F_TILE_FMT for a source: its queue and its tile or bank. -/
def State.sourceFault (s : State) (g reason q : Nat) (src : MSource) : FaultInfo :=
  match src with
  | .bank b => s.streamFault g .x F_TILE_FMT reason q 0xFF b
  | .tile k => s.streamFault g .x F_TILE_FMT reason q k 0xFF ((s.tower g).tile k).tag

/-- The source check of a VRED (R195): the pairings of operation and source. -/
def State.vredFault (s : State) (g opr q : Nat) (src : MSource) : Option FaultInfo :=
  let t := s.tower g
  match src with
  | .bank b => if (t.bank b).word == decide (opr = 3) then none else some (s.sourceFault g 0x05 q src)
  | .tile k =>
    let tag := (t.tile k).tag
    if isPlainFmt tag && decide (tag = 8) == decide (opr = 3) then none else some (s.sourceFault g 0x01 q src)

/-- The checks of R224 on the image, the source and the destination. -/
def State.eprgFault (s : State) (g q : Nat) (img : List Byte) (src : MSource) (qd dest : Nat) : Option FaultInfo :=
  let t := s.tower g
  let w32 := match src with | .tile k => decide ((t.tile k).tag = 8) | .bank _ => false
  if decide (epIn img = 1) != t.wordBank src then some (s.sourceFault g 0x05 q src)
  else if epIn img ≠ 1 && decide (epIn img = 2) != w32 then some (s.sourceFault g 0x01 q src)
  else if !bit (epTags img) (t.tile dest).tag then
    some (s.streamFault g .x F_TILE_FMT 0x01 qd dest 0xFF (t.tile dest).tag)
  else none

/-- The check of an operation once its source is known. -/
def State.marverFault (s : State) (g : Nat) (o : TileOp) (src : MSource) (dest : Nat) : Option FaultInfo :=
  let q := match o.claims with | c :: _ => c.q | [] => 0xFF
  match o.kind with
  | .vred _ opr => s.vredFault g opr q src
  | .eprg _ qd => s.eprgFault g q o.image src qd dest
  | _ => none

/-- The tile that an element program issued after the operations `ops` fills: the tail once their pushes are done (R135). -/
def Tower.eprgDest (t : Tower) (ops : List TileOp) (qd : Nat) : Nat :=
  let n := (ops.filter (fun o => match o.kind with | .eprg _ q => q = qd | _ => false)).length
  t.entryTile qd ((t.queue qd).pushed + n)

/-! ### Issue -/

/-- The source queue of a Marver tile operation: an LQ, or the FTQ by pop only (R195). -/
def sourceCheck (c : Issue) (qs : BitVec 4) (pop : Bool) (s : State) : Option FaultInfo :=
  if qs.toNat < 4 || (qs.toNat = 8 && pop) then none else some (s.illegal c 0x07 qs.toNat)

/-- Whether the source queue has no slots (R137). -/
def Tower.noSlots (t : Tower) (q : Nat) : Bool := q < 4 && (t.ringTiles q).isEmpty

/-- VRED (R195). -/
def execVred (c : Issue) (i : Instr) (col : Bool) (opr : Nat) (vd : BitVec 5) (qs : BitVec 4) (pop : Bool)
    (rq : BitVec 5) (s : State) : Host.Outcome State Fault Refusal :=
  issue c i false true false .none
    (fun s => match sourceCheck c qs pop s with
      | some f => some f
      | none => if vd.toNat % 4 = 0 then none else some (s.illegal c 0x0A qs.toNat))
    (fun s =>
      let g := c.slot.val
      let t := s.tower g
      let m := (s.sreg c rq).toNat % 2 ^ 32
      if t.noSlots qs.toNat then .fault (s.streamFault g .x F_TILE_EMPTY 0x02 qs.toNat) false
      else
        let (t1, cl) := t.claim qs.toNat pop
        let o := { s.newOp g (.vred col opr) [cl] 0 false with vd := vd.toNat, modulus := m }
        let late := match t.sourceOf t.ops cl with
          | some src => if t.sourceReady cl || qs.toNat < 4 then s.vredFault g opr qs.toNat src else none
          | none => none
        match late with
        | some f => .fault f false
        | none =>
          if opr = 3 && m < 2 then .fault (s.illegal c 0x0A qs.toNat) false
          else .done (s.setTower g { t1 with ops := t1.ops ++ [o] })) s

/-- VRED.ROW.ADD. -/
def execVredRowAdd (c : Issue) (vd : BitVec 5) (qs : BitVec 4) (pop : Bool) (rq : BitVec 5) (s : State) :
    Host.Outcome State Fault Refusal := execVred c (.vredRowAdd c vd qs pop rq) false 0 vd qs pop rq s
/-- VRED.ROW.MAX. -/
def execVredRowMax (c : Issue) (vd : BitVec 5) (qs : BitVec 4) (pop : Bool) (rq : BitVec 5) (s : State) :
    Host.Outcome State Fault Refusal := execVred c (.vredRowMax c vd qs pop rq) false 1 vd qs pop rq s
/-- VRED.ROW.MIN. -/
def execVredRowMin (c : Issue) (vd : BitVec 5) (qs : BitVec 4) (pop : Bool) (rq : BitVec 5) (s : State) :
    Host.Outcome State Fault Refusal := execVred c (.vredRowMin c vd qs pop rq) false 2 vd qs pop rq s
/-- VRED.ROW.ADDM. -/
def execVredRowAddm (c : Issue) (vd : BitVec 5) (qs : BitVec 4) (pop : Bool) (rq : BitVec 5) (s : State) :
    Host.Outcome State Fault Refusal := execVred c (.vredRowAddm c vd qs pop rq) false 3 vd qs pop rq s
/-- VRED.COL.ADD. -/
def execVredColAdd (c : Issue) (vd : BitVec 5) (qs : BitVec 4) (pop : Bool) (rq : BitVec 5) (s : State) :
    Host.Outcome State Fault Refusal := execVred c (.vredColAdd c vd qs pop rq) true 0 vd qs pop rq s
/-- VRED.COL.MAX. -/
def execVredColMax (c : Issue) (vd : BitVec 5) (qs : BitVec 4) (pop : Bool) (rq : BitVec 5) (s : State) :
    Host.Outcome State Fault Refusal := execVred c (.vredColMax c vd qs pop rq) true 1 vd qs pop rq s
/-- VRED.COL.MIN. -/
def execVredColMin (c : Issue) (vd : BitVec 5) (qs : BitVec 4) (pop : Bool) (rq : BitVec 5) (s : State) :
    Host.Outcome State Fault Refusal := execVred c (.vredColMin c vd qs pop rq) true 2 vd qs pop rq s
/-- VRED.COL.ADDM. -/
def execVredColAddm (c : Issue) (vd : BitVec 5) (qs : BitVec 4) (pop : Bool) (rq : BitVec 5) (s : State) :
    Host.Outcome State Fault Refusal := execVred c (.vredColAddm c vd qs pop rq) true 3 vd qs pop rq s

/-- A slot flips (R227): its complete next image becomes current and GEN moves on. -/
def EpSlot.flip (e : EpSlot) : EpSlot :=
  match e.next with
  | some img => { e with valid := true, gen := (e.gen + 1) % 256, image := img, next := none, promoted := false }
  | none => e

/-- What REQ = 1 does at issue (R228): go on with the slot, wait with it, or fault. -/
inductive ReqAnswer
  | go (e : EpSlot)
  | stall (e : EpSlot)
  | bad
  deriving DecidableEq, Repr

/-- The comparison of R228. -/
def EpSlot.request (e : EpSlot) (gen : Nat) : ReqAnswer :=
  if e.gen = gen then .go e
  else if (e.gen + 1) % 256 = gen then
    if e.next.isSome then .go e.flip
    else if e.build.isSome then .stall { e with promoted := true }
    else .bad
  else .bad

/-- EPRG n, src, push q (R196, R224, R228). A flip by REQ does not stand when the issue then faults (DESIGN CHOICE, log 98). -/
def execEprg (c : Issue) (prog qs : BitVec 4) (pop : Bool) (qd : BitVec 4) (s : State) :
    Host.Outcome State Fault Refusal :=
  issue (markBad c (longY c ≠ 0 || 512 ≤ longX c)) (.eprg c prog qs pop qd) false true true .none
    (fun s => match sourceCheck c qs pop s with
      | some f => some f
      | none => queueCheck c isSq qd s)
    (fun s =>
      let g := c.slot.val
      let n := prog.toNat
      let t := s.tower g
      let req := if bit (longX c) 8 then (t.ep n).request (longX c % 256) else .go (t.ep n)
      -- the clk that the EPRG stalled (R228): free
      let s := if t.x.wait.isSome && bit (longX c) 8 then (s.count (Reg.twrEpStall g) s.clk).draw else s
      match req with
      | .bad => .fault (s.illegal c 0x0A qs.toNat) false
      | .stall e => .wait (s.modTower g (fun t => t.setEp n e)) false
      | .go e =>
        let s := s.modTower g (fun t => t.setEp n e)
        let t := s.tower g
        if !e.valid then .fault (s.illegal c 0x0A qs.toNat) false
        else if t.noSlots qs.toNat then .fault (s.streamFault g .x F_TILE_EMPTY 0x02 qs.toNat) false
        else if !t.isTileQueue qd.toNat then .fault (s.illegal c 0x07 qd.toNat) false
        else
          let (t1, cl) := t.claim qs.toNat pop
          let dest := t.eprgDest t.ops qd.toNat
          let o := { s.newOp g (.eprg n qd.toNat) [cl] 0 false with image := e.image, gen := e.gen, dest := dest }
          let late := match t.sourceOf t.ops cl with
            | some src => if t.sourceReady cl || qs.toNat < 4 then s.eprgFault g qs.toNat e.image src qd.toNat dest else none
            | none => none
          match late with
          | some f => .fault f false
          | none => .done (s.setTower g { t1 with ops := t1.ops ++ [o] })) s

/-! ### Start (R213, R223) -/

/-- The v registers that an element program reads over a source of a width (R221, R223). -/
def epRegs (img : List Byte) (width : Nat) : List Nat :=
  ((List.range 4).map (fun n => (epRv img + n) % 32)) ++
    ((List.range (if 256 < width then 8 else 4)).map (fun n => (epCv img + n) % 32))

/-- Whether an older VRED that has not completed writes a register that the operation reads (R195, R223). -/
def waitsForVred (ops : List TileOp) (o : TileOp) (width : Nat) : Bool :=
  match o.kind with
  | .eprg _ _ => ops.any (fun v => (match v.kind with | .vred _ _ => true | _ => false) &&
      (epRegs o.image width).any (fun r => v.vd ≤ r && r < v.vd + 4))
  | _ => false

/-- The first Marver operation that has not started starts (R213): its source is available, fewer than two run, an element
program's tile is EMPTY and becomes FILLING, no older VRED writes its vectors, and no vector instruction is older. It samples
TWR_NUM_CTL, RV and CV (R70, R223). -/
def execMarverOpStart (slot : Fin 68) (s : State) : Host.Outcome State Fault Refusal :=
  let g := slot.val
  let t := s.tower g
  match firstIdx (fun (o : TileOp) => o.kind.onMarver && !o.started) t.ops with
  | none => .next s
  | some k => match t.ops[k]? with
    | none => .next s
    | some o => match o.claims with
      | [] => .next s
      | c :: _ =>
        let running := (t.ops.filter (fun o => o.kind.onMarver && o.started)).length
        let vec := (t.ops.take k).any (fun o => match o.kind with | .vec _ => true | _ => false)
        if 2 ≤ running || vec || !t.sourceReady c then .next s
        else match t.sourceOf (t.ops.take k) c with
        | none => .next s
        | some src => match (s.atOp g o).marverFault g o src o.dest with
          | some f => s.opFault g k s f
          | none =>
            let isEp := match o.kind with | .eprg _ _ => true | _ => false
            if waitsForVred (t.ops.take k) o (t.sourceWidth src) then .next s
            else if isEp && (t.tile o.dest).state ≠ .empty then .next s
            else
              let o' := { o with
                started := true, bank := src.bankNo, numCtl := s.reg (Reg.twrNumCtl g),
                rowRegs := if isEp then (List.range 4).map (fun n => t.vreg ((epRv o.image + n) % 32)) else [],
                colRegs := if isEp then (List.range 8).map (fun n => t.vreg ((epCv o.image + n) % 32)) else [] }
              .next (s.modTower g (fun t =>
                let t := { t with ops := t.ops.set k o' }
                if isEp then t.setTile o.dest { t.tile o.dest with state := .filling, width := t.sourceWidth src } else t))

/-! ### Completion (R195, R223, R224) -/

/-- A sum in ACC42 arithmetic: the value and how many additions overflowed (R54). -/
def accSum (vs : List Nat) : Nat × Nat :=
  vs.foldl (fun a v => let (n, o) := accAdd a.1 (accVal (v % 2 ^ 42)); (n, a.2 + ofBool o)) (0, 0)

/-- The largest (`hi`) or smallest ACC42 value of a line. -/
def accPick (hi : Bool) (vs : List Nat) : Nat :=
  match vs with
  | [] => 0
  | v :: rest => rest.foldl (fun m x =>
      if (if hi then (accNum (m % 2 ^ 42)).lt (accNum (x % 2 ^ 42)) else (accNum (x % 2 ^ 42)).lt (accNum (m % 2 ^ 42))) then x
      else m) v

/-- The result of VRED over one line of an ACC42 bank: the FP32 code, the sum's overflows, and all saturations. -/
def accLine (opr : Nat) (vs : List Nat) : Nat × Nat × Nat :=
  if vs.any (fun v => bit v 42) then (poisonCode 23, 0, 0)
  else
    let (v, n) := if opr = 0 then accSum vs else (accPick (opr = 1) vs, 0)
    let (c, sat) := accToFp 23 (v % 2 ^ 42)
    (c, n, n + ofBool sat)

/-- The result of VRED over one line of FP32 or BF16 elements as numbers: sums are rounded at each addition. -/
def fpLine (opr seed : Nat) (xs : List Num) : Nat :=
  match xs with
  | [] => 0
  | x :: rest =>
    (rest.foldl (fun a b => if opr = 0 then Num.decode 23 ((a.add b).encode 23 seed)
      else if opr = 1 then a.maxNum b else a.minNum b) x).encode 23 seed

/-- The lines of a source: rows, or columns. -/
def linesOf (col : Bool) (width : Nat) (rows : List (List Nat)) : List (List Nat) :=
  if col then (List.range width).map (fun j => rows.map (fun r => r.getD j 0)) else rows

/-- The raw entries of a source, row by row. -/
def Tower.rawRows (t : Tower) (src : MSource) : List (List Nat) :=
  match src with
  | .bank b => rowsOf256 256 (t.bank b).entries
  | .tile k => (List.range 256).map (fun i => (List.range (t.tile k).width).map ((t.tile k).elem i))

/-- The results of a VRED, and its saturations; or the fault of an overflow under ACC_SAT_TRAP (R54, R195). -/
def vredResult (g : Nat) (o : TileOp) (t : Tower) (src : MSource) (col : Bool) (opr seed : Nat) :
    Except FaultInfo (List Nat × Nat) :=
  let lines := linesOf col (t.sourceWidth src) (t.rawRows src)
  match src with
  | .bank b =>
    if opr = 3 then .ok (lines.map (fun l => (l.map (fun v => v % 2 ^ 72 % o.modulus)).foldl (· + ·) 0 % o.modulus), 0)
    else
      let outs := lines.map (accLine opr)
      match firstIdx (fun (r : Nat × Nat × Nat) => r.2.1 ≠ 0) outs, bit o.numCtl 16 with
      | some k, true => .error (accSatFault g b 0 (if col then 0xFFFF else k) (if col then k else 0xFFFF) 0)
      | _, _ => .ok (outs.map (·.1), (outs.map (·.2.2)).foldl (· + ·) 0)
  | .tile k =>
    let tag := (t.tile k).tag
    if opr = 3 then .ok (lines.map (fun l => (l.map (· % o.modulus)).foldl (· + ·) 0 % o.modulus), 0)
    else .ok (lines.zipIdx.map (fun l => fpLine opr (seed + l.2) (l.1.map (Num.decode (if tag = 9 then 7 else 23)))), 0)

/-- Write the results of a VRED to vd to vd + 3: lanes beyond them are zero. -/
def Tower.setLanes (t : Tower) (vd : Nat) (rs : List Nat) : Tower :=
  (List.range 4).foldl (fun (t : Tower) n => t.setVreg (vd + n) (packLanes 32 ((rs.drop (64 * n)).take 64))) t

/-- The pop of an FTQ entry completes: the bank leaves the queue (R143). -/
def Tower.popFtq (t : Tower) (cs : List Claim) : Tower :=
  if cs.any (fun c => c.q = 8) then
    { t with ftq := t.ftq.drop 1 }.setQueue 8 { t.queue 8 with popped := (t.queue 8).popped + 1 }
  else t

/-- The site of a failing residue check in an operation, if the operation makes that check (R219, R220). -/
def OpKind.residueSite (o : OpKind) (img : List Byte) (site : Nat) : Option Nat :=
  let has := fun (l : List Nat) => (List.range (epLen img)).any (fun n => l.contains (bits (epOp img n) 31 27))
  match o with
  | .vred _ 0 => some 2
  | .vred _ 3 => some 3
  | .eprg _ _ =>
    if site = 3 && has [9] then some 3
    else if has [1, 2, 3, 0xA, 0xB, 0xC, 0xD] then some 2
    else if has [9] then some 3 else none
  | _ => none

/-- The counts of saturated accumulators among presented rows (R57). -/
def satsOf (rows : List (List Shown)) : Nat := (rows.flatMap (fun r => r.filter (·.sat))).length

/-- An element program completes: its tile is pushed FULL and its counts are made (R60, R223, R224). -/
def State.eprgDone (s : State) (g k : Nat) (o : TileOp) (src : MSource) (qd : Nat) : State :=
  let t := s.tower g
  let wide := epWide o.image
  let xs := (List.range 256).map (t.shownRow src wide)
  let rs := xs.zipIdx.map (fun p => epRow o.image o.rowRegs o.colRegs (s.seed 0) p.2 p.1)
  let d := t.tile o.dest
  let width := t.sourceWidth src
  let push := fun (t : Tower) (v : Tile) =>
    let t := ((t.setTile o.dest v).popFtq o.claims).finishOp k o
    t.setQueue qd { t.queue qd with pushed := (t.queue qd).pushed + 1 }
  let s := s.count (Reg.twrAccSatcnt g) (satsOf xs)
  if isBlockFmt d.tag then
    let (hs, ps, q) := quantTile d.tag o.numCtl (s.reg (Reg.twrPromoLimit g)) (s.reg (Reg.twrPromoNext g)) wide rs
    let v : Tile :=
      { d with
        state := .full, width := width, rows := rowTable rowPitch ps, hdrs := rowTable 16 hs,
        annex := SMap.run (fun _ => 0) 0 q.annex.flatten, payloads := q.annex.length, slots := q.slots }
    ((s.quantCounts g o.numCtl q).modTower g (fun t => push t v)).draw
  else
    let n := elemBytes d.tag
    let bytes := rs.zipIdx.map (fun p => p.1.zipIdx.flatMap (fun e =>
      leBytes n (e.1.plain wide d.tag (s.seed (512 * p.2 + e.2)))))
    let v : Tile :=
      { d with state := .full, width := width, rows := rowTable rowPitch bytes, hdrs := [], annex := [], payloads := 0, slots := [] }
    let lost := if d.tag = 8 then (rs.flatMap (fun r => r.filter (·.mark))).length else 0
    ((s.count (Reg.twrPoisonCnt g) lost).modTower g (fun t => push t v)).draw

/-- The oldest started Marver operation completes (R195, R224), or is aborted by a failing check (R219), an uncorrectable
accumulator entry (R209) or an overflow under ACC_SAT_TRAP (R54). -/
def execMarverOpComplete (slot : Fin 68) (bad : Option CheckFail) (s : State) : Host.Outcome State Fault Refusal :=
  let g := slot.val
  let t := s.tower g
  match firstIdx (fun (o : TileOp) => o.kind.onMarver) t.ops with
  | none => .next s
  | some k => match t.ops[k]? with
    | none => .next s
    | some o => match o.started, o.claims with
      | true, c :: _ => match t.sourceOf (t.ops.take k) c with
        | none => .next s
        | some src =>
          if !t.inTurn k then .next s
          else match bad.bind (fun b => (o.kind.residueSite o.image b.site.toNat).map (fun n => (b, n))) with
          | some (b, site) => s.opFault g k (s.countCheck g none) (residueFault g src.bankNo site b)
          | none =>
            let ues := match src with | .bank b => (t.bank b).bad | .tile _ => []
            match ues with
            | e :: _ => s.opFault g k s (accUeFault g src.bankNo e)
            | [] => match o.kind with
              | .vred col opr =>
                match vredResult g o t src col opr (s.seed 0) with
                | .error f => s.opFault g k s f
                | .ok (rs, sats) =>
                  .next ((s.count (Reg.twrAccSatcnt g) sats).modTower g (fun t =>
                    ((t.setLanes o.vd rs).popFtq o.claims).finishOp k o)).draw
              | .eprg _ qd => .next (s.eprgDone g k o src qd)
              | _ => .next s
      | _, _ => .next s

end Sys2Proof.Machine
end

