-- ==== Sys2Proof/Machine/EpBuild.lean ====
section
/-!
DEFINITION. Builds of element-program images (R225 to R227).
-/
namespace Sys2Proof.Machine

/-! ### The image check (R225) -/

/-- How many source fields a micro-operation uses, from SA on (R222); none for a reserved OPC. -/
def epSources (opc : Nat) : Option Nat :=
  match opc with
  | 0x01 | 0x02 | 0x04 | 0x05 => some 2
  | 0x03 | 0x06 | 0x07 => some 3
  | 0x08 | 0x09 | 0x0A | 0x0B | 0x0C | 0x0D | 0x0E => some 1
  | _ => none

/-- The IMM values that a micro-operation accepts (R222). -/
def epImmOk (opc imm : Nat) : Bool :=
  match opc with
  | 0x01 => imm < 2
  | 0x08 => imm < 3
  | 0x09 => imm < 8
  | _ => imm = 0

/-- Source codes that are not reserved (R221). -/
def epCodeOk (c : Nat) : Bool := c ≤ 0x0C || (0x10 ≤ c && c ≤ 0x17)

/-- Whether micro-operation `n` of an image passes (R225). -/
def epOpOk (img : List Byte) (n : Nat) : Bool :=
  let u := epOp img n
  let opc := bits u 31 27
  let imm := bits u 7 0
  let int := bit u 8
  let srcs := [bits u 23 19, bits u 18 14, bits u 13 9]
  match epSources opc with
  | none => false
  | some k =>
    (srcs.take k).all epCodeOk && (srcs.drop k).all (· = 0) && epImmOk opc imm &&
      !(int && 0xA ≤ opc && opc ≤ 0xD) && !(!int && (opc = 9 || opc = 0xE)) &&
      !(epIn img = 1 && opc ≠ 9 && (srcs.take k).contains 8) && !(opc = 9 && epK img imm < 2)

/-- Whether an image passes the check of a build (R225). Of its micro-operations those up to LEN are looked at (DESIGN CHOICE,
log 98). -/
def epImageOk (img : List Byte) : Bool :=
  let h := epHeader img
  bits h 63 48 = 0 && bits h 31 26 = 0 && bits h 15 11 = 0 && epIn img ≠ 3 && epRv img % 4 = 0 && epCv img % 4 = 0 &&
    ((img.drop 168).take 88).all (· = 0) && (List.range (epLen img)).all (epOpOk img)

/-! ### Starting and ending a build -/

/-- TWR_EP_STATUS after a build of slot `n` has ended, or been refused (R225, R226). -/
def State.epStatus (s : State) (g n reason : Nat) (ended : Bool) : State :=
  let a := Reg.twrEpStatus g
  s.setReg a (bits (s.reg a) 31 30 <<< 30 ||| (ofBool ended <<< 31 ||| ofBool (reason ≠ 0) <<< 30 ||| n <<< 24 |||
    reason <<< 16))

/-- Start a build of slot `n`, unless the slot has one or a complete next image (R226): whether it has started
(DEDUCED, log 70). -/
def State.epBegin (s : State) (g n : Nat) (b : EpBuild) : State × Bool :=
  let e := (s.tower g).ep n
  if e.build.isSome || e.next.isSome then (s.epStatus g n 1 false, false)
  else (s.modTower g (fun t => t.setEp n { e with build := some b, promoted := false }), true)

/-- A write to TWR_EP_BUILD (R225): MODE, GENSLOT, SLOT. -/
def State.epBuildWrite (s : State) (g v : Nat) : State :=
  let b : EpBuild := if bit v 11 then .generate (bits v 7 4) else .copy (bits (s.reg (Reg.twrEpBuildSrc g)) 24 8 * 256)
  (s.epBegin g (v % 16) b).1

/-- Entry e of a generated table (R225): the FP32 result of slot `n`'s current program with X = e, I = 0, J = e; program and
v registers are those at the end of the build (DESIGN CHOICE, log 98). Of a slot without a program the entries are free
(DESIGN CHOICE, log 32). -/
def Tower.genEntry (t : Tower) (n seed e : Nat) : Nat :=
  let p := t.ep n
  if !p.valid then (Config.unstated 0x225 (seed + e)).toNat % 2 ^ 32
  else
    let wide := epWide p.image
    let x := if epIn p.image = 0 then (Num.ofInt e).encode (if wide then 7 else 23) 0 else e
    let low := fun (v : Nat) => if wide then v % 2 ^ 16 else v
    let r := epRun p.image
      { wide := wide, x := x, rv := low (lane 32 (t.vreg (epRv p.image)) 0),
        cv := low (lane 32 (t.vreg ((epCv p.image + e / 64) % 32)) (e % 64)), i := 0, j := e, seed := seed + e }
    { v := r.1, int := r.2, mark := false : ElemOut }.plain wide 0xA (seed + e)

/-- The image of a build, or its error reason 3 (READ_FAULT), with the reports of reading it: corrected codewords are counted
(R110), a bank that is not On and uncorrectable codewords go to the Spire controller (R111, R114). -/
def State.epImage (s : State) (g n : Nat) (b : EpBuild) : State × Except Nat (List Byte) :=
  match b with
  | .copy o =>
    if towerSize < o + 1280 then (s, .error 3)
    else match s.offFault g o 1280 0xFFFF with
    | some f => (s.faultToSpire (slotSpire g) f, .error 3)
    | none =>
      let us := s.tmUes g o 1280
      (us.foldl (fun (t : State) u => t.faultToSpire (slotSpire g) (towerUeFault g u (srcTower g 0))) (s.noteRead g o 1280),
        if us.isEmpty then .ok (s.tmRead g o 1280) else .error 3)
  | .generate m =>
    let t := s.tower g
    (s, .ok (((t.ep n).image ++ List.replicate 256 0).take 256 ++
      (List.range 256).flatMap (fun e => leBytes 4 (t.genEntry m (s.seed 0) e))))
  | .load _ img => (s, .ok img)

/-- Whether an operation in flight reads the image that a build of slot `n` would overwrite (R226). -/
def Tower.epReads (t : Tower) (n : Nat) : Bool :=
  t.ops.any (fun o => (match o.kind with | .eprg m _ => m = n | _ => false) && o.gen ≠ (t.ep n).gen)

/-- A build of slot `n` ends (R225, R226): the reason of its outcome, and the build; none when there is no build, or an
operation reads the image, or the loader port waits for a bank or a SCRUB (R105, R113, R116). -/
def State.epEnd (s : State) (g n : Nat) : State × Option (EpBuild × Nat) :=
  let t := s.tower g
  match (t.ep n).build with
  | none => (s, none)
  | some b =>
    if t.epReads n || (match b with | .copy o => s.anyRising g o 1280 || t.scrub.isSome | _ => false) then (s, none)
    else
      let (s, out) := s.epImage g n b
      let (img, reason) := match out with
        | .error r => (none, r)
        | .ok i => if epImageOk i then (some i, 0) else (none, 2)
      let s := s.modTower g (fun t => t.setEp n { t.ep n with build := none, promoted := false, next := img })
      ((s.epStatus g n reason true).draw, some (b, reason))

/-- Every slot of a Tower whose next image is complete flips (R227). -/
def Tower.flipAll (t : Tower) : Tower :=
  (List.range 16).foldl (fun (t : Tower) n => if (t.ep n).next.isSome then t.setEp n (t.ep n).flip else t) t

end Sys2Proof.Machine
end

