-- ==== Sys2Proof/Machine/TowerView.lean ====
section
/-!
DEFINITION. The registers of a Tower slot that report its state (R127, R163, R203, R228, R229, R251).
-/
namespace Sys2Proof.Machine

/-- The code of a run state (R163). -/
def runCode : RunState → Nat
  | .halted => 0 | .running => 1 | .waiting => 2 | .held => 3 | .stopped => 4

/-- TWR_SEX_STATUS (R163). -/
def Tower.sexStatus (t : Tower) : Nat :=
  runCode t.a.run + ofBool t.a.inHandler * 8 + runCode t.x.run * 16 + ofBool t.x.inHandler * 128

/-- The slot state of tile `k` (R163): 3 is FULL and claimed. -/
def Tower.tileCode (t : Tower) (k : Nat) : Nat :=
  match (t.tile k).state with
  | .empty => 0 | .filling => 1 | .full => if t.tileClaimed k then 3 else 2

/-- TWR_Q_COUNT (R163). SQ0 and SQ1 count vector entries. -/
def Tower.qCount (t : Tower) : Nat :=
  t.cqa.length + t.cqx.length <<< 8 + (t.vecs 4).length <<< 16 + (t.vecs 5).length <<< 20 +
    (t.vecs 6).length <<< 24 + (t.vecs 7).length <<< 28 + t.ftq.length <<< 32

/-- Outstanding checkpoints (R146, R149). -/
def Tower.outstanding (t : Tower) : Nat := (t.cps.filter (fun c => !c.restored)).length

/-- TWR_CKPT (R163). -/
def Tower.ckpt (t : Tower) : Nat :=
  t.outstanding + (t.x.step % 256) <<< 8 + (t.a.step % 256) <<< 16

/-- TWR_IM_STATE (R163). -/
def Tower.imState (t : Tower) : Nat :=
  ofBool t.active + ofBool t.validA * 2 + ofBool t.validB * 4 + ofBool (!t.imLoad.isEmpty) * 8 +
    ofBool t.swapPend.isSome * 16 + ofBool (t.swapPend = some true) * 32 + ofBool t.a.swap.isSome * 64 +
    ofBool t.x.swap.isSome * 128

/-- TWR_ARR_BANKS (R228). -/
def Tower.arrBanks (t : Tower) : Nat :=
  packFields 1 4 (fun b => ofBool (t.bank b).word) + packFields 1 4 (fun b => ofBool (t.bankOnFtq b)) <<< 4 +
    packFields 1 4 (fun b => ofBool (t.ops.any (fun o => o.bank = b && (match o.kind with
      | .mma _ => true | .mmw => true | _ => false)))) <<< 8

/-- TWR_EPn_GEN (R228). -/
def epGen (e : EpSlot) : Nat :=
  e.gen % 256 + ofBool e.valid * 256 + (if e.next.isSome then 3 else if e.build.isSome then (if e.promoted then 2 else 1) else 0) <<< 16

/-- TWR_SEQk_STATUS (R251). -/
def seqStatus (q : LoaderSeq) : Nat := q.left + ofBool q.fallback <<< 30 + ofBool (q.left ≠ 0) <<< 31

/-- TWR_BANK_READY (R113): banks that are On and not in transition. -/
def State.bankReady (s : State) (g : Nat) : Nat :=
  packFields 1 64 (fun n => ofBool (bit (s.reg (Reg.twrBankOn g)) n && !(s.tower g).rising.contains n))

/-- What a register of a Tower slot block reads as: the reporting registers from the Tower's state, the others their
active value. -/
def State.readTower (s : State) (g off : Nat) : Nat :=
  let t := s.tower g
  if off = 0x6008 then t.sexStatus
  else if off = 0x6020 then t.a.epc.toNat
  else if off = 0x6028 then t.x.epc.toNat
  else if off = 0x6040 then packFields 4 16 (fun i => (t.tile i).q)
  else if off = 0x6048 then packFields 4 16 (fun i => (t.tile i).tag)
  else if off = 0x6050 then packFields 2 16 t.tileCode
  else if off = 0x6058 then t.qCount
  else if off = 0x6060 then t.ckpt
  else if off = 0x6068 then t.imState
  else if off = 0x7008 then t.a.icount.toNat
  else if off = 0x7010 then t.x.icount.toNat
  else if off = 0x4818 then t.arrBanks
  else if inSpan off 0x4880 0x80 then epGen (t.ep ((off - 0x4880) / 8))
  else if inSpan off 0x4A00 0x100 && (off - 0x4A00) % 0x40 = 0x20 then seqStatus (t.seq ((off - 0x4A00) / 0x40))
  else if off = 0x5020 then s.bankReady g
  else if off = 0x5030 then min 0xFFFF_FFFF (s.reg (Reg.twrBase g + off) + (Config.measured s.free).toNat)
  else if off = 0x5040 then t.packets.length
  else s.reg (Reg.twrBase g + off)

end Sys2Proof.Machine
end

