-- ==== Sys2Proof/Machine/Csr.lean ====
section
/-!
DEFINITION. CSRs, token queues, fences, bank swaps and semaphore instructions of the two streams (R144 to R147, R153, R155,
R160 to R164, R172, R173, R178 to R181), and the events that end their waits.
-/
namespace Sys2Proof.Machine

/-! ### Token queues and CSRs -/

/-- Tokens on the queue that stream `st` pushes: CQA from A, CQX from X. -/
def Tower.outTokens (t : Tower) : Stream → List Word
  | .a => t.cqa
  | .x => t.cqx

/-- Push a token from stream `st` (R144). -/
def Tower.pushToken (t : Tower) (st : Stream) (v : Word) : Tower :=
  match st with
  | .a => { t with cqa := t.cqa ++ [v] }.setQueue 9 { t.queue 9 with pushed := (t.queue 9).pushed + 1 }
  | .x => { t with cqx := t.cqx ++ [v] }.setQueue 10 { t.queue 10 with pushed := (t.queue 10).pushed + 1 }

/-- The oldest token for stream `st`, and the Tower without it. -/
def Tower.popToken (t : Tower) (st : Stream) : Option (Word × Tower) :=
  match st with
  | .a => match t.cqx with
    | [] => none
    | v :: vs => some (v, { t with cqx := vs }.setQueue 10 { t.queue 10 with popped := (t.queue 10).popped + 1 })
  | .x => match t.cqa with
    | [] => none
    | v :: vs => some (v, { t with cqa := vs }.setQueue 9 { t.queue 9 with popped := (t.queue 9).popped + 1 })

/-- A write to TWR_TQ_PUSH: on a full queue of 32 it waits. -/
def tqPushBody (c : Issue) (ss : BitVec 5) (s : State) : Res :=
  if 32 ≤ ((s.tower c.slot.val).outTokens c.stream).length then .wait s true
  else .done (s.modTower c.slot.val (fun t => t.pushToken c.stream (s.sreg c ss)))

/-- A read of TWR_TQ_POP: on an empty queue it waits. -/
def tqPopBody (c : Issue) (sd : BitVec 5) (s : State) : Res :=
  match (s.tower c.slot.val).popToken c.stream with
  | none => .wait s true
  | some (v, t) => .done ((s.setTower c.slot.val t).setSreg c sd v)

/-- A write to TWR_EXC_RET (R153). -/
def excRetBody (c : Issue) (ss : BitVec 5) (s : State) : Res :=
  let a := (s.sreg c ss).toNat % 0x1_0000
  if a % 4 ≠ 0 then .fault (s.streamFault c.slot.val c.stream F_ALIGN 0x02) false
  else .stay ((s.modStream c.slot.val c.stream (fun r => r.advance r.pc)).excReturn c.slot.val c.stream (BitVec.ofNat 17 a))

/-- The offset in the Tower slot block that a CSR number names, if a register stands there (R172). -/
def csrOffset (g csr : Nat) : Option Nat :=
  if csr < 0x800 then none
  else if (findReg (Reg.twrBase g + 8 * csr)).isSome then some (8 * csr) else none

/-- What a CSRR of a register that can be read without effect returns (R172); none for a number with no register. -/
def State.csrValue (s : State) (c : Issue) (csr : Nat) : Option Word :=
  let g := c.slot.val
  if csr = 0 || csr = 2 then some 0
  else if csr = 3 then
    some (BitVec.ofNat 64 (ofBool (c.stream = .x) * 256 + 16 * slotSpire g + (s.logicalOf g).getD 0))
  else if csr = 4 then some (Config.clk64 s.free)
  else if csr = 5 then some (BitVec.ofNat 64 s.bellNum)
  else (csrOffset g csr).map (fun o => BitVec.ofNat 64 (s.readTower g o))

/-- CSRR (R172). Only CSRR from TWR_TQ_POP waits under R148 and R151. -/
def execCsrr (c : Issue) (sd : BitVec 5) (csr : BitVec 12) (s : State) : Host.Outcome State Fault Refusal :=
  issue c (.csrr c sd csr) true true false (if csr = 1 then .both else .none) noCheck (fun s =>
    if csr = 1 then tqPopBody c sd s
    else match s.csrValue c csr.toNat with
      | none => .fault (s.illegal c 0x09) false
      | some v => .done ((s.setSreg c sd v).draw)) s

/-- TQ_POP: a CSRR from TWR_TQ_POP. -/
def execTqPop (c : Issue) (sd : BitVec 5) (s : State) : Host.Outcome State Fault Refusal :=
  issue c (.tqPop c sd) true true false .both noCheck (tqPopBody c sd) s

/-- What a Tower program's write to a register of its slot does (R122, R173): MODE and the debug registers take nothing,
COMMIT commits (R5), TWR_EP_BUILD starts a build (R225), SEQk_CTL arms or abandons (R240); the fault of an ARM. -/
def State.csrWrite (s : State) (g off v : Nat) : State × Option FaultInfo :=
  let a := Reg.twrBase g + off
  if off = 0x5000 || inSpan off 0x7000 0x30 then (s, none)
  else if off = 0x5008 then (if bit v 0 then s.commitBlock (.twr (Fin.ofNat 68 g)) else s, none)
  else if off = 0x4828 then (s.epBuildWrite g v, none)
  else if inSpan off 0x4A00 0x100 && (off - 0x4A00) % 0x40 = 0x18 then
    let k := (off - 0x4A00) / 0x40
    if bit v 0 then s.armSeq g k else (if bit v 1 then s.abandonSeq g k else s, none)
  else (s.writeFields a (BitVec.ofNat 64 v) false, none)

/-- A quantising operation may be in flight (R58, R70): an element program whose result tile has a block format. -/
def Tower.quantising (t : Tower) : Bool :=
  t.ops.any (fun o => match o.kind with | .eprg _ _ => isBlockFmt (t.tile o.dest).tag | _ => false)

/-- The body of CSRW (R172, R173). -/
def csrwBody (c : Issue) (csr : Nat) (ss : BitVec 5) (s : State) : Res :=
  let g := c.slot.val
  if csr = 0 then tqPushBody c ss s
  else if csr = 2 then excRetBody c ss s
  else if csr ≤ 5 then .done s
  else match csrOffset g csr with
    | none => .fault (s.illegal c 0x09) false
    | some off =>
      if (off = 0x4020 || off = 0x4028) && (s.tower g).quantising then .wait s false
      else match s.csrWrite g off (s.sreg c ss).toNat with
        | (s', none) => .done s'
        | (s', some f) => .faultAt s' f

/-- CSRW (R173). -/
def execCsrw (c : Issue) (csr : BitVec 12) (ss : BitVec 5) (s : State) : Host.Outcome State Fault Refusal :=
  issue c (.csrw c csr ss) true true false .both noCheck (csrwBody c csr.toNat ss) s

/-- TQ_PUSH: a CSRW to TWR_TQ_PUSH. -/
def execTqPush (c : Issue) (ss : BitVec 5) (s : State) : Host.Outcome State Fault Refusal :=
  issue c (.tqPush c ss) true true false .both noCheck (tqPushBody c ss) s

/-- EXC_RET: a CSRW to TWR_EXC_RET. -/
def execExcRet (c : Issue) (ss : BitVec 5) (s : State) : Host.Outcome State Fault Refusal :=
  issue c (.excRet c ss) true true false .both noCheck (excRetBody c ss) s

/-! ### Fences (R146, R147, R155, R178) -/

/-- Deliver the fault that a posted operation has left, or go on (R155). -/
def deliverPosted (c : Issue) (s : State) (k : State → Res) : Res :=
  match ((s.tower c.slot.val).stream c.stream).postedFault with
  | some f => .stay ((s.modStream c.slot.val c.stream (fun r => { r with postedFault := none })).takeFault c.slot.val
      c.stream f true)
  | none => k s

/-- Whether every earlier instruction of the stream has completed (R178). -/
def Tower.settled (t : Tower) (st : Stream) : Bool := !t.older st && (t.stream st).posted.isEmpty

/-- FENCE. -/
def execFence (c : Issue) (s : State) : Host.Outcome State Fault Refusal :=
  issue c (.fence c) true true false { a := false, x := true } noCheck (fun s =>
    if (s.tower c.slot.val).settled c.stream then deliverPosted c s .done else .wait s false) s

/-- Pushes of each A → X queue that stand before a marker placed now: completed, and loads in flight (R146). -/
def Tower.markCounts (t : Tower) : List Nat :=
  axQueues.map (fun q => (t.queue q).pushed + (t.loads.filter (fun l => l.q = q)).length)

/-- A records a checkpoint and places the markers (R146). -/
def Tower.checkpoint (t : Tower) (pc : BitVec 17) : Tower :=
  let cp : Checkpoint :=
    { snap := { pc := pc, regs := t.a.regs, icount := t.a.icount + 1 }, seqs := t.seqs, marks := t.markCounts,
      restored := false }
  { t with cps := t.cps ++ [cp], a := { t.a with step := t.a.step + 1 } }

/-- FENCE.CP in A. -/
def fenceCpA (c : Issue) (s : State) : Res :=
  let t := s.tower c.slot.val
  if !t.a.posted.isEmpty || 4 ≤ t.outstanding || (t.a.postedFault.isSome && t.older .a) then .wait s false
  else deliverPosted c s (fun s => .done (s.modTower c.slot.val (fun t => t.checkpoint (nextPc c t.a.pc))))

/-- How far X has taken the entries of an A → X queue: the claim point of a tile queue, the pops of another. -/
def Tower.taken (t : Tower) (q : Nat) : Nat := if q < 4 then (t.queue q).claimed else (t.queue q).popped

/-- An entry before a marker is FULL and nothing has claimed it (R147): the entry at the claim point, or the one after it
when a peek has claimed that. -/
def Tower.unbalanced (t : Tower) (cp : Checkpoint) : Bool :=
  (axQueues.zip cp.marks).any (fun p =>
    let n := t.taken p.1 + ofBool (p.1 < 4 && (t.queue p.1).peeked)
    n < p.2 && n < (t.queue p.1).pushed)

/-- Every entry before the markers has been taken (R147). -/
def Tower.balanced (t : Tower) (cp : Checkpoint) : Bool := (axQueues.zip cp.marks).all (fun p => p.2 ≤ t.taken p.1)

/-- FENCE.CP in X (R147): R145's limit covers its whole wait. -/
def fenceCpX (c : Issue) (s : State) : Res :=
  let t := s.tower c.slot.val
  if !t.settled .x then .wait s true
  else deliverPosted c s (fun s => match t.cps with
    | [] => .wait s true
    | cp :: rest =>
      if t.balanced cp then
        .done (s.modTower c.slot.val (fun t => { t with cps := rest, x := { t.x with step := t.x.step + 1 } }))
      else if t.unbalanced cp then .fault (s.illegal c 0x06) false
      else .wait s true)

/-- FENCE.CP. -/
def execFenceCp (c : Issue) (s : State) : Host.Outcome State Fault Refusal :=
  issue c (.fenceCp c) true true false .none noCheck (match c.stream with | .a => fenceCpA c | .x => fenceCpX c) s

/-- A swap is committed once both streams wait at IMSWAP, or one waits and the other has halted (R160 to R162). -/
def Tower.commitSwap (t : Tower) : Tower :=
  let at_ := fun (r : StreamState) => r.swap.isSome || r.run = .halted
  if at_ t.a && at_ t.x && (t.a.swap.isSome || t.x.swap.isSome) then
    { t with swapPend := some (match t.a.swap, t.x.swap with
      | some (_, b), some (_, b') => b || b'
      | some (_, b), none => b
      | none, some (_, b) => b
      | none, none => false) }
  else t

/-- HALT (R178): the task ends when both streams have halted (R324). -/
def execHalt (c : Issue) (s : State) : Host.Outcome State Fault Refusal :=
  issue c (.halt c) true true false .both noCheck (fun s =>
    let g := c.slot.val
    if (s.tower g).settled c.stream then
      deliverPosted c s (fun s =>
        let s := (s.modStream g c.stream (fun r =>
          { r.advance (nextPc c r.pc) with run := .halted })).modTower g Tower.commitSwap
        let t := s.tower g
        .stay (if t.a.run = .halted && t.x.run = .halted && t.task.isSome then s.taskEnded g none else s))
    else .wait s false) s

/-! ### Bank swaps (R161, R162) -/

/-- IMSWAP and IMSWAP.B. -/
def swapBody (c : Issue) (entry : BitVec 14) (b : Bool) (s : State) : Res :=
  .wait (s.modTower c.slot.val (fun t =>
    (t.setStream c.stream { t.stream c.stream with swap := some (entry.setWidth 16 <<< 2, b) }).commitSwap)) true

/-- IMSWAP (DEDUCED, log 69). -/
def execImswap (c : Issue) (entry : BitVec 14) (s : State) : Host.Outcome State Fault Refusal :=
  issue c (.imswap c entry) true true false .both noCheck (swapBody c entry false) s

/-- IMSWAP.B. -/
def execImswapB (c : Issue) (entry : BitVec 14) (s : State) : Host.Outcome State Fault Refusal :=
  issue c (.imswapB c entry) true true false .both noCheck (swapBody c entry true) s

/-- VALID of the idle bank. -/
def Tower.idleValid (t : Tower) : Bool := if t.active then t.validA else t.validB

/-- A stream goes on at its entry address after the swap. -/
def StreamState.swapped (r : StreamState) : StreamState :=
  match r.swap with
  | some (e, _) => { r.advance (e.setWidth 17) with run := .running, swap := none }
  | none => r

/-- F_ILLEGAL with reason IM_INVALID in a stream that waits at IMSWAP. -/
def State.swapFault (s : State) (g : Nat) (st : Stream) : State :=
  if ((s.tower g).stream st).swap.isSome then s.takeFault g st (s.streamFault g st F_ILLEGAL 0x04) else s

/-- The committed swap takes place, unless the idle bank is being loaded (R161): the active bank flips, or with no valid
idle bank each waiting IMSWAP faults. -/
def State.swapNow (s : State) (g : Nat) : State :=
  let t := s.tower g
  if t.swapPend.isNone || !t.imLoad.isEmpty then s
  else if t.idleValid then
    s.setTower g { t with active := !t.active, swapPend := none, a := t.a.swapped, x := t.x.swapped }
  else ((s.modTower g (fun t => { t with swapPend := none })).swapFault g .a).swapFault g .x

/-- The swap of a rendezvous without .B (R161). -/
def execImswapSwap (slot : Fin 68) (s : State) : Host.Outcome State Fault Refusal :=
  .next (if (s.tower slot.val).swapPend = some false then s.swapNow slot.val else s)

/-! ### Semaphores (R179 to R181) -/

/-- SEMP. -/
def execSemp (c : Issue) (sa sb : BitVec 5) (s : State) : Host.Outcome State Fault Refusal :=
  issue c (.semp c sa sb) true true false .both noCheck (fun s =>
    let g := c.slot.val
    let a := (s.sreg c sa).toNat
    let k := (s.sreg c sb).toNat % 0x1_0000
    let sp := bits a 13 12
    let n := bits a 11 0
    if k = 0 then .done s
    else if sp = slotSpire g then
      match s.postSem sp n k (srcTower g (streamUnit c.stream)) false with
      | (s, none) => .done s
      | (s, some f) => .stay (s.takeFault g c.stream { f with source := srcTower g (streamUnit c.stream) })
    else .done (s.modStream g c.stream (fun r => { r with posted := r.posted ++ [.semp sp n k] }))) s

/-- SEMW: its own rule bounds the wait (R180, R334). -/
def execSemw (c : Issue) (sa sb : BitVec 5) (s : State) : Host.Outcome State Fault Refusal :=
  issue c (.semw c sa sb) true true false .both noCheck (fun s =>
    let g := c.slot.val
    let a := (s.sreg c sa).toNat
    let b := (s.sreg c sb).toNat
    let k := b % 0x1_0000
    if bits a 13 12 ≠ slotSpire g then .fault (s.illegal c 0x0A) false
    else if k = 0 then .done s
    else match s.waitSem (slotSpire g) (bits a 11 0) k (bits b 23 16) (srcTower g (streamUnit c.stream))
        (.stream c.slot c.stream) with
      | (s, true) => .done s
      | (s, false) => .wait s false) s

/-- BELLW waits for the next bell (R181). -/
def execBellw (c : Issue) (sd : BitVec 5) (s : State) : Host.Outcome State Fault Refusal :=
  issue c (.bellw c sd) true true false .both noCheck (fun s => .wait s false) s

/-- The instruction at which a stream waits completes. -/
def State.endWait (s : State) (g : Nat) (st : Stream) (c : Issue) : State :=
  s.modStream g st (fun r => { r.advance (nextPc c r.pc) with run := .running })

/-- The issue fields of an instruction that can wait on a semaphore or a bell. -/
def waitIssue : Instr → Option Issue
  | .semw c _ _ => some c
  | .bellw c _ => some c
  | _ => none

/-- The semaphore that a stream waited on has served it (R331). -/
def State.semServed (s : State) (g : Nat) (st : Stream) : State :=
  match ((s.tower g).stream st).wait.bind (fun w => waitIssue w.instr) with
  | some c => s.endWait g st c
  | none => s

/-- Whether a stream is in a semaphore's FIFO. -/
def State.inFifo (s : State) (g : Nat) (st : Stream) : Bool :=
  s.sems.any (fun e => e.2.waiters.any (fun w => w.who = .stream (Fin.ofNat 68 g) st))

/-- A stream that waits at BELLW sees the bell, whose number it takes (R181), unless R148 or R151 still holds it. -/
def State.bellwEnd (s : State) (g : Nat) (st : Stream) : State :=
  let t := s.tower g
  match (t.stream st).run, (t.stream st).wait with
  | .waiting, some w => match w.instr with
    | .bellw c sd =>
      if w.fault.isSome || (match st with | .a => t.aGated | .x => !t.ops.isEmpty) then s
      else (s.setSreg c sd (BitVec.ofNat 64 s.bellNum)).endWait g st c
    | _ => s
  | _, _ => s

end Sys2Proof.Machine
end

