-- ==== Sys2Proof/Machine/Scalar.lean ====
section
/-!
DEFINITION. The scalar instructions (R176, R177): arithmetic, loads and stores of the scalar data memory, branches,
jumps and TRAP.
-/
namespace Sys2Proof.Machine

/-- A three-register scalar instruction. -/
def execAlu (c : Issue) (i : Instr) (sd sa sb : BitVec 5) (f : Word → Word → Word) (s : State) :
    Host.Outcome State Fault Refusal :=
  issue c i true true false .none noCheck
    (fun s => .done (s.setSreg c sd (f (s.sreg c sa) (s.sreg c sb)))) s

/-- ADD (R176). -/
def execAdd (c : Issue) (sd sa sb : BitVec 5) (s : State) : Host.Outcome State Fault Refusal :=
  execAlu c (.add c sd sa sb) sd sa sb (fun a b => a + b) s

/-- SUB (R176). -/
def execSub (c : Issue) (sd sa sb : BitVec 5) (s : State) : Host.Outcome State Fault Refusal :=
  execAlu c (.sub c sd sa sb) sd sa sb (fun a b => a - b) s

/-- AND (R176). -/
def execAnd (c : Issue) (sd sa sb : BitVec 5) (s : State) : Host.Outcome State Fault Refusal :=
  execAlu c (.and_ c sd sa sb) sd sa sb (fun a b => a &&& b) s

/-- OR (R176). -/
def execOr (c : Issue) (sd sa sb : BitVec 5) (s : State) : Host.Outcome State Fault Refusal :=
  execAlu c (.or_ c sd sa sb) sd sa sb (fun a b => a ||| b) s

/-- XOR (R176). -/
def execXor (c : Issue) (sd sa sb : BitVec 5) (s : State) : Host.Outcome State Fault Refusal :=
  execAlu c (.xor_ c sd sa sb) sd sa sb (fun a b => a ^^^ b) s

/-- SLL: left shift by sb[5:0] (R176). -/
def execSll (c : Issue) (sd sa sb : BitVec 5) (s : State) : Host.Outcome State Fault Refusal :=
  execAlu c (.sll c sd sa sb) sd sa sb (fun a b => a <<< (b.toNat % 64)) s

/-- SRL: logical right shift by sb[5:0] (R176). -/
def execSrl (c : Issue) (sd sa sb : BitVec 5) (s : State) : Host.Outcome State Fault Refusal :=
  execAlu c (.srl c sd sa sb) sd sa sb (fun a b => a >>> (b.toNat % 64)) s

/-- SRA: arithmetic right shift by sb[5:0] (R176). -/
def execSra (c : Issue) (sd sa sb : BitVec 5) (s : State) : Host.Outcome State Fault Refusal :=
  execAlu c (.sra c sd sa sb) sd sa sb (fun a b => a.sshiftRight (b.toNat % 64)) s

/-- MUL: the low 64 bits of the product (R176). -/
def execMul (c : Issue) (sd sa sb : BitVec 5) (s : State) : Host.Outcome State Fault Refusal :=
  execAlu c (.mul c sd sa sb) sd sa sb (fun a b => a * b) s

/-- The high 64 bits of the signed 128-bit product (R176). -/
def mulHigh (a b : Word) : Word := BitVec.ofInt 64 ((a.toInt * b.toInt) / (2 ^ 64 : Nat))

/-- MULH (R176). -/
def execMulh (c : Issue) (sd sa sb : BitVec 5) (s : State) : Host.Outcome State Fault Refusal :=
  execAlu c (.mulh c sd sa sb) sd sa sb mulHigh s

/-- LI's value: the sign-extended 20-bit immediate, or in the long form the 32-bit immediate whose bits [29:20] are X and
[31:30] are Y[1:0] (R177). -/
def liValue (c : Issue) (imm : BitVec 20) : Word :=
  match c.long with
  | none => imm.signExtend 64
  | some l => (l.y.extractLsb 1 0 ++ l.x ++ imm : BitVec 32).signExtend 64

/-- LI (R176, R177): in the long form Y[6:2] must be zero. -/
def execLi (c : Issue) (sd : BitVec 5) (imm : BitVec 20) (s : State) : Host.Outcome State Fault Refusal :=
  issue c (.li c sd imm) true true true .none
    (fun s => match c.long with
      | some l => if l.y.toNat < 4 then none else some (s.illegal c 0x01)
      | none => none)
    (fun s => .done (s.setSreg c sd (liValue c imm))) s

/-- The address of LD and ST: sa + sign_extend(IMM12) modulo 2^64 (R177). -/
def sdmAddr (a : Word) (imm : BitVec 12) : Nat := (a + imm.signExtend 64).toNat

/-- The check of an access of `n` bytes to the scalar data memory (R130): the range before the alignment. -/
def State.sdmFault (s : State) (c : Issue) (a n : Nat) : Option FaultInfo :=
  if 0x4_0000 < a + n then some (s.illegal c 0x03)
  else if a % n ≠ 0 then some (s.streamFault c.slot.val c.stream F_ALIGN 0x01)
  else none

/-- Bytes of the scalar data memory of a slot. -/
def State.sdmRead (s : State) (g a n : Nat) : Nat :=
  leNat ((List.range n).map (fun k => SMap.get (fun _ => 0) (s.tower g).sdm (a + k)))

/-- Write bytes of the scalar data memory of a slot. -/
def State.sdmWrite (s : State) (g a n v : Nat) : State :=
  s.modTower g (fun t => { t with sdm := SMap.setRun (fun _ => 0) t.sdm a (leBytes n v) })

/-- A load of `n` bytes, sign- or zero-extended (R177). -/
def execLoad (c : Issue) (i : Instr) (sd : BitVec 5) (imm : BitVec 12) (sa : BitVec 5) (n : Nat) (sext : Bool)
    (s : State) : Host.Outcome State Fault Refusal :=
  issue c i true true false .none noCheck (fun s =>
    let a := sdmAddr (s.sreg c sa) imm
    match s.sdmFault c a n with
    | some f => .fault f false
    | none =>
      let v := s.sdmRead c.slot.val a n
      .done (s.setSreg c sd (if sext then BitVec.ofInt 64 (toSigned (8 * n) v) else BitVec.ofNat 64 v))) s

/-- LD.B (R177). -/
def execLdB (c : Issue) (sd : BitVec 5) (imm : BitVec 12) (sa : BitVec 5) (s : State) :
    Host.Outcome State Fault Refusal := execLoad c (.ldB c sd imm sa) sd imm sa 1 true s
/-- LD.H (R177). -/
def execLdH (c : Issue) (sd : BitVec 5) (imm : BitVec 12) (sa : BitVec 5) (s : State) :
    Host.Outcome State Fault Refusal := execLoad c (.ldH c sd imm sa) sd imm sa 2 true s
/-- LD.W (R177). -/
def execLdW (c : Issue) (sd : BitVec 5) (imm : BitVec 12) (sa : BitVec 5) (s : State) :
    Host.Outcome State Fault Refusal := execLoad c (.ldW c sd imm sa) sd imm sa 4 true s
/-- LD.D (R177). -/
def execLdD (c : Issue) (sd : BitVec 5) (imm : BitVec 12) (sa : BitVec 5) (s : State) :
    Host.Outcome State Fault Refusal := execLoad c (.ldD c sd imm sa) sd imm sa 8 true s
/-- LD.BU (R177). -/
def execLdBu (c : Issue) (sd : BitVec 5) (imm : BitVec 12) (sa : BitVec 5) (s : State) :
    Host.Outcome State Fault Refusal := execLoad c (.ldBu c sd imm sa) sd imm sa 1 false s
/-- LD.HU (R177). -/
def execLdHu (c : Issue) (sd : BitVec 5) (imm : BitVec 12) (sa : BitVec 5) (s : State) :
    Host.Outcome State Fault Refusal := execLoad c (.ldHu c sd imm sa) sd imm sa 2 false s
/-- LD.WU (R177). -/
def execLdWu (c : Issue) (sd : BitVec 5) (imm : BitVec 12) (sa : BitVec 5) (s : State) :
    Host.Outcome State Fault Refusal := execLoad c (.ldWu c sd imm sa) sd imm sa 4 false s

/-- A store of `n` bytes (R177). In A it waits under R148, in X under R151. -/
def execStore (c : Issue) (i : Instr) (ss : BitVec 5) (imm : BitVec 12) (sa : BitVec 5) (n : Nat) (s : State) :
    Host.Outcome State Fault Refusal :=
  issue c i true true false .both noCheck (fun s =>
    let a := sdmAddr (s.sreg c sa) imm
    match s.sdmFault c a n with
    | some f => .fault f false
    | none => .done (s.sdmWrite c.slot.val a n (s.sreg c ss).toNat)) s

/-- ST.B (R177). -/
def execStB (c : Issue) (ss : BitVec 5) (imm : BitVec 12) (sa : BitVec 5) (s : State) :
    Host.Outcome State Fault Refusal := execStore c (.stB c ss imm sa) ss imm sa 1 s
/-- ST.H (R177). -/
def execStH (c : Issue) (ss : BitVec 5) (imm : BitVec 12) (sa : BitVec 5) (s : State) :
    Host.Outcome State Fault Refusal := execStore c (.stH c ss imm sa) ss imm sa 2 s
/-- ST.W (R177). -/
def execStW (c : Issue) (ss : BitVec 5) (imm : BitVec 12) (sa : BitVec 5) (s : State) :
    Host.Outcome State Fault Refusal := execStore c (.stW c ss imm sa) ss imm sa 4 s
/-- ST.D (R177). -/
def execStD (c : Issue) (ss : BitVec 5) (imm : BitVec 12) (sa : BitVec 5) (s : State) :
    Host.Outcome State Fault Refusal := execStore c (.stD c ss imm sa) ss imm sa 8 s

/-- The target of a branch or JAL: pc plus 4 times a signed word offset (R166), and whether it lies in 0x0000 to 0xFFFC
(R176). -/
def target (pc : BitVec 17) (off : Int) : Int := (pc.toNat : Int) + 4 * off

/-- Go to a target, or raise F_ILLEGAL with reason OPCODE when it lies outside the bank (R176). -/
def goTo (c : Issue) (s s' : State) (a : Int) : Res :=
  if 0 ≤ a && a ≤ 0xFFFC then .jump s' (BitVec.ofInt 17 a) else .fault (s.illegal c 0x01) false

/-- A conditional branch (R176): one that is not taken raises nothing, whatever its target. -/
def execBranch (c : Issue) (i : Instr) (sa sb : BitVec 5) (imm : BitVec 15) (p : Word → Word → Bool) (s : State) :
    Host.Outcome State Fault Refusal :=
  issue c i true true false .none noCheck (fun s =>
    if p (s.sreg c sa) (s.sreg c sb) then goTo c s s (target (s.pcOf c) imm.toInt) else .done s) s

/-- BEQ (R176). -/
def execBeq (c : Issue) (sa sb : BitVec 5) (imm : BitVec 15) (s : State) : Host.Outcome State Fault Refusal :=
  execBranch c (.beq c sa sb imm) sa sb imm (fun a b => a == b) s
/-- BNE (R176). -/
def execBne (c : Issue) (sa sb : BitVec 5) (imm : BitVec 15) (s : State) : Host.Outcome State Fault Refusal :=
  execBranch c (.bne c sa sb imm) sa sb imm (fun a b => a != b) s
/-- BLT (R176). -/
def execBlt (c : Issue) (sa sb : BitVec 5) (imm : BitVec 15) (s : State) : Host.Outcome State Fault Refusal :=
  execBranch c (.blt c sa sb imm) sa sb imm (fun a b => a.slt b) s
/-- BGE (R176). -/
def execBge (c : Issue) (sa sb : BitVec 5) (imm : BitVec 15) (s : State) : Host.Outcome State Fault Refusal :=
  execBranch c (.bge c sa sb imm) sa sb imm (fun a b => !a.slt b) s

/-- JAL (R176): sd takes the address of the next instruction. -/
def execJal (c : Issue) (sd : BitVec 5) (imm : BitVec 20) (s : State) : Host.Outcome State Fault Refusal :=
  issue c (.jal c sd imm) true true false .none noCheck (fun s =>
    goTo c s (s.setSreg c sd (BitVec.ofNat 64 (nextPc c (s.pcOf c)).toNat)) (target (s.pcOf c) imm.toInt)) s

/-- JR (R176): to sa[15:0]; a target that is not a multiple of 4 raises F_ALIGN with reason PC. -/
def execJr (c : Issue) (sa : BitVec 5) (s : State) : Host.Outcome State Fault Refusal :=
  issue c (.jr c sa) true true false .none noCheck (fun s =>
    let a := (s.sreg c sa).toNat % 0x1_0000
    if a % 4 = 0 then .jump s (BitVec.ofNat 17 a)
    else .fault (s.streamFault c.slot.val c.stream F_ALIGN 0x02) false) s

/-- TRAP (R176): F_ILLEGAL with reason TRAP, registers unchanged. -/
def execTrap (c : Issue) (s : State) : Host.Outcome State Fault Refusal :=
  issue c (.trap c) true true false .both noCheck (fun s => .fault (s.illegal c 0x05) false) s

end Sys2Proof.Machine
end

