-- ==== Sys2Proof/Machine/TowerEvents.lean ====
section
/-!
DEFINITION. What happens in a Tower by itself: waits that end or time out, task starts, stops, debug breaks, bank power,
maintenance and remote packets (R112 to R121, R129, R134, R145, R158, R200 to R203).
-/
namespace Sys2Proof.Machine

/-! ### Waits that end (R134, R136, R142, R147) -/

/-- Issue an instruction that waited once more. Instructions that never wait, and those whose wait another event ends, are
left as they are. -/
def reissue (i : Instr) (s : State) : Host.Outcome State Fault Refusal :=
  match i with
  | .stB c a b d => execStB c a b d s
  | .stH c a b d => execStH c a b d s
  | .stW c a b d => execStW c a b d s
  | .stD c a b d => execStD c a b d s
  | .csrr c a b => execCsrr c a b s
  | .csrw c a b => execCsrw c a b s
  | .tqPush c a => execTqPush c a s
  | .tqPop c a => execTqPop c a s
  | .excRet c a => execExcRet c a s
  | .fence c => execFence c s
  | .fenceCp c => execFenceCp c s
  | .trap c => execTrap c s
  | .halt c => execHalt c s
  | .imswap c e => execImswap c e s
  | .imswapB c e => execImswapB c e s
  | .semp c a b => execSemp c a b s
  | .semw c a b => if s.inFifo c.slot.val c.stream then .next s else execSemw c a b s
  | .bellw c a => execBellw c a s
  | .tld c q a b d => execTld c q a b d s
  | .tldT c q a b d e => execTldT c q a b d e s
  | .tldS c q a b d => execTldS c q a b d s
  | .sequencedTld c q a b d e => execSequencedTld c q a b d e s
  | .pld c q a b d => execPld c q a b d s
  | .vld c q a b d => execVld c q a b d s
  | .tst c q a b d => execTst c q a b d s
  | .vst c q a b d => execVst c q a b d s
  | .get c a b d => execGet c a b d s
  | .put c a b d => execPut c a b d s
  | .trel c q => execTrel c q s
  | .tcfg c a b d => execTcfg c a b d s
  | .mdrain c b => execMdrain c b s
  | .mmaH4 c b q p r u v => execMmaH4 c b q p r u v s
  | .mmaH48 c b q p r u v => execMmaH48 c b q p r u v s
  | .mmaH8 c b q p r u v => execMmaH8 c b q p r u v s
  | .mmw c b q p r u v => execMmw c b q p r u v s
  | .vopAdd c t v a b e => execVopAdd c t v a b e s
  | .vopSub c t v a b e => execVopSub c t v a b e s
  | .vopMul c t v a b e => execVopMul c t v a b e s
  | .vopFma c t v a b e => execVopFma c t v a b e s
  | .vopMin c t v a b => execVopMin c t v a b s
  | .vopMax c t v a b => execVopMax c t v a b s
  | .vopAnd c t v a b => execVopAnd c t v a b s
  | .vopOr c t v a b => execVopOr c t v a b s
  | .vopXor c t v a b => execVopXor c t v a b s
  | .vopShl c t v a b => execVopShl c t v a b s
  | .vopShr c t v a b => execVopShr c t v a b s
  | .vopMov c t v a b => execVopMov c t v a b s
  | .vopCvt c t v a b => execVopCvt c t v a b s
  | .vopBcast c t v a b => execVopBcast c t v a b s
  | .vaddm c v a b r e => execVaddm c v a b r e s
  | .vsubm c v a b r e => execVsubm c v a b r e s
  | .vmulm c v a b r e => execVmulm c v a b r e s
  | .vredRowAdd c v q p r => execVredRowAdd c v q p r s
  | .vredRowMax c v q p r => execVredRowMax c v q p r s
  | .vredRowMin c v q p r => execVredRowMin c v q p r s
  | .vredRowAddm c v q p r => execVredRowAddm c v q p r s
  | .vredColAdd c v q p r => execVredColAdd c v q p r s
  | .vredColMax c v q p r => execVredColMax c v q p r s
  | .vredColMin c v q p r => execVredColMin c v q p r s
  | .vredColAddm c v q p r => execVredColAddm c v q p r s
  | .eprg c n q p d => execEprg c n q p d s
  | .vpop c v q => execVpop c v q s
  | .vpush c q v => execVpush c q v s
  | .ldB c a b d => execLdB c a b d s
  | .ldH c a b d => execLdH c a b d s
  | .ldW c a b d => execLdW c a b d s
  | .ldD c a b d => execLdD c a b d s
  | .ldBu c a b d => execLdBu c a b d s
  | .ldHu c a b d => execLdHu c a b d s
  | .ldWu c a b d => execLdWu c a b d s
  | .beq c a b d => execBeq c a b d s
  | .bne c a b d => execBne c a b d s
  | .blt c a b d => execBlt c a b d s
  | .bge c a b d => execBge c a b d s
  | .jal c a b => execJal c a b s
  | .jr c a => execJr c a s
  | .add c a b d => execAdd c a b d s
  | .sub c a b d => execSub c a b d s
  | .and_ c a b d => execAnd c a b d s
  | .or_ c a b d => execOr c a b d s
  | .xor_ c a b d => execXor c a b d s
  | .sll c a b d => execSll c a b d s
  | .srl c a b d => execSrl c a b d s
  | .sra c a b d => execSra c a b d s
  | .mul c a b d => execMul c a b d s
  | .mulh c a b d => execMulh c a b d s
  | .li c a b => execLi c a b s
  | _ => .next s

/-- Issue the instruction at which a stream waits once more, if it waits at one that `p` admits. -/
def State.retry (s : State) (g : Nat) (st : Stream) (p : Instr → Bool) : Host.Outcome State Fault Refusal :=
  let r := (s.tower g).stream st
  match r.run, r.wait with
  | .waiting, some w => if p w.instr then
      match w.fault with
      | some (f, posted) => .next (if (s.tower g).older st then s else s.takeFault g st f posted)
      | none => match w.instr with
      | .semw c _ _ => if s.inFifo c.slot.val c.stream then .next s
        else reissue w.instr (s.modStream g st (fun r => { r with run := .running }))
      | i => reissue i (s.modStream g st (fun r => { r with run := .running }))
    else .next s
  | _, _ => .next s

/-- The queue ends that a vector instruction reads, with pop or peek, in the order in which it claims them. -/
def vecEnds : Instr → List (Nat × Bool)
  | .vpop _ _ q => [(q.toNat, true)]
  | .vopAdd _ _ _ a b _ => ends [a, b]
  | .vopSub _ _ _ a b _ => ends [a, b]
  | .vopMul _ _ _ a b _ => ends [a, b]
  | .vopFma _ _ _ a b _ => ends [a, b]
  | .vopMin _ _ _ a b => ends [a, b]
  | .vopMax _ _ _ a b => ends [a, b]
  | .vopAnd _ _ _ a b => ends [a, b]
  | .vopOr _ _ _ a b => ends [a, b]
  | .vopXor _ _ _ a b => ends [a, b]
  | .vopShl _ _ _ a b => ends [a, b]
  | .vopShr _ _ _ a b => ends [a, b]
  | .vopMov _ _ _ a _ => ends [a]
  | .vopCvt _ _ _ a _ => ends [a]
  | .vaddm _ _ a b _ _ => ends [a, b]
  | .vsubm _ _ a b _ _ => ends [a, b]
  | .vmulm _ _ a b _ _ => ends [a, b]
  | _ => []
where
  ends (l : List (BitVec 6)) : List (Nat × Bool) :=
    l.filterMap (fun sel => if sel.getLsbD 5 then some (bits sel.toNat 3 0, sel.getLsbD 4) else none)

/-- The queue end at which a vector instruction finds no entry: the first that its own pops before it leave too short. -/
def Tower.vecShort (t : Tower) (ends : List (Nat × Bool)) : Option Nat :=
  (ends.zipIdx.find? (fun e =>
    (t.vecs e.1.1).length ≤ ((ends.take e.2).filter (fun d => d.1 = e.1.1 && d.2)).length)).map (·.1.1)

/-- Run the vector instruction `i` of the oldest operation on the Tower `t`, with X at its issue: its debug breaks are
behind it (R201, R202). -/
def State.runVec (s : State) (g : Nat) (i : Instr) (t : Tower) (p : Snapshot) : State :=
  let past : Word := BitVec.ofNat 64 (s.reg (Reg.twrXIbrk g) + 1)
  let x := { t.x.restore p with run := .running, tagPassed := true, icount := past }
  match reissue i (s.setTower g { t with ops := [], x := x }) with
  | .next s' => s'
  | _ => s

/-- A vector instruction whose entries have come completes: X's registers stay as they are, and the operations behind it go
on. When it faults, they are cancelled and the exception is taken at it, as for a tile operation (R151; DEDUCED, log 99). -/
def State.endVec (s : State) (g : Nat) (i : Instr) (o : TileOp) : State :=
  let t := s.tower g
  let s' := s.runVec g i t o.snap
  if ((s'.tower g).x.icount.toNat = (s.reg (Reg.twrXIbrk g) + 2) % 2 ^ 64) then
    s'.modTower g (fun u => { u with x := t.x, ops := t.ops.drop 1 })
  else (s.runVec g i (t.cancelFrom 0) o.snap).modTower g (fun u =>
    { u with x := { u.x with icount := o.snap.icount, tagPassed := false } })

/-- A wait at issue ends, if what it waits for is there (DESIGN CHOICE, log 5); in X, first the wait of a vector instruction
that X has gone past (R134). -/
def execQueueWaitEnd (slot : Fin 68) (st : Stream) (s : State) : Host.Outcome State Fault Refusal :=
  let g := slot.val
  let t := s.tower g
  match st, t.ops with
  | .x, o :: _ => match o.kind with
    | .vec i => if (t.vecShort (vecEnds i)).isNone then .next (s.endVec g i o) else s.retry g .x (fun _ => true)
    | _ => s.retry g .x (fun _ => true)
  | st, _ => s.retry g st (fun _ => true)

/-- TREL's wait ends (R136). -/
def execTrelRelease (slot : Fin 68) (s : State) : Host.Outcome State Fault Refusal :=
  s.retry slot.val .x (fun i => match i with | .trel _ _ => true | _ => false)

/-- TCFG's wait ends (R142). -/
def execTcfgApply (slot : Fin 68) (s : State) : Host.Outcome State Fault Refusal :=
  s.retry slot.val .x (fun i => match i with | .tcfg _ _ _ _ => true | _ => false)

/-- X's FENCE.CP finds its markers and retires the oldest checkpoint (R147). -/
def execCheckpointRetire (slot : Fin 68) (s : State) : Host.Outcome State Fault Refusal :=
  s.retry slot.val .x (fun i => match i with | .fenceCp _ => true | _ => false)

/-! ### Time-outs (R145) -/

/-- The reason of F_WAIT_TIMEOUT for an instruction (R156) (DEDUCED, log 66). -/
def waitReason : Instr → Nat
  | .imswap _ _ => 0x12
  | .imswapB _ _ => 0x12
  | .fenceCp _ => 0x13
  | _ => 0x11

/-- Whether a wait that began in bell `b` has lasted WAIT_LIMIT bells; 0 disables (R145). -/
def State.waitOver (s : State) (g b : Nat) : Bool :=
  let l := s.fld (Reg.twrSexCtl g) 7 0
  l ≠ 0 && b + l ≤ s.bellNum

/-- The queue at which an operation of X waits for an entry (R145, R199): of an array operation, or of a vector
instruction. -/
def Tower.opQueue (t : Tower) (o : TileOp) : Option Nat :=
  match o.kind with
  | .vec i => t.vecShort (vecEnds i)
  | k => if k.onArray && !o.started then (o.claims.find? (fun c => !t.entryFull c.q c.n)).map (·.q) else none

/-- The oldest operation of X that waits for an entry, with the queue it waits at. -/
def Tower.waitingOp (t : Tower) : Option (Nat × TileOp × Nat) :=
  (t.ops.zipIdx.filterMap (fun p => (t.opQueue p.1).map (fun q => (p.2, p.1, q)))).head?

/-- The fault of an operation of X that has waited its limit at an entry (R145), if it is its turn to fault. -/
def State.opTimeout (s : State) (g : Nat) : Option (Nat × FaultInfo) :=
  let t := s.tower g
  match t.waitingOp with
  | some (k, o, q) =>
    if s.waitOver g o.bell && t.inTurn k then
      some (k, { s.streamFault g .x F_WAIT_TIMEOUT 0x11 q with
        detail := towerDetail 0x11 .x o.snap.pc t.active q 0xFF (if o.kind.onArray then o.bank else 0xFF) 0 0xFF })
    else none
  | none => none

/-- A wait of the stream, or of an operation that X has issued, has lasted its limit: F_WAIT_TIMEOUT, precise on the waiting
instruction (R145). -/
def execQueueWaitTimeout (slot : Fin 68) (st : Stream) (s : State) : Host.Outcome State Fault Refusal :=
  let g := slot.val
  let t := s.tower g
  let r := t.stream st
  match (match st with | .a => none | .x => s.opTimeout g) with
  | some (k, f) => .next (s.faultOp g k f)
  | none => match r.run, r.wait with
    | .waiting, some w =>
      if w.timed && w.fault.isNone && s.waitOver g w.bell then
        .next (s.issueFault g st w.instr
          (s.streamFault g st F_WAIT_TIMEOUT (waitReason w.instr) (waitQueue w.instr st)))
      else .next s
    | _, _ => .next s

/-! ### Task start (R129, R324, R339) -/

/-- The registers of a stream at launch: s1 to s8 hold the arguments. -/
def launchStream (entry : BitVec 16) (bank broken : Bool) (args : List Word) (r : StreamState) : StreamState :=
  { StreamState.init with
    run := if broken then .stopped else .running, pc := entry.setWidth 17, epc := epcOf bank (entry.setWidth 17),
    regs := SMap.run (fun _ => 0) 1 (args.take 8), posted := r.posted }

/-- The Tower at launch: tiles, queues, banks and v registers afresh, sequencers abandoned; memories, programs and
instruction banks unchanged. A launch wakes a Tower that idles (R455). -/
def Tower.launched (t : Tower) (l : LaunchReq) : Tower :=
  { t with
    a := launchStream l.aEntry l.bank l.broken l.args t.a, x := launchStream l.xEntry l.bank l.broken l.args t.x,
    tiles := [], queues := [], vq := [], cqa := [], cqx := [], ftq := [], banks := [], vregs := [], seqs := [],
    cps := [], loads := [], ops := [], active := l.bank, swapPend := none, task := some { o := l.o }, launch := t.launch.drop 1,
    power := .on }

/-- Whether every named Tower of a launch that it has not started yet waits for it first, without a task and without a
store of the last task in flight (R158, R324), and no sealed sequence holds it (R357) (DEDUCED, log 63). -/
def State.launchReady (s : State) (o : Origin) : Bool :=
  s.towers.all (fun e => !e.2.launch.any (fun l => l.o = o) ||
    ((match e.2.launch with | l :: _ => decide (l.o = o) | [] => false) && e.2.task.isNone && e.2.stores.isEmpty &&
      !s.sealHolds e.1))

/-- TWR_DBG_STATUS keeps the first break, with its bank and address as an EPC has them, and the debug source is raised
(R203). -/
def State.debugBreak (s : State) (g cause tag epc : Nat) : State :=
  let s := if bit (s.reg (Reg.twrDbgStatus g)) 31 then s
    else s.setReg (Reg.twrDbgStatus g)
      (1 <<< 31 + (epc / 0x1_0000) <<< 30 + cause <<< 27 + tag <<< 16 + epc % 0x1_0000 / 4 * 4)
  s.raise (slotSpire g) (32 + slotPhys g)

/-- A launch that waits finds its Towers without a task and starts it on one of them: the bank masks become active, then
the streams run (R129, R324). -/
def execTaskStart (slot : Fin 68) (s : State) : Host.Outcome State Fault Refusal :=
  let g := slot.val
  let t := s.tower g
  match t.launch with
  | [] => .next s
  | l :: _ =>
    if !s.launchReady l.o then .next s
    else
      let s := s.modTower g (fun t => t.launched l)
      let s := (s.setReg (Reg.twrAEvec g) 0).setReg (Reg.twrXEvec g) 0
      let s := (s.stage (Reg.twrBankOn g) (some l.on)).stage (Reg.twrBankRet g) (some l.ret)
      let s := s.commitAll [Reg.twrBankOn g, Reg.twrBankRet g] [.twr slot]
      .next (if l.broken then
          s.debugBreak g 5 (l.o.tag.toNat % 256) (ofBool l.bank * 0x1_0000 + l.xEntry.toNat)
        else s)

/-! ### Stops (R158) -/

/-- A STOP run with slot `g` done: one that has none left completes its command. -/
def State.stopDone (s : State) (g : Nat) : State :=
  let runs := s.stops.map (fun r => { r with left := r.left.filter (· ≠ g) })
  let done := runs.filter (fun r => r.left.isEmpty)
  done.foldl (fun (t : State) r => match r.o with | some o => t.completeOk o 0x21 | none => t)
    { s with stops := runs.filter (fun r => !r.left.isEmpty) }

/-- A STOP that has been asked for takes effect on a Tower; it waits for a sealed sequence there (R277). -/
def execTowerStop (slot : Fin 68) (s : State) : Host.Outcome State Fault Refusal :=
  if s.stops.any (fun r => r.left.contains slot.val) && !s.sealHolds slot.val then
    .next ((s.stopTower slot.val).stopDone slot.val)
  else .next s

/-! ### Debug breaks (R200 to R203) -/

/-- A break is taken in a stream: both streams stop (R203). -/
def State.takeBreak (s : State) (g : Nat) (st : Stream) (cause tag : Nat) : State :=
  let s := s.stopTower g
  s.debugBreak g cause tag ((s.tower g).stream st).epc.toNat

/-- Whether a break of the stream may take effect: A under R148, X with no older tile operation. -/
def Tower.breakReady (t : Tower) (st : Stream) : Bool :=
  (t.stream st).run = .running && !(match st with | .a => t.aGated | .x => !t.ops.isEmpty)

/-- A count break (R201): its enable bit clears. -/
def execCountBreak (slot : Fin 68) (st : Stream) (s : State) : Host.Outcome State Fault Refusal :=
  let g := slot.val
  let n := streamUnit st
  .next (if (s.tower g).breakReady st && s.countBreakDue g st then
      (s.setFld (Reg.twrDbgCtl g) n n 0).takeBreak g st (1 + n) 0
    else s)

/-- A tag break (R202): the instruction does not issue; after RESUME it does. -/
def execTagBreak (slot : Fin 68) (st : Stream) (tag : BitVec 8) (s : State) : Host.Outcome State Fault Refusal :=
  let g := slot.val
  .next (if (s.tower g).breakReady st && s.tagBreakDue g st tag then
      (s.takeBreak g st (3 + streamUnit st) tag.toNat).modStream g st (fun r => { r with tagPassed := true })
    else s)

/-! ### Bank power and maintenance (R113, R116, R117) -/

/-- A bank's transition to On ends (R113). The clk that accesses waited for it are free (DESIGN CHOICE, log 4). -/
def execBankPowerTransitionEnd (slot : Fin 68) (bank : Fin 64) (s : State) : Host.Outcome State Fault Refusal :=
  let g := slot.val
  let t := s.tower g
  let waited := t.rising.contains bank.val && !(t.loads.isEmpty && t.stores.isEmpty && t.packets.isEmpty)
  let s := if waited then (s.count (Reg.twrMemStall g) s.clk).draw else s
  .next (s.modTower g (fun t => { t with rising := t.rising.filter (· ≠ bank.val) }))

/-- SCRUB of banks of a Tower starts (R116): those in Retention are first brought On, Off banks are skipped. Banks named
while another SCRUB of the Tower runs join it (DEDUCED, log 92). -/
def State.scrubTower (s : State) (g : Nat) (banks : BitVec 64) : State :=
  let on := s.reg (Reg.twrBankOn g)
  let up := below 64 (fun n => banks.getLsbD n && bit (s.reg (Reg.twrBankRet g)) n && !bit on n)
  let s' := s.setReg (Reg.twrBankOn g) (up.foldl (fun v n => v ||| 1 <<< n) on)
  (s'.banksChanged s g).modTower g (fun t => { t with scrub := some (t.scrub.getD 0 ||| banks) })

/-- SCRUB starts (R116): banks in Retention are first brought On, Off banks are skipped. Only the Keystone controller
issues it. -/
def execScrub (actor : Actor) (unit : MemUnit) (banks : BitVec 64) (lo hi : BitVec 32) (s : State) :
    Host.Outcome State Fault Refusal :=
  if actor ≠ .keystone then .next s
  else match unit with
  | .tower g => .next (s.scrubTower g.val banks)
  | .gallery sp =>
    .next { s with galScrub := SMap.set (fun _ => []) s.galScrub sp.val (s.scrubs sp.val ++ [(lo.toNat, hi.toNat)]) }

/-- A SCRUB completes: every byte of the named banks that are On, or of the Gallery range, is zero with valid check bits. -/
def execScrubComplete (unit : MemUnit) (s : State) : Host.Outcome State Fault Refusal :=
  match unit with
  | .tower g => match (s.tower g.val).scrub with
    | none => .next s
    | some banks =>
      if (s.tower g.val).rising.any (fun n => banks.getLsbD n) then .next s
      else .next ((s.zeroBanks g.val banks).modTower g.val (fun t => { t with scrub := none }))
  | .gallery sp => match s.scrubs sp.val with
    | [] => .next s
    | (lo, hi) :: rest =>
      .next { s.zeroRange sp.val lo hi with galScrub := SMap.set (fun _ => []) s.galScrub sp.val rest }

/-- Patrol reads one 256-byte row (R117): corrected codewords are rewritten and counted, uncorrectable ones reported
(R110, R111), with the memory unit itself as requester (DESIGN CHOICE, log 97). A bank that is not On is not read. -/
def execTmPatrol (unit : MemUnit) (row : BitVec 20) (s : State) : Host.Outcome State Fault Refusal :=
  let o := 256 * row.toNat
  match unit with
  | .tower g =>
    if towerSize ≤ o || s.bankState g.val (bankOf o) ≠ .on || (s.tower g.val).scrub.isSome then .next s
    else
      let lo := tmCw g.val o
      let good := s.ramCws 1 lo (lo + 16)
      let bad := s.ramCws 2 lo (lo + 16)
      let s := { s with ramErr := s.ramErr.filter (fun e => !good.contains e.1) }
      let s := if good.isEmpty then s else s.count (Reg.twrMemCe g.val) good.length
      .next (bad.foldl (fun (t : State) c =>
        t.faultToSpire (slotSpire g.val) (towerUeFault g.val ((c - tmCw g.val 0) * 16) (srcTower g.val 2))) s)
  | .gallery sp =>
    if gallerySize ≤ o || !(s.scrubs sp.val).isEmpty then .next s
    else
      let lo := galCw sp.val o
      let good := s.ramCws 1 lo (lo + 16)
      let bad := s.ramCws 2 lo (lo + 16)
      let s := { s with ramErr := s.ramErr.filter (fun e => !good.contains e.1) }
      let s := if good.isEmpty then s else s.count (Reg.sprGalCe sp.val) good.length
      .next (bad.foldl (fun (t : State) c =>
        (t.raise sp.val 96).faultToSpire sp.val (galleryUeFault sp.val ((c - galCw sp.val 0) * 16) (srcSpire sp.val 9 0))) s)

/-! ### Credits and accepted packets (R120, R121) -/

/-- The SOURCE of the sender with source index x at a memory of Spire `sp` (R17, R119). Of the two blocks that share index
14 it names the bell sequencer, for the expanders at index 13 the Blowpipe's control (DESIGN CHOICE, log 97). -/
def indexSource (sp x : Nat) : Nat :=
  if x < 4 then srcSpire x 4 0
  else if x < 12 then srcSpire ((x - 4) / 2) 7 ((x - 4) % 2)
  else if x = 12 then 0x4600
  else if x = 13 then srcSpire sp 5 0xFF
  else srcSpire sp 3 0

/-- The registers that guard a memory. -/
def unitRegs : MemUnit → MemRegs
  | .tower g => towerRegs g.val
  | .gallery sp => galleryRegs sp.val

/-- Return g to the sender of a credit request (R120): over its Buttress port, or as the reply to a source on the device,
with the record when the request was refused. -/
def State.grant (s : State) (x g : Nat) (f : Option FaultInfo) : State :=
  match portOf x, f with
  | some p, f => s.send (.creditGrant p g f)
  | none, none => { s with reply := leBytes 4 g }
  | none, some f => ({ s with reply := leBytes 4 g ++ s.record f 0 } : State).wrote f

/-- A credit request for `units` of 4,096 bytes (R120): the grant moves from CRED_AVAIL to the source's balance. In WINDOW
mode nothing is granted, and F_CREDIT with reason MODE is reported (DEDUCED, log 72). -/
def execCreditRequest (unit : MemUnit) (src : BitVec 4) (units : BitVec 16) (s : State) :
    Host.Outcome State Fault Refusal :=
  let m := unitRegs unit
  let x := src.toNat
  let bal := s.reg (m.bal x)
  if s.creditMode m then
    let av := s.reg m.credAvail
    let g := min units.toNat (min av ((2 ^ 28 - 1 - bal) / 4096))
    .next (((s.setReg m.credAvail (av - g)).setReg (m.bal x) (bal + 4096 * g)).grant x g none)
  else
    let f := creditFault m { x := x, source := indexSource m.spire x, node := 0xFFFF, gen := 0 } 0x03 0 0 bal
    .next ((s.faultToSpire m.spire f).grant x 0 (some f))

/-- An accepted remote packet is written (R121); a bank that is not On drops it (R114). It waits for a bank that is coming
On or under SCRUB. A peer's packet is then acknowledged (R407). -/
def execRemoteWriteDone (unit : MemUnit) (s : State) : Host.Outcome State Fault Refusal :=
  match unit with
  | .tower g => match (s.tower g.val).packets with
    | [] => .next s
    | p :: rest =>
      if s.waitsForBank g.val then .next s
      else
        let (s, f) := (s.modTower g.val (fun t => { t with packets := rest })).towerPacket g.val p.ofs p.data p.sender
        .next (s.answer p.port (fun q => .ack q (if f.isSome then 0 else p.data.length) f))
  | .gallery sp => match SMap.get (fun _ => []) s.galPackets sp.val with
    | [] => .next s
    | p :: rest =>
      if !(s.scrubs sp.val).isEmpty then .next s
      else
        let s := { s with galPackets := SMap.set (fun _ => []) s.galPackets sp.val rest }
        let (s, f) := s.galleryWrite sp.val p.ofs p.data p.sender
        .next (s.answer p.port (fun q => .ack q (if f.isSome then 0 else p.data.length) f))

end Sys2Proof.Machine
end

