-- ==== Sys2Proof/Machine/Launch.lean ====
section
/-!
DEFINITION. The Tower launch engine (R324, R339): LAUNCH, STOP and RESUME.
-/
namespace Sys2Proof.Machine

/-- Whether a command break holds a LAUNCH that has started (R339). -/
def State.brokenLaunch (s : State) (o : Origin) : Bool :=
  (s.runq (runKey o)).running.any (fun r => sameCmd r.o o && r.broken)

/-- LAUNCH: each named Tower takes the launch, which TASK_START carries out (R324); no Tower named, it completes
(DEDUCED, log 63). -/
def execLaunch (o : Origin) (towers aEntry xEntry : BitVec 16) (bank : Bool) (on ret : BitVec 64) (args : List Word)
    (s : State) : Host.Outcome State Fault Refusal :=
  .next (s.onEngine o 3 0x20 (fun s =>
    let slots := s.slotsOf o.spire.val towers
    if slots.isEmpty then s.completeOk o 0x20 (leBytes 12 0)
    else
      let l : LaunchReq :=
        { o := o, aEntry := aEntry, xEntry := xEntry, bank := bank, on := on, ret := ret, args := args,
          broken := s.brokenLaunch o }
      let run : LaunchRun := { o := o, left := slots, halts := 0, faults := 0, first := none }
      slots.foldl (fun (s : State) g => s.modTower g (fun t => { t with launch := t.launch ++ [l] }))
        { s with launches := s.launches ++ [run] }))

/-- STOP: it completes when every named Tower has stopped (R158, R324). -/
def execStop (o : Origin) (towers : BitVec 16) (s : State) : Host.Outcome State Fault Refusal :=
  .next (s.onEngine o 3 0x21 (fun s =>
    let slots := s.slotsOf o.spire.val towers
    if slots.isEmpty then s.completeOk o 0x21
    else { s with stops := s.stops ++ [{ o := some o, left := slots }] }))

/-- RESUME: the named Towers go on at their EPCs (R158). -/
def execResume (o : Origin) (towers : BitVec 16) (s : State) : Host.Outcome State Fault Refusal :=
  .next (s.onEngine o 3 0x22 (fun s =>
    ((s.slotsOf o.spire.val towers).foldl State.resumeTower s).completeOk o 0x22))

/-- The tasks of a LAUNCH are stopped at its entry's deadline, and end; it completes with F_DEADLINE (R359). -/
def State.abandonLaunch (s : State) (o : Origin) (f : FaultInfo) : State :=
  match s.launches.find? (fun l => l.o = o) with
  | none => s
  | some l =>
    let s := l.left.foldl (fun (s : State) g =>
      if (s.tower g).launch.any (fun r => r.o = o) then
        s.modTower g (fun t => { t with launch := t.launch.filter (fun r => r.o ≠ o) })
      else (s.stopTower g).modTower g (fun t => { t with task := none })) s
    let s := { s with launches := s.launches.filter (fun e => e.o ≠ o), free := s.free + 1 }
    s.completeFault o 0x20 f (leBytes 2 l.halts ++ leBytes 2 l.faults ++ leBytes 8 (Config.clk64 s.free).toNat)

end Sys2Proof.Machine
end

