-- ==== Sys2Proof/Machine/PowerOps.lean ====
section
/-!
DEFINITION. Alert conditions (R462), operating points (R456 to R459), and which parts run at all (R446, R460, R469, R470).
-/
namespace Sys2Proof.Machine

/-! ### Alerts -/

/-- Bits of PWR_STATUS.ALERT. -/
def alertBoot : Nat := 0
def alertThrottle : Nat := 1
def alertCap : Nat := 2
def alertFlow : Nat := 3
def alertRetired : Nat := 4
def alertLockstep : Nat := 5
def alertVolt : Nat := 6
def alertRail : Nat := 7

/-- Whether a condition of R462 holds. -/
def State.alerting (s : State) (k : Nat) : Bool := bit (s.reg Reg.pwrStatus) (32 + k)

/-- A condition of R462 comes up: Keystone Carillon source 6 when the set grows. -/
def State.alert (s : State) (k : Nat) : State :=
  if s.alerting k then s else (s.setFld Reg.pwrStatus (32 + k) (32 + k) 1).raise 4 6

/-- A condition of R462 has gone. -/
def State.alertOff (s : State) (k : Nat) : State := s.setFld Reg.pwrStatus (32 + k) (32 + k) 0

/-- A condition follows what holds. -/
def State.alertIs (s : State) (k : Nat) (b : Bool) : State := if b then s.alert k else s.alertOff k

/-- ALERT_N is asserted for a reason that R462 does not list. -/
def State.alertPin (s : State) : State := { s with power := { s.power with alertPin := true } }

/-- Whether ALERT_N is asserted (R462). -/
def State.alertN (s : State) : Bool := s.power.alertPin || s.fld Reg.pwrStatus 39 32 ≠ 0

/-! ### What runs -/

/-- Whether the device is out of reset, with its Spire clocks running (R459, R461, R469). -/
def State.live (s : State) : Bool :=
  !s.power.rstLow && !bit (s.reg Reg.pwrStatus) 3 && !s.alerting alertRail

/-- Whether ring fetchers and ring engines may go on to their next command (R446, R460, R470). -/
def State.serving (s : State) : Bool := s.live && s.power.pwrOk && !s.power.flowStop && !s.alerting alertLockstep

/-! ### Operating points -/

/-- The point in force on a Spire's rail, P0 to P3. -/
def State.point (s : State) (sp : Nat) : Nat := s.fld (Reg.pwrOpp sp) 9 8

/-- The least wear margin of a Spire's sensors (R453): 17 slots, Gallery, ports, HBM PHY. -/
def State.wearMargin (s : State) (sp : Nat) : Nat :=
  ((List.range 21).map (fun i => s.fld (Reg.pwrWear sp (i / 8)) (8 * (i % 8) + 7) (8 * (i % 8)))).foldl min 255

/-- The voltage of a point (R456), in 5 mV units above 0.60 V: the table's for a new part, free with wear (DESIGN CHOICE, log 51). -/
def State.pointVolt (s : State) (sp p : Nat) : Nat :=
  let m := s.wearMargin sp
  if m = 255 then [24, 12, 4, 0].getD p 0 else (Config.railVolt p m).toNat

/-- The lowest point that the rail's limit of 0.85 V asks for (R456): the first whose voltage it allows. -/
def State.voltPoint (s : State) (sp : Nat) : Nat :=
  ((List.range 4).find? (fun p => s.pointVolt sp p ≤ 50)).getD 3

/-- The point that the requests of a Spire name: the lowest (R457). -/
def State.wantedPoint (s : State) (sp : Nat) : Nat :=
  max (max (s.fld (Reg.pwrOpp sp) 1 0) (s.voltPoint sp))
    (max (SMap.get (fun _ => 0) s.power.throttle sp) (SMap.get (fun _ => 0) s.power.cap sp))

/-- Put a Spire's rail at a point. -/
def State.setPoint (s : State) (sp p : Nat) : State :=
  (s.setFld (Reg.pwrOpp sp) 9 8 p).setFld (Reg.pwrOpp sp) 23 16 (s.pointVolt sp p)

/-- A protective fall takes effect at once (R457): the point never rises by it. -/
def State.fallPoint (s : State) (sp : Nat) : State :=
  if s.point sp < s.wantedPoint sp then s.setPoint sp (s.wantedPoint sp) else s

/-- Ask a Spire for one point below the one in force, for the power cap or for throttling. -/
def State.capStep (s : State) (sp : Nat) : State :=
  { s with power := { s.power with cap := SMap.set (fun _ => 0) s.power.cap sp (min 3 (s.point sp + 1)) } }
def State.throttleTo (s : State) (sp p : Nat) : State :=
  { s with power := { s.power with throttle := SMap.set (fun _ => 0) s.power.throttle sp p } }

/-- PWR_STATUS.THROTTLE and the alert follow the throttle requests (R459, R462). -/
def State.showThrottle (s : State) : State :=
  let on := !s.power.throttle.isEmpty
  (s.setFld Reg.pwrStatus 1 1 (ofBool on)).alertIs alertThrottle on

/-- PWR_STATUS.CAP follows the cap steps in force (R458). -/
def State.showCap (s : State) : State :=
  let on := !s.power.cap.isEmpty
  let s := s.setFld Reg.pwrStatus 2 2 (ofBool on)
  if on then s else { s.alertOff alertCap with power := { s.power with capFor := 0 } }

/-- Every Spire falls one point for the power cap (R458). -/
def State.capAll (s : State) : State :=
  let s := (List.range 4).foldl (fun (t : State) sp => (t.capStep sp).fallPoint sp)
    { s with power := { s.power with capWait := none } }
  s.showCap

/-- Every cap request rises one point (R458). -/
def State.capRelease (s : State) : State :=
  let cap := (List.range 4).foldl (fun (m : SMap Nat) sp =>
    SMap.set (fun _ => 0) m sp (SMap.get (fun _ => 0) m sp - 1)) s.power.cap
  ({ s with power := { s.power with cap := cap, capRise := false } } : State).showCap

/-- A throttled Spire rises one point, if a recovery step has asked for it (R459). -/
def State.throttleRise (s : State) (sp : Nat) : State :=
  if SMap.get (fun _ => false) s.power.rise sp then
    let s := { s with power := { s.power with rise := SMap.set (fun _ => false) s.power.rise sp false } }
    (s.throttleTo sp (SMap.get (fun _ => 0) s.power.throttle sp - 1)).showThrottle
  else s

/-- OPP_CHANGE: at a bell the steps that have waited for it act, and every Spire takes the point that its requests name
(R457 to R459). -/
def State.pointsBell (s : State) : State :=
  let s := if s.power.capWait.isSome then s.capAll else s
  let s := if s.power.capRise then s.capRelease else s
  let s := (List.range 4).foldl State.throttleRise s
  let s := (List.range 4).foldl (fun (t : State) sp =>
    if t.point sp = t.wantedPoint sp then t else t.setPoint sp (t.wantedPoint sp)) s
  s.alertIs alertVolt ((List.range 4).any (fun sp => s.voltPoint sp ≠ 0))

end Sys2Proof.Machine
end

