-- ==== Sys2Proof/Machine/DescCmd.lean ====
section
/-!
DEFINITION. The commands on descriptors: creation, freeing, and the lengths of KV descriptors (R80 to R95, R363, R364).
-/
namespace Sys2Proof.Machine

/-- SOURCE of a Spire's stream engine. -/
def srcSde (sp : Nat) : Nat := srcSpire sp 4 0

/-- A command whose operand is outside its stated range (DEDUCED, log 33): F_ILLEGAL with reason BAD_CMD, which stops the ring
(R326). -/
def State.badCmd (s : State) (o : Origin) (opcode : Nat) : State :=
  let s := s.completeFault o opcode (ringIllegal o 0x20 opcode)
  match o.entry with
  | some _ => s
  | none => s.stopRing o.spire.val o.ring.val

/-! ### Creation and freeing -/

/-- The entry that a created descriptor becomes: PALIGN, REGION and CHECK are computed (R80). -/
def createdDesc (region : Nat) (b : List Byte) : List Byte :=
  let b := (b ++ List.replicate 64 0).take 64
  checkDesc (patch (patch b 10 (leBytes 2 region)) 7
    (leBytes 1 (setBits (byteAt b 7) 2 2 (ofBool (field b 5 0 % 512 = 256)))))

/-- DESC_CREATE (R80, R84, R85). -/
def execDescCreate (o : Origin) (region : BitVec 16) (desc : List Byte) (s : State) :
    Host.Outcome State Fault Refusal :=
  let sp := o.spire.val
  let b := (desc ++ List.replicate 64 0).take 64
  .next (s.onEngine o 1 0x15 (fun s =>
    match s.createFault sp (srcSde sp) region.toNat b, s.freeEntry sp with
    | some f, _ => s.completeFault o 0x15 f
    | none, none => s.completeFault o 0x15 (descFault (srcSde sp) 0x0D)
    | none, some i =>
      let s := (s.galleryPut sp (s.entryOfs sp i) (createdDesc region.toNat b)).setDesc sp i
        { s.desc sp i with live := true, freeing := none, kv := [] }
      s.completeOk o 0x15 (leBytes 4 (s.handleOf sp i))))

/-- DESC_FREE marks the entry (R87): R86's cases alone refuse it, so that an entry whose CHECK fails can be freed (R79). -/
def execDescFree (o : Origin) (handle : BitVec 32) (s : State) : Host.Outcome State Fault Refusal :=
  let sp := o.spire.val
  let i := handle.toNat % 16384
  .next (s.onEngine o 1 0x16 (fun s =>
    match s.handleStale sp handle.toNat with
    | some r => s.completeFault o 0x16 (descFault (srcSde sp) r (handle := handle.toNat))
    | none => (s.setDesc sp i { s.desc sp i with freeing := some o }).dropGroup sp i))

/-- Whether a handle names entry `i` of Spire `sp`. -/
def namesEntry (sp i : Nat) (h : BitVec 32) : Bool := h.toNat / 2 ^ 30 = sp && h.toNat % 16384 = i

/-- The handles that a stream channel uses. -/
def Channel.handles (c : Channel) : List (BitVec 32) :=
  match c.work with
  | .seq w => [w.h, w.dst]
  | _ => []

/-- The channels at work. -/
def State.busyChannels (s : State) : List Channel := s.channels.filterMap (·.2)

/-- Whether an operation in flight uses entry `i` of Spire `sp` (R87): loads, stores and posted copies of its Towers,
walks of its stream engine, collectives, and length changes that wait. -/
def State.descInUse (s : State) (sp i : Nat) : Bool :=
  (s.towers.any (fun e => slotSpire e.1 = sp && (e.2.loads.any (fun l => namesEntry sp i l.h) ||
    e.2.stores.any (fun l => namesEntry sp i l.h) ||
    (e.2.a.posted ++ e.2.x.posted).any (fun p => match p with
      | .copy _ h _ _ _ _ _ => namesEntry sp i h
      | .semp _ _ _ => false)))) ||
  s.busyChannels.any (fun c => c.handles.any (namesEntry sp i)) ||
  s.colls.any (fun e => match e.2 with
    | some c => namesEntry sp i c.src || namesEntry sp i c.dst
    | none => false) ||
  !(s.desc sp i).kv.isEmpty

/-- The last operation that uses a freed handle has completed: the entry becomes free (R85, R87, R251). -/
def execDescFreeComplete (spire : Fin 4) (index : Fin 16384) (s : State) : Host.Outcome State Fault Refusal :=
  let sp := spire.val
  let i := index.val
  let e := s.desc sp i
  match e.freeing with
  | none => .next s
  | some o =>
    if s.descInUse sp i then .next s
    else .next (((s.setDesc sp i { live := false, freeing := none, reuse := (e.reuse + 1) % 1024, kv := [] }).dropGroup
      sp i).completeOk o 0x16)

/-! ### KV lengths (R94, R95) -/

/-- Whether a write through entry `i` is in flight (R95). -/
def State.kvWriting (s : State) (sp i : Nat) : Bool :=
  s.towers.any (fun e => slotSpire e.1 = sp && e.2.stores.any (fun l => namesEntry sp i l.h)) ||
  s.busyChannels.any (fun c => match c.work with
    | .seq w => namesEntry sp i w.dst
    | _ => false) ||
  s.colls.any (fun e => match e.2 with
    | some c => namesEntry sp i c.dst
    | none => false)

/-- COMMITTED and TENTATIVE of an entry. -/
def State.lengths (s : State) (sp i : Nat) : Nat × Nat :=
  let d := parseDesc (s.entryBytes sp i)
  (d.aux0, d.aux1)

/-- ACCEPT n (some n) or REJECT (none) takes effect (R94): the state, or the fault of the entry's fetch (R79, R111), or the
F_DESC that refuses it. -/
def State.kvApply (s : State) (sp i h : Nat) (n : Option Nat) : State × Option FaultInfo :=
  match s.fetchEntry (.sde sp) (srcSde sp) h with
  | (s, .error f) => (s, some f)
  | (s, .ok b) =>
    let d := parseDesc b
    match n with
    | some n =>
      if d.aux1 < d.aux0 + n then (s, some (descFault (srcSde sp) 0x0C (handle := h)))
      else (if n = 0 then s else s.changeLengths sp i (fun c t => (c + n, t)), none)
    | none => (if d.aux0 = d.aux1 then s else s.changeLengths sp i (fun c _ => (c, c)), none)

/-- RESULT of ACCEPT and REJECT (R323). -/
def State.kvResult (s : State) (sp i : Nat) : List Byte :=
  let (c, t) := s.lengths sp i
  leBytes 3 c ++ leBytes 3 t

/-- Complete an ACCEPT or REJECT whose turn has come. -/
def State.kvFinish (s : State) (o : Origin) (sp i h : Nat) (n : Option Nat) : State :=
  let op := match n with | some _ => 0x17 | none => 0x18
  match s.kvApply sp i h n with
  | (s, none) => s.completeOk o op (s.kvResult sp i)
  | (s, some f) => s.completeFault o op f (s.kvResult sp i)

/-- Whether a handle's use as a KV descriptor is refused: R86, the fetch of its entry (R79, R111), and KV_LEN of R94. -/
def State.kvRefused (s : State) (sp h : Nat) : State × Option FaultInfo :=
  match s.fetchDesc (.sde sp) (srcSde sp) h with
  | (s, .error f) => (s, some f)
  | (s, .ok b) => (s, if (parseDesc b).kv then none else some (descFault (srcSde sp) 0x08 (handle := h)))

/-- ACCEPT or REJECT: refused, applied at once, or waiting for writes in flight and for earlier changes (R95). -/
def State.kvCommand (s : State) (o : Origin) (h : Nat) (n : Option Nat) : State :=
  let sp := o.spire.val
  let i := h % 16384
  match s.kvRefused sp h with
  | (s, some f) => s.completeFault o (match n with | some _ => 0x17 | none => 0x18) f
  | (s, none) =>
    let e := s.desc sp i
    if s.kvWriting sp i || !e.kv.isEmpty then s.setDesc sp i { e with kv := e.kv ++ [(n, o)] }
    else s.kvFinish o sp i h n

/-- ACCEPT n (R94). -/
def execAccept (o : Origin) (handle : BitVec 32) (n : BitVec 24) (s : State) : Host.Outcome State Fault Refusal :=
  .next (s.onEngine o 1 0x17 (fun s => s.kvCommand o handle.toNat (some n.toNat)))

/-- REJECT (R94). -/
def execReject (o : Origin) (handle : BitVec 32) (s : State) : Host.Outcome State Fault Refusal :=
  .next (s.onEngine o 1 0x18 (fun s => s.kvCommand o handle.toNat none))

/-! ### KV_COMMIT (R363, R364) -/

/-- Keep the first fault that a KV_COMMIT reports. -/
def Instance.note (i : Instance) (r : List Byte) : Instance :=
  { i with bad := true, fault := match i.fault with | some f => some f | none => some r }

/-- The first fault of a KV_COMMIT is kept for its record; a later one is dropped, which LOST of its source tells (R8). -/
def State.noted (s : State) (i : Instance) (f : FaultInfo) : State :=
  if i.fault.isSome then s.setLost f.source true else s.wrote f

/-- Process the next handles of a KV_COMMIT instance, until one must wait for writes in flight; `k` bounds their number.
An ACCEPT that is refused leaves its REJECT; a refused handle is skipped; each is reported by the first record. -/
def State.kvAdvance (s : State) (sp e : Nat) : Nat → State
  | 0 => s
  | k + 1 =>
    match s.instances sp e with
    | i :: rest => match i.todo with
      | [] => s
      | (h, n) :: todo =>
        let i' := { i with todo := todo, count := i.count + 1 }
        match s.kvRefused sp h with
        | (s, some f) =>
          ((s.noted i f).setInstances sp e (i'.note (s.record f 0) :: rest)).kvAdvance sp e k
        | (s, none) =>
          if s.kvWriting sp (h % 16384) || !(s.desc sp (h % 16384)).kv.isEmpty then s
          else
            let (s, f) := match n with
              | some n => s.kvApply sp (h % 16384) h (some n)
              | none => (s, none)
            let (s, f') := s.kvApply sp (h % 16384) h none
            (match f.or f' with
              | some f => (s.noted i f).setInstances sp e (i'.note (s.record f 0) :: rest)
              | none => s.setInstances sp e (i' :: rest)).kvAdvance sp e k
    | [] => s

/-- Go on with every KV_COMMIT instance of a Spire. -/
def State.kvAdvanceAll (s : State) (sp : Nat) : State :=
  (s.insts.filter (fun x => x.1 / 1024 = sp && x.2.any (fun i => !i.todo.isEmpty))).foldl (fun (t : State) x =>
    t.kvAdvance sp (x.1 % 1024) 4096) s

/-- Once no write through the handle is in flight, the oldest ACCEPT or REJECT that waits takes effect (R95). -/
def execKvLengthApply (spire : Fin 4) (index : Fin 16384) (s : State) : Host.Outcome State Fault Refusal :=
  let sp := spire.val
  let i := index.val
  let e := s.desc sp i
  if s.kvWriting sp i then .next s
  else match e.kv with
    | [] => .next (s.kvAdvanceAll sp)
    | (n, o) :: rest =>
      .next ((((s.setDesc sp i { e with kv := rest }).kvFinish o sp i (sp <<< 30 + e.reuse <<< 14 + i) n)).kvAdvanceAll sp)

end Sys2Proof.Machine
end

