-- ==== Sys2Proof/Machine/Stream.lean ====
section
/-!
DEFINITION. The stream engine's channels (R230 to R249): moves, sequenced moves over loop nests and links, speculation
groups, and the instruction-memory and element-program loads (R160, R225, R325).
-/
namespace Sys2Proof.Machine

/-! ### Channels -/

/-- Channel `ch` of Spire `sp`. -/
def State.channel (s : State) (sp ch : Nat) : Option Channel := SMap.get (fun _ => none) s.channels (16 * sp + ch)

/-- Replace a channel. -/
def State.setChannel (s : State) (sp ch : Nat) (c : Option Channel) : State :=
  { s with channels := SMap.set (fun _ => none) s.channels (16 * sp + ch) c }

/-- The lowest idle channel of a Spire. -/
def State.idleChannel (s : State) (sp : Nat) : Option Nat :=
  (List.range 16).find? (fun ch => (s.channel sp ch).isNone)

/-- A channel that begins some work as DEMAND: the transfer samples the band classes (R382). -/
def State.newChannel (s : State) (o : Origin) (w : ChanWork) : Channel :=
  { o := o, work := w, cls := 0, group := 0, verdict := none, bell := s.bellNum, abandon := none, note := none,
    bands := s.bandsOf o.spire.val }

/-- Take a channel out of the FIFO of a semaphore of its Spire. -/
def State.leaveSem (s : State) (sp n : Nat) (who : WaiterId) : State :=
  let m := s.sem sp n
  if m.waiters.any (fun w => w.who = who) then
    s.setSem sp n { m with waiters := m.waiters.filter (fun w => w.who ≠ who) }
  else s

/-! ### Segments (R248) -/

/-- The alignment that a segment may not cross at an address: 4 KiB in HBM, 2 KiB in a Gallery. -/
def State.granule (s : State) (a : Nat) : Option Nat :=
  match s.loc a with
  | .hbm => some 4096
  | .gallery _ _ => some 2048
  | _ => none

/-- The bytes of the next segment of a run of `n` bytes from `a` to `d`. -/
def State.segLen (s : State) (a d n : Nat) : Nat :=
  let cut := fun (x m : Nat) => match s.granule x with | some k => min m (k - x % k) | none => m
  cut a (cut d n)

/-- M of R248. -/
def State.segMin (s : State) (a d : Nat) : Nat :=
  match s.granule a, s.granule d with
  | some 4096, _ => 4096
  | _, some 4096 => 4096
  | none, none => 0
  | _, _ => 2048

/-- Count a segment shorter than its minimum. -/
def State.countSeg (s : State) (sp a d m : Nat) : State :=
  if m < s.segMin a d then s.count (Reg.sdeSmallSeg sp) 1 else s

/-- Report an uncorrectable codeword, and give its record as the transfer's own. -/
def UeHit.first (us : List UeHit) : Option FaultInfo := us.head?.map (·.fault)

/-- What one segment of a copy came to: the bytes written, the fault that ends the transfer, and the record of a codeword
delivered poisoned. -/
structure SegOut where
  got : Nat
  fault : Option FaultInfo
  note : Option FaultInfo
  deriving DecidableEq, Repr

/-- Copy one segment of a channel: its bytes come from `read`, and go to the ranges `dst`; `a` and `d` are the addresses by
which its length is judged (R248). Both ends are mapped by the classes sampled at the start (R382). -/
def State.copySeg (s : State) (sp gen : Nat) (c : Channel) (a d m : Nat) (read : State → ReadOut)
    (dst : Nat → List (Nat × Nat)) : State × SegOut :=
  let (t, out) := s.underBands sp c.bands (fun s =>
    let r := read s
    let (t, got, wf) := r.s.putPieces sp { x := sp, source := srcSde sp, node := 0xFFFF, gen := gen } (dst r.bytes.length)
      r.bytes
    (t, ({ got := got, fault := match wf with | some f => some f | none => r.fault, note := UeHit.first r.hits } : SegOut)))
  (t.countSeg sp a d m, out)

/-! ### MOVE -/

/-- RESULT of MOVE: BYTES, CLAMPED and SUPPRESSED; a copy by address clamps and suppresses nothing. -/
def moveResult (n : Nat) : List Byte := leBytes 6 (min n (2 ^ 48 - 1)) ++ leBytes 6 0

/-- The first address of two ranges that is not mapped (R19). -/
def State.rangeFault (s : State) (sp : Nat) (rs : List (Nat × Nat)) : Option FaultInfo :=
  (rs.findSome? (fun r => s.firstUnmapped r.1 r.2)).map (fun a => descFault (srcSde sp) 0x01 (addr := a))

/-- MOVE starts on a channel (R323). -/
def execMove (o : Origin) (src dst : Dpa) (len : BitVec 48) (s : State) : Host.Outcome State Fault Refusal :=
  let sp := o.spire.val
  .next (s.onEngine o 1 0x10 (fun s =>
    match s.rangeFault sp [(src.toNat, len.toNat), (dst.toNat, len.toNat)] with
    | some f => s.completeFault o 0x10 f
    | none =>
      if len = 0 then s.completeOk o 0x10 (moveResult 0)
      else match s.idleChannel sp with
        | none => s
        | some ch => s.setChannel sp ch (some (s.newChannel o (.move src.toNat dst.toNat len.toNat 0)))))

/-- A channel's command ends. -/
def State.channelEnd (s : State) (sp ch : Nat) (c : Channel) (opcode : Nat) (result : List Byte)
    (f : Option FaultInfo) : State :=
  let s := s.setChannel sp ch none
  match (match f with | some f => some f | none => c.note) with
  | some f => s.completeFault c.o opcode f result
  | none => s.completeOk c.o opcode result

/-- One segment of a MOVE. -/
def State.moveSegment (s : State) (sp ch : Nat) (c : Channel) (src dst len done : Nat) : State :=
  match c.abandon with
  | some f => s.channelEnd sp ch c 0x10 (moveResult done) (some f)
  | none =>
    let m := s.segLen (src + done) (dst + done) (len - done)
    if s.segWaits (src + done) m || s.segWaits (dst + done) m then s
    else
      let (s, r) := s.copySeg sp 0 c (src + done) (dst + done) m
        (fun s => s.readRange sp (srcSde sp) (src + done) m false) (fun k => [(dst + done, k)])
      if r.fault.isSome || len ≤ done + m then s.channelEnd sp ch c 0x10 (moveResult (done + r.got)) r.fault
      else s.setChannel sp ch (some { c with work := .move src dst len (done + m) })

/-! ### Walks (R231 to R237, R241) -/

/-- The loop nest of a command's record over a descriptor, with the count of its pointer list (R231, R232). -/
def streamNest (b : List Byte) (d : Desc) (cnt : Nat) : Nest :=
  let w := field b 6 4
  let texts := (List.range 6).map (fun k => field b (10 + 3 * k) (8 + 3 * k)) ++ [1]
  { ords := (List.range 6).map (fun l => bits w (3 * l + 2) (3 * l)), serp := bits w 23 18,
    bound := bits (byteAt b 7) 1 0, ldim := bits (byteAt b 7) 5 3, texts := texts,
    counts := (List.range 6).map (fun k => if k < d.rank then
      (d.size k + texts.getD k 1 - 1) / texts.getD k 1 else 1) ++ [cnt] }

/-- PL and LIMM of a record, LENSRC. -/
def nestPl (b : List Byte) : Bool := bit (byteAt b 7) 2
def nestLimm (b : List Byte) : Bool := bit (byteAt b 7) 6
def nestLenSrc (b : List Byte) : Nat := field b 31 26

/-- Whether a command's nest is valid (R232). -/
def nestOk (b : List Byte) (d : Desc) (n : Nest) : Bool :=
  n.valid d.rank (nestPl b) && (List.range d.rank).all (fun k => 1 ≤ n.text k) && !bit (byteAt b 7) 7 &&
    (!nestLimm b || n.bound = 1)

/-- The pointer-list entry of a grid point; none without a pointer list. -/
def SeqWalk.entry (w : SeqWalk) (n : Nest) (L : Nat) : Option PlEntry :=
  w.pl.map (fun p =>
    let e := n.idx L 6
    parsePl (match p.got.find? (fun b => b.1 = e / 128) with
      | some b => (b.2.drop (8 * (e % 128))).take 8
      | none => []))

/-- The bound B at grid point L, for a length (R235). -/
def SeqWalk.boundAt (w : SeqWalk) (n : Nest) (len tent L : Nat) : Nat :=
  let d := parseDesc w.desc
  let b := min len (if n.ldim < 6 then d.size n.ldim else n.count 6)
  let b := if d.kv && n.ldim = d.seqDim then min b tent else b
  match w.entry n L with
  | some { len := some l, ofs := _ } => min b l
  | _ => b

/-- The box of a grid point: from and to in each dimension (R234). -/
def gridBox (n : Nest) (d : Desc) (L : Nat) : List (Nat × Nat) :=
  (List.range 6).map (fun k => if k < d.rank then (n.idx L k * n.text k, min ((n.idx L k + 1) * n.text k) (d.size k))
    else (0, 1))

/-- A box cut at a bound along one dimension. -/
def cutBox (box : List (Nat × Nat)) (k b : Nat) : List (Nat × Nat) :=
  box.zipIdx.map (fun p => if p.2 = k then (p.1.1, max p.1.1 (min p.1.2 b)) else p.1)

/-- Positions of the first elements of a box's rows along dimension 0, from dimension 1 up. -/
def rowStarts (d : Desc) (box : List (Nat × Nat)) (p : Nat) : List Nat :=
  (List.range 5).foldl (fun ps k =>
    let (lo, hi) := box.getD (k + 1) (0, 1)
    (List.range (hi - lo)).flatMap (fun j => ps.map (fun q => q + d.stride (k + 1) * (lo + j)))) [p]

/-- The byte ranges (first, end) of the positions p to p + n - 1, panes whole (R234), as they lie without the rotation of
R99. -/
def Desc.span (d : Desc) (p n : Nat) : List (Nat × Nat) :=
  let q := p + n - 1
  if isBlockFmt d.fmt then [(d.paneAddr (p / 64), d.paneAddr (q / 64) + 512)]
  else if d.fmt = 0xC then [(d.base + p / 2, d.base + q / 2 + 1)]
  else if d.fmt = 0xD then [(d.base + p, d.base + q + 1)]
  else [(d.base + elemBytes d.fmt * p, d.base + elemBytes d.fmt * (q + 1))]

/-- Put a range into a list ordered by first address. -/
def insertRange (r : Nat × Nat) : List (Nat × Nat) → List (Nat × Nat)
  | [] => [r]
  | x :: t => if r.1 ≤ x.1 then r :: x :: t else x :: insertRange r t

/-- Join ranges that touch or overlap; the list is ordered. -/
def joinRanges (l : List (Nat × Nat)) : List (Nat × Nat) :=
  (l.foldl (fun (acc : List (Nat × Nat)) r => match acc with
    | (lo, hi) :: t => if r.1 ≤ hi then (lo, max hi r.2) :: t else r :: (lo, hi) :: t
    | [] => [r]) []).reverse

/-- The runs of a box as (address, length), ascending (R234). -/
def Desc.boxRuns (d : Desc) (box : List (Nat × Nat)) (ofs : Nat) : List (Nat × Nat) :=
  if box.any (fun r => r.2 ≤ r.1) then []
  else
    let (lo, hi) := box.getD 0 (0, 1)
    let rs := (rowStarts d box (ofs + lo)).flatMap (fun p => d.span p (hi - lo))
    (joinRanges (rs.foldr insertRange [])).map (fun r => (r.1, r.2 - r.1))

/-- First address and length of the span of a list of runs. -/
def spanOf (rs : List (Nat × Nat)) : Nat × Nat :=
  match rs.head?, rs.getLast? with
  | some a, some b => (a.1, b.1 + b.2 - a.1)
  | _, _ => (0, 0)

/-- The offset of a grid point's pointer-list entry. -/
def SeqWalk.ofs (w : SeqWalk) (n : Nest) (L : Nat) : Nat := match w.entry n L with | some e => e.ofs | none => 0

/-! ### What a walk reads and writes (R42, R48, R93, R99, R234, R235) -/

/-- The physical pieces of `n` bytes from `a` of a descriptor, in order: a diagonal layout rotates each row of 256 bytes
(R99). -/
def Desc.pieces (d : Desc) (a n : Nat) : List (Nat × Nat) :=
  if d.layout ≠ 1 || n = 0 then [(a, n)]
  else
    let o := a - d.base
    (List.range ((o + n - 1) / 256 - o / 256 + 1)).flatMap (fun i =>
      let r := o / 256 + i
      let lo := max o (256 * r)
      let k := min (o + n) (256 * r + 256) - lo
      let c := (lo % 256 + 4 * (r % 64)) % 256
      if c + k ≤ 256 then [(d.base + 256 * r + c, k)]
      else [(d.base + 256 * r + c, 256 - c), (d.base + 256 * r, c + k - 256)])

/-- A descriptor of the panes into which an MX tensor is imported (R48): the strides are those of the MX tensor where they
keep blocks of 64 whole, else those of rows packed densely (DESIGN CHOICE, log 93). -/
def Desc.imported (d : Desc) : Desc :=
  let row := (d.size 0 + 63) / 64 * 64
  { d with
    fmt := loadTag d.fmt, layout := 0,
    strides := if (List.range d.rank).all (fun k => k = 0 || d.stride k % 64 = 0) then d.strides
      else (List.range 6).map (fun k => if k = 0 then 1 else
        (List.range (k - 1)).foldl (fun p j => p * d.size (j + 1)) row) }

/-- Whether a walk imports an MX tensor: its way leads into Tower memory (R48). -/
def SeqWalk.imports (w : SeqWalk) : Bool := isMxFmt (parseDesc w.desc).fmt && inTower (parseDesc w.dstDesc).base

/-- The descriptor in whose terms a walk's runs stand: that of the imported panes, or the source's. -/
def SeqWalk.cargo (w : SeqWalk) : Desc := if w.imports then (parseDesc w.desc).imported else parseDesc w.desc

/-- The offset of a pointer-list entry in the same terms: blocks whole for imported panes. -/
def SeqWalk.cargoOfs (w : SeqWalk) (ofs : Nat) : Nat := if w.imports then ofs / 64 * 64 else ofs

/-- The offsets of pointer-list entries that can lengthen a span: those that move its first block within a pane, or its
first nibble within a byte (R242; DEDUCED, log 71). -/
def SeqWalk.shifts (w : SeqWalk) : List Nat :=
  let d := w.cargo
  if w.pl.isNone then [0]
  else if isBlockFmt d.fmt then (List.range (perPane d.fmt)).map (64 * ·)
  else if d.fmt = 0xC then [0, 1]
  else [0]

/-- The largest span of a walk (R242). -/
def SeqWalk.maxSpan (w : SeqWalk) (n : Nest) : Nat :=
  (List.range n.total).foldl (fun m L => w.shifts.foldl (fun m o =>
    max m (spanOf (w.cargo.boxRuns (gridBox n (parseDesc w.desc) L) o)).2) m) 0

/-- A range cut at those of a list that ascends: address, length, and whether the list holds it. -/
def cutZero : List (Nat × Nat) → Nat → Nat → List (Nat × Nat × Bool)
  | [], a, e => if a < e then [(a, e - a, false)] else []
  | z :: zs, a, e =>
    let lo := max a z.1
    let hi := min e (z.1 + z.2)
    if hi ≤ lo then cutZero zs a e
    else (if a < lo then [(a, lo - a, false)] else []) ++ (lo, hi - lo, true) :: cutZero zs hi e

/-- The blocks of a box, by number: for each row, those its positions reach. -/
def Desc.boxBlocks (d : Desc) (box : List (Nat × Nat)) (ofs : Nat) : List Nat :=
  if box.any (fun r => r.2 ≤ r.1) then []
  else
    let (lo, hi) := box.getD 0 (0, 1)
    (rowStarts d box (ofs + lo)).flatMap (fun p => (List.range ((p + hi - lo - 1) / 64 - p / 64 + 1)).map (p / 64 + ·))

/-- The records of the blocks `zb` in panes that begin with number `p0` become Z blocks with scale byte 127, and the
trailers are computed again (R42, R93). -/
def zeroRecs (f p0 : Nat) (zb : List Nat) (bs : List Byte) : List Byte :=
  (List.range (bs.length / 512)).flatMap (fun i =>
    let pane := (bs.drop (512 * i)).take 512
    let js := (List.range (perPane f)).filter (fun j => zb.contains ((p0 + i) * perPane f + j))
    if js.isEmpty then pane
    else sealPane (byteAt pane 511) ((js.foldl (fun b j =>
      setRec f b j (leBytes 1 127 ++ leBytes 1 0x40 ++ List.replicate (payloadSize f) 0)) pane).take (perPane f * recSize f)))

/-- The `k` bytes from `a` of panes that a walk copies: verbatim (R234), but for blocks that an uncorrectable codeword
reaches (R47, R111, R373) and blocks beyond TENTATIVE (R93). -/
def State.paneBytes (s : State) (sp : Nat) (d : Desc) (zb : List Nat) (a k : Nat) : ReadOut :=
  let req := srcSde sp
  let r := s.readRange sp req a k true
  let lo := a - (a - d.base) % 512
  let n := (a + k - lo + 511) / 512 * 512
  let ues := r.s.memUes sp req lo n
  if ues.isEmpty && zb.isEmpty then r
  else { r with bytes := ((zeroRecs d.fmt ((lo - d.base) / 512) zb
    (poisonPanes d.fmt ues (r.s.memGet sp lo n))).drop (a - lo)).take r.bytes.length }

/-- The `k` bytes from `a` of elements: those beyond TENTATIVE are zero and not read (R93). -/
def State.elemRun (s : State) (sp : Nat) (d : Desc) (zs : List (Nat × Nat)) (a k : Nat) : ReadOut :=
  (cutZero zs a (a + k)).foldl (fun (r : ReadOut) p =>
    match r.fault with
    | some _ => r
    | none =>
      if p.2.2 then { r with bytes := r.bytes ++ List.replicate p.2.1 0 }
      else
        let q := r.s.readPieces sp (srcSde sp) false (d.pieces p.1 p.2.1)
        { s := q.s, bytes := r.bytes ++ q.bytes, hits := r.hits ++ q.hits, fault := q.fault })
    { s := s, bytes := [], hits := [], fault := none }

/-- The blocks of a box of an MX tensor: the number of each in the imported panes, the position of its first half, and
whether it has a second (R49). -/
def Desc.mxBlocks (d : Desc) (box : List (Nat × Nat)) (ofs : Nat) : List (Nat × Nat × Bool) :=
  if box.any (fun r => r.2 ≤ r.1) then []
  else
    let (lo, hi) := box.getD 0 (0, 1)
    ((rowStarts d box ofs).zip (rowStarts d.imported box (ofs / 64 * 64))).flatMap (fun p =>
      (List.range ((hi - 1) / 64 - lo / 64 + 1)).map (fun j =>
        let m := lo / 64 + j
        (p.2 / 64 + m, p.1 + 64 * m, decide (64 * m + 32 < d.size 0))))

/-- The ranges of one half of an MX block at position `p`: its elements, and its scale byte (R74). -/
def Desc.mxRanges (d : Desc) (p : Nat) : List (Nat × Nat) :=
  [if d.fmt = 0xC then (d.base + p / 2, 16) else (d.base + p, 32), (d.base + d.aux0 + p / 32, 1)]

/-- Scale and element codes of a half, from its bytes. -/
def mxParts (f : Nat) (bs : List Byte) : Nat × List Nat :=
  let n := if f = 0xC then 16 else 32
  (byteAt bs n, if f = 0xC then (bs.take n).flatMap (fun b => [b.toNat % 16, b.toNat / 16]) else (bs.take n).map (·.toNat))

/-- One block imported on its way (R48, R49): the record, poisoned when an uncorrectable codeword reaches a half (R47, R111,
R373), and the reading of its halves. -/
def State.mxRecord (s : State) (sp : Nat) (d : Desc) (p : Nat) (two : Bool) : ReadOut :=
  let r := s.readPieces sp (srcSde sp) true (d.mxRanges p ++ (if two then d.mxRanges (p + 32) else []))
  let n := if d.fmt = 0xC then 17 else 33
  let (x0, c0) := mxParts d.fmt r.bytes
  let (x1, c1) := if two then mxParts d.fmt (r.bytes.drop n) else (x0, List.replicate 32 0)
  let q := mxImport d.fmt x0 x1 c0 c1
  { r with bytes := (if r.hits.isEmpty then leBytes 1 q.scale ++ leBytes 1 q.guard else [255, 0]) ++
      codesPayload (loadTag d.fmt) q.codes }

/-- Panes `p0` to `p0 + k - 1` of an import, whose first in the buffer has number `first` (R42, R48): a block outside the
grid point is a Z block with scale byte 127, and SEQ counts the panes of the buffer (DESIGN CHOICE, log 93). A half that
cannot be read ends the transfer before its pane. -/
def State.importPanes (s : State) (sp : Nat) (d : Desc) (blocks : List (Nat × Nat × Bool)) (first p0 k : Nat) : ReadOut :=
  let f := loadTag d.fmt
  (List.range k).foldl (fun (r : ReadOut) i =>
    match r.fault with
    | some _ => r
    | none =>
      let q := (List.range (perPane f)).foldl (fun (q : ReadOut) j =>
        match q.fault with
        | some _ => q
        | none => match blocks.find? (fun b => b.1 = (p0 + i) * perPane f + j) with
          | none => { q with bytes := q.bytes ++ leBytes 1 127 ++ leBytes 1 0x40 ++ List.replicate (payloadSize f) 0 }
          | some b =>
            let x := q.s.mxRecord sp d b.2.1 b.2.2
            { s := x.s, bytes := q.bytes ++ x.bytes, hits := q.hits ++ x.hits, fault := x.fault })
        { s := r.s, bytes := [], hits := r.hits, fault := none }
      { s := q.s, bytes := if q.fault.isSome then r.bytes else r.bytes ++ sealPane ((p0 + i - first) % 256) q.bytes,
        hits := q.hits, fault := q.fault })
    { s := s, bytes := [], hits := [], fault := none }

/-- The `k` bytes that a grid point's run has from address `a` of the cargo, the run's first being in the span from
`start`. -/
def State.pointBytes (s : State) (sp : Nat) (w : SeqWalk) (p : GridPoint) (start a k : Nat) : ReadOut :=
  let d := parseDesc w.desc
  if w.imports then
    s.importPanes sp d (d.mxBlocks p.box p.ofs) ((start - d.base) / 512) ((a - d.base) / 512) (k / 512)
  else if isBlockFmt d.fmt then s.paneBytes sp d (match p.zbox with | some z => d.boxBlocks z p.ofs | none => []) a k
  else s.elemRun sp d (match p.zbox with | some z => d.boxRuns z p.ofs | none => []) a k

/-- The bytes of the next segment of a run of `m` bytes from `a` of the cargo to `da`. An import is cut after so many panes
as its source's granule holds (DESIGN CHOICE, log 93). -/
def State.seqSegLen (s : State) (w : SeqWalk) (a da m : Nat) : Nat :=
  if w.imports then (match s.granule (parseDesc w.desc).base with | some k => min m k | none => m)
  else s.segLen a da m

/-- The part of a box that reads as zero in a walk: SEQ_DIM indices from TENTATIVE up, whole blocks of dimension 0, unless
the bound runs along SEQ_DIM and cuts them (R93, R235; DEDUCED, log 93). -/
def zeroBox (n : Nest) (d : Desc) (tent : Nat) (box : List (Nat × Nat)) : Option (List (Nat × Nat)) :=
  if !d.kv || (n.bound ≠ 0 && n.ldim = d.seqDim) then none
  else
    let t := if d.seqDim = 0 && isBlockFmt d.fmt then (tent + 63) / 64 * 64 else tent
    if (box.getD d.seqDim (0, 1)).2 ≤ t then none
    else some (box.zipIdx.map (fun p => if p.2 = d.seqDim then (max p.1.1 t, p.1.2) else p.1))

/-- Read a length: LENSRC[23:0] itself, or the word at LENSRC (R231). -/
def State.readLen (s : State) (sp : Nat) (b : List Byte) : State × Except FaultInfo Nat :=
  if nestLimm b then (s, .ok (nestLenSrc b % 2 ^ 24))
  else match s.rangeFault sp [(nestLenSrc b, 4)] with
    | some f => (s, .error f)
    | none =>
      let r := s.readRange sp (srcSde sp) (nestLenSrc b) 4 false
      match r.fault with
      | some f => (r.s, .error f)
      | none => (r.s, .ok (leNat r.bytes))

/-- The header of the pointer list at a Gallery offset of the own Spire: its handle and the list (R96, R98, R241). -/
def State.readPl (s : State) (sp lo : Nat) : State × Except FaultInfo (Nat × PlWalk) :=
  let a := 0x4000_0000_0000 + 0x1000_0000 * sp + lo
  match s.rangeFault sp [(a, 16)] with
  | some f => (s, .error f)
  | none =>
    let r := s.readRange sp (srcSde sp) a 16 false
    match r.fault with
    | some f => (r.s, .error f)
    | none =>
      let n := field r.bytes 5 4
      if n = 0 || 4096 < n then
        (r.s, .error (descFault (srcSde sp) 0x05 (pl := 0) (handle := field r.bytes 3 0)))
      else match r.s.rangeFault sp [(a + 16, 8 * n)] with
        | some f => (r.s, .error f)
        | none => (r.s, .ok (field r.bytes 3 0, { addr := a + 16, count := n, got := [] }))

/-- The burst of 128 pointer-list entries that grid point L needs is read, unless the walk has it (R241). -/
def State.fetchPl (s : State) (sp : Nat) (w : SeqWalk) (n : Nest) (L : Nat) : State × SeqWalk × Option FaultInfo :=
  match w.pl with
  | none => (s, w, none)
  | some p =>
    let b := n.idx L 6 / 128
    if p.got.any (fun x => x.1 = b) then (s, w, none)
    else
      let r := s.readRange sp (srcSde sp) (p.addr + 1024 * b) (8 * min 128 (p.count - 128 * b)) false
      match r.fault with
      | some f => (r.s, w, some f)
      | none => (r.s, { w with pl := some { p with got := p.got ++ [(b, r.bytes)] } }, none)

/-- RESULT of SEQ_MOVE: grid points completed, and the bytes written of the point that failed. -/
def seqResult (done wrote : Nat) : List Byte := leBytes 4 done ++ leBytes 6 (min wrote (2 ^ 48 - 1))

/-- Post FULL, or EMPTY, of a link (R242, R246). -/
def State.postFull (s : State) (sp : Nat) (w : SeqWalk) : State × Option FaultInfo :=
  s.postFrom sp (bits w.semFull 13 12) (srcSde sp) (bits w.semFull 11 0) 1
def State.postEmpty (s : State) (sp : Nat) (w : SeqWalk) : State × Option FaultInfo :=
  s.postSem sp (bits w.semEmpty 11 0) 1 (srcSde sp) false

/-- The walk has nothing more to begin, and nothing in flight: its command completes, unless points are withheld for a
verdict (R244, R246). -/
def State.seqDone (s : State) (sp ch : Nat) (c : Channel) (w : SeqWalk) : State :=
  if w.cur.isNone && w.landed.isEmpty && w.withheld.isEmpty then
    s.channelEnd sp ch c 0x12 (seqResult w.done ((w.failed.map (·.1)).getD 0)) (w.failed.map (·.2))
  else s.setChannel sp ch (some { c with work := .seq w })

/-- The walk of a channel ends with a fault, `wrote` bytes into the point that failed: the wait is given up, and no further
point begins. Points whose bytes are all written keep their FULL posts, or their verdict (R244, R246). -/
def State.seqFail (s : State) (sp ch : Nat) (c : Channel) (w : SeqWalk) (wrote : Nat) (f : FaultInfo) : State :=
  let why := match w.failed with | some x => some x | none => some (wrote, f.met s.bellNum)
  (s.leaveSem sp (bits w.semEmpty 11 0) (.channel (Fin.ofNat 16 ch))).seqDone sp ch c
    { w with cur := none, waiting := false, granted := false, failed := why }

/-- The fault of the pointer-list entry that grid point L uses (R98, R241). -/
def State.entryFault (s : State) (sp : Nat) (w : SeqWalk) (n : Nest) (L : Nat) : Option FaultInfo :=
  (w.entry n L).bind (s.plFault (srcSde sp) w.h.toNat (n.idx L 6) (parseDesc w.desc))

/-- The next grid point that a walk does not omit, from L on (R236): the walk with its number in `pos` and the bursts read
on the way, the points omitted, and the fault of a burst or of an entry, which the walk checks when it reaches it (R241).
The first argument bounds the search. -/
def State.seqNext (sp : Nat) (n : Nest) : Nat → State → SeqWalk → Nat → Nat → State × SeqWalk × Nat × Option FaultInfo
  | 0, s, w, L, c => (s, { w with pos := L }, c, none)
  | k + 1, s, w, L, c =>
    if n.total ≤ L then (s, { w with pos := L }, c, none)
    else match s.fetchPl sp w n L with
    | (s, w, some f) => (s, { w with pos := L }, c, some f)
    | (s, w, none) =>
      match s.entryFault sp w n L with
      | some f => (s, { w with pos := L }, c, some f)
      | none =>
      if n.bound = 1 && n.beyondAll (w.boundAt n w.len w.tentative L) L then State.seqNext sp n k s w (L + 1) (c + 1)
      else (s, { w with pos := L }, c, none)

/-- The number of entries of a walk's pointer list. -/
def SeqWalk.plCount (w : SeqWalk) : Nat := match w.pl with | some p => p.count | none => 1

/-- Begin grid point L, whose EMPTY has been obtained (R234, R237, R242): its runs in buffer order, none for a point wholly
beyond the bound. -/
def State.beginPoint (s : State) (sp ch : Nat) (c : Channel) (w : SeqWalk) (n : Nest) (L len tent : Nat) : State :=
  let d := parseDesc w.desc
  let dd := parseDesc w.dstDesc
  let b := w.boundAt n len tent L
  let box := gridBox n d L
  let o := w.ofs n L
  let x := w.cargoOfs o
  let buf := dd.base + (w.begun % w.nbuf) * w.bstride
  let start := (spanOf (w.cargo.boxRuns box x)).1
  let runs := if n.bound ≠ 0 && n.beyondAll b L then []
    else (w.cargo.boxRuns (if n.bound = 0 then box else cutBox box n.ldim b) x).map (fun r => (r.1, buf + (r.1 - start), r.2))
  let w := { w with pos := L + 1, begun := w.begun + 1, granted := false }
  let w := if runs.isEmpty then { w with landed := w.landed ++ [0] }
    else { w with cur := some { left := runs, wrote := 0, box := box, zbox := zeroBox n d tent box, ofs := o } }
  s.setChannel sp ch (some { c with work := .seq w })

/-- Whether the walk may fill its next half: the count of EMPTY it already has, or one taken now, else the channel waits
for it in the FIFO (R243). -/
def State.seqEmpty (s : State) (sp ch : Nat) (w : SeqWalk) : State × Bool :=
  if w.granted then (s, true)
  else s.waitSem sp (bits w.semEmpty 11 0) 1 0 (srcSde sp) (.channel (Fin.ofNat 16 ch))

/-- LEN, and TENTATIVE of a KV stream, at a point: with BOUND = 2 the word is read again, and the entry (R237, R79); else
the values of the start. -/
def State.seqLen (s : State) (sp : Nat) (bands : Nat × Nat) (w : SeqWalk) : State × Except FaultInfo (Nat × Nat) :=
  let d := parseDesc w.desc
  if (streamNest w.nest d w.plCount).bound ≠ 2 then (s, .ok (w.len, w.tentative))
  else match (s.countSeg sp (nestLenSrc w.nest) (nestLenSrc w.nest) 4).underBands sp bands (fun s => s.readLen sp w.nest) with
  | (s, .error f) => (s, .error f)
  | (s, .ok len) =>
    if !d.kv then (s, .ok (len, 0))
    else match s.fetchEntry (.sde sp) (srcSde sp) w.h.toNat with
    | (s, .error f) => (s, .error f)
    | (s, .ok b) => (s, .ok (len, (parseDesc b).aux1))

/-- Go on with a walk that has no grid point in progress (R233 to R244): find the next point, check its pointer-list entry,
read the length under BOUND = 2, and wait for EMPTY; with no point left, end. At most two points are in flight. -/
def State.seqAdvance (s : State) (sp ch : Nat) : State :=
  match s.channel sp ch with
  | some c => match c.work with
    | .seq w =>
      let d := parseDesc w.desc
      let n := streamNest w.nest d w.plCount
      if w.failed.isSome then s.seqDone sp ch c w
      else if w.cur.isSome then s
      else match c.abandon with
      | some f => s.seqFail sp ch c w 0 f
      | none =>
        if w.waiting then s
        else if c.verdict = some false then s.seqDone sp ch c { w with pos := n.total }
        else
          let (s, w, skipped, bad) := State.seqNext sp n n.total s w w.pos 0
          let s := if skipped = 0 then s else s.count (Reg.sdeSeqSkip sp) skipped
          let L := w.pos
          match bad with
          | some f => s.seqFail sp ch c w 0 f
          | none =>
          if n.total ≤ L then s.seqDone sp ch c w
          else if 2 ≤ w.landed.length then s.setChannel sp ch (some { c with work := .seq w })
          else
            let (s, got) := s.seqEmpty sp ch w
            if !got then s.setChannel sp ch (some { c with work := .seq { w with waiting := true } })
            else match s.seqLen sp c.bands w with
              | (s, .error f) => s.seqFail sp ch c w 0 f
              | (s, .ok (len, tentative)) => s.beginPoint sp ch c w n L len tentative
    | _ => s
  | none => s

/-- A walk starts on channel `ch` (R236, R242): the length and TENTATIVE are sampled. -/
def State.seqStart (s : State) (sp ch : Nat) (c : Channel) (w : SeqWalk) (n : Nest) : State :=
  match (if n.bound = 0 || n.bound = 2 then (s, Except.ok 0) else s.readLen sp w.nest) with
  | (s, .error f) => s.completeFault c.o 0x12 f (seqResult 0 0)
  | (s, .ok len) =>
    let w := { w with len := len, tentative := (parseDesc w.desc).aux1 }
    (s.setChannel sp ch (some { c with work := .seq w })).seqAdvance sp ch

/-- SEQ_MOVE (R232, R241, R242) (DEDUCED, log 71). -/
def execSeqMove (o : Origin) (nest : List Byte) (dst : BitVec 32) (nbuf : BitVec 4) (cls : BitVec 2) (group : BitVec 8)
    (semFull semEmpty : BitVec 16) (bstride : BitVec 32) (s : State) : Host.Outcome State Fault Refusal :=
  let sp := o.spire.val
  let src := srcSde sp
  let nest := (nest ++ List.replicate 32 0).take 32
  let fail := fun (s : State) (f : FaultInfo) => s.completeFault o 0x12 f (seqResult 0 0)
  .next (s.onEngine o 1 0x12 (fun s =>
    match s.idleChannel sp with
    | none => s
    | some ch =>
    match (if nestPl nest then s.readPl sp (field nest 3 0)
      else (s, Except.ok (field nest 3 0, ({ addr := 0, count := 0, got := [] } : PlWalk)))) with
    | (s, .error f) => fail s f
    | (s, .ok (h, es)) =>
    match s.fetchDesc (.sde sp) src h with
    | (s, .error f) => fail s f
    | (s, .ok b) =>
    match s.fetchDesc (.sde sp) src dst.toNat with
    | (s, .error f) => fail s f
    | (s, .ok db) =>
      let d := parseDesc b
      let dd := parseDesc db
      let w : SeqWalk :=
        { nest := nest, desc := b, h := BitVec.ofNat 32 h, dst := dst, dstDesc := db, nbuf := nbuf.toNat + 1,
          bstride := bstride.toNat, semFull := semFull.toNat, semEmpty := semEmpty.toNat,
          pl := if nestPl nest then some es else none, len := 0, tentative := 0, pos := 0, begun := 0, done := 0,
          granted := false, waiting := false, cur := none, landed := [], withheld := [],
          failed := none }
      let n := streamNest nest d w.plCount
      if !nestOk nest d n || cls = 3 || bstride.toNat % 512 ≠ 0 || (cls = 2 && 63 < group.toNat) then
        fail s (descFault src 0x05 (handle := h))
      else if (s.region dd.region).2 < dd.base + w.nbuf * w.bstride || dd.base < (s.region dd.region).1 ||
          w.bstride < w.maxSpan n || dd.extent.2 + 1 - dd.base < w.maxSpan n then
        fail s (descFault src 0x11 (handle := dst.toNat) (addr := dd.base))
      else
        s.seqStart sp ch { s.newChannel o (.seq w) with cls := cls.toNat, group := group.toNat } w n))

/-- One segment of a grid point (R234, R244, R248) (DEDUCED, log 71). -/
def State.seqSegment (s : State) (sp ch : Nat) (c : Channel) (w : SeqWalk) : State :=
  match w.cur with
  | none => s.seqAdvance sp ch
  | some p => match p.left with
    | [] => s
    | (a, d, m) :: rest =>
      match c.abandon with
      | some f => s.seqFail sp ch c w p.wrote f
      | none =>
        let k := s.seqSegLen w a d m
        let src := if w.imports then ((parseDesc w.desc).base, 1) else (a, k)
        if s.segWaits src.1 src.2 || s.segWaits d k then s
        else
          let dd := parseDesc w.dstDesc
          let start := (spanOf (w.cargo.boxRuns p.box (w.cargoOfs p.ofs))).1
          let (s, r) := s.copySeg sp dd.gen c src.1 d k (fun s => s.pointBytes sp w p start a k) (dd.pieces d)
          let c := { c with note := match c.note with | some f => some f | none => r.note }
          match r.fault with
          | some f => s.seqFail sp ch c w (p.wrote + r.got) f
          | none =>
            let left := if k < m then (a + k, d + k, m - k) :: rest else rest
            let w := if left.isEmpty then { w with cur := none, landed := w.landed ++ [p.wrote + r.got] }
              else { w with cur := some { p with left := left, wrote := p.wrote + r.got } }
            (s.setChannel sp ch (some { c with work := .seq w })).seqAdvance sp ch

/-- The oldest grid point whose bytes are written becomes visible: FULL is posted, or withheld for SPEC without a verdict
(R243, R246). -/
def execGridPointComplete (spire : Fin 4) (ch : Fin 16) (s : State) : Host.Outcome State Fault Refusal :=
  let sp := spire.val
  .next (match s.channel sp ch.val with
    | some c => match c.work with
      | .seq w => match w.landed with
        | [] => s
        | n :: rest =>
          let w := { w with landed := rest, done := w.done + 1 }
          if c.cls = 2 && c.verdict.isNone then
            (s.setChannel sp ch.val (some { c with work := .seq { w with withheld := w.withheld ++ [n] } })).seqAdvance sp
              ch.val
          else match s.postFull sp w with
            | (s, none) => (s.setChannel sp ch.val (some { c with work := .seq w })).seqAdvance sp ch.val
            | (s, some f) => s.seqFail sp ch.val c { w with done := w.done - 1 } n f
      | _ => s
    | none => s)

/-- A semaphore has served a channel's EMPTY wait. -/
def State.channelServed (s : State) (sp ch : Nat) : State :=
  match s.channel sp ch with
  | some c => match c.work with
    | .seq w => (s.setChannel sp ch (some { c with work := .seq { w with waiting := false, granted := true } })).seqAdvance
        sp ch
    | _ => s
  | none => s

/-! ### Speculation groups (R246, R247) -/

/-- The posts that a verdict releases, one after another, until one is refused. -/
def State.postTimes (s : State) (post : State → State × Option FaultInfo) : Nat → State × Option FaultInfo
  | 0 => (s, none)
  | k + 1 => match post s with
    | (s, none) => s.postTimes post k
    | (s, some f) => (s, some f)

/-- CONFIRM or DROP reaches one SPEC move. -/
def State.giveVerdict (s : State) (sp ch : Nat) (yes : Bool) : State :=
  match s.channel sp ch with
  | some c => match c.work with
    | .seq w =>
      if yes then
        match s.postTimes (fun t => t.postFull sp w) w.withheld.length with
        | (s, none) =>
          (s.setChannel sp ch (some { c with verdict := some true, cls := 1, work := .seq { w with withheld := [] } })).seqAdvance
            sp ch
        | (s, some f) => s.seqFail sp ch { c with verdict := some true, cls := 1 } { w with withheld := [] } 0 f
      else
        let bytes := (w.withheld ++ w.landed).foldl (· + ·) (match w.cur with | some p => p.wrote | none => 0)
        let k := w.withheld.length + w.landed.length + ofBool w.cur.isSome + ofBool w.granted
        let s := (s.count64 (Reg.sdeSpecDrop sp) bytes).leaveSem sp (bits w.semEmpty 11 0) (.channel (Fin.ofNat 16 ch))
        let (s, f) := s.postTimes (fun t => t.postEmpty sp w) k
        let why := match w.failed, f with | some x, _ => some x | none, some f => some (0, f) | none, none => none
        s.seqDone sp ch { c with verdict := some false }
          { w with cur := none, landed := [], withheld := [], waiting := false, granted := false, failed := why }
    | _ => s
  | none => s

/-- Whether a channel is a SPEC move of group `g`, with its verdict or without. -/
def Channel.ofGroup (c : Channel) (g : Nat) (open_ : Bool) : Bool :=
  c.group = g && (if open_ then c.cls = 2 && c.verdict.isNone else c.verdict.isSome)

/-- The channels of a Spire that satisfy `p`. -/
def State.channelsWith (s : State) (sp : Nat) (p : Channel → Bool) : List Nat :=
  below 16 (fun ch => match s.channel sp ch with | some c => p c | none => false)

/-- A verdict on the groups of a mask: only the first on a group takes effect (R246). -/
def State.verdicts (s : State) (sp : Nat) (mask : BitVec 64) (yes : Bool) : State :=
  (below 64 (fun g => mask.getLsbD g)).foldl (fun (s : State) g =>
    if (s.channelsWith sp (fun c => c.ofGroup g false)).isEmpty then
      (s.channelsWith sp (fun c => c.ofGroup g true)).foldl (fun (s : State) ch => s.giveVerdict sp ch yes) s
    else s) s

/-- PREFETCH_CONFIRM (R246). -/
def execPrefetchConfirm (o : Origin) (mask : BitVec 64) (s : State) : Host.Outcome State Fault Refusal :=
  .next (s.onEngine o 1 0x19 (fun s => (s.verdicts o.spire.val mask true).completeOk o 0x19))

/-- PREFETCH_DROP (R246). -/
def execPrefetchDrop (o : Origin) (mask : BitVec 64) (s : State) : Host.Outcome State Fault Refusal :=
  .next (s.onEngine o 1 0x1A (fun s => (s.verdicts o.spire.val mask false).completeOk o 0x1A))

/-- At the bell after its command started, a move of a group without a verdict receives DROP (R247). -/
def State.dropGroupAt (s : State) (sp g : Nat) : State :=
  (s.channelsWith sp (fun c => c.ofGroup g true && c.bell < s.bellNum)).foldl (fun (s : State) ch =>
    s.giveVerdict sp ch false) s

/-- A group with no verdict at the bell receives DROP (R247). -/
def execSpecGroupTimeout (spire : Fin 4) (group : Fin 64) (s : State) : Host.Outcome State Fault Refusal :=
  .next (s.dropGroupAt spire.val group.val)

/-- SDE_SPEC_PEND: groups with a SPEC move without a verdict. -/
def State.specPend (s : State) (sp : Nat) : Nat :=
  packFields 1 64 (fun g => ofBool (!(s.channelsWith sp (fun c => c.ofGroup g true)).isEmpty))

/-! ### IM_LOAD and EP_LOAD (R160, R225, R325) -/

/-- One Tower of a load command is done: its count, a record if it is the first, and the command's end with the last. A
record that is not the first is dropped, and its source's next record says so (R8, R325). -/
def State.loadStep (s : State) (o : Origin) (g : Nat) (ok bad : Nat) (f : Option FaultInfo) : State :=
  let hit := fun (r : LoadRun) => sameCmd r.o o && runKey r.o = runKey o && r.left.contains g
  match s.imRuns.find? hit with
  | none => s
  | some r =>
    let (s, kept) : State × Option (List Byte) := match r.fault, f with
      | some x, some f => (s.setLost f.source true, some x)
      | none, some f => (s.wrote f, some (s.record f 0))
      | x, none => (s, x)
    let r' := { r with
      left := r.left.filter (· ≠ g), good := r.good + ok, bad := r.bad + bad, fault := kept }
    if r'.left.isEmpty then
      ({ s with imRuns := s.imRuns.filter (fun e => !hit e) } : State).complete r'.o r'.opcode
        (leBytes 2 r'.good ++ leBytes 2 r'.bad) r'.fault
    else { s with imRuns := s.imRuns.map (fun e => if hit e then r' else e) }

/-- F_IM_BUSY (R160). -/
def imBusy (g reason : Nat) (bank : Bool) : FaultInfo :=
  { code := F_IM_BUSY, source := srcTower g 2,
    detail := leBytes 1 reason ++ leBytes 1 (ofBool bank) ++ leBytes 1 (slotPhys g) }

/-- The load of a bank of one Tower starts, or is refused (R160). -/
def State.imStart (s : State) (o : Origin) (g : Nat) (bank : Bool) (bytes : List Byte) (whole : Bool) : State :=
  let t := s.tower g
  let reason := if bank = t.active then 1 else if t.swapPend.isSome then 2 else 0
  if reason ≠ 0 then
    let s := s.count (Reg.twrImRefused g) 1
    s.loadStep o g 0 1 (some (imBusy g reason bank))
  else s.modTower g (fun t =>
    let l : ImLoad := { o := o, bank := bank, bytes := bytes, whole := whole }
    let t := { t with imLoad := t.imLoad ++ [l] }
    if bank then { t with validB := false } else { t with validA := false })

/-- Start a command on the Towers of a set in ascending order; an empty set completes at once. -/
def State.loadAll (s : State) (o : Origin) (opcode : Nat) (slots : List Nat) (fault : Option FaultInfo)
    (start : State → Nat → State) : State :=
  if slots.isEmpty then s.completeOk o opcode (leBytes 4 0)
  else
    let r : LoadRun := { o := o, opcode := opcode, left := slots, good := 0, bad := 0, fault := fault.map (s.record · 0) }
    let s := match fault with | some f => s.wrote f | none => s
    slots.foldl start { s with imRuns := s.imRuns ++ [r] }

/-- IM_LOAD (R160, R325). A source codeword that cannot be read ends the transfer there (DEDUCED, log 69). -/
def execImLoad (o : Origin) (towers : BitVec 16) (bank : Bool) (src : Dpa) (words : BitVec 16) (s : State) :
    Host.Outcome State Fault Refusal :=
  let sp := o.spire.val
  let n := 4 * words.toNat
  .next (s.onEngine o 1 0x13 (fun s =>
    if words = 0 || 16384 < words.toNat then s.badCmd o 0x13
    else match s.rangeFault sp [(src.toNat, n)] with
    | some f => s.completeFault o 0x13 f
    | none =>
      let r := s.readRange sp (srcSde sp) src.toNat n false
      r.s.loadAll o 0x13 (r.s.slotsOf sp towers) r.fault (fun s g =>
        s.imStart o g bank r.bytes r.fault.isNone)))

/-- The oldest load of a Tower's bank completes: the words are written, and VALID is set unless the transfer faulted or
another load of the bank is in progress. -/
def execImLoadComplete (slot : Fin 68) (s : State) : Host.Outcome State Fault Refusal :=
  let g := slot.val
  let t := s.tower g
  match t.imLoad with
  | [] => .next s
  | l :: rest =>
    let ok := l.whole && !rest.any (fun k => k.bank = l.bank)
    let t := if l.bank then { t with imB := SMap.setRun (fun _ => 0) t.imB 0 l.bytes, validB := ok, imLoad := rest }
      else { t with imA := SMap.setRun (fun _ => 0) t.imA 0 l.bytes, validA := ok, imLoad := rest }
    .next ((s.setTower g t).loadStep l.o g (ofBool l.whole) 0 none)

/-- EP_LOAD starts a build of the slot's next image on each named Tower (R225, R226, R325). -/
def execEpLoad (o : Origin) (towers : BitVec 16) (prog : BitVec 4) (src : Dpa) (s : State) :
    Host.Outcome State Fault Refusal :=
  let sp := o.spire.val
  .next (s.onEngine o 1 0x14 (fun s =>
    match s.rangeFault sp [(src.toNat, 1280)] with
    | some f => s.completeFault o 0x14 f
    | none =>
      let r := s.readRange sp (srcSde sp) src.toNat 1280 false
      match r.fault with
      | some f => r.s.completeFault o 0x14 f
      | none => r.s.loadAll o 0x14 (r.s.slotsOf sp towers) none (fun s g =>
          match s.epBegin g prog.toNat (.load o r.bytes) with
          | (s, true) => s
          | (s, false) => s.loadStep o g 0 1 none)))

/-- A build ends (R225, R226): its outcome, and that of the EP_LOAD it belongs to. -/
def execEpBuildComplete (slot : Fin 68) (prog : BitVec 4) (s : State) : Host.Outcome State Fault Refusal :=
  let g := slot.val
  .next (match s.epEnd g prog.toNat with
    | (s, none) => s
    | (s, some (.load o _, reason)) => s.loadStep o g (ofBool (reason = 0)) (ofBool (reason ≠ 0)) none
    | (s, some _) => s)

end Sys2Proof.Machine
end

