-- ==== Sys2Proof/Machine/Rings.lean ====
section
/-!
DEFINITION. Command rings and semaphores (R311 to R336): tail lines, fetching, room, RESUME, the generic commands, and the
ends of semaphore waits with their snapshot.
-/
namespace Sys2Proof.Machine

/-! ### Tail lines and fetching (R311 to R317) -/

/-- Slots that a command of an opcode occupies (R318, R323). -/
def cmdSlots (op : Nat) : Nat := if op = 0x15 || op = 0x20 || op = 0x80 then 2 else 1

/-- Slots of a ring (DESIGN CHOICE, log 64). -/
def State.ringSize (s : State) (sp r : Nat) : Nat := 2 ^ (s.fld (Reg.sprRingCfg sp r) 3 0 + 4)

/-- EN of a ring. -/
def State.ringOn (s : State) (sp r : Nat) : Bool := bit (s.reg (Reg.sprRingCfg sp r)) 31

/-- Slots fetched and not completed (R315): commands of LISTs occupy none (R320). -/
def State.inflight (s : State) (sp r : Nat) : Nat :=
  let q := s.runq (ringKey sp r)
  ((q.queue.filter (fun c => c.lidx = 0xFFFF)).map (fun c => cmdSlots (byteAt c.bytes 0))).sum +
    ((q.running.filter (fun c => c.o.lidx = 0xFFFF)).map (fun c => cmdSlots c.opcode)).sum +
    ((s.ring sp r).held.map (fun h => let e := h.2.2.getLastD []
      if field e 9 8 = 0xFFFF && byteAt e 3 < 0xF0 then cmdSlots (byteAt e 3) else 0)).sum

/-- Ring-level F_ILLEGAL of the fetcher (R340). -/
def tailFault (sp r cseq : Nat) : FaultInfo :=
  { code := F_ILLEGAL, source := srcSpire sp 0 0,
    detail := leBytes 1 0x21 ++ leBytes 1 r ++ leBytes 4 cseq ++ leBytes 1 0 }

/-- The fetcher reads a ring's tail line (R313): CCONS always, TAIL of an enabled ring. A TAIL that goes back or runs more
than SIZE ahead stops the ring, once (R314). Nothing is read while Alxis is down (R400). -/
def State.readTail (s : State) (sp r : Nat) : State :=
  let q := s.ring sp r
  let line := s.companionRead (s.reg (Reg.sprRingTailLine sp r)) 16
  let tail := field line 7 0
  let q' := { q with ccons := field line 15 8 }
  if !s.alxUp then s
  else if !s.ringOn sp r then s.setRing sp r q'
  else if tail < q.tail || s.ringSize sp r < tail - q.fetched then
    if q.tailBad then s.setRing sp r q'
    else ((s.setRing sp r { q' with tailBad := true }).stopRing sp r).faultToSpire sp (tailFault sp r q.fetched)
  else s.setRing sp r { q' with tail := tail }

/-- The companion writes a ring's tail line: the invalidation wakes the fetcher, which reads the line again (R313). -/
def execTailLineInvalidate (spire : Fin 4) (ring : Fin 16) (tail ccons : Word) (s : State) :
    Host.Outcome State Fault Refusal :=
  let sp := spire.val
  let r := ring.val
  .next ((s.companionWrite (s.reg (Reg.sprRingTailLine sp r)) (leBytes 8 tail.toNat ++ leBytes 8 ccons.toNat)).readTail
    sp r)

/-- The commands of one aligned group of slots, from command number `n` up: up to TAIL, the end of the group, and 32 in
flight; a two-slot command only when TAIL covers it (R314, R315, R318). `k` bounds the number of slots. -/
def State.fetchGroup (s : State) (sp r tail : Nat) : Nat → Nat → Nat → List Cmd × Nat
  | 0, n, _ => ([], n)
  | k + 1, n, busy =>
    let base := s.reg (Reg.sprRingBase sp r)
    let size := s.ringSize sp r
    let slot := fun i => s.companionRead (base + 64 * (i % size)) 64
    let first := slot n
    let m := cmdSlots (byteAt first 0)
    if tail < n + m || 32 < busy + m then ([], n)
    else
      let c : Cmd := { bytes := if m = 2 then first ++ slot (n + 1) else first, cseq := n % 2 ^ 32, lidx := 0xFFFF }
      if (n + m) % 16 < m then ([c], n + m)
      else
        let (l, e) := s.fetchGroup sp r tail k (n + m) (busy + m)
        (c :: l, e)

/-- Whether the fetchers may fetch: the device serves, Alxis is up (R400), and encrypts where that is mandatory (R401). -/
def State.fetchOpen (s : State) : Bool :=
  s.serving && s.alxUp && (!bit (s.reg Reg.fusePolicy) 8 || bit (s.reg Reg.alxCryptCtl) 31)

/-- The fetcher reads a group of slots and writes FETCHED to the head line (R312, R315). A stopped ring is not fetched. -/
def execRingFetch (spire : Fin 4) (ring : Fin 16) (s : State) : Host.Outcome State Fault Refusal :=
  let sp := spire.val
  let r := ring.val
  let q := s.ring sp r
  let k := ringKey sp r
  let waiting := ((s.runq k).queue.filter (fun c => c.lidx = 0xFFFF)).length
  if !s.fetchOpen || !s.ringOn sp r || q.stopped || 16 ≤ waiting || q.tail ≤ q.fetched then .next s
  else
    let (cs, n) := s.fetchGroup sp r q.tail 16 q.fetched (s.inflight sp r)
    if cs.isEmpty then .next s
    else
      let s := s.setRunq k { s.runq k with queue := (s.runq k).queue ++ cs }
      let s := s.setRing sp r { q with fetched := n }
      .next (s.companionWrite (s.reg (Reg.sprRingHeadLine sp r)) (leBytes 8 n ++ List.replicate 56 0))

/-- The oldest held completion finds room, with Alxis up, and is written (R328, R400). -/
def execCompletionRingRoom (spire : Fin 4) (ring : Fin 16) (s : State) : Host.Outcome State Fault Refusal :=
  let sp := spire.val
  let r := ring.val
  let q := s.ring sp r
  match q.held with
  | [] => .next s
  | (_, fin, es) :: rest =>
    if s.alxUp && q.compPos + es.length ≤ s.compEntries sp r + q.ccons then
      let s := (s.setRing sp r { q with held := rest }).writeRecord sp r fin es
      .next (s.settleFences s.fences)
    else .next s

/-- RESUME of a ring (R314, R329, R339): a command that a break holds passes it; the tail line is read again. -/
def State.resumeRing (s : State) (sp r : Nat) : State :=
  let q := s.ring sp r
  if q.stopped then
    (s.setRing sp r { q with stopped := false, brk := false, brkPassed := q.brk || q.brkPassed, tailBad := false }).readTail sp r
  else s

/-- A write of 1 to RESUME. -/
def execRingResume (actor : Actor) (spire : Fin 4) (ring : Fin 16) (s : State) : Host.Outcome State Fault Refusal :=
  .next (s.guarded actor (Reg.sprRingCtl spire.val ring.val) (fun s => s.resumeRing spire.val ring.val))

/-! ### Generic commands (R320, R321, R330) -/

/-- NOP. -/
def execNop (o : Origin) (s : State) : Host.Outcome State Fault Refusal := .next (s.completeOk o 0x00)

/-- The list of running commands in which `o` is a FENCE of a scope: it is entered when it stands there not yet. -/
def fenceIn (o : Origin) (scope engine order : Nat) (l : List Running) : List Running :=
  if l.any (fun r => sameCmd r.o o) then l.map (fun r => if sameCmd r.o o then { r with fence := some scope } else r)
  else l ++ [{ o := o, opcode := 0x01, engine := engine, order := order, fence := some scope, broken := false }]

/-- FENCE completes once every earlier command in its scope has completed (R330). -/
def execFenceCommand (o : Origin) (scope : BitVec 8) (s : State) : Host.Outcome State Fault Refusal :=
  if 2 < scope.toNat then .next (s.badCmd o 0x01)
  else
    let k := runKey o
    let q := s.runq k
    let s := s.setRunq k { q with running := fenceIn o scope.toNat (s.ringEngine o) s.starts q.running }
    .next (({ s with starts := s.starts + 1 } : State).settleFences s.fences)

/-- SEM_POST (R321, R333, R335) (DEDUCED, log 65). -/
def execSemPost (o : Origin) (target : BitVec 14) (count : BitVec 16) (s : State) : Host.Outcome State Fault Refusal :=
  let sp := o.spire.val
  .next (match s.postFrom sp (bits target.toNat 13 12) (srcSpire sp 0 0) (bits target.toNat 11 0) count.toNat with
    | (s, none) => s.completeOk o 0x02
    | (s, some f) => s.completeFault o 0x02 f)

/-- RESULT of SEM_WAIT: the count after the wait, and the bells waited. -/
def waitResult (count bells : Nat) : List Byte := leBytes 2 count ++ leBytes 1 (min bells 255)

/-- SEM_WAIT (R321, R331). -/
def execSemWait (o : Origin) (sem : BitVec 12) (count : BitVec 16) (timeout : BitVec 8) (s : State) :
    Host.Outcome State Fault Refusal :=
  let sp := o.spire.val
  .next (match s.waitSem sp sem.toNat count.toNat timeout.toNat (srcSpire sp 0 0) (.cmd o) with
    | (s, true) => s.completeOk o 0x03 (waitResult (s.sem sp sem.toNat).count 0)
    | (s, false) => s)

/-- The commands of an array at a DPA that begin below `lim`, at most `k`, the first with index `i`; or the first unmapped
address (R19). -/
def State.listCmds (s : State) (sp cseq lim : Nat) : Nat → Nat → Nat → Except Nat (List Cmd)
  | 0, _, _ => .ok []
  | k + 1, i, a =>
    if lim ≤ a then .ok []
    else match s.firstUnmapped a 64 with
    | some x => .error x
    | none =>
      let m := cmdSlots (byteAt (s.memGet sp a 64) 0)
      match s.firstUnmapped a (64 * m) with
      | some x => .error x
      | none =>
        match s.listCmds sp cseq lim k (i + 1) (a + 64 * m) with
        | .error x => .error x
        | .ok l => .ok ({ bytes := s.memGet sp a (64 * m), cseq := cseq, lidx := i } :: l)

/-- Fetch the next commands of a list, those that begin in one aligned KiB (R250): the commands and what is left of the
list, or the fault that prevents it (R19, R111, R373). -/
def State.readList (s : State) (sp cseq : Nat) (r : ListRest) :
    State × Except FaultInfo (List Cmd × Option ListRest) :=
  match s.listCmds sp cseq (r.addr / 1024 * 1024 + 1024) r.left r.idx r.addr with
  | .error x => (s, .error (descFault (srcSpire sp 0 0) 0x01 (addr := x)))
  | .ok l =>
    let n := (l.map (fun c => c.bytes.length)).sum
    let rd := s.readRange sp (srcSpire sp 0 0) r.addr n false
    match rd.fault with
    | some f => (rd.s, .error f)
    | none => (rd.s, .ok (l, if r.left ≤ l.length then none
        else some { left := r.left - l.length, idx := r.idx + l.length, addr := r.addr + n }))

/-- The list of runner `k` whose command was refused, or cannot go on, ends: its commands that have not started are
dropped, and it completes with the fault after those that have (R320). -/
def State.endList (s : State) (k : Nat) (cseq : BitVec 32) (f : FaultInfo) : State :=
  let q := s.runq k
  let listed := fun (c : Cmd) => c.lidx ≠ 0xFFFF && c.cseq = cseq.toNat
  let left := (q.running.filter (fun r => r.o.lidx ≠ 0xFFFF && r.o.cseq = cseq)).length
  let q' := { q with queue := q.queue.filter (fun c => !listed c), more := none }
  match q.lists.find? (fun l => l.o.cseq = cseq) with
  | none => s.setRunq k q'
  | some l =>
    let l' := { l with left := left, fault := some (f.met s.bellNum) }
    if left = 0 then
      ((s.setRunq k { q' with lists := q.lists.filter (fun e => e.o.cseq ≠ cseq) }).completeList l').draw
    else s.setRunq k { q' with lists := q.lists.map (fun e => if e.o.cseq = cseq then l' else e) }

/-- LIST: its commands come before those of the ring that have not started (R316, R320). A LIST inside a list is refused,
and the outer list ends. -/
def execListCmd (o : Origin) (dpa : Dpa) (count : BitVec 16) (s : State) : Host.Outcome State Fault Refusal :=
  let sp := o.spire.val
  let k := runKey o
  if o.lidx ≠ 0xFFFF then
    let s := (s.completeFault o 0x04 (ringIllegal o 0x23 0x04)).endList k o.cseq (ringIllegal o 0x23 0x04)
    .next (if o.entry.isSome then s else s.stopRing sp o.ring.val)
  else if count = 0 || 4096 < count.toNat || dpa.toNat % 64 ≠ 0 then .next (s.badCmd o 0x04)
  else
    let (s, l) := s.readList sp o.cseq.toNat { left := count.toNat, idx := 0, addr := dpa.toNat }
    match l with
    | .error f => .next (s.completeFault o 0x04 f)
    | .ok (cs, more) =>
      let q := s.runq k
      let run : ListRun := { o := o, left := count.toNat, run := 0, fault := none }
      .next (s.setRunq k { q with queue := cs ++ q.queue, lists := q.lists ++ [run], more := more })

/-! ### Ends of semaphore waits (R331, R332, R334) -/

/-- Tell a waiter that it has been served. -/
def State.serve (s : State) (sp : Nat) (w : Waiter) (count : Nat) : State :=
  match w.who with
  | .stream g st => s.semServed g.val st
  | .pre r => s.setRunq (ringKey sp r.val) { s.runq (ringKey sp r.val) with pre := some true }
  | .preEntry e => s.setRunq (entryKey sp e.val) { s.runq (entryKey sp e.val) with pre := some true }
  | .cmd o => s.completeOk o 0x03 (waitResult count (s.bellNum - w.since))
  | .channel ch => s.channelServed sp ch.val

/-- Serve the oldest waiter of a semaphore, if the count suffices (R331). -/
def State.serveOne (s : State) (sp n : Nat) : State :=
  let m := s.sem sp n
  match m.waiters with
  | [] => s
  | w :: rest =>
    if w.want ≤ m.count then
      (s.setSem sp n { m with count := m.count - w.want, waiters := rest }).serve sp w (m.count - w.want)
    else s

/-- The oldest waiter's count is there. -/
def execSemWaitGrant (spire : Fin 4) (sem : BitVec 12) (s : State) : Host.Outcome State Fault Refusal :=
  .next (s.serveOne spire.val sem.toNat)

/-- Whether a wait has timed out: it began during bell b, and bell b + T has come (R334). -/
def Waiter.expired (w : Waiter) (bell : Nat) : Bool := w.since + w.timeout ≤ bell

/-- One entry of a snapshot (R336). -/
def State.snapEntry (s : State) (sp n : Nat) (m : Sem) (w : Waiter) (hit : Nat → Bool) : List Byte :=
  leBytes 2 w.source ++ leBytes 2 n ++ leBytes 2 w.want ++ leBytes 2 m.count ++
    leBytes 2 (s.fld (Reg.semCfg sp n) 31 16) ++ leBytes 2 m.lastSource ++ leBytes 8 m.lastBell ++ leBytes 8 w.since ++
    leBytes 1 (ofBool (hit n && w.expired s.bellNum) + ofBool m.lastRemote * 2) ++ leBytes 3 0

/-- The semaphores of a Spire with waiters, ascending. -/
def State.waitedSems (s : State) (sp : Nat) : List (Nat × Sem) :=
  (s.sems.filter (fun e => e.1 / 4096 = sp && !e.2.waiters.isEmpty)).map (fun e => (e.1 % 4096, e.2))

/-- The least of a list of numbers, 0 for none. -/
def leastOf (l : List Nat) : Nat := match l with | [] => 0 | x :: t => t.foldl min x

/-- The wait-graph snapshot (R336) of time-outs at the semaphores that `hit` admits: written when VALID is 0, with
Carillon source 51; otherwise OVERRUN is set. Time-outs fall in the first clk of a bell, so CLK is 0 (R334). -/
def State.snapshot (s : State) (sp : Nat) (hit : Nat → Bool) : State :=
  let st := Reg.semSnapStatus sp
  if bit (s.reg st) 31 then s.setFld st 30 30 1
  else
    let ws := s.waitedSems sp
    let es := ws.flatMap (fun p => p.2.waiters.map (fun w => s.snapEntry sp p.1 p.2 w hit))
    let out := ws.filter (fun p => hit p.1 && p.2.waiters.any (·.expired s.bellNum))
    let trig := out.head?
    let who := match trig with
      | some p => leastOf ((p.2.waiters.filter (·.expired s.bellNum)).map (·.source))
      | none => 0
    let head := leBytes 8 s.bellNum ++ leBytes 4 0 ++ leBytes 2 es.length ++
      leBytes 2 (match trig with | some p => p.1 | none => 0) ++ leBytes 2 who ++ leBytes 14 0
    let s := match s.loc (s.reg (Reg.semSnapBase sp)) with
      | .gallery g o => if g = sp then s.galleryPut sp o ((head ++ es.flatten).take (gallerySize - o)) else s
      | _ => s
    (s.setReg st (1 <<< 31 + ofBool (bit (s.reg st) 30) <<< 30 + es.length)).raise sp 51

/-- F_WAIT_TIMEOUT of a command, with reason SEM_CMD (R334, R340). -/
def semCmdFault (ring cseq opcode source : Nat) : FaultInfo :=
  { code := F_WAIT_TIMEOUT, source := source,
    detail := leBytes 1 0x15 ++ leBytes 1 ring ++ leBytes 4 cseq ++ leBytes 1 opcode }

/-- The origin of a command of runner `k`: a ring, or a bell-table entry (R318, R356). -/
def originOf (sp r : Nat) (entry : Option (Fin 1024)) (c : Cmd) : Origin :=
  let b := c.bytes
  { spire := Fin.ofNat 4 sp, ring := Fin.ofNat 16 r, cseq := BitVec.ofNat 32 c.cseq, lidx := BitVec.ofNat 16 c.lidx,
    tag := BitVec.ofNat 16 (field b 3 2), intr := bit (byteAt b 1) 0, nocomp := bit (byteAt b 1) 1,
    post := if bit (field b 9 8) 15 then some
        { spire := Fin.ofNat 4 (bits (field b 9 8) 13 12), sem := BitVec.ofNat 12 (field b 9 8),
          count := BitVec.ofNat 16 (field b 11 10) } else none,
    entry := entry }

/-- The next command of a runner is dropped with a fault, before it has started. -/
def State.dropNext (s : State) (k sp r : Nat) (entry : Option (Fin 1024)) (f : Origin → FaultInfo) : State :=
  let q := s.runq k
  match q.queue with
  | [] => s
  | c :: rest =>
    let o := originOf sp r entry c
    let s := s.setRunq k { q with queue := rest, pre := none }
    let s := if entry.isSome then s else s.setRing sp r { s.ring sp r with brkPassed := false }
    (s.complete o (byteAt c.bytes 0) [] (some (s.record (f o) 0))).wrote (f o)

/-- Local ring of a bell-table entry's instance. -/
def Instance.ring (i : Instance) : Nat := bits (byteAt i.bytes 3) 3 0

/-- The PRE wait of a runner's next command has timed out: the command completes with the fault (R319, R334). -/
def State.preTimeout (s : State) (k sp r : Nat) (entry : Option (Fin 1024)) : State :=
  s.dropNext k sp r entry (fun o => semCmdFault r o.cseq.toNat
    (match (s.runq k).queue with | c :: _ => byteAt c.bytes 0 | [] => 0) (srcSpire sp 0 0))

/-- Tell a waiter that its wait has timed out (R334). -/
def State.waitTimedOut (s : State) (sp : Nat) (w : Waiter) : State :=
  match w.who with
  | .stream g st => s.takeFault g.val st (s.streamFault g.val st F_WAIT_TIMEOUT 0x14)
  | .pre r => s.preTimeout (ringKey sp r.val) sp r.val none
  | .preEntry e => match s.instances sp e.val with
    | i :: _ => s.preTimeout (entryKey sp e.val) sp i.ring (some e)
    | [] => s
  | .cmd o => s.completeFault o 0x03 (semCmdFault o.ring.val o.cseq.toNat 0x03 (srcSpire sp 0 0))
  | .channel ch => match s.channel sp ch.val with
    | some c => match c.work with
      | .seq x => s.seqFail sp ch.val c { x with waiting := false } 0
          (semCmdFault c.o.ring.val c.o.cseq.toNat 0x12 (srcSde sp))
      | _ => s
    | none => s

/-- Waits that have timed out at the semaphores that `hit` admits end (R334): one snapshot of the clk, each wait is
removed and counted, and each waiter told, in ascending semaphore and in order of waiting. -/
def State.semTimeouts (s : State) (sp : Nat) (hit : Nat → Bool) : State :=
  let out := (s.waitedSems sp).flatMap (fun p => if hit p.1 then
    (p.2.waiters.filter (·.expired s.bellNum)).map (fun w => (p.1, w)) else [])
  if out.isEmpty then s
  else
    let s := s.snapshot sp hit
    let s := (s.waitedSems sp).foldl (fun (s : State) p => if hit p.1 then
      s.setSem sp p.1 { p.2 with waiters := p.2.waiters.filter (fun w => !w.expired s.bellNum) } else s) s
    out.foldl (fun (s : State) p => s.waitTimedOut sp p.2) (s.count (Reg.semTimeoutCnt sp) out.length)

/-- A wait reaches its time-out: waiters whose count is there are served first (R332). -/
def execSemWaitTimeout (spire : Fin 4) (sem : BitVec 12) (s : State) : Host.Outcome State Fault Refusal :=
  .next ((s.serveOne spire.val sem.toNat).semTimeouts spire.val (fun n => n = sem.toNat))

/-! ### Control writes to semaphores, and remote posts (R332, R335, R409) -/

/-- A write to SEM_COUNTn (R332). -/
def execSemCountWrite (actor : Actor) (spire : Fin 4) (sem : BitVec 12) (n : BitVec 16) (s : State) :
    Host.Outcome State Fault Refusal :=
  .next (s.guarded actor (Reg.semCount spire.val sem.toNat) (fun s =>
    s.setSem spire.val sem.toNat { s.sem spire.val sem.toNat with count := n.toNat }))

/-- Report a fault to the controller that made a control write: the companion's goes to the Spire's. -/
def State.faultToActor (s : State) (sp : Nat) (actor : Actor) (f : FaultInfo) : State :=
  match actor with
  | .companion => s.faultToSpire sp f
  | .spire t => s.faultToSpire t.val f
  | .keystone => s.faultToKey f
  | .management => s.faultToKey f

/-- A write to SEM_POSTn (R335): the companion's and another Spire's is a remote post; the others pass no window. -/
def State.postWrite (s : State) (actor : Actor) (sp n k : Nat) : State :=
  let x := match actor with
    | .companion => some 12
    | .spire t => if t.val = sp then none else some t.val
    | _ => none
  match x with
  | some x => match s.postRemote sp x (actorSource actor) 0xFFFF n k with
    | (t, none) => t
    | (t, some f) =>
      if f.code = F_WINDOW && (actor = .companion) then t else t.faultToActor sp actor f
  | none => match s.postSem sp n k (actorSource actor) false with
    | (t, none) => t
    | (t, some f) => t.faultToActor sp actor f

/-- A write to SEM_POSTn. -/
def execSemPostWrite (actor : Actor) (spire : Fin 4) (sem : BitVec 12) (n : BitVec 16) (s : State) :
    Host.Outcome State Fault Refusal :=
  .next (s.guarded actor (Reg.semPost spire.val sem.toNat) (fun s => s.postWrite actor spire.val sem.toNat n.toNat))

end Sys2Proof.Machine
end

