-- ==== Sys2Proof/Machine/Peer.lean ====
section
/-!
DEFINITION. Buttress ports (R403 to R413): flits and routing, remote packets, PEER_MOVE with its acknowledgements and
credits, and link delay.
-/
namespace Sys2Proof.Machine

/-- UP of a port. -/
def State.portUp (s : State) (p : Nat) : Bool := bit (s.reg (Reg.butStatus p)) 0

/-- Working lanes of a port. -/
def State.portLanes (s : State) (p : Nat) : Nat := s.fld (Reg.butStatus p) 7 2

/-- SOURCE of a port. -/
def srcPort (p : Nat) : Nat := srcSpire (p / 2) 7 (p % 2)

/-- Raise source 80 + k of the port in its Spire's Carillon (R418). -/
def State.raisePort (s : State) (p k : Nat) : State := s.raise (p / 2) (80 + 8 * (p % 2) + k)

/-- The replays of a link's present flit: one more, or the first of another flit (DEDUCED, log 72). -/
def State.replay (s : State) (link : Nat) (again : Bool) : State × Nat :=
  let n := if again then SMap.get (fun _ => 0) s.replays link + 1 else 1
  ({ s with replays := SMap.set (fun _ => 0) s.replays link n }, n)

/-- F_LINK of a port. -/
def State.portFault (s : State) (p reason acked : Nat) : FaultInfo :=
  linkFault (srcPort p) 1 p reason (s.portLanes p) (s.reg (Reg.butPeer p) % 0x10000) acked

/-- The node of this device. -/
def State.node (s : State) : Nat := s.reg (Reg.butNode 0) % 2 ^ 14

/-! ### Routing (R405) -/

/-- The route table's entry for a node, in BUT0 of the Spire of the arrival port (DEDUCED, log 72). -/
def State.route (s : State) (p dst : Nat) : Nat :=
  s.fld (Reg.butRoute (p / 2 * 2) (dst / 16)) (4 * (dst % 16) + 3) (4 * (dst % 16))

/-- A channel of some Spire ends with a fault: BYTES of PEER_MOVE. -/
def State.peerEnd (s : State) (sp ch : Nat) (c : Channel) (acked : Nat) (f : Option FaultInfo) : State :=
  s.channelEnd sp ch c 0x11 (leBytes 6 acked) f

/-- A packet for another node goes out of the port that the table names, or is dropped as unreachable: a command of
this device that it came from, on channel `ours`, ends with F_LINK (R405, R412) (DEDUCED, log 72). -/
def execPacketForward (port : Fin 8) (dst src : BitVec 14) (ours : Option (Fin 4 × Fin 16)) (s : State) :
    Host.Outcome State Fault Refusal :=
  let q := s.route port.val dst.toNat
  .next (
    if dst.toNat = s.node || q = 8 then s
    else if q < 8 && s.portUp q then s.send (.transit q dst.toNat src.toNat)
    else match ours with
      | none => s
      | some (sp, ch) => match s.channel sp.val ch.val with
        | some c => match c.work with
          | .peer _ p _ _ _ _ _ acked _ _ => s.peerEnd sp.val ch.val c acked (some (s.portFault p 0x05 acked))
          | _ => s
        | none => s)

/-! ### Remote writes that arrive (R118 to R121, R124, R406, R407) -/

/-- Whether the fused policy forbids remote writes on the port of a source index. -/
def State.portForbids (s : State) (x : Nat) : Bool :=
  match portOf x with
  | some p => bit (s.reg Reg.fusePolicy) p
  | none => false

/-- A packet that the fused policy forbids is dropped at its port (R406): the count, and Carillon source 85. -/
def State.policyDrop (s : State) (p : Nat) : State := (s.count (Reg.butPolicyDrop p) 1).raisePort p 5

/-- F_WINDOW of a port, with reason PORT_POLICY or TARGET. -/
def portWindowFault (p reason source node o n gen : Nat) : FaultInfo :=
  { code := F_WINDOW, source := srcPort p,
    detail := leBytes 1 reason ++ leBytes 1 0xFF ++ leBytes 2 source ++ leBytes 2 node ++ leBytes 4 o ++ leBytes 2 n ++
      leBytes 2 gen }

/-- Queue an accepted packet. -/
def State.queuePacket (s : State) (u : MemUnit) (p : Packet) : State :=
  match u with
  | .tower g => s.modTower g.val (fun t => { t with packets := t.packets ++ [p] })
  | .gallery sp =>
    let old := SMap.get (fun _ => []) s.galPackets sp.val
    { s with galPackets := SMap.set (fun _ => []) s.galPackets sp.val (old ++ [p]) }

/-- A packet reaches the stream port of a memory: written, when its sender is the owner, which passes no window (R124);
accepted, when a window or the credit admits it; or refused (R119, R120). -/
def State.packetAt (s : State) (u : MemUnit) (sd : Sender) (o : Nat) (data : List Byte) : State :=
  let port := portOf sd.x
  match (match u with
    | .gallery sp => if sd.x = sp.val || sd.x = 13 || sd.x = 14 then some sp.val else none
    | .tower _ => none) with
  | some sp => (s.galleryWrite sp o data sd.source).1
  | none => match s.packetCheck (unitRegs u) sd o data.length with
  | (s, some f) => s.answer port (fun q => .ack q 0 (some f))
  | (s, none) => s.queuePacket u { ofs := o, data := data, sender := sd.source, port := port }

/-- A remote packet of 1 to 256 bytes within one 256-byte row arrives. -/
def execRemoteWritePacket (dst : Dpa) (src : BitVec 4) (sender node gen : BitVec 16) (data : List Byte) (s : State) :
    Host.Outcome State Fault Refusal :=
  let x := src.toNat
  let a := dst.toNat
  let n := data.length
  let sd : Sender := { x := x, source := sender.toNat, node := node.toNat, gen := gen.toNat }
  .next (
    if n = 0 || 256 < a % 256 + n || x = 15 then s
    else if s.portForbids x then
      (s.policyDrop (x - 4)).send (.ack (x - 4) 0 (some (portWindowFault (x - 4) 0x06 sd.source sd.node a n sd.gen)))
    else match s.loc a with
      | .tower g o => s.packetAt (.tower (Fin.ofNat 68 g)) sd o data
      | .gallery sp o => s.packetAt (.gallery (Fin.ofNat 4 sp)) sd o data
      | _ => s.answer (portOf x) (fun q => .ack q 0 (some (portWindowFault q 0x07 sd.source sd.node a n sd.gen))))

/-- A post arrives from another Spire or over Buttress: `src` is its source index x (R335, R409). Its refusal returns to
the poster over the link; the fused policy of its port comes first (R406) (DEDUCED, log 72). -/
def execRemoteSemPost (spire : Fin 4) (src : BitVec 4) (sender node : BitVec 16) (sem : BitVec 12) (n : BitVec 16)
    (s : State) : Host.Outcome State Fault Refusal :=
  let x := src.toNat
  .next (
    if s.portForbids x then
      (s.policyDrop (x - 4)).send (.ack (x - 4) 0 (some
        (portWindowFault (x - 4) 0x06 sender.toNat node.toNat sem.toNat n.toNat 0)))
    else
      let (s, f) := s.postRemote spire.val x sender.toNat node.toNat sem.toNat n.toNat
      s.answer (portOf x) (fun q => .ack q 0 f))

/-! ### PEER_MOVE (R407, R408) -/

/-- PEER_MOVE starts on a channel. -/
def execPeerMove (o : Origin) (src : Dpa) (port : Fin 8) (node : BitVec 16) (dst : Dpa) (gen : BitVec 16)
    (len : BitVec 48) (s : State) : Host.Outcome State Fault Refusal :=
  let sp := o.spire.val
  .next (s.onEngine o 1 0x11 (fun s =>
    match s.rangeFault sp [(src.toNat, len.toNat)] with
    | some f => s.completeFault o 0x11 f
    | none =>
      if len = 0 then s.completeOk o 0x11
      else match s.idleChannel sp with
        | none => s
        | some ch => s.setChannel sp ch (some (s.newChannel o
            (.peer src.toNat port.val node.toNat dst.toNat gen.toNat len.toNat 0 0 0 s.bellNum)))))

/-- Send `n` bytes of a PEER_MOVE from where it stands. A fault of the source, or the abandonment of its entry, sends
nothing more: the command ends once what has been sent is acknowledged. -/
def State.peerSend (s : State) (sp ch n : Nat) : State :=
  match s.channel sp ch with
  | some c => match c.work with
    | .peer src p node dst gen len sent acked granted asked =>
      if !s.portUp p then s.peerEnd sp ch c acked (some (s.portFault p 0x05 acked))
      else match c.abandon with
      | some f => if acked = sent then s.peerEnd sp ch c acked (some f) else s
      | none =>
        let m := min n (len - sent)
        if m = 0 || s.segWaits (src + sent) m then s
        else
          let (t, bs, f) := s.underBands sp c.bands (fun s =>
            let r := s.readRange sp (srcSde sp) (src + sent) m false
            (r.s, r.bytes, r.fault))
          let k := bs.length
          let t := if k = 0 then t else t.send (.write p node (dst + sent) gen bs)
          let t := t.countSeg sp (src + sent) (src + sent) m
          if f.isSome && acked = sent + k then t.peerEnd sp ch c acked f
          else t.setChannel sp ch (some { c with
            abandon := f.map (·.met s.bellNum), work := .peer src p node dst gen len (sent + k) acked granted asked })
    | _ => s
  | none => s

/-- Send up to `n` bytes of a PEER_MOVE as segments (R248), until one has to wait or ends it; `k` bounds their number. -/
def State.peerSendUpTo : Nat → State → Nat → Nat → Nat → State
  | 0, s, _, _, _ => s
  | k + 1, s, sp, ch, n =>
    match s.channel sp ch with
    | some { work := .peer src _ _ _ _ len sent _ _ _, .. } =>
      let m := min n (s.segLen (src + sent) (src + sent) (len - sent))
      let t := s.peerSend sp ch m
      match t.channel sp ch with
      | some { work := .peer _ _ _ _ _ _ now _ _ _, abandon := none, .. } =>
        if m = 0 || now ≠ sent + m then t else State.peerSendUpTo k t sp ch (n - m)
      | _ => t
    | _ => s

/-- The channels of all Spires that run a PEER_MOVE on a port, in order, whose state satisfies `q` (sent, acknowledged,
length, granted). -/
def State.peersOn (s : State) (p : Nat) (q : Nat → Nat → Nat → Nat → Bool) : List (Nat × Nat × Channel) :=
  s.channels.filterMap (fun e => match e.2 with
    | some c => (match c.work with
      | .peer _ p' _ _ _ len sent acked granted _ =>
        if p' = p && q sent acked len granted then some (e.1 / 16, e.1 % 16, c) else none
      | _ => none)
    | none => none)

/-- Bytes of the oldest PEER_MOVE on a port are acknowledged, or refused with the receiver's record, which ends it
(R119, R407). -/
def execWriteAck (port : Fin 8) (bytes : BitVec 48) (fault : Option (List Byte)) (s : State) :
    Host.Outcome State Fault Refusal :=
  .next (match (s.peersOn port.val (fun sent acked _ _ => acked < sent)).head? with
    | none => s
    | some (sp, ch, c) => match c.work with
      | .peer src p node dst gen len sent acked granted asked =>
        let a := min sent (acked + bytes.toNat)
        match fault with
        | some r => (s.setChannel sp ch none).complete c.o 0x11 (leBytes 6 a) (some r)
        | none =>
          if a = len then s.peerEnd sp ch c a none
          else if a = sent && c.abandon.isSome then s.peerEnd sp ch c a c.abandon
          else s.setChannel sp ch (some { c with work := .peer src p node dst gen len sent a granted asked })
      | _ => s)

/-- Ask for the credit of the bytes that a PEER_MOVE has not sent (R408). -/
def State.askCredit (s : State) (sp ch : Nat) : State :=
  match s.channel sp ch with
  | some c => match c.work with
    | .peer _ p node _ _ len sent _ _ _ => if sent < len then s.send (.creditAsk p node ((len - sent + 4095) / 4096)) else s
    | _ => s
  | none => s

/-- A grant reaches the oldest PEER_MOVE on a port that has bytes to send: it sends at most the bytes granted, and asks
again for the rest; after a grant of 0 it waits (R408). -/
def execCreditGrant (port : Fin 8) (units : BitVec 16) (s : State) : Host.Outcome State Fault Refusal :=
  .next (match (s.peersOn port.val (fun sent _ len _ => sent < len)).head? with
    | none => s
    | some (sp, ch, c) => match c.work with
      | .peer src p node dst gen len sent acked granted _ =>
        if units = 0 then s
        else
          let n := 4096 * units.toNat
          let s := s.setChannel sp ch (some { c with
            work := .peer src p node dst gen len sent acked (granted + n) s.bellNum })
          (State.peerSendUpTo (n / 2048 + 2) s sp ch n).askCredit sp ch
      | _ => s)

/-- 1 µs after a grant of 0 the sender asks again. -/
def execCreditRetry (port : Fin 8) (s : State) : Host.Outcome State Fault Refusal :=
  .next (match (s.peersOn port.val (fun sent _ len _ => sent < len)).head? with
    | none => s
    | some (sp, ch, _) => s.askCredit sp ch)

/-- F_CREDIT with reason BALANCE of a PEER_MOVE (R408), in the layout of R120. -/
def peerCredit (sp p dst sent : Nat) : FaultInfo :=
  { code := F_CREDIT, source := srcSde sp,
    detail := leBytes 1 0x01 ++ leBytes 1 (4 + p) ++ leBytes 2 (srcSde sp) ++ leBytes 4 (dst + sent) ++ leBytes 2 0 ++
      leBytes 4 0 }

/-- No credit for 2 bells: the oldest PEER_MOVE on the port that has waited so long completes with F_CREDIT. -/
def execCreditTimeout (port : Fin 8) (s : State) : Host.Outcome State Fault Refusal :=
  .next (match (s.peersOn port.val (fun sent _ len _ => sent < len)).find? (fun e => match e.2.2.work with
      | .peer _ _ _ _ _ _ _ _ _ asked => asked + 2 ≤ s.bellNum
      | _ => false) with
    | none => s
    | some (sp, ch, c) => match c.work with
      | .peer _ p _ dst _ _ sent acked _ _ => s.peerEnd sp ch c acked (some (peerCredit sp p dst sent))
      | _ => s)

/-- A channel moves one segment (R248): PEER_MOVE sends it (DESIGN CHOICE, log 88). -/
def execStreamSegment (spire : Fin 4) (ch : Fin 16) (s : State) : Host.Outcome State Fault Refusal :=
  let sp := spire.val
  .next (match s.channel sp ch.val with
    | none => s
    | some c => match c.work with
      | .move a d n k => s.moveSegment sp ch.val c a d n k
      | .seq w => s.seqSegment sp ch.val c w
      | .peer src _ _ _ _ len sent _ _ _ => s.peerSend sp ch.val (s.segLen (src + sent) (src + sent) (len - sent)))

/-- Port echo flits measure the one-way delay (R410). -/
def execLinkDelayEcho (port : Fin 8) (delay : BitVec 32) (s : State) : Host.Outcome State Fault Refusal :=
  .next (s.setReg (Reg.butDelay port.val) delay.toNat)

end Sys2Proof.Machine
end

