-- ==== Sys2Proof/Machine/Coll.lean ====
section
/-!
DEFINITION. In-network collectives (R414 to R417) and the state of the Buttress ports (R404, R411, R412, R418).
-/
namespace Sys2Proof.Machine

/-! ### Elements -/

/-- Bytes of an element: BF16, FP32, an ACC42 interchange word (R56, R415). -/
def collBytes (fmt : Nat) : Nat := if fmt = 0 then 2 else if fmt = 1 then 4 else 8

/-- The descriptor format that names a tensor of the elements, and the descriptor's elements per element. -/
def collFmt (fmt : Nat) : Nat := if fmt = 0 then 9 else if fmt = 1 then 0xA else 8
def collWords (fmt : Nat) : Nat := if fmt = 2 then 2 else 1

/-- The number of elements of a tensor, and the index tuple of the n-th, dimension 0 fastest (DESIGN CHOICE, log 34). -/
def Desc.total (d : Desc) : Nat := (List.range d.rank).foldl (fun p k => p * d.size k) 1
def Desc.nth (d : Desc) (n : Nat) : List Int :=
  (List.range 6).map (fun k =>
    let below := (List.range k).foldl (fun p m => p * d.size m) 1
    ((if k < d.rank then n / below % d.size k else 0 : Nat) : Int))

/-- Runs of `w`-byte cells with consecutive addresses: address (none for cells that are not there) and bytes. -/
def cellRuns (w : Nat) (cells : List (Option Nat)) : List (Option Nat × Nat) :=
  (cells.foldl (fun (acc : List (Option Nat × Nat)) c => match acc, c with
    | (some a, n) :: t, some x => if x = a + n then (some a, n + w) :: t else (some x, w) :: acc
    | (none, n) :: t, none => (none, n + w) :: t
    | acc, c => (c, w) :: acc) []).reverse

/-- Read the descriptor's elements lo to lo + n - 1: positions beyond TENTATIVE of a KV tensor read as zero (R93). -/
def State.readCells (s : State) (sp : Nat) (d : Desc) (lo n : Nat) : State × List Byte × Option FaultInfo :=
  let w := elemBytes d.fmt
  let cells := (List.range n).map (fun i => match d.readAt d.aux1 (d.nth (lo + i)) with
    | .zero => none
    | .at idx _ => some (d.elemAddr (d.pos idx)))
  (cellRuns w cells).foldl (fun (a : State × List Byte × Option FaultInfo) r =>
    match a.2.2, r.1 with
    | some _, _ => a
    | none, none => (a.1, a.2.1 ++ List.replicate r.2 0, none)
    | none, some x =>
      let q := a.1.readRange sp (srcSde sp) x r.2 false
      (q.s, a.2.1 ++ q.bytes, q.fault)) (s, [], none)

/-- COMMITTED as an operation through a KV descriptor samples it (R79, R95). -/
def State.committedNow (s : State) (sp : Nat) (h : BitVec 32) (d : Desc) : State × Except FaultInfo Nat :=
  if !d.kv then (s, .ok 0)
  else match s.fetchEntry (.sde sp) (srcSde sp) h.toNat with
    | (s, .error f) => (s, .error f)
    | (s, .ok b) => (s, .ok (parseDesc b).aux0)

/-- Write the descriptor's elements from lo up, and the update of R92 for those that were stored: writes below COMMITTED are
suppressed (R91). The number of elements passed before a fault, and the fault. -/
def State.writeCells (s : State) (sp : Nat) (h : BitVec 32) (d : Desc) (lo : Nat) (bs : List Byte) :
    State × Nat × Option FaultInfo :=
  let w := elemBytes d.fmt
  let n := bs.length / w
  match s.committedNow sp h d with
  | (s, .error f) => (s, 0, some f)
  | (s, .ok committed) =>
  let at_ := (List.range n).map (fun i => d.writeAt committed (d.nth (lo + i)))
  let cells := at_.map (fun c => c.map (fun idx => d.elemAddr (d.pos idx)))
  let (t, k, f) := (cellRuns w cells).foldl (fun (a : State × Nat × Option FaultInfo) r =>
    match a.2.2, r.1 with
    | some _, _ => a
    | none, none => (a.1, a.2.1 + r.2, none)
    | none, some x =>
      let (t, got, f) := a.1.putRange sp { x := sp, source := srcSde sp, node := 0xFFFF, gen := d.gen } false x
        ((bs.drop a.2.1).take r.2)
      (t, a.2.1 + (if f.isSome then got else r.2), f)) (s, 0, none)
  (t.kvWritten h d ((at_.take (k / w)).foldl (fun m c => match c with
    | some idx => maxTop m (idx.getD d.seqDim 0)
    | none => m) none), k / w, f)

/-- Values of elements as bytes, and back. -/
def packVals (fmt : Nat) (vs : List Nat) : List Byte := vs.flatMap (fun v => leBytes (collBytes fmt) v)
def unpackVals (fmt n : Nat) (bs : List Byte) : List Nat :=
  (List.range n).map (fun i => leNat ((bs.drop (collBytes fmt * i)).take (collBytes fmt)))

/-- Combine two elements (R415): ACC42 words are renormalised on entry (R51) and OR their flags; a sum sets SAT on overflow
(R54, R56), and the value of a maximum is not stated (DESIGN CHOICE, log 35). -/
def combine (fmt cmb seed a b : Nat) : Nat :=
  if fmt = 2 then
    if cmb = 1 then bits (Config.unstated (a * 2 ^ 64 + b) 0x40).toNat 41 0 + bits (a ||| b) 43 42 <<< 42
    else
      let (v, ovf) := accOf (dyAdd (accVal (accCanon (a % 2 ^ 42))) (accVal (accCanon (b % 2 ^ 42))))
      v + (bits (a ||| b) 43 42 ||| ofBool ovf * 2) <<< 42
  else
    let ty := 1 - fmt
    if cmb = 1 then laneMax ty seed a b else laneAdd ty seed a b

/-! ### Collectives in progress -/

/-- Collective `k` of a Spire. -/
def State.coll (s : State) (sp k : Nat) : Option CollOp := SMap.get (fun _ => none) s.colls (16 * sp + k)

/-- Replace a collective. -/
def State.setColl (s : State) (sp k : Nat) (c : Option CollOp) : State :=
  { s with colls := SMap.set (fun _ => none) s.colls (16 * sp + k) c }

/-- The dimensions of a mask, ascending. -/
def collDims (mask : Nat) : List Nat := below 8 (fun d => bit mask d)

/-- The steps of a collective (R414): dimension, and whether it gathers. -/
def collSteps (kind mask : Nat) : List (Nat × Bool) :=
  let up := (collDims mask).map (fun d => (d, false))
  let down := (collDims mask).reverse.map (fun d => (d, true))
  if kind = 0 then up ++ down else if kind = 1 then down else up

/-- The range of elements that a node keeps after the halvings of REDUCE_SCATTER: first element and count (R414). -/
def ownRange (node n : Nat) (dims : List Nat) : Nat × Nat :=
  dims.foldl (fun r d => (r.1 + (if bit node d then r.2 / 2 else 0), r.2 / 2)) (0, n)

/-- A collective ends: the elements delivered, and its fault. -/
def State.collEnd (s : State) (sp k : Nat) (c : CollOp) (f : Option FaultInfo) : State :=
  let s := s.setColl sp k none
  match f with
  | some f => s.completeFault c.o 0x40 f (leBytes 6 c.delivered)
  | none => s.completeOk c.o 0x40 (leBytes 6 c.delivered)

/-- Send an abort on the ports of a collective, but for one (R416, R417). -/
def State.collAbort (s : State) (c : CollOp) (code : Nat) (not : Option Nat) : State :=
  ((collDims c.mask).filter (fun d => some d ≠ not)).foldl (fun (s : State) d => s.send (.abort d code)) s

/-- Write the current range into the destination: RESULT counts the elements stored (R417) (DEDUCED, log 71). -/
def State.collDeliver (s : State) (sp : Nat) (c : CollOp) : State × CollOp × Option FaultInfo :=
  let m := collWords c.fmt
  let (t, k, f) := s.underBands sp c.bands (fun s =>
    s.writeCells sp c.dst (parseDesc c.dstDesc) (m * c.lo) (packVals c.fmt ((c.vals.drop c.lo).take c.len)))
  (t, { c with delivered := c.delivered + (if f.isSome then min c.len (k / m) else c.len) }, f)

/-- What a node sends as the next step of its collective begins (R414): the current range to gather, the half that the
partner keeps to reduce. -/
def CollOp.gives (c : CollOp) (node : Nat) : List LinkMsg :=
  match c.steps with
  | [] => []
  | (d, true) :: _ => [.coll d (packVals c.fmt ((c.vals.drop c.lo).take c.len))]
  | (d, false) :: _ =>
    let give := c.lo + (if bit node d then 0 else c.len / 2)
    [.coll d (packVals c.fmt ((c.vals.drop give).take (c.len / 2)))]

/-- A collective goes on to its next step, which begins; with no step left it is complete. `deliver`: the destination takes
the own range, as no step of reduction is left. -/
def State.collSettle (s : State) (sp k : Nat) (c : CollOp) (deliver : Bool) : State :=
  let (s, c, f) := if deliver then s.collDeliver sp c else (s, c, none)
  match f with
  | some f => s.collEnd sp k c (some f)
  | none =>
    if c.steps.isEmpty then s.collEnd sp k c none
    else (c.gives s.node).foldl State.send (s.setColl sp k (some c))

/-- The port whose neighbour is not the node that a dimension asks for (R414). -/
def State.badTopology (s : State) (mask : Nat) : Option Nat :=
  (collDims mask).find? (fun d => s.reg (Reg.butPeer d) % 2 ^ 14 ≠ s.node ^^^ 1 <<< d)

/-- The lowest free place for a collective: a Spire runs at most 16 (R330's chapter). -/
def State.freeColl (s : State) (sp : Nat) : Option Nat := (List.range 16).find? (fun k => (s.coll sp k).isNone)

/-- COLL of a kind starts (R414, R415): its checks, and the reading of the source. -/
def State.collStart (s : State) (o : Origin) (kind : Nat) (g : CollArgs) : State :=
  let sp := o.spire.val
  let fmt := g.format.toNat
  let mask := g.dims.toNat
  let n := g.elements.toNat
  let fail := fun (s : State) (f : FaultInfo) => s.completeFault o 0x40 f (leBytes 6 0)
  s.onEngine o 4 0x40 (fun s =>
    if 2 < fmt || 1 < g.combine.toNat then s.badCmd o 0x40
    else match s.freeColl sp with
    | none => s
    | some k =>
    match s.badTopology mask with
    | some d => fail s (s.portFault d 0x07 0)
    | none =>
    if n % 2 ^ (collDims mask).length ≠ 0 then fail s (descFault (srcSde sp) 0x07)
    else match s.fetchDesc (.sde sp) (srcSde sp) g.src.toNat with
    | (s, .error f) => fail s f
    | (s, .ok sb) =>
    match s.fetchDesc (.sde sp) (srcSde sp) g.dst.toNat with
    | (s, .error f) => fail s f
    | (s, .ok db) =>
      let bad := fun (d : Desc) => d.fmt ≠ collFmt fmt || d.total < collWords fmt * n
      if bad (parseDesc sb) then fail s (descFault (srcSde sp) 0x05 (handle := g.src.toNat))
      else if bad (parseDesc db) then fail s (descFault (srcSde sp) 0x05 (handle := g.dst.toNat))
      else match (collDims mask).find? (fun d => !s.portUp d) with
      | some d => fail s (s.portFault d 0x02 0)
      | none =>
      let (s, bs, f) := s.readCells sp (parseDesc sb) 0 (collWords fmt * n)
      match f with
      | some f => fail s f
      | none =>
        let (lo, len) := if kind = 1 then ownRange s.node n (collDims mask) else (0, n)
        let c : CollOp :=
          { o := o, kind := kind, fmt := fmt, cmb := g.combine.toNat, mask := mask, src := g.src, dst := g.dst,
            dstDesc := db, vals := unpackVals fmt n bs, lo := lo, len := len, steps := collSteps kind mask, delivered := 0,
            bands := s.bandsOf sp }
        s.collSettle sp k c (kind = 1 || mask = 0))

/-- ALL_REDUCE. -/
def execCollAllReduce (o : Origin) (g : CollArgs) (s : State) : Host.Outcome State Fault Refusal :=
  .next (s.collStart o 0 g)

/-- ALL_GATHER. -/
def execCollAllGather (o : Origin) (g : CollArgs) (s : State) : Host.Outcome State Fault Refusal :=
  .next (s.collStart o 1 g)

/-- REDUCE_SCATTER. -/
def execCollReduceScatter (o : Origin) (g : CollArgs) (s : State) : Host.Outcome State Fault Refusal :=
  .next (s.collStart o 2 g)

/-- `l` with its entries from `lo` up replaced by `xs`. -/
def patchVals (l : List Nat) (lo : Nat) (xs : List Nat) : List Nat := l.take lo ++ xs ++ l.drop (lo + xs.length)

/-- One step of reduction over dimension d: keep the half of the range that the own node's bit names, and combine the
partner's with bit d = 0 first (R414); the other half went out as the step began. -/
def State.reduceStep (s : State) (sp k : Nat) (c : CollOp) (d : Nat) (rest : List (Nat × Bool)) (data : List Byte) :
    State :=
  let hi := bit s.node d
  let h := c.len / 2
  let keep := c.lo + (if hi then h else 0)
  let theirs := unpackVals c.fmt h data
  let mine := (c.vals.drop keep).take h
  let out := (List.range h).map (fun i =>
    let a := mine.getD i 0
    let b := theirs.getD i 0
    if hi then combine c.fmt c.cmb (s.seed (keep + i)) b a else combine c.fmt c.cmb (s.seed (keep + i)) a b)
  s.draw.collSettle sp k { c with vals := patchVals c.vals keep out, lo := keep, len := h, steps := rest }
    (!rest.any (fun e => !e.2))

/-- One step of gathering over dimension d: the partner's range doubles the current one, which went out as the step began. -/
def State.gatherStep (s : State) (sp k : Nat) (c : CollOp) (d : Nat) (rest : List (Nat × Bool)) (data : List Byte) :
    State :=
  let theirs := if bit s.node d then c.lo - c.len else c.lo + c.len
  let got := { c with vals := patchVals c.vals theirs (unpackVals c.fmt c.len data), lo := theirs }
  let (s, got, f) := s.collDeliver sp got
  let c' := { got with lo := min c.lo theirs, len := 2 * c.len, steps := rest }
  match f with
  | some f => s.collEnd sp k c' (some f)
  | none => s.collSettle sp k c' false

/-- F_CHECKSUM of a collective (R416): site 4, and the element. -/
def collCheck (sp elem : Nat) : FaultInfo :=
  { code := F_CHECKSUM, source := srcSpire sp 7 0,
    detail := leBytes 1 0xFF ++ leBytes 1 0 ++ leBytes 2 elem ++ leBytes 2 0xFFFF ++ leBytes 4 0 ++ leBytes 1 4 }

/-- A step of a collective: the partner's data of the step arrive whole, or a comparison or a CRC fails (R414, R416). -/
def execCollStep (spire : Fin 4) (op : Fin 16) (data : List Byte) (bad : Option CheckFail) (s : State) :
    Host.Outcome State Fault Refusal :=
  let sp := spire.val
  let k := op.val
  .next (match s.coll sp k with
    | none => s
    | some c => match c.steps with
      | [] => s
      | (d, up) :: rest =>
        match bad with
        | some b => (s.collAbort c F_CHECKSUM none).collEnd sp k c (some (collCheck sp b.row.toNat))
        | none =>
          if data.length ≠ collBytes c.fmt * (if up then c.len else c.len / 2) then s
          else if up then s.gatherStep sp k c d rest data
          else s.reduceStep sp k c d rest data)

/-- The fault with which a collective ends on an abort of a code (R417). -/
def State.abortFault (s : State) (sp p code : Nat) : FaultInfo :=
  if code = F_DEADLINE then
    { code := code, source := srcSpire sp 3 0, detail := List.replicate 3 0 ++ leBytes 1 1 ++ List.replicate 12 0 }
  else if code = F_LINK then s.portFault p 0x06 0
  else { code := code, source := srcSpire sp 7 0,
         detail := leBytes 1 0xFF ++ leBytes 1 0 ++ leBytes 2 0 ++ leBytes 2 0xFFFF ++ leBytes 4 0 ++ leBytes 1 4 }

/-- An abort arrives on a port of a collective: it goes on to the other ports, and ends the collective (R417). -/
def execCollAbortReceived (spire : Fin 4) (op : Fin 16) (port : Fin 8) (code : Byte) (s : State) :
    Host.Outcome State Fault Refusal :=
  let sp := spire.val
  .next (match s.coll sp op.val with
    | none => s
    | some c =>
      if bit c.mask port.val then
        (s.collAbort c code.toNat (some port.val)).collEnd sp op.val c (some (s.abortFault sp port.val code.toNat))
      else s)

/-- No data of the partner of the step arrives within BUT_COLL_TIMEOUT (R417). -/
def execCollPartnerTimeout (spire : Fin 4) (op : Fin 16) (s : State) : Host.Outcome State Fault Refusal :=
  let sp := spire.val
  .next (match s.coll sp op.val with
    | none => s
    | some c => match c.steps with
      | [] => s
      | (d, _) :: _ => s.collEnd sp op.val c (some (s.portFault d 0x06 0)))

/-- A collective ends at its entry's deadline (R359, R417): it sends an abort. -/
def State.collAbandon (s : State) (sp k : Nat) (f : FaultInfo) : State :=
  match s.coll sp k with
  | none => s
  | some c => (s.collAbort c F_DEADLINE none).collEnd sp k c (some f)

/-! ### Ports -/

/-- A port goes down (R412): its state, Carillon source 80, and the record of F_LINK with source 84; PEER_MOVEs with bytes
on the way, and collectives over the port, end (DEDUCED, log 72). -/
def State.portDown (s : State) (p reason : Nat) : State :=
  if !s.portUp p then s
  else
    let s := { s.setFld (Reg.butStatus p) 0 0 0 with
      replays := SMap.set (fun _ => 0) s.replays p 0, training := SMap.set (fun _ => false) s.training p false }
    let s := ((s.raisePort p 0).faultToSpire (p / 2) (s.portFault p reason 0)).raisePort p 4
    let s := (s.peersOn p (fun sent acked _ _ => acked < sent)).foldl (fun (s : State) e => match e.2.2.work with
      | .peer _ _ _ _ _ _ _ acked _ _ => s.peerEnd e.1 e.2.1 e.2.2 acked (some (s.portFault p 0x02 acked))
      | _ => s) s
    (below 64 (fun i => match s.coll (i / 16) (i % 16) with
      | some c => bit c.mask p
      | none => false)).foldl (fun (s : State) i => match s.coll (i / 16) (i % 16) with
        | some c => s.collEnd (i / 16) (i % 16) c (some (s.portFault p 0x02 0))
        | none => s) s

/-- A port goes down. -/
def execButPortDown (port : Fin 8) (s : State) : Host.Outcome State Fault Refusal := .next (s.portDown port.val 0x02)

/-- A flit fails its CRC and is replayed (R404): the count, Carillon source 83 at each multiple of 65,536, and the port's
fall at the eighth consecutive replay of one flit (R412). -/
def execButFlitCrcFail (port : Fin 8) (again : Bool) (s : State) : Host.Outcome State Fault Refusal :=
  let p := port.val
  let c := Reg.butReplayCnt p
  let (s, n) := (s.count c 1).replay p again
  let s := if s.reg c % 65536 = 0 then s.raisePort p 3 else s
  .next (if 8 ≤ n then s.portDown p 0x01 else s)

/-- A port completes training (R412): the neighbour's node, its lanes; Carillon source 80 when it was down, 82 when it is
newly degraded (R418) (DEDUCED, log 72). -/
def execButPortUp (port : Fin 8) (node : BitVec 14) (lanes : BitVec 6) (s : State) : Host.Outcome State Fault Refusal :=
  let p := port.val
  let s := if lanes.toNat < 32 && !bit (s.reg (Reg.butStatus p)) 1 then s.raisePort p 2 else s
  let s := if s.portUp p then s else s.raisePort p 0
  let s := s.setReg (Reg.butPeer p) node.toNat
  let s := s.setReg (Reg.butStatus p) (lanes.toNat * 4 + ofBool (lanes.toNat < 32) * 2 + 1)
  let s := { s with
    replays := SMap.set (fun _ => 0) s.replays p 0, training := SMap.set (fun _ => false) s.training p false }
  .next s

/-- A receiver loses lock: the port trains again, and sends no bell frames meanwhile (R410, R412). -/
def execButLossOfLock (port : Fin 8) (s : State) : Host.Outcome State Fault Refusal :=
  .next { s with training := SMap.set (fun _ => false) s.training port.val true }

/-- Spare lanes that a port has left, and BUT of KEY_CULLET_POOL2: the fewest of any port. -/
def State.spareLanes (s : State) (p : Nat) : Nat :=
  ofBool (s.fld (Reg.butLaneMap p) 7 0 = 0xFF) + ofBool (s.fld (Reg.butLaneMap p) 15 8 = 0xFF)
def State.poolLanes (s : State) : State :=
  s.setFld Reg.keyCulletPool2 17 16 (((List.range 8).map s.spareLanes).foldl min 2)

/-- A failed lane takes the next spare of its port, if there is one (R411). -/
def State.takeLane (s : State) (p lane : Nat) : State :=
  let m := Reg.butLaneMap p
  (if s.fld m 7 0 = 0xFF then s.setFld m 7 0 lane else if s.fld m 15 8 = 0xFF then s.setFld m 15 8 lane else s).poolLanes

/-- A lane fails (R411): its traffic moves to a spare; a third failure leaves 16 lanes, and fewer than 16 take the port
down (R412). -/
def execButLaneFail (port : Fin 8) (lane : BitVec 6) (s : State) : Host.Outcome State Fault Refusal :=
  let p := port.val
  let n := s.portLanes p - 1
  let s := s.setFld (Reg.butStatus p) 7 2 n
  .next (
    if n < 16 then s.portDown p 0x02
    else if s.spareLanes p ≠ 0 then (s.takeLane p lane.toNat).raisePort p 1
    else if bit (s.reg (Reg.butStatus p)) 1 then s
    else
      let s := s.setFld (Reg.butStatus p) 1 1 1
      ({ s with training := SMap.set (fun _ => false) s.training p true } : State).raisePort p 2)

end Sys2Proof.Machine
end

