-- ==== Sys2Proof/Machine/PkeCheck.lean ====
section
/-!
DEFINITION. The validation of public-key inputs (R436, R437): each check gives the status of its column.
-/
namespace Sys2Proof.Machine
open Sys2Proof.Crypto

def P_ZERO : Nat := 0x01
def P_ONE : Nat := 0x02
def P_RANGE : Nat := 0x03
def P_NOT_ON_CURVE : Nat := 0x04
def P_SMALL_ORDER : Nat := 0x05
def P_FORMAT : Nat := 0x06
def P_SIG_INVALID : Nat := 0x07
def P_ABORTED : Nat := 0x08
def P_SLOT : Nat := 0x09
def P_ENTROPY : Nat := 0x0A

/-- The columns of R436, left to right. -/
def pkeColumns : List Nat := [P_FORMAT, P_SLOT, P_RANGE, P_ZERO, P_ONE, P_NOT_ON_CURVE, P_SMALL_ORDER]

/-- The status of the first column whose check fails, 0 for none. -/
def firstStatus (bad : List Nat) : Nat := (pkeColumns.find? bad.contains).getD 0

/-- The checks that hold, as the statuses they give. -/
def badList (l : List (Bool × Nat)) : List Nat := (l.filter (·.1)).map (·.2)

/-- An Ed448 point. -/
def edPointBad (b : List Byte) : List Nat :=
  let y := field b 55 0
  let sign := byteAt b 56 / 128
  badList [(byteAt b 56 % 128 ≠ 0, P_FORMAT), (p448 ≤ y, P_RANGE), (y = 1 && sign = 0, P_ONE),
    ((edX (y % p448) sign).isNone, P_NOT_ON_CURVE), (y = 0 || y = 1 || y = p448 - 1, P_SMALL_ORDER)]

/-- S of an Ed448 signature. -/
def edScalarBad (b : List Byte) : List Nat := badList [(l448 ≤ leNat b, P_RANGE)]

/-- An X448 value u. -/
def x448Bad (b : List Byte) : List Nat :=
  let u := leNat b
  badList [(p448 ≤ u, P_RANGE), (u = 0, P_ZERO), (u = 1, P_ONE), (!onCurve448 (u % p448), P_NOT_ON_CURVE),
    (u = p448 - 1, P_SMALL_ORDER)]

/-- A P-384 point. -/
def p384PointBad (b : List Byte) : List Nat :=
  let x := beNat (b.take 48)
  let y := beNat ((b.drop 48).take 48)
  badList [(p384 ≤ x || p384 ≤ y, P_RANGE), (x = 0 && y = 0, P_ZERO), (!onP384 (x % p384) (y % p384), P_NOT_ON_CURVE)]

/-- r and s of an ECDSA signature. -/
def p384SigBad (b : List Byte) : List Nat :=
  let r := beNat (b.take 48)
  let s := beNat ((b.drop 48).take 48)
  badList [(n384 ≤ r || n384 ≤ s, P_RANGE), (r = 0 || s = 0, P_ZERO)]

/-- RSA n and e; `n` bytes of modulus. -/
def rsaKeyBad (n : Nat) (b : List Byte) : List Nat :=
  let m := beNat (b.take n)
  let e := beNat ((b.drop n).take 4)
  badList [(m % 2 = 0 || m < 2 ^ (8 * n - 1) || e % 2 = 0 || e < 3, P_FORMAT)]

/-- RSA s. -/
def rsaSigBad (m s : Nat) : List Nat :=
  badList [(m ≤ s, P_RANGE), (s = 0, P_ZERO), (s = 1, P_ONE), (s + 1 = m, P_SMALL_ORDER)]

end Sys2Proof.Machine
end

