-- ==== Sys2Proof/Machine/Limb.lean ====
section
/-!
DEFINITION. Limbs and their arithmetic (R252, R253, R259, R273 to R276): the evaluation order, the transforms, base
conversion, automorphisms, and the key switch. A limb is the list of its N words.
-/
namespace Sys2Proof.Seal
open Sys2Proof.Crypto

/-- The radices of the evaluation order, least significant first: 16, …, 16, f (R253). -/
def radices (logn : Nat) : List Nat :=
  List.replicate (logn / 4) 16 ++ (if logn % 4 = 0 then [] else [2 ^ (logn % 4)])

/-- The digits of `p` over radices, in the reverse order of significance. -/
def digitRev (rs : List Nat) (p : Nat) : Nat :=
  (rs.foldl (fun (a : Nat × Nat) r => (a.1 / r, a.2 * r + a.1 % r)) (p, 0)).2

/-- The evaluation order ρ and its inverse. -/
def rho (logn p : Nat) : Nat := digitRev (radices logn) p
def rhoInv (logn p : Nat) : Nat := digitRev (radices logn).reverse p

/-- The smallest k from `k` up with k^n ≡ -1 modulo q; the first argument bounds the search. -/
def findRoot (q n : Nat) : Nat → Nat → Nat
  | 0, k => k
  | f + 1, k => if powMod k n q = q - 1 then k else findRoot q n f (k + 1)

/-- The canonical root of a prime: the smallest positive primitive 2N-th root of unity (R259). -/
def psi (q logn : Nat) : Nat := findRoot q (2 ^ logn) q 1

/-- The entries at even and at odd places. -/
def evens {α : Type} : List α → List α
  | [] => []
  | [a] => [a]
  | a :: _ :: t => a :: evens t
def odds {α : Type} : List α → List α
  | [] => []
  | [_] => []
  | _ :: b :: t => b :: odds t

/-- Two lists one after the other, entry by entry. -/
def interleave {α : Type} : List α → List α → List α
  | a :: s, b :: t => a :: b :: interleave s t
  | s, t => s ++ t

/-- Multiply word i by z · w^i. -/
def twist (q z w : Nat) : List Nat → List Nat
  | [] => []
  | a :: t => a * z % q :: twist q (z * w % q) w t

/-- The values of a polynomial of 2^k coefficients at z^(2i + 1), i = 0, 1, …, for a primitive 2^(k+1)-th root z. -/
def evalOdd (q : Nat) : Nat → Nat → List Nat → List Nat
  | 0, _, f => f
  | k + 1, z, f =>
    let z2 := z * z % q
    let e := evalOdd q k z2 (evens f)
    let o := twist q z z2 (evalOdd q k z2 (odds f))
    List.zipWith (fun a b => (a + b) % q) e o ++ List.zipWith (subMod q) e o

/-- The polynomial with given values at z^(2i + 1); `zi` is the inverse of z, `half` that of 2. -/
def interpOdd (q half : Nat) : Nat → Nat → List Nat → List Nat
  | 0, _, v => v
  | k + 1, zi, v =>
    let n := 2 ^ k
    let lo := v.take n
    let hi := v.drop n
    let z2 := zi * zi % q
    let e := List.zipWith (fun a b => (a + b) * half % q) lo hi
    let o := twist q zi z2 (List.zipWith (fun a b => subMod q a b * half % q) lo hi)
    interleave (interpOdd q half k z2 e) (interpOdd q half k z2 o)

/-- Take the words in another order. -/
def reorder (n : Nat) (f : Nat → Nat) (v : List Nat) : List Nat :=
  let a := v.toArray
  (List.range n).map (fun p => a.getD (f p) 0)

/-- The forward transform of a limb: coefficient form to NTT form (R252, R273). -/
def ntt (q logn : Nat) (f : List Nat) : List Nat :=
  reorder (2 ^ logn) (rho logn) (evalOdd q logn (psi q logn) f)

/-- The inverse transform. -/
def intt (q logn : Nat) (v : List Nat) : List Nat :=
  interpOdd q ((q + 1) / 2) logn (invMod q (psi q logn)) (reorder (2 ^ logn) (rhoInv logn) v)

/-- Output word p' of the automorphism x ↦ x^g takes input word p with 2ρ(p) + 1 ≡ g (2ρ(p') + 1) modulo 2N (R275). -/
def automorph (logn g : Nat) (v : List Nat) : List Nat :=
  let n := 2 ^ logn
  reorder n (fun p => rhoInv logn ((g * (2 * rho logn p + 1) % (2 * n) - 1) / 2)) v

/-- Word by word. -/
def addW (q : Nat) (a b : List Nat) : List Nat := List.zipWith (fun x y => (x + y) % q) a b
def subW (q : Nat) (a b : List Nat) : List Nat := List.zipWith (subMod q) a b
def mulW (q : Nat) (a b : List Nat) : List Nat := List.zipWith (fun x y => x * y % q) a b
def scaleW (q c : Nat) (a : List Nat) : List Nat := a.map (fun x => x * c % q)

/-- The product of a list. -/
def prod (l : List Nat) : Nat := l.foldl (· * ·) 1

/-- Base conversion of limbs in coefficient form from source primes to a target prime, without correction (R274). -/
def baseConv (n : Nat) (qs : List Nat) (xs : List (List Nat)) (t : Nat) : List Nat :=
  let terms := (qs.zip xs).map (fun p =>
    let hat := prod (qs.filter (· ≠ p.1))
    scaleW t (hat % t) (scaleW p.1 (invMod p.1 (hat % p.1)) p.2))
  terms.foldl (addW t) (List.replicate n 0)

/-- Limbs in NTT form over `qs ++ ps`, divided by the product of `ps`: the limbs over `qs` (R276 step 5). -/
def modDown (logn : Nat) (qs ps : List Nat) (xs : List (List Nat)) : List (List Nat) :=
  if ps.isEmpty then xs
  else
    let top := List.zipWith (fun p x => intt p logn x) ps (xs.drop qs.length)
    List.zipWith (fun q x =>
      let y := ntt q logn (baseConv (2 ^ logn) ps top q)
      scaleW q (invMod q (prod ps % q)) (subW q x y)) qs xs

/-- One digit of a key switch, extended to every prime: the digit's own limbs stand, the others come by base conversion
(R276 steps 2 and 3). `lo` is the first limb of the digit. -/
def extend (logn : Nat) (all : List Nat) (dig : List Nat) (lo : Nat) (d coef : List (List Nat)) : List (List Nat) :=
  all.zipIdx.map (fun p =>
    if lo ≤ p.2 && p.2 < lo + dig.length then (d.drop (p.2 - lo)).headD []
    else ntt p.1 logn (baseConv (2 ^ logn) dig coef p.1))

/-- The inner product of the digits with one half of the key (R276 step 4): `keys` gives the key limbs of each digit. -/
def inner (n : Nat) (all : List Nat) (exts keys : List (List (List Nat))) : List (List Nat) :=
  (exts.zip keys).foldl (fun acc p =>
    List.zipWith (fun (qa : Nat × List Nat) (xy : List Nat × List Nat) => addW qa.1 qa.2 (mulW qa.1 xy.1 xy.2))
      (all.zip acc) (p.1.zip p.2)) (all.map (fun _ => List.replicate n 0))

/-- The key switch of a polynomial d (limbs in NTT form): the sums of the "a" and of the "b" half after the mod-down
(R276). `alpha` is the digit width, `qs` the current primes, `ps` the special ones; the keys are by digit and limb. -/
def keySwitch (logn alpha : Nat) (qs ps : List Nat) (d : List (List Nat)) (ka kb : List (List (List Nat))) :
    List (List Nat) × List (List Nat) :=
  let beta := (qs.length + alpha - 1) / alpha
  let all := qs ++ ps
  let coef := List.zipWith (fun q x => intt q logn x) qs d
  let exts := (List.range beta).map (fun k =>
    extend logn all ((qs.drop (k * alpha)).take alpha) (k * alpha) (d.drop (k * alpha)) ((coef.drop (k * alpha)).take alpha))
  let n := 2 ^ logn
  (modDown logn qs ps (inner n all exts ka), modDown logn qs ps (inner n all exts kb))

/-- Words of a limb as bytes, and back. -/
def packLimb (v : List Nat) : List Byte := v.flatMap (leBytes 4)
def unpackLimb : Nat → List Byte → List Nat
  | 0, _ => []
  | n + 1, bs => leNat (bs.take 4) :: unpackLimb n (bs.drop 4)

/-- The candidates of R303 that one squeezed block gives. -/
def blockWords (bs : List Byte) : List Nat := unpackLimb 34 bs

/-- Words below q from a sponge until `n` are found, with the number rejected; `k` bounds the blocks. -/
def sample (q : Nat) : Nat → Nat → List (BitVec 64) → List Nat × Nat
  | 0, _, _ => ([], 0)
  | k + 1, n, a =>
    if n = 0 then ([], 0)
    else
      -- candidates up to the n-th accepted one
      let (got, rej) := (blockWords ((laneBytes a).take 136)).foldl (fun (g : List Nat × Nat) w =>
        if g.1.length = n then g else if w < q then (g.1 ++ [w], g.2) else (g.1, g.2 + 1)) ([], 0)
      let (rest, r) := sample q k (n - got.length) (keccakF a)
      (got ++ rest, rej + r)

/-- The "a" limb of a key (R303), with the candidates rejected. -/
def seedLimb (q logn : Nat) (seed : List Byte) (kind index k l : Nat) : List Nat × Nat :=
  sample q (2 ^ logn) (2 ^ logn) (sponge (seed ++ leBytes 1 kind ++ leBytes 4 index ++ leBytes 1 k ++ leBytes 1 l))

end Sys2Proof.Seal
end

