-- ==== Sys2Proof/Machine/Pset.lean ====
section
/-!
DEFINITION. Parameter sets (R259 to R263): the record, its checks, the slots of each Spire, builds and flips.
-/
namespace Sys2Proof.Machine
open Sys2Proof.Seal

/-! ### The record (R259) -/

def psScheme (r : List Byte) : Nat := byteAt r 0
def psLogn (r : List Byte) : Nat := byteAt r 1
def psLmax (r : List Byte) : Nat := byteAt r 2
def psK (r : List Byte) : Nat := byteAt r 3
def psDnum (r : List Byte) : Nat := byteAt r 4
def psG (r : List Byte) : Nat := byteAt r 5
def psL0 (r : List Byte) : Nat := byteAt r 6
def psAnnealLevel (r : List Byte) : Nat := byteAt r 7
/-- MUL_LOSS, PMUL_LOSS, KSW_LOSS, RESCALE_LOSS, ANNEAL_BUDGET, DEFAULT_SCALE: k = 0 to 5. -/
def psLoss (r : List Byte) (k : Nat) : Nat := field r (9 + 2 * k) (8 + 2 * k)
def psTmod (r : List Byte) : Nat := field r 23 20
def psId (r : List Byte) : Nat := field r 31 24
def psQ (r : List Byte) (i : Nat) : Nat := field r (35 + 4 * i) (32 + 4 * i)
def psP (r : List Byte) (j : Nat) : Nat := field r (291 + 4 * j) (288 + 4 * j)
def psLogQ (r : List Byte) (i : Nat) : Nat := field r (353 + 2 * i) (352 + 2 * i)
def psLogP (r : List Byte) (j : Nat) : Nat := field r (481 + 2 * j) (480 + 2 * j)
/-- The current primes q_0 to q_(l-1), and the special primes. -/
def psQs (r : List Byte) (l : Nat) : List Nat := (List.range l).map (psQ r)
def psPs (r : List Byte) : List Nat := (List.range (psK r)).map (psP r)
/-- Division rounded up. -/
def ceilDiv (a b : Nat) : Nat := (a + b - 1) / b
/-- The digit width α. -/
def psAlpha (r : List Byte) : Nat := ceilDiv (psLmax r) (psDnum r)
/-- Limbs of a key page, pages of a digit, pages of a key (R291). -/
def psLambda (r : List Byte) : Nat := 0x20_0000 / (4 * 2 ^ psLogn r)
def psDigitPages (r : List Byte) : Nat := ceilDiv (psLmax r) (psLambda r) + ceilDiv (psK r) (psLambda r)
def psKeyPages (r : List Byte) : Nat := psDnum r * psDigitPages r

/-! ### Checks of PSET_LOAD (R260) -/

/-- Whether a number below 2^32 is prime, by trial division. -/
def isPrime (n : Nat) : Bool :=
  2 ≤ n && (List.range 65536).all (fun d => d < 2 || n < d * d || n % d ≠ 0)

/-- log2 of a number with 8 fraction bits, rounded to nearest (R259). -/
def logFix (q : Nat) : Nat := ((q ^ 512).log2 + 1) / 2

/-- The bound on log2 of the product of the primes (R260). -/
def logBound (logn : Nat) : Nat :=
  if logn = 14 then 438 else if logn = 15 then 881 else if logn = 16 then 1792 else 3584

/-- Fields in range, reserved bytes zero (R259, R260). -/
def psFieldsOk (r : List Byte) : Bool :=
  let lmax := psLmax r
  psScheme r ≤ 1 && 14 ≤ psLogn r && psLogn r ≤ 17 && 1 ≤ lmax && lmax ≤ 64 && psK r ≤ 16 && 1 ≤ psDnum r &&
    psDnum r ≤ lmax && (psG r = 1 || psG r = 2) && 1 ≤ psL0 r && psL0 r ≤ lmax && (lmax - psL0 r) % psG r = 0 &&
    psL0 r + psG r * psAnnealLevel r ≤ lmax && (psScheme r = 1 || psTmod r = 0)

/-- Unused entries of the four arrays are zero. -/
def psUnusedOk (r : List Byte) : Bool :=
  ((List.range 64).drop (psLmax r)).all (fun i => psQ r i = 0 && psLogQ r i = 0) &&
    ((List.range 16).drop (psK r)).all (fun j => psP r j = 0 && psLogP r j = 0)

/-- The primes are distinct, prime, ≡ 1 modulo 2N and within their bounds; the logarithms agree. -/
def psPrimesOk (r : List Byte) : Bool :=
  let ps := psQs r (psLmax r) ++ psPs r
  let logs := (List.range (psLmax r)).map (psLogQ r) ++ (List.range (psK r)).map (psLogP r)
  ps.eraseDups.length = ps.length && ps.all (fun q => 942 * 2 ^ 32 ≤ 1000 * q && q % (2 * 2 ^ psLogn r) = 1 && isPrime q) &&
    (ps.zip logs).all (fun e => logFix e.1 = e.2)

/-- F_PARAM of PSET_LOAD (R283). -/
def psetFault (reason slot dpa : Nat) : FaultInfo :=
  { code := F_PARAM, source := srcKey 0 0,
    detail := leBytes 1 reason ++ leBytes 1 0xFF ++ leBytes 1 slot ++ leBytes 1 0 ++ leBytes 6 dpa }

/-- The first condition of R260 that a record does not meet, as its reason. -/
def psetBad (r : List Byte) : Option Nat :=
  if !psFieldsOk r || !psUnusedOk r || !psPrimesOk r then some 0x03
  else if 2 ^ logBound (psLogn r) < prod (psQs r (psLmax r) ++ psPs r) then some 0x09
  else none

/-! ### Slots -/

/-- Parameter-set slot `n` of a Spire. -/
def State.pset (s : State) (sp n : Nat) : PsetSlot := SMap.get (fun _ => PsetSlot.init) s.psets (32 * sp + n)

/-- Replace a slot. -/
def State.setPset (s : State) (sp n : Nat) (v : PsetSlot) : State :=
  { s with psets := SMap.set (fun _ => PsetSlot.init) s.psets (32 * sp + n) v }

/-- The context of a session. -/
def State.ctx (s : State) (i : Nat) : List Byte := SMap.get (fun _ => List.replicate 256 0) s.sess i

/-- Replace a context. -/
def State.setCtx (s : State) (i : Nat) (c : List Byte) : State :=
  { s with sess := SMap.set (fun _ => List.replicate 256 0) s.sess i c }

def ctxState (c : List Byte) : Nat := byteAt c 0 % 4
def ctxAuto (c : List Byte) : Bool := bit (byteAt c 0) 2
def ctxPset (c : List Byte) : Nat := byteAt c 1 % 32

/-- Whether a BINDING or BOUND session names a slot (R263). -/
def State.psetNamed (s : State) (n : Nat) : Bool :=
  s.sess.any (fun e => (ctxState e.2 = 1 || ctxState e.2 = 2) && ctxPset e.2 = n)

/-- The Spires that build: those not retired. -/
def State.liveSpires (s : State) : List Nat := below 4 (fun sp => !s.spireRetired sp)

/-- Whether a build of a slot runs on some Spire: a further PSET_LOAD waits for it. -/
def State.psetBuilding (s : State) (n : Nat) : Bool := s.psets.any (fun e => e.1 % 32 = n && e.2.o.isSome)

/-- PSET_LOAD: the record is checked, and the next half is built on every Spire (R260, R261, R263). -/
def execPsetLoad (o : Origin) (src : Dpa) (slot : BitVec 8) (s : State) : Host.Outcome State Fault Refusal :=
  let n := slot.toNat
  .next (s.onEngine o 10 0xA0 (fun s =>
    match s.firstUnmapped src.toNat 512 with
    | some x => s.completeFault o 0xA0 (descFault (srcKey 0 0) 0x01 (addr := x))
    | none =>
    if s.psetBuilding n then s
    else
      let out := s.readRange 0 (srcKey 0 0) src.toNat 512 false
      let s := out.s
      let r := out.bytes
      match out.fault with
      | some f => s.completeFault o 0xA0 f
      | none =>
      if 32 ≤ n then s.completeFault o 0xA0 (psetFault 0x03 n src.toNat)
      else match psetBad r with
      | some reason => s.completeFault o 0xA0 (psetFault reason n src.toNat)
      | none =>
      if s.liveSpires.any (fun sp => (s.pset sp n).valid && psId (s.pset sp n).cur ≠ psId r) && s.psetNamed n then
        s.completeFault o 0xA0 (psetFault 0x0A n src.toNat)
      else s.liveSpires.foldl (fun (t : State) sp =>
        t.setPset sp n { t.pset sp n with next := r, code := 1, o := some o, src := src.toNat }) s))

/-- The next half becomes current (R262). -/
def PsetSlot.flip (p : PsetSlot) : PsetSlot :=
  { gen := (p.gen + 1) % 256, valid := true, cur := p.next, next := [], code := 0, o := p.o, src := p.src }

/-- Bytes whose values the spec leaves open (DESIGN CHOICE, log 21). -/
def freeBytes (seed n : Nat) : List Byte := (List.range n).map (fun i => Config.freeByte (seed * 2 ^ 32 + i))

/-- A build fills the next half of the slot's Gallery area; the places and values of the tables there are not stated, so all
of it takes free bytes (R261) (DESIGN CHOICE, log 101). -/
def State.fillHalf (s : State) (sp n gen : Nat) : State :=
  let base := s.reg (Reg.sprPsetBase sp)
  match s.loc base with
  | .gallery g o =>
    if g = sp then (s.galleryPut sp (o + n * 0x10_0000 + (gen + 1) % 2 * 0x8_0000) (freeBytes s.free 0x8_0000)).draw else s
  | _ => s

/-- The clk for which a demanded slot stalled its operations are counted; their number is free (R262) (DESIGN CHOICE, log 4). -/
def State.psetStall (s : State) (sp : Nat) (p : PsetSlot) : State :=
  if p.code = 2 then (s.count (Reg.sprPsetStall sp) s.clk).draw else s

/-- The build of a slot fails on a Spire that was to build it for command `o`: no next half is left. -/
def State.psetFail (s : State) (o : Origin) (e : Nat × PsetSlot) : State :=
  if e.2.o = some o then
    let s := s.psetStall (e.1 / 32) e.2
    { s with psets := SMap.set (fun _ => PsetSlot.init) s.psets e.1 { e.2 with o := none, next := [], code := 0 } }
  else s

/-- A build completes: a demanded slot flips at once, its stalled clk counted; the last Spire to build completes the command
(R261, R262). A build that fails leaves no next half; what its PSET_LOAD then reports is not stated:
F_PARAM, PSET_ABSENT (DESIGN CHOICE, log 37; DEDUCED, log 76). -/
def execPsetBuildComplete (spire : Fin 4) (slot : Fin 32) (ok : Bool) (s : State) : Host.Outcome State Fault Refusal :=
  let sp := spire.val
  let n := slot.val
  let p := s.pset sp n
  match p.o with
  | none => .next s
  | some o =>
    let p' := { p with o := none }
    if !ok then .next ((s.psets.foldl (fun t e => t.psetFail o e) s).completeFault o 0xA0 (psetFault 0x04 n p.src))
    else
      let s := (s.fillHalf sp n p.gen).psetStall sp p
      let s := s.setPset sp n (if p.code = 2 then p'.flip else { p' with code := 3 })
      .next (if s.psets.any (fun e => e.2.o = some o) then s else s.completeOk o 0xA0)

/-- At a bell every slot with a complete next half flips (R262). -/
def State.psetBell (s : State) : State :=
  s.psets.foldl (fun (t : State) e => if e.2.code = 3 then
    { t with psets := SMap.set (fun _ => PsetSlot.init) t.psets e.1 e.2.flip } else t) s

/-- A sealed operation demands a slot: a build in progress is promoted; a complete next half flips at once (R262). -/
def State.psetDemand (s : State) (sp n : Nat) : State :=
  let p := s.pset sp n
  if p.valid then s
  else if p.code = 1 then s.setPset sp n { p with code := 2 }
  else if p.code = 3 then s.setPset sp n p.flip
  else s

end Sys2Proof.Machine
end

