-- ==== Sys2Proof/Machine/PkeUnit.lean ====
section
/-!
DEFINITION. The public-key engines as units (R433, R440): what runs on them, their status and operand memory, and the Keystone
controller's own use of them (R289, R293).
-/
namespace Sys2Proof.Machine
open Sys2Proof.Crypto

/-- The operation of an engine. -/
def State.pke (s : State) (n : Nat) : Option PkeOp := SMap.get (fun _ => none) s.pkes n

/-- Whether engine `n` verifies the manifest of a SESS_BIND (R293). -/
def State.pkeBinds (s : State) (n : Nat) : Bool := s.binds.any (fun b => b.engine = n)

/-- Whether an operation runs on engine `n`. -/
def State.pkeBusy (s : State) (n : Nat) : Bool := (s.pke n).isSome || s.pkeBinds n

/-- Replace the operation of an engine; PKE_STATUS.BUSY follows. -/
def State.setPke (s : State) (n : Nat) (c : Option PkeOp) : State :=
  ({ s with pkes := SMap.set (fun _ => none) s.pkes n c } : State).setFld (Reg.pkeStatus n) 0 0 (ofBool c.isSome)

/-- PKE_STATUS.BUSY of every engine after work has been lost. -/
def State.pkeSync (s : State) : State :=
  (List.range 3).foldl (fun (t : State) n => t.setFld (Reg.pkeStatus n) 0 0 (ofBool (s.pkeBusy n))) s

/-- Whether engine `n` is active (R433). -/
def State.pkeActive (s : State) (n : Nat) : Bool := bit (s.reg (Reg.pkeStatus n)) 1

/-- Whether ENGINE of a command names an engine that is not active: 0 names none (R433, R434). -/
def State.pkeInactive (s : State) (engine : Nat) : Bool := engine ≠ 0 && !s.pkeActive (engine - 1)

/-- Whether it is active and idle; and the lowest-numbered engine that is. -/
def State.pkeFree (s : State) (n : Nat) : Bool := s.pkeActive n && !s.pkeBusy n
def State.pkeAny (s : State) : Option Nat := (List.range 3).find? s.pkeFree

/-- Replace a key-store slot; KEY_KS_STATE shows its type. -/
def State.setKeySlot (s : State) (k : Nat) (v : KeySlot) : State :=
  ({ s with keySlots := SMap.set (fun _ => KeySlot.init) s.keySlots k v } : State).setFld Reg.keyKsState (4 * k + 3) (4 * k) v.ty

/-- Whether an operation generates a key. -/
def isKeygen (op : Nat) : Bool := op = 0x92 || op = 0x94

/-- The slot that an operation has reserved is empty again (R435). -/
def State.unreserve (s : State) (c : PkeOp) : State :=
  if isKeygen c.opcode && !c.sample.isEmpty then s.setKeySlot c.p.slot.toNat KeySlot.init else s

/-- Operand memory after an operation has written to it: the spec gives no layout, so its words are free (DESIGN CHOICE, log 56). -/
def State.opmemFree (s : State) (n : Nat) : State :=
  (List.range 512).foldl (fun (t : State) i => t.setReg (Reg.pkeOpmem n i) (Config.unstated s.free i).toNat) s.draw

/-- The words of operand memory become zero (R440, R441). -/
def State.opmemZero (s : State) (n : Nat) : State :=
  (List.range 512).foldl (fun (t : State) i => t.setReg (Reg.pkeOpmem n i) 0) s

/-- The status of an engine's operation is latched: source 1 + n, and the counts of operations completed and refused (R440). -/
def State.pkeLatch (s : State) (n status : Nat) (refused : Bool) : State :=
  let s := s.setFld (Reg.pkeStatus n) 23 16 status
  let s := if refused then s.count (Reg.pkeRefused n) 1 else s
  let s := if status = 0 || status = P_SIG_INVALID then s.count (Reg.pkeOpcnt n) 1 else s
  s.raise 4 (1 + n)

/-- An engine validates a point for the Keystone controller: a VALIDATE of its own (R289, R433). Its 3 µs are one step
(DESIGN CHOICE, log 41). -/
def State.pkeValidate (s : State) (n status : Nat) : State :=
  ((s.opmemFree n).setFld (Reg.pkeStatus n) 15 8 0x9A).pkeLatch n status (status ≠ 0)

/-- The verification of a manifest begins: the engine is busy with an ED448_VERIFY of the Keystone controller (R293, R433). -/
def State.bindBegin (s : State) (b : BindJob) : State :=
  { ((s.opmemFree b.engine).setFld (Reg.pkeStatus b.engine) 15 8 0x90).setFld (Reg.pkeStatus b.engine) 0 0 1 with
    binds := s.binds ++ [b] }

/-- It ends: the engine is idle. -/
def State.bindEnd (s : State) (b : BindJob) : State :=
  { s.setFld (Reg.pkeStatus b.engine) 0 0 0 with binds := s.binds.erase b }

/-- The verification on engine `n` is aborted, and its SESS_BIND refused with the fault given for its session (R305, R441). An
abort by PKE_CTL leaves the signature unverified: reason SIG (DESIGN CHOICE, log 41). -/
def State.bindAbort (s : State) (n : Nat) (f : Nat → FaultInfo) : State :=
  match s.binds.find? (fun b => b.engine = n) with
  | none => s
  | some b => (((s.bindEnd b).opmemZero n).pkeLatch n P_ABORTED false).completeFault b.o 0x81 (f b.index)

end Sys2Proof.Machine
end

