-- ==== Sys2Proof/Machine/Sess.lean ====
section
/-!
DEFINITION. Sessions (R287 to R293), the residency map, key pages and their frames (R294 to R300).
-/
namespace Sys2Proof.Machine
open Sys2Proof.Crypto

/-! ### Contexts (R287) -/

def ctxRegion (c : List Byte) : Nat := field c 3 2
def ctxFloor (c : List Byte) : Nat := field c 5 4
def ctxLimit (c : List Byte) : Nat := if byteAt c 6 = 0 then 8 else byteAt c 6
def ctxFinger (c : List Byte) : List Byte := (c.drop 8).take 8
def ctxKey (c : List Byte) : List Byte := (c.drop 16).take 57
def ctxResmap (c : List Byte) : Nat := field c 87 80
def ctxScratch (c : List Byte) (k : Nat) : Nat := field c (95 + 8 * k) (88 + 8 * k)
def ctxTouched (c : List Byte) : Nat := field c 111 104
def ctxPages (c : List Byte) : Nat := field c 147 144

/-- Add to the counter of `n` bytes at `lo` of a context; it saturates (R287). -/
def ctxCount (c : List Byte) (lo n k : Nat) : List Byte :=
  patch c lo (leBytes n (satAdd (8 * n) (field c (lo + n - 1) lo) k))

/-- Add to a counter of session `i`. -/
def State.sessCount (s : State) (i lo n k : Nat) : State := s.setCtx i (ctxCount (s.ctx i) lo n k)

/-- F_SESSION of this chapter (R307). -/
def sessFault (reason i state : Nat) (status : Nat := 0) (page : Nat := 0) : FaultInfo :=
  { code := F_SESSION, source := srcKey 8 0,
    detail := leBytes 1 reason ++ leBytes 2 i ++ leBytes 1 state ++ leBytes 1 status ++ leBytes 4 page }

/-- Run a session command on a session in one of the states; otherwise it is refused (R288; DEDUCED, log 40). -/
def State.onSession (s : State) (o : Origin) (opcode i : Nat) (states : List Nat) (run : State → List Byte → State) :
    State :=
  s.onEngine o 9 opcode (fun s =>
    if 16384 ≤ i then s.completeFault o opcode (sessFault 0x1A i 0)
    else
      let c := s.ctx i
      if states.contains (ctxState c) then run s c
      else s.completeFault o opcode (sessFault 0x10 i (ctxState c)))

/-- Write bytes at a DPA for a Keystone command (DEDUCED, log 38). -/
def State.keyPut (s : State) (o : Origin) (a : Nat) (bs : List Byte) : State × Option FaultInfo :=
  match s.firstUnmapped a bs.length with
  | some x => (s, some (descFault (srcKey 8 0) 0x01 (addr := x)))
  | none =>
    let (t, _, f) := s.putRange o.spire.val { x := o.spire.val, source := srcKey 8 0, node := 0xFFFF, gen := 0 } false a bs
    (t, f)

/-- Read bytes at a DPA for a Keystone command. -/
def State.keyGet (s : State) (o : Origin) (a n : Nat) : State × Except FaultInfo (List Byte) :=
  match s.firstUnmapped a n with
  | some x => (s, .error (descFault (srcKey 8 0) 0x01 (addr := x)))
  | none =>
    let r := s.readRange o.spire.val (srcKey 8 0) a n false
    (r.s, match r.fault with | some f => .error f | none => .ok r.bytes)

/-- SESS_OPEN (R289, R420) (DEDUCED, log 42; DEDUCED, log 77). It waits for a public-key engine, which validates CLIENT_KEY. -/
def execSessOpen (o : Origin) (index : BitVec 16) (pset : BitVec 8) (auto : Bool) (region floor : BitVec 16)
    (defer : BitVec 8) (scratch0 scratch1 : Dpa) (key : List Byte) (s : State) : Host.Outcome State Fault Refusal :=
  let i := index.toNat
  .next (s.onSession o 0x80 i [0] (fun s _ =>
    match s.pkeAny with
    | none => s
    | some n =>
    let r := s.region region.toNat
    let status := firstStatus (edPointBad key)
    let bad := 32 ≤ pset.toNat || !(s.pset o.spire.val pset.toNat).valid || (outside r scratch0.toNat 64).isSome ||
      (outside r scratch1.toNat 64).isSome || s.fld Reg.fuseLifecycle 2 0 = 3
    let s := s.pkeValidate n status
    if status ≠ 0 then s.completeFault o 0x80 (sessFault 0x13 i 0 status)
    else if bad then s.completeFault o 0x80 (sessFault 0x1A i 0)
    else
      let c := leBytes 1 (1 + ofBool auto * 4) ++ leBytes 1 pset.toNat ++ leBytes 2 region.toNat ++ leBytes 2 floor.toNat ++
        leBytes 1 defer.toNat ++ leBytes 1 0 ++ leBytes 8 0 ++ (key ++ List.replicate 57 0).take 57 ++ leBytes 7 0 ++ leBytes 8 0 ++
        leBytes 8 scratch0.toNat ++ leBytes 8 scratch1.toNat ++ leBytes 44 0 ++ leBytes 8 s.bellNum ++ leBytes 100 0
      (s.setCtx i c).completeOk o 0x80))

/-- SESS_POLICY writes FLOOR, AUTO_ANNEAL and DEFER_LIMIT together (R290). -/
def execSessPolicy (o : Origin) (index floor : BitVec 16) (auto : Bool) (defer : BitVec 8) (s : State) :
    Host.Outcome State Fault Refusal :=
  let i := index.toNat
  .next (s.onSession o 0x82 i [1, 2] (fun s c =>
    let c := patch c 0 (leBytes 1 (setBits (byteAt c 0) 2 2 (ofBool auto)))
    (s.setCtx i (patch c 4 (leBytes 2 floor.toNat ++ leBytes 1 defer.toNat))).completeOk o 0x82))

/-- SESS_QUERY (R287). -/
def execSessQuery (o : Origin) (index : BitVec 16) (dst : Dpa) (s : State) : Host.Outcome State Fault Refusal :=
  .next (s.onSession o 0x84 index.toNat [0, 1, 2, 3] (fun s c =>
    match s.keyPut o dst.toNat c with
    | (s, none) => s.completeOk o 0x84
    | (s, some f) => s.completeFault o 0x84 f))

/-! ### The manifest (R292, R293) -/

def manPages (m : List Byte) : Nat := field m 19 16
def manSeeds (m : List Byte) : Nat := field m 21 20
def manKeys (m : List Byte) : Nat := field m 23 22
/-- Key entry j: KIND, reserved byte, SEED_ID, INDEX. -/
def manKey (m : List Byte) (j : Nat) : List Byte := (m.drop (128 + 8 * j)).take 8
/-- The seed table, and page entry p. -/
def manSeedTable (m : List Byte) : List Byte := (m.drop (128 + 8 * manKeys m)).take (32 * manSeeds m)
def manPage (m : List Byte) (p : Nat) : List Byte := (m.drop (128 + 8 * manKeys m + 32 * manSeeds m + 64 * p)).take 64

/-- Check 1 (R293). -/
def manFormOk (m : List Byte) : Bool :=
  128 ≤ m.length && m.length ≤ 2 ^ 20 &&
    m.length = 128 + 8 * manKeys m + 32 * manSeeds m + 64 * manPages m + 114 && field m 3 0 = 0x4D4B_5A55 &&
    byteAt m 4 = 1 && byteAt m 5 = 0 && field m 127 89 = 0 &&
    (List.range (manKeys m)).all (fun j => byteAt (manKey m j) 1 = 0) && 1 ≤ manPages m && manPages m ≤ 4096 &&
    1 ≤ manSeeds m && manSeeds m ≤ 1024 && 1 ≤ manKeys m && manKeys m ≤ 1024

/-- Whether a key entry is in range (check 4): relinearisation and conjugation have INDEX 0, a rotation 1 to N/2 - 1. -/
def manKeyOk (logn seeds : Nat) (e : List Byte) : Bool :=
  let kind := byteAt e 0
  let index := field e 7 4
  field e 3 2 < seeds && (match kind with
    | 0 => index = 0
    | 1 => 1 ≤ index && index < 2 ^ (logn - 1)
    | 2 => index = 0
    | 3 => true
    | _ => false)

/-- Whether a tag is valid (R294). -/
def tagValid (t : List Byte) : Bool := field t 31 28 = crc32c (t.take 28) && field t 27 20 = 0

/-- The fields of the tag that page p of a keyset ought to have, but for CHECK and the reserved bytes: SESSION,
FINGERPRINT, KIND, DIGIT, INDEX, SEED_ID, ORDINAL (R291, R294). `key` is the page's key entry. -/
def tagOf (session : Nat) (finger : List Byte) (key : List Byte) (pd p : Nat) : List Byte :=
  leBytes 2 session ++ finger ++ leBytes 1 (byteAt key 0) ++ leBytes 1 (p / pd) ++ leBytes 4 (field key 7 4) ++
    leBytes 2 (field key 3 2) ++ leBytes 2 (p % pd)

/-- The first check of 1 to 6 that a manifest fails, as its reason (R293). -/
def manBad (i : Nat) (c rec_ m : List Byte) : Option Nat :=
  let pk := psKeyPages rec_
  let pd := psDigitPages rec_
  if !manFormOk m then some 0x12
  else if field m 7 6 ≠ i || (m.drop 32).take 57 ≠ ctxKey c then some 0x13
  else if field m 15 8 ≠ psId rec_ then some 0x14
  else
    let keys := (List.range (manKeys m)).map (manKey m)
    let names := keys.map (fun k => (byteAt k 0, field k 7 4))
    if manPages m ≠ manKeys m * pk || !keys.all (manKeyOk (psLogn rec_) (manSeeds m)) ||
        names.eraseDups.length ≠ names.length then some 0x12
    else if !(List.range (manPages m)).all (fun p =>
        let t := (manPage m p).take 32
        tagValid t && t.take 20 = tagOf i ((m.drop 24).take 8) (manKey m (p / pk)) pd (p % pk)) then some 0x12
    else
      let body := m.take (m.length - 114)
      let f := shake256 (patch body 24 (leBytes 8 0)) 8
      if f ≠ (m.drop 24).take 8 || leNat f = 0 then some 0x15 else none

/-- SESS_BIND: the manifest is read and checked, and its verification starts on a public-key engine, for which the command
waits (R293; DESIGN CHOICE, log 41). -/
def execSessBind (o : Origin) (index : BitVec 16) (manifest : Dpa) (len : BitVec 32) (comp : Word) (s : State) :
    Host.Outcome State Fault Refusal :=
  let i := index.toNat
  .next (s.onSession o 0x81 i [1] (fun s c =>
    match s.pkeAny with
    | none => s
    | some n =>
    if 2 ^ 20 < len.toNat then s.completeFault o 0x81 (sessFault 0x12 i 1)
    else
      let (s, r) := s.keyGet o manifest.toNat len.toNat
      match r with
      | .error f => s.completeFault o 0x81 f
      | .ok m => match manBad i c (s.pset o.spire.val (ctxPset c)).cur m with
        | some reason => s.completeFault o 0x81 (sessFault reason i 1)
        | none => s.bindBegin { o := o, index := i, manifest := m, comp := comp.toNat, engine := n }))

/-! ### The residency map (R295) -/

/-- Where a residency map lies, with its counts. -/
structure ResMap where
  base : Nat
  keys : Nat
  seeds : Nat
  pages : Nat
  comp : Nat

/-- Bytes of a map. -/
def mapSize (keys seeds pages : Nat) : Nat := 64 + 8 * keys + 32 * seeds + 128 * pages

/-- The map of a session. -/
def State.resMap (s : State) (c : List Byte) : ResMap :=
  let h := s.memGet 0 (ctxResmap c) 64
  { base := ctxResmap c, keys := field h 9 8, seeds := field h 11 10, pages := field h 15 12, comp := field h 7 0 }

/-- Key entry j, seed k, and the address of the directory entry of page p. -/
def State.mapKey (s : State) (m : ResMap) (j : Nat) : List Byte := s.memGet 0 (m.base + 64 + 8 * j) 8
def State.mapSeed (s : State) (m : ResMap) (k : Nat) : List Byte := s.memGet 0 (m.base + 64 + 8 * m.keys + 32 * k) 32
def ResMap.dir (m : ResMap) (p : Nat) : Nat := m.base + 64 + 8 * m.keys + 32 * m.seeds + 128 * p

/-- The directory entry of page p. -/
def State.dirEntry (s : State) (m : ResMap) (p : Nat) : List Byte := s.memGet 0 (m.dir p) 128
def State.pageState (s : State) (m : ResMap) (p : Nat) : Nat := byteAt (s.dirEntry m p) 72
def State.pagePin (s : State) (m : ResMap) (p : Nat) : Nat := field (s.dirEntry m p) 75 74
def State.pageFrame (s : State) (m : ResMap) (p : Nat) : Nat := field (s.dirEntry m p) 71 64

/-- The Keystone controller reads a map, for requester `req`: its header with the tables, and the entries of pages. Corrected
codewords are counted; the first uncorrectable one is reported, and ends what reads it (R110, R373) (DEDUCED, log 103). -/
def State.mapRead (s : State) (sp req : Nat) (c : List Byte) (ps : List Nat) : State × Option FaultInfo :=
  let m := s.resMap c
  let parts := (m.base, 64 + 8 * m.keys + 32 * m.seeds) :: (ps.filter (fun p => p < m.pages)).map (fun p => (m.dir p, 128))
  parts.foldl (fun (a : State × Option FaultInfo) e => match a with
    | (s, some f) => (s, some f)
    | (s, none) =>
      if (s.firstUnmapped e.1 e.2).isSome then (s, none)
      else
        let r := s.readRange sp req e.1 e.2 false
        (r.s, r.fault)) (s, none)

/-- Write bytes of a directory entry. -/
def State.dirPut (s : State) (m : ResMap) (p lo : Nat) (bs : List Byte) : State := s.memPut 0 (m.dir p + lo) bs

/-- The map that a verified manifest gives (R295): no page resident. -/
def mapBytes (m : List Byte) (comp : Nat) : List Byte :=
  leBytes 8 comp ++ leBytes 2 (manKeys m) ++ leBytes 2 (manSeeds m) ++ leBytes 4 (manPages m) ++ leBytes 48 0 ++
    (m.drop 128).take (8 * manKeys m) ++ manSeedTable m ++
    (List.range (manPages m)).flatMap (fun p => manPage m p ++ leBytes 64 0)

/-- What an engine finds of a PureEd448 signature under a key, with an empty context: the status of the validation, else
whether it verifies (R292, R436, R437). -/
def signatureStatus (key msg sig : List Byte) : Nat :=
  let bad := edPointBad key ++ edPointBad (sig.take 57) ++ edScalarBad (sig.drop 57)
  if !bad.isEmpty then firstStatus bad else if ed448Verify key [] msg sig then 0 else P_SIG_INVALID

/-- The verification of a manifest ends (R293): the session becomes BOUND, or stays BINDING. `resmap` is where Keystone
firmware places the map (DESIGN CHOICE, log 41). -/
def execBindVerifyComplete (index : Fin 16384) (resmap : Dpa) (s : State) : Host.Outcome State Fault Refusal :=
  let i := index.val
  match s.binds.find? (fun b => b.index = i) with
  | none => .next s
  | some b =>
    let c := s.ctx i
    let m := b.manifest
    let n := m.length - 114
    let status := signatureStatus (ctxKey c) (m.take n) (m.drop n)
    let s := ((s.bindEnd b).opmemFree b.engine).pkeLatch b.engine status (status ≠ 0 && status ≠ P_SIG_INVALID)
    let size := mapSize (manKeys m) (manSeeds m) (manPages m)
    let fail := fun reason => s.completeFault b.o 0x81 (sessFault reason i (ctxState c))
    .next (if ctxState c ≠ 1 then fail 0x10
      else if status ≠ 0 then fail 0x11
      else if (outside (s.region (ctxRegion c)) resmap.toNat size).isSome || (s.firstUnmapped resmap.toNat size).isSome then
        fail 0x16
      else
        let s := s.memPut 0 resmap.toNat (mapBytes m b.comp)
        let c := patch (patch c 80 (leBytes 8 resmap.toNat)) 112 (shake256 m 32 ++ leBytes 4 (manPages m))
        let c := patch (patch c 8 ((m.drop 24).take 8)) 0 (leBytes 1 (setBits (byteAt c 0) 1 0 2))
        (s.setCtx i c).completeOk b.o 0x81 ((m.drop 24).take 8))

/-! ### Frames (R296 to R299) -/

/-- The DPA of a frame, and of its tag slot. -/
def State.frameAddr (s : State) (f : Nat) : Nat := s.reg Reg.sessFrameBase + 0x20_0000 * f
def State.tagSlot (s : State) (f : Nat) : Nat := s.reg Reg.sessTagBase + 32 * f

/-- What holds a frame. -/
def State.frameUse (s : State) (f : Nat) : Option (Nat × Nat) := SMap.get (fun _ => none) s.frames f

/-- Take or return a frame. -/
def State.setFrame (s : State) (f : Nat) (v : Option (Nat × Nat)) : State :=
  { s with frames := SMap.set (fun _ => none) s.frames f v }

/-- The frames of the pool. -/
def State.frameCount (s : State) : Nat := s.fld Reg.sessFrameCount 19 0

/-- The lowest free frame (DESIGN CHOICE, log 39). -/
def State.freeFrame (s : State) : Option Nat := (List.range s.frameCount).find? (fun f => (s.frameUse f).isNone)

/-- Release the frame of a page (R298): the tag slot and then the directory entry are cleared, and the frame returns. -/
def State.releasePage (s : State) (f i p : Nat) : State :=
  let m := s.resMap (s.ctx i)
  let s := s.memPut 0 (s.tagSlot f) (List.replicate 32 0)
  let s := s.dirPut m p 64 (leBytes 9 0)
  s.setFrame f none

/-- Frames of unpinned RESIDENT pages, with LAST_BELL. -/
def State.evictable (s : State) : List (Nat × Nat × Nat × Nat) :=
  s.frames.filterMap (fun e => match e.2 with
    | some (i, p) =>
      let d := s.dirEntry (s.resMap (s.ctx i)) p
      if e.1 < s.frameCount && byteAt d 72 = 2 && field d 75 74 = 0 then some (field d 83 76, e.1, i, p) else none
    | none => none)

/-- Take a frame: a free one, or that of the unpinned RESIDENT page used longest ago, which is evicted (R297). -/
def State.takeFrame (s : State) : Option (State × Nat) :=
  match s.freeFrame with
  | some f => some (s, f)
  | none => match s.evictable with
    | [] => none
    | e :: t =>
      let (_, f, i, p) := t.foldl (fun b x => if x.1 < b.1 then x else b) e
      some ((s.releasePage f i p).count Reg.sessEvict 1, f)

/-- Start the page-in of a page that is ABSENT or BAD (R297); none when every frame is pinned. -/
def State.pageIn (s : State) (o : Option Origin) (sp i p : Nat) : Option State :=
  match s.takeFrame with
  | none => none
  | some (s, f) =>
    let s := s.dirPut (s.resMap (s.ctx i)) p 72 (leBytes 1 1)
    let j : KeyJob := { o := o, index := i, page := p, frame := f, spire := sp, bands := s.bandsOf 0 }
    some ({ s.setFrame f (some (i, p)) with keyJobs := s.keyJobs ++ [j] })

/-- KEY_PAGE_IN (R297). -/
def execKeyPageIn (o : Origin) (index : BitVec 16) (page : BitVec 32) (s : State) : Host.Outcome State Fault Refusal :=
  let i := index.toNat
  let p := page.toNat
  .next (s.onSession o 0x85 i [2] (fun s c =>
    if ctxPages c ≤ p then s.completeFault o 0x85 (sessFault 0x1A i 2 0 p)
    else match s.mapRead o.spire.val (srcKey 8 0) c [p] with
    | (s, some f) => s.completeFault o 0x85 f
    | (s, none) =>
      let st := s.pageState (s.resMap c) p
      if st = 1 || st = 2 then s.completeOk o 0x85
      else match s.pageIn (some o) o.spire.val i p with
        | some s => s
        | none => s.completeFault o 0x85 (sessFault 0x19 i 2 0 p)))

/-- KEY_PAGE_OUT (R298): a page without a frame has nothing to release (DEDUCED, log 77). -/
def execKeyPageOut (o : Origin) (index : BitVec 16) (page : BitVec 32) (s : State) : Host.Outcome State Fault Refusal :=
  let i := index.toNat
  let p := page.toNat
  .next (s.onSession o 0x86 i [2] (fun s c =>
    let m := s.resMap c
    if ctxPages c ≤ p then s.completeFault o 0x86 (sessFault 0x1A i 2 0 p)
    else match s.mapRead o.spire.val (srcKey 8 0) c [p] with
    | (s, some f) => s.completeFault o 0x86 f
    | (s, none) =>
    if s.pagePin m p ≠ 0 then s.completeFault o 0x86 (sessFault 0x17 i 2 0 p)
    else if s.pageState m p = 2 then
      (s.releasePage ((s.pageFrame m p - s.reg Reg.sessFrameBase) / 0x20_0000) i p).completeOk o 0x86
    else s.completeOk o 0x86))

/-- F_KEY_DIGEST (R299). -/
def digestFault (i p : Nat) (digest : List Byte) : FaultInfo :=
  { code := F_KEY_DIGEST, source := srcKey 8 0, detail := leBytes 2 i ++ leBytes 4 p ++ digest.take 8 }

/-- The digest of a page's image is known (R297, R299): the page is RESIDENT or BAD. The fault, if it is BAD: source 97 of
the Spire's Carillon (R384). -/
def State.pageEnd (s : State) (j : KeyJob) : State × Option FaultInfo :=
  let s := { s with keyJobs := s.keyJobs.erase j }
  let c := s.ctx j.index
  let m := s.resMap c
  let d := s.dirEntry m j.page
  let image := SMap.getRun (fun _ => 0) s.companion (m.comp + 0x20_0000 * j.page) 0x20_0000
  let s := s.memPut 0 (s.frameAddr j.frame) image
  let digest := shake256 image 32
  if digest = (d.drop 32).take 32 then
    let s := s.memPut 0 (s.tagSlot j.frame) (d.take 32)
    let s := s.dirPut m j.page 64 (leBytes 8 (s.frameAddr j.frame) ++ leBytes 1 2)
    -- a page whose session is closing gives its frame back (R305)
    let s := if ctxState c = 2 then s else s.releasePage j.frame j.index j.page
    (match j.o with | some o => s.completeOk o 0x85 | none => s, none)
  else
    let f := digestFault j.index j.page digest
    let s := (s.memPut 0 (s.tagSlot j.frame) (List.replicate 32 0)).setFrame j.frame none
    let s := s.dirPut m j.page 72 (leBytes 1 3)
    let s := { s with digests := SMap.set (fun _ => []) s.digests (4096 * j.index + j.page) digest }
    let s := (((s.sessCount j.index 180 4 1).count (Reg.blpDigestFail j.spire) 1).raise j.spire 97).faultToKey f
    (match j.o with | some o => s.completeFault o 0x85 f | none => s, some f)

/-- The same under the classes that the page-in sampled at its start (R382). -/
def State.pageDone (s : State) (j : KeyJob) : State × Option FaultInfo := s.underBands 0 j.bands (fun s => s.pageEnd j)

end Sys2Proof.Machine
end

