-- ==== Sys2Proof/Machine/Alxis.lean ====
section
/-!
DEFINITION. The Alxis companion link (R395 to R402): replay, lanes, loss and recovery, authentication, and the companion's
data aperture.
-/
namespace Sys2Proof.Machine

/-- Whether a port, or Alxis as 8, is training. -/
def State.isTraining (s : State) (link : Nat) : Bool := SMap.get (fun _ => false) s.training link

/-- Set whether a link is training. -/
def State.setTraining (s : State) (link : Nat) (b : Bool) : State :=
  { s with training := SMap.set (fun _ => false) s.training link b }

/-- Whether a DPA lies in companion memory. -/
def inCompanion (a : Nat) : Bool := 2 ^ 47 ≤ a

/-- What a channel has moved, if it is moving bytes from or to companion memory (DEDUCED, log 73). -/
def Channel.onCompanion (c : Channel) : Option Nat :=
  match c.work with
  | .move a d _ k => if inCompanion a || inCompanion d then some k else none
  | .peer a _ _ _ _ _ _ k _ _ => if inCompanion a then some k else none
  | .seq w => match w.cur with
    | some p => if p.left.any (fun r => inCompanion r.1 || inCompanion r.2.1) then some p.wrote else none
    | none => none

/-- A channel whose transfer the link's fall breaks. -/
def State.breakChannel (s : State) (reason : Nat) (c : Channel) : Channel :=
  match c.onCompanion, c.abandon with
  | some k, none => { c with abandon := some ((s.alxFault reason k).met s.bellNum) }
  | _, _ => c

/-- The link goes down (R400): the log, Keystone Carillon source 8, the record to the Keystone controller, and the
transfers with companion memory, which end with F_LINK once it is up again. It trains from its widest width
(DEDUCED, log 73). -/
def State.alxDown (s : State) (reason : Nat) : State :=
  if !s.alxUp then s
  else
    let s := (s.setFld Reg.alxStatus 0 0 0).raise 4 8
    let log := s.reg Reg.alxLinkLog
    let s := s.setReg Reg.alxLinkLog (if bit log 63 then log ||| 1 <<< 62 else 1 <<< 63 + reason)
    let s := s.faultToKey (s.alxFault reason 0)
    let s := { s with
      channels := s.channels.map (fun (e : Nat × Option Channel) => (e.1, e.2.map (s.breakChannel reason))),
      replays := SMap.set (fun _ => 0) s.replays 8 0 }
    s.setTraining 8 true

/-- A flit fails its CRC and is replayed (R400, R402): the count, source 11 at each multiple of 65,536, and the link's fall
at the eighth consecutive replay of one flit. -/
def execAlxFlitCrcFail (again : Bool) (s : State) : Host.Outcome State Fault Refusal :=
  .next (if !s.alxUp then s
    else
      let (s, n) := (s.count Reg.alxReplayCnt 1).replay 8 again
      let s := if s.reg Reg.alxReplayCnt % 65536 = 0 then s.raise 4 11 else s
      if 8 ≤ n then s.alxDown 0x01 else s)

/-- A lane fails (R396): the link trains on the widest working group; without 8 lanes it goes down (DEDUCED, log 73). -/
def execAlxLaneFail (width : BitVec 6) (s : State) : Host.Outcome State Fault Refusal :=
  .next (if !s.alxUp then s
    else if width.toNat < 8 then s.alxDown 0x02
    else
      let s := if s.fld Reg.alxStatus 7 6 < alxCode width.toNat then s.raise 4 9 else s
      (s.setFld Reg.alxStatus 7 6 (alxCode width.toNat)).setTraining 8 true)

/-- A write of 1 to ALX_CTL.RETRAIN. -/
def execAlxRetrain (actor : Actor) (s : State) : Host.Outcome State Fault Refusal :=
  .next (s.guarded actor Reg.alxCtl (fun s => (s.setReg Reg.alxCtl 1).setTraining 8 true))

/-- End a transfer that the link's fall has broken. -/
def State.endBroken (s : State) (sp ch : Nat) : State :=
  match s.channel sp ch with
  | none => s
  | some c => match c.work, c.abandon with
    | .move _ _ _ k, some f => s.channelEnd sp ch c 0x10 (moveResult k) (some f)
    | .peer _ _ _ _ _ _ _ k _ _, some f => s.peerEnd sp ch c k (some f)
    | .seq w, some f => s.seqFail sp ch c w (match w.cur with | some p => p.wrote | none => 0) f
    | _, none => s

/-- A page-in that the link's fall has cut off ends: its frame returns and the page stays ABSENT; its command completes with
F_LINK (R400) (DEDUCED, log 73). -/
def State.pageCut (s : State) (j : KeyJob) : State :=
  let s := ({ s with keyJobs := s.keyJobs.erase j } : State).setFrame j.frame none
  let s := s.dirPut (s.resMap (s.ctx j.index)) j.page 72 (leBytes 1 0)
  match j.o with
  | some o => s.completeFault o 0x85 s.alxCut
  | none => s

/-- The WIDTH code with which training over `n` lanes ends: a link that has stayed up since a lane failed grows wider only
by RETRAIN (R396). -/
def State.retrainCode (s : State) (n : Nat) : Nat :=
  if s.alxUp && !bit (s.reg Reg.alxCtl) 0 then max (s.fld Reg.alxStatus 7 6) (alxCode n) else alxCode n

/-- Training ends: the link is up, RETRAIN clears, and the transfers that its fall had broken complete with F_LINK
(R396, R400, R402) (DEDUCED, log 73). -/
def execAlxRetrainDone (width : BitVec 6) (s : State) : Host.Outcome State Fault Refusal :=
  .next (if !s.isTraining 8 || width.toNat < 8 then s
    else
      let code := s.retrainCode width.toNat
      let s := if s.fld Reg.alxStatus 7 6 < code then s.raise 4 9 else s
      let cut := if s.alxUp then [] else s.keyJobs
      let s := if s.alxUp then s else s.raise 4 8
      let s := ((s.setFld Reg.alxStatus 7 6 code).setFld Reg.alxStatus 0 0 1).setReg Reg.alxCtl 0
      let s := cut.foldl State.pageCut (s.setTraining 8 false)
      (below 64 (fun i => match s.channel (i / 16) (i % 16) with
        | some c => (match c.abandon with
          | some f => f.code = F_LINK && f.source = 0x4600
          | none => false)
        | none => false)).foldl (fun (s : State) i => s.endBroken (i / 16) (i % 16)) s)

/-- A link that does not recover within 20 ms stays down until RETRAIN (R400). -/
def execAlxRecoveryTimeout (s : State) : Host.Outcome State Fault Refusal :=
  .next (if s.alxUp then s else s.setTraining 8 false)

/-- A group's tag or counter fails its check (R401): the count, source 10, and the link's fall with reason AUTH. -/
def execAlxAuthFail (s : State) : Host.Outcome State Fault Refusal :=
  .next (if s.alxUp && bit (s.reg Reg.alxCryptCtl) 31 then
      ((s.count Reg.alxAuthFail 1).raise 4 10).alxDown 0x03
    else s)

/-- A direction's group counter reaches 2^48 (R401). -/
def execKeyExhausted (dir : Bool) (s : State) : Host.Outcome State Fault Refusal :=
  .next (if s.alxUp && bit (s.reg Reg.alxCryptCtl) 31 then
      ({ s with alxGroups := SMap.set (fun _ => 0) s.alxGroups (ofBool dir) (2 ^ 48) } : State).alxDown 0x04
    else s)

/-! ### The data aperture (R397, R399) -/

/-- Whether an access keeps the rules of R399 and names memory of the device. -/
def State.apertureOk (s : State) (a n : Nat) : Bool :=
  1 ≤ n && a % 64 + n ≤ 64 && !inCompanion a && (s.firstUnmapped a n).isNone

/-- A refused access is recorded by the Keystone's decoder, with the low bits of its offset (R27; DEDUCED, log 36). -/
def State.refuseAperture (s : State) (write : Bool) (a : Nat) : State := s.decodeErr none write 0x4600 (a % 2 ^ 36)

/-- A companion read: what the memory holds, or zeros where it is refused. -/
def execApertureRead (offset : Dpa) (len : BitVec 7) (s : State) : Host.Outcome State Fault Refusal :=
  let a := offset.toNat
  let n := len.toNat
  .next (if !s.alxUp then s
    else if s.apertureOk a n then
      let r := s.readRange 0 0x4600 a n true
      let t := match r.fault, s.loc a with
        | some f, .tower g _ => r.s.faultToSpire (slotSpire g) f
        | _, _ => r.s
      { t with reply := (r.bytes ++ List.replicate n 0).take n }
    else { s.refuseAperture false a with reply := List.replicate n 0 })

/-- Whether an enabled HBM write range contains the bytes. -/
def State.hbmWindowHas (s : State) (a n : Nat) : Bool :=
  (List.range 8).any (fun w => bit (s.reg (Reg.alxHbmwinLimit w)) 63 &&
    s.fld (Reg.alxHbmwinBase w) 40 12 * 4096 ≤ a && a + n ≤ s.fld (Reg.alxHbmwinLimit w) 40 12 * 4096)

/-- A companion write: a remote write with source index 12 into a Tower memory or a Gallery; into HBM, only inside an
enabled range. -/
def execApertureWrite (offset : Dpa) (data : List Byte) (s : State) : Host.Outcome State Fault Refusal :=
  let a := offset.toNat
  let n := data.length
  let sd : Sender := { x := 12, source := 0x4600, node := 0xFFFF, gen := 0 }
  .next (if !s.alxUp then s
    else if s.apertureOk a n then
      match s.loc a with
      | .tower g o => s.packetAt (.tower (Fin.ofNat 68 g)) sd o data
      | .gallery sp o => s.packetAt (.gallery (Fin.ofNat 4 sp)) sd o data
      | _ => if s.hbmWindowHas a n then (s.putRange 0 sd false a data).1 else s.count Reg.alxWrDrop 1
    else s.refuseAperture true a)

end Sys2Proof.Machine
end

