-- ==== Sys2Proof/Machine/SealCheck.lean ====
section
/-!
DEFINITION. Ciphertext headers (R254 to R257), the output header's fields (R267) and the checks of a SEAL command
(R265, R266, R268, R271).
-/
namespace Sys2Proof.Machine
open Sys2Proof.Crypto Sys2Proof.Seal

/-! ### Headers (R254) -/

def hScheme (h : List Byte) : Nat := byteAt h 0 % 4
def hLogn (h : List Byte) : Nat := byteAt h 1
def hL (h : List Byte) : Nat := byteAt h 2
def hPset (h : List Byte) : Nat := byteAt h 5 % 32
def hComp (h : List Byte) : Nat := byteAt h 6
def hValid (h : List Byte) : Bool := bit (byteAt h 7) 0
def hNtt (h : List Byte) : Bool := bit (byteAt h 7) 1
def hPoison (h : List Byte) : Bool := bit (byteAt h 7) 2
def hSession (h : List Byte) : Nat := field h 9 8 % 16384
def hLevel (h : List Byte) : Nat := byteAt h 10
def hSlots (h : List Byte) : Nat := byteAt h 11
def hScale (h : List Byte) : Nat := field h 13 12
def hBudget (h : List Byte) : Nat := field h 15 14
def hFinger (h : List Byte) : List Byte := (h.drop 16).take 8
def hBody (h : List Byte) : Nat := field h 29 24
def hLimbStride (h : List Byte) : Nat := field h 35 32
def hPolyStride (h : List Byte) : Nat := field h 39 36
def hTmod (h : List Byte) : Nat := field h 43 40

/-- Whether CRC matches; and the header with its CRC computed (R255). -/
def hCrcOk (h : List Byte) : Bool := field h 63 60 = crc32c (h.take 60)
def hSeal (h : List Byte) : List Byte := h.take 60 ++ leBytes 4 (crc32c (h.take 60))

/-- A plaintext, and one that belongs to no session (R257). -/
def hPlain (h : List Byte) : Bool := hComp h = 1
def hFree (h : List Byte) : Bool := hPlain h && hSession h = 0 && leNat (hFinger h) = 0

/-- Fields in range and reserved bits zero (R254). -/
def hFieldsOk (h : List Byte) : Bool :=
  hScheme h ≤ 1 && byteAt h 0 < 4 && 14 ≤ hLogn h && hLogn h ≤ 17 && 1 ≤ hL h && hL h ≤ 64 && byteAt h 3 ≤ 16 &&
    byteAt h 5 < 32 && 1 ≤ hComp h && hComp h ≤ 3 && byteAt h 7 < 8 && field h 9 8 < 16384 && hSlots h < hLogn h &&
    (hScheme h = 0 || hScale h = 0) && (hScheme h = 1 || hTmod h = 0) && hBody h % 4096 = 0 && field h 31 30 = 0 &&
    hLimbStride h % 4096 = 0 && hPolyStride h % 4096 = 0 && field h 59 48 = 0

/-! ### Bodies (R256, R271) -/

/-- The limbs of a body: first address and length. -/
def bodyLimbs (h : List Byte) (comp l logn : Nat) : List (Nat × Nat) :=
  (List.range comp).flatMap (fun c => (List.range l).map (fun i =>
    (hBody h + c * hPolyStride h + i * hLimbStride h, 4 * 2 ^ logn)))

/-- Whether two ranges share a byte, and whether the ranges of a list are pairwise disjoint. -/
def rangesMeet (a b : Nat × Nat) : Bool := a.1 < b.1 + b.2 && b.1 < a.1 + a.2
def allDisjoint : List (Nat × Nat) → Bool
  | [] => true
  | a :: t => !t.any (rangesMeet a) && allDisjoint t

/-- Whether a body is valid in a region, if one is given (R256). -/
def State.bodyOk (s : State) (region : Option (Nat × Nat)) (ls : List (Nat × Nat)) : Bool :=
  ls.all (fun r => (s.firstUnmapped r.1 r.2).isNone) &&
    (match ls with | [] => true | r :: _ => ls.all (fun x => rowId x.1 = rowId r.1)) &&
    (match region with | none => true | some g => ls.all (fun r => (outside g r.1 r.2).isNone)) && allDisjoint ls

/-! ### The operations (R264, R267) -/

/-- An input of an operation: its operand code in DETAIL (0 and 1 ciphertexts, 2 plaintext), and its header. -/
structure SealIn where
  opnd : Nat
  dpa : Nat
  h : List Byte

/-- Operand codes and header addresses of an operation's inputs. -/
def sealInputs (code : Nat) (g : SealArgs) : List (Nat × Nat) :=
  if code = 0x04 || code = 0x06 then [(0, g.in0.toNat), (2, g.in1.toNat)]
  else if code = 0x01 || code = 0x02 || code = 0x07 || code = 0x08 then [(0, g.in0.toNat), (1, g.in1.toNat)]
  else [(0, g.in0.toNat)]

/-- COMP allowed for an operand (R264). -/
def compOk (code opnd comp : Nat) : Bool :=
  if opnd = 2 then comp = 1
  else if code = 0x07 || code = 0x08 || code = 0x0B || code = 0x0C || code = 0x10 then comp = 2
  else if code = 0x09 then comp = 3
  else if code = 0x0E || code = 0x0F then true
  else comp = 2 || comp = 3

/-- The operand value allowed (R264); it is zero where the operation names none, like an input it does not use. -/
def valueOk (code : Nat) (g : SealArgs) (logn : Nat) : Bool :=
  let v := g.value.toNat
  (if code = 0x0B then 1 ≤ v && v < 2 ^ (logn - 1) else if code = 0x0D then 1 ≤ v else code = 0x05 || v = 0) &&
    ((sealInputs code g).length = 2 || g.in1 = 0) && g.towers ≠ 0

/-- Whether an operation may work in place (R271). -/
def inPlaceOk (code : Nat) : Bool := code = 3 || code = 5 || code = 0xA || code = 0xD || code = 0xE || code = 0xF

/-- Bit length of |c| for a signed 32-bit c. -/
def bitLength (v : Nat) : Nat :=
  let a := (toSigned 32 v).natAbs
  if a = 0 then 0 else a.log2 + 1

/-- The fields of the output that R267 computes: L, COMP, SCALE and BUDGET. -/
structure SealOut where
  l : Int
  comp : Nat
  scale : Int
  budget : Int

/-- R267. `r` is the parameter-set record, `h0` and `h1` the input headers. -/
def sealOut (code : Nat) (v : Nat) (r h0 h1 : List Byte) : SealOut :=
  let l : Int := hL h0
  let b1 : Int := hBudget h0
  let b2 : Int := hBudget h1
  let s1 : Int := hScale h0
  let s2 : Int := hScale h1
  let loss := fun k => (psLoss r k : Int)
  let g : Int := psG r
  let o : SealOut := { l := l, comp := hComp h0, scale := s1, budget := b1 }
  match code with
  | 0x01 => { o with comp := max (hComp h0) (hComp h1), budget := min b1 b2 - 256 }
  | 0x02 => { o with comp := max (hComp h0) (hComp h1), budget := min b1 b2 - 256 }
  | 0x04 => { o with budget := b1 - 128 }
  | 0x05 => { o with budget := b1 - 256 * bitLength v }
  | 0x06 => { o with scale := s1 + s2, budget := b1 - loss 1 }
  | 0x07 => { o with comp := 2, scale := s1 + s2, budget := min b1 b2 - loss 0 - loss 2 }
  | 0x08 => { o with comp := 3, scale := s1 + s2, budget := min b1 b2 - loss 0 }
  | 0x09 => { o with comp := 2, budget := b1 - loss 2 }
  | 0x0A =>
    let drop := (List.range (psG r)).map (fun i => (psLogQ r (hL h0 - 1 - i) : Int))
    { o with l := l - g, scale := if hScheme h0 = 1 then 0 else s1 - drop.sum, budget := b1 - loss 3 }
  | 0x0B => { o with budget := b1 - loss 2 }
  | 0x0C => { o with budget := b1 - loss 2 }
  | 0x0D => { o with l := l - v * g }
  | 0x10 => { o with l := psL0 r + psG r * psAnnealLevel r, scale := if hScheme h0 = 1 then 0 else loss 5, budget := loss 4 }
  | _ => o

/-! ### The checks (R265) -/

/-- F_PARAM of a SEAL command (R283). -/
def sealParam (sp reason opnd : Nat) (h : List Byte) (dpa : Nat) (auto : Bool) (sub : Nat := 0) : FaultInfo :=
  { code := F_PARAM, source := srcSpire sp 5 0,
    detail := leBytes 1 reason ++ leBytes 1 (opnd + ofBool auto * 128) ++ leBytes 1 (hPset h) ++ leBytes 1 sub ++
      leBytes 6 dpa }

/-- F_SESSION of a SEAL command (R285). -/
def sealSession (sp reason opnd : Nat) (h : List Byte) : FaultInfo :=
  { code := F_SESSION, source := srcSpire sp 5 0,
    detail := leBytes 1 reason ++ leBytes 1 opnd ++ leBytes 2 (hSession h) ++ hFinger h }

/-- What the checks come to. -/
inductive SealVerdict
  /-- Refused. -/
  | refuse (f : FaultInfo)
  /-- It names slots whose build is in progress (R262). -/
  | stall
  /-- It fails R268 with this F_LEVEL; the session's policy decides (R269). -/
  | level (f : FaultInfo)
  /-- Checks 1 to 9 pass. -/
  | pass (o : SealOut)

/-- The first fault that a check finds among the inputs. -/
def onInputs (is : List SealIn) (bad : SealIn → Bool) (f : SealIn → FaultInfo) : Option FaultInfo :=
  (is.find? bad).map f

/-- Check 7 (R266): the sub-field that does not agree, and the input at fault. -/
def disagree (code : Nat) (i0 : SealIn) (rest : List SealIn) : Option (Nat × SealIn) :=
  let h := i0.h
  let adds := code = 1 || code = 2 || code = 4
  let muls := code = 6 || code = 7 || code = 8
  let inNtt := muls || (0x09 ≤ code && code ≤ 0x0C) || code = 0x10
  match rest with
  | [] => if inNtt && !hNtt h then some (3, i0) else none
  | i1 :: _ =>
    let k := i1.h
    if (if hPlain k then hL k < hL h else hL k ≠ hL h) then some (1, i1)
    else if (adds && hScale k ≠ hScale h) || (muls && 0xFFFF < hScale h + hScale k) then some (2, i1)
    else if inNtt && !hNtt h then some (3, i0)
    else if (inNtt && !hNtt k) || (adds && hNtt k ≠ hNtt h) then some (3, i1)
    else if hScheme h = 1 && hTmod k ≠ hTmod h then some (5, i1)
    else if hSlots k ≠ hSlots h then some (6, i1)
    else none

/-- F_LEVEL (R284). -/
def levelFault (sp code session floor dpa : Nat) (auto : Bool) (o : SealOut) (low poor : Bool) : FaultInfo :=
  { code := F_LEVEL, source := srcSpire sp 5 0,
    detail := leBytes 1 code ++ leBytes 1 (ofBool low + ofBool poor * 2 + ofBool auto * 4) ++ leBytes 2 session ++
      leBytes 1 (ofSigned 8 o.l) ++ leBytes 1 0 ++ leBytes 2 (ofSigned 16 o.budget) ++ leBytes 2 floor ++ leBytes 6 dpa }

/-- The session of an operation: that of its first input that has one. -/
def sealSessionOf (is : List SealIn) : Option Nat := (is.find? (fun i => !hFree i.h)).map (fun i => hSession i.h)

/-- F_PARAM at the output header: the slot in it is that of the first input (R283). -/
def outBad (sp reason : Nat) (g : SealArgs) (is : List SealIn) (auto : Bool) : FaultInfo :=
  sealParam sp reason 3 (match is with | i :: _ => i.h | [] => []) g.out.toNat auto

/-- Checks 1 to 3: CRC, VALID, fields (R265). The output header is read for its body, so its CRC is checked too, after the
inputs' (R255) (DEDUCED, log 76). -/
def State.headersBad (s : State) (sp code : Nat) (g : SealArgs) (is : List SealIn) (out : List Byte) (auto : Bool) :
    Option FaultInfo :=
  let bad := fun reason (i : SealIn) => sealParam sp reason i.opnd i.h i.dpa auto
  (onInputs is (fun i => !hCrcOk i.h) (bad 0x01)).or
  ((if hCrcOk out then none else some (outBad sp 0x01 g is auto)).or
  ((onInputs is (fun i => !hValid i.h) (bad 0x02)).or
  (onInputs is (fun i =>
    let p := s.pset sp (hPset i.h)
    !hFieldsOk i.h || !compOk code i.opnd (hComp i.h) || !valueOk code g (hLogn i.h) ||
      (p.valid && !hPlain i.h && psL0 p.cur + psG p.cur * hLevel i.h ≠ hL i.h)) (bad 0x03))))

/-- Check 4: the slots. -/
def State.slotsBad (s : State) (sp : Nat) (is : List SealIn) (auto : Bool) : Option FaultInfo :=
  let bad := fun reason (i : SealIn) => sealParam sp reason i.opnd i.h i.dpa auto
  let first := match is with | i :: _ => hPset i.h | [] => 0
  (onInputs is (fun i => !(s.pset sp (hPset i.h)).valid) (bad 0x04)).or
  (onInputs is (fun i =>
    let r := (s.pset sp (hPset i.h)).cur
    hPset i.h ≠ first || hScheme i.h ≠ psScheme r || hLogn i.h ≠ psLogn r || byteAt i.h 3 ≠ psK r ||
      byteAt i.h 4 ≠ psDnum r || psLmax r < hL i.h) (bad 0x05))

/-- Checks 5 and 6: the session. -/
def State.sessionBad (s : State) (sp : Nat) (is : List SealIn) : Option FaultInfo :=
  let own := is.filter (fun i => !hFree i.h)
  let bad := fun reason (i : SealIn) => sealSession sp reason i.opnd i.h
  let c := fun (i : SealIn) => s.ctx (hSession i.h)
  (own.findSome? (fun i =>
    if ctxState (c i) ≠ 2 then some (bad 0x01 i)
    else if ctxFinger (c i) ≠ hFinger i.h then some (bad 0x02 i)
    else if ctxPset (c i) ≠ hPset i.h then some (bad 0x04 i)
    else none)).or
  (onInputs own (fun i => some (hSession i.h) ≠ sealSessionOf is) (bad 0x03))

/-- Check 8: the bodies, and their overlap (R256, R271). -/
def State.bodiesBad (s : State) (sp code : Nat) (g : SealArgs) (is : List SealIn) (out : List Byte) (o : SealOut)
    (auto : Bool) : Option FaultInfo :=
  let region := (sealSessionOf is).map (fun i => s.region (ctxRegion (s.ctx i)))
  let limbs := fun (i : SealIn) => bodyLimbs i.h (hComp i.h) (hL i.h) (hLogn i.h)
  let mine := match is with
    | i :: _ => bodyLimbs out o.comp o.l.toNat (hLogn i.h)
    | [] => []
  let aligned := hBody out % 4096 = 0 && hLimbStride out % 4096 = 0 && hPolyStride out % 4096 = 0
  let place := inPlaceOk code && g.out = g.in0
  (onInputs is (fun i => !s.bodyOk region (limbs i)) (fun i => sealParam sp 0x07 i.opnd i.h i.dpa auto)).or
  (if !aligned || !s.bodyOk region mine then some (outBad sp 0x07 g is auto)
  else if !place && is.any (fun i => (limbs i).any (fun r => mine.any (rangesMeet r))) then some (outBad sp 0x08 g is auto)
  else none)

/-- Checks 1 to 9 of R265, in their order; `auto` marks the re-check of R269, which makes them all (DEDUCED, log 46). `out` is the
output header as it stands (DEDUCED, log 76). -/
def State.sealCheck (s : State) (sp code : Nat) (g : SealArgs) (is : List SealIn) (out : List Byte) (auto : Bool) :
    SealVerdict :=
  match s.headersBad sp code g is out auto with
  | some f => .refuse f
  | none =>
  let building := fun (i : SealIn) =>
    let p := s.pset sp (hPset i.h)
    !p.valid && p.code ≠ 0
  if is.any building then .stall
  else match (s.slotsBad sp is auto).or (s.sessionBad sp is) with
  | some f => .refuse f
  | none => match is with
    | [] => .stall
    | i0 :: rest =>
      match disagree code i0 rest with
      | some (sub, i) => .refuse (sealParam sp 0x06 i.opnd i.h i.dpa auto sub)
      | none =>
        let r := (s.pset sp (hPset i0.h)).cur
        let o := sealOut code g.value.toNat r i0.h (match rest with | i1 :: _ => i1.h | [] => [])
        match s.bodiesBad sp code g is out o auto with
        | some f => .refuse f
        | none =>
          let c := match sealSessionOf is with | some i => s.ctx i | none => []
          let low := o.l < psL0 r
          let poor := code ≠ 0x10 && o.budget < ctxFloor c
          if hPlain i0.h || !(low || poor) then .pass o
          else .level (levelFault sp code (hSession i0.h) (ctxFloor c) i0.dpa auto o low poor)

end Sys2Proof.Machine
end

