-- ==== Sys2Proof/Machine/SealKeys.lean ====
section
/-!
DEFINITION. Key switches of sealed operations: the keys and pages they need, pins, tags, and the key words (R276, R291,
R300 to R303).
-/
namespace Sys2Proof.Machine
open Sys2Proof.Crypto Sys2Proof.Seal

/-- KIND and INDEX of the key that an operation switches with (R302). -/
def kswOf (code v : Nat) : Option (Nat × Nat) :=
  if code = 0x07 || code = 0x09 then some (0, 0)
  else if code = 0x0B then some (1, v)
  else if code = 0x0C then some (2, 0)
  else none

/-- The number of a key in a session's key table (DEDUCED, log 77). -/
def State.findKey (s : State) (m : ResMap) (kind index : Nat) : Option Nat :=
  (List.range m.keys).find? (fun j => let e := s.mapKey m j; byteAt e 0 = kind && field e 7 4 = index)

/-- The pages that a key switch with key `j` at current L needs (R300). -/
def keyPages (r : List Byte) (j l : Nat) : List Nat :=
  let pd := psDigitPages r
  let cur := ceilDiv l (psLambda r)
  let first := ceilDiv (psLmax r) (psLambda r)
  (List.range (ceilDiv l (psAlpha r))).flatMap (fun k =>
    (List.range cur ++ (List.range pd).drop first).map (fun o => j * psKeyPages r + k * pd + o))

/-- The pages an operation's key switch needs: none for an operation without one; a keyset without the key gives page
0xFFFF_FFFF, which is never resident (DEDUCED, log 47). -/
def State.neededPages (s : State) (code v : Nat) (c r : List Byte) (l : Nat) : Option (List Nat) :=
  (kswOf code v).map (fun k => match s.findKey (s.resMap c) k.1 k.2 with
    | some j => keyPages r j l
    | none => [0xFFFF_FFFF])

/-- Add to PIN of pages, or take away; LAST_BELL becomes the present bell (R300; DESIGN CHOICE, log 39). -/
def State.pinPages (s : State) (i : Nat) (ps : List Nat) (up : Bool) : State :=
  let m := s.resMap (s.ctx i)
  ps.foldl (fun (t : State) p =>
    let n := t.pagePin m p
    t.dirPut m p 74 (leBytes 2 (if up then n + 1 else n - 1) ++ leBytes 8 t.bellNum)) s

/-- The pages of a list that are not RESIDENT. -/
def State.missing (s : State) (c : List Byte) (ps : List Nat) : List Nat :=
  let m := s.resMap c
  ps.filter (fun p => m.pages ≤ p || s.pageState m p ≠ 2)

/-- The first page of a list that is BAD, as F_KEY_DIGEST (R301). -/
def State.badPage (s : State) (i : Nat) (ps : List Nat) : Option FaultInfo :=
  let m := s.resMap (s.ctx i)
  (ps.find? (fun p => p < m.pages && s.pageState m p = 3)).map (fun p =>
    digestFault i p (SMap.get (fun _ => []) s.digests (4096 * i + p)))

/-- The Spire with the fewest key streams, of those in service: its Blowpipe takes a page-in that the Keystone controller
issues itself (R297); of Spires with equally many, the lowest (DESIGN CHOICE, log 39). -/
def State.idlestSpire (s : State) : Nat :=
  let streams := fun sp => ((List.range 16).filter (fun k => match s.seal sp k with
    | some c => c.phase = .running && (c.ann.isSome || (kswOf c.code 1).isSome)
    | none => false)).length
  match s.liveSpires with
  | [] => 0
  | a :: t => t.foldl (fun b x => if streams x < streams b then x else b) a

/-- Request the pages of a list that are ABSENT (R301). -/
def State.requestPages (s : State) (i : Nat) (ps : List Nat) : State :=
  let m := s.resMap (s.ctx i)
  ps.foldl (fun (t : State) p =>
    if p < m.pages && t.pageState m p = 0 then (t.pageIn none t.idlestSpire i p).getD t else t) s

/-- F_KEY_ABSENT (R301). -/
def absentFault (sp i : Nat) (miss : List Nat) (code bells : Nat) : FaultInfo :=
  { code := F_KEY_ABSENT, source := srcSpire sp 3 0,
    detail := leBytes 2 i ++ leBytes 4 (miss.headD 0) ++ leBytes 2 miss.length ++ leBytes 1 code ++ leBytes 1 bells }

/-! ### Tags (R302) -/

/-- The fields in which a tag differs from the expected one. -/
def tagDiff (want got : List Byte) : Nat :=
  let d := fun hi lo => ofBool (field want hi lo ≠ field got hi lo)
  d 1 0 + d 9 2 * 2 + d 10 10 * 4 + d 15 12 * 8 + d 11 11 * 16 + d 19 18 * 32 + d 17 16 * 64 + ofBool (!tagValid got) * 128

/-- A key entry as an operation expects it: KIND and INDEX of the operation's key, SEED_ID as the table has it (R302). A slice
of ANNEAL expects a helper; which one it is the plan says, so its INDEX is the entry's own (DESIGN CHOICE, log 49). -/
def wantedKey (op : Option (Nat × Nat)) (e : List Byte) : List Byte :=
  let (kind, index) := op.getD (3, field e 7 4)
  leBytes 1 kind ++ (e.drop 1).take 3 ++ leBytes 4 index

/-- Check the tags of the pages that a key switch streams, in order: the F_KEY_MISMATCH of the first that differs, or F_MEM_UE
of a tag slot (R373). `op` is the key of the operation, `h` the input header, `n` the number of Towers of the set. -/
def State.tagCheck (s : State) (sp n : Nat) (op : Option (Nat × Nat)) (h r : List Byte) (ps : List Nat) :
    State × Option FaultInfo :=
  let i := hSession h
  let m := s.resMap (s.ctx i)
  let pd := psDigitPages r
  let first := ceilDiv (psLmax r) (psLambda r)
  ps.foldl (fun (b : State × Option FaultInfo) p => match b with
    | (s, some f) => (s, some f)
    | (s, none) =>
      let want := tagOf i (hFinger h) (wantedKey op (s.mapKey m (p / psKeyPages r))) pd (p % psKeyPages r)
      let frame := (s.pageFrame m p - s.reg Reg.sessFrameBase) / 0x20_0000
      let out := s.readRange sp (srcSpire sp 5 0) (s.tagSlot frame) 32 false
      let got := out.bytes
      let diff := tagDiff want got
      if out.fault.isSome then (out.s, out.fault)
      else if diff = 0 then (out.s, none)
      else
        let o := p % pd
        let limb := if o < first then o * psLambda r else hL h + (o - first) * psLambda r
        (out.s, some
          { code := F_KEY_MISMATCH, source := srcSpire sp 5 0,
            detail := leBytes 1 diff ++ leBytes 2 i ++ leBytes 4 p ++ leBytes 1 (limb % max n 1) ++
              ((got.drop 8).take 4) ++ leBytes 4 frame })) (s, none)

/-- Count and report a mismatch that ends a key switch (R302): source 98 of the Spire's Carillon (R384). -/
def State.mismatch (s : State) (sp i : Nat) (f : FaultInfo) : State :=
  if f.code = F_KEY_MISMATCH then
    (((s.sessCount i 176 4 1).count (Reg.blpMismatch sp) 1).raise sp 98).faultToKey f
  else s

/-! ### Key words (R291, R303) -/

/-- The limb slots of a digit at current L: global limb number and prime. -/
def keyLimbs (r : List Byte) (l : Nat) : List (Nat × Nat) :=
  (List.range l).map (fun i => (i, psQ r i)) ++ (List.range (psK r)).map (fun j => (psLmax r + j, psP r j))

/-- The ordinal of the page of a limb, and its slot there (R291). -/
def limbPlace (r : List Byte) (l : Nat) : Nat × Nat :=
  let lam := psLambda r
  if l < psLmax r then (l / lam, l % lam)
  else (ceilDiv (psLmax r) lam + (l - psLmax r) / lam, (l - psLmax r) % lam)

/-- The "a" half of key `j` for a key switch at current L, by digit and limb, with the candidates rejected (R303). -/
def State.keyA (s : State) (m : ResMap) (r : List Byte) (j l : Nat) : List (List (List Nat)) × Nat :=
  let e := s.mapKey m j
  let seed := s.mapSeed m (field e 3 2)
  let out := (List.range (ceilDiv l (psAlpha r))).map (fun k => (keyLimbs r l).map (fun p =>
    seedLimb p.2 (psLogn r) seed (byteAt e 0) (field e 7 4) k p.1))
  (out.map (fun d => d.map (·.1)), ((out.map (fun d => (d.map (·.2)).sum))).sum)

/-- The "b" half, read from the frames: the state with reports made, the words, and whether a codeword was uncorrectable. -/
def State.keyB (s : State) (sp : Nat) (m : ResMap) (r : List Byte) (j l : Nat) : State × List (List (List Nat)) × Bool :=
  let n := 2 ^ psLogn r
  (List.range (ceilDiv l (psAlpha r))).foldl (fun (a : State × List (List (List Nat)) × Bool) k =>
    let (t, limbs, bad) := (keyLimbs r l).foldl (fun (b : State × List (List Nat) × Bool) p =>
      let (o, slot) := limbPlace r p.1
      let page := j * psKeyPages r + k * psDigitPages r + o
      let out := b.1.readRange sp (srcSpire sp 5 0) (b.1.pageFrame m page + 4 * n * slot) (4 * n) true
      (out.s, b.2.1 ++ [unpackLimb n out.bytes], b.2.2 || !out.hits.isEmpty)) (a.1, [], a.2.2)
    (t, a.2.1 ++ [limbs], bad)) (s, [], false)

/-! ### Values (R267, R273 to R276) -/

/-- Polynomial c of a body, zero where it has none. -/
def polyAt (n l : Nat) (ps : List (List (List Nat))) (c : Nat) : List (List Nat) :=
  ps.getD c (List.replicate l (List.replicate n 0))

/-- Two polynomials limb by limb. -/
def limbwise (qs : List Nat) (f : Nat → List Nat → List Nat → List Nat) (a b : List (List Nat)) : List (List Nat) :=
  (qs.zip (a.zip b)).map (fun e => f e.1 e.2.1 e.2.2)

/-- The output body of an operation. `a` and `b` are the input bodies at L = `l`, `ka` and `kb` the halves of its key,
`isNtt` whether the input is in NTT form. -/
def sealValue (code v : Nat) (r : List Byte) (l : Nat) (isNtt : Bool) (a b : List (List (List Nat)))
    (ka kb : List (List (List Nat))) : List (List (List Nat)) :=
  let qs := psQs r l
  let logn := psLogn r
  let n := 2 ^ logn
  let at_ := polyAt n l
  let switch := keySwitch logn (psAlpha r) qs (psPs r)
  let comps := List.range (max a.length b.length)
  match code with
  | 0x01 => comps.map (fun c => limbwise qs addW (at_ a c) (at_ b c))
  | 0x02 => comps.map (fun c => limbwise qs subW (at_ a c) (at_ b c))
  | 0x03 => a.map (fun p => List.zipWith (fun q x => x.map (subMod q 0)) qs p)
  | 0x04 => match a with
    | p :: t => limbwise qs addW p (at_ b 0) :: t
    | [] => []
  | 0x05 => a.map (fun p => List.zipWith (fun q x => scaleW q (toSigned 32 v % (q : Int)).toNat x) qs p)
  | 0x06 => a.map (fun p => limbwise qs mulW p (at_ b 0))
  | 0x07 =>
    let d := limbwise qs mulW (at_ a 1) (at_ b 1)
    let (sa, sb) := switch d ka kb
    [limbwise qs addW (limbwise qs mulW (at_ a 0) (at_ b 0)) sb,
     limbwise qs addW (limbwise qs addW (limbwise qs mulW (at_ a 0) (at_ b 1)) (limbwise qs mulW (at_ a 1) (at_ b 0))) sa]
  | 0x08 =>
    [limbwise qs mulW (at_ a 0) (at_ b 0),
     limbwise qs addW (limbwise qs mulW (at_ a 0) (at_ b 1)) (limbwise qs mulW (at_ a 1) (at_ b 0)),
     limbwise qs mulW (at_ a 1) (at_ b 1)]
  | 0x09 =>
    let (sa, sb) := switch (at_ a 2) ka kb
    [limbwise qs addW (at_ a 0) sb, limbwise qs addW (at_ a 1) sa]
  | 0x0A =>
    let keep := l - psG r
    a.map (fun p => modDown logn (qs.take keep) (qs.drop keep) p)
  | 0x0D => a.map (fun p => p.take (l - v * psG r))
  | 0x0E => if isNtt then a else a.map (fun p => List.zipWith (fun q x => ntt q logn x) qs p)
  | 0x0F => if isNtt then a.map (fun p => List.zipWith (fun q x => intt q logn x) qs p) else a
  | _ =>
    -- ROTATE and CONJ
    let g := if code = 0x0B then powMod 5 v (2 * n) else 2 * n - 1
    let p0 := (at_ a 0).map (automorph logn g)
    let (sa, sb) := switch ((at_ a 1).map (automorph logn g)) ka kb
    [limbwise qs addW p0 sb, sa]

end Sys2Proof.Machine
end

