-- ==== Sys2Proof/Machine/SealRun.lean ====
section
/-!
DEFINITION. SEAL commands (R258, R264 to R271, R276, R277, R282, R300 to R302, R361): from their checks to their completion.
ANNEAL's slices are in `Machine/Anneal.lean`.
-/
namespace Sys2Proof.Machine
open Sys2Proof.Seal

/-! ### Places, Towers, windows -/

/-- The lowest free place: a Spire runs at most 16 (R331). -/
def State.freeSeal (s : State) (sp : Nat) : Option Nat := (List.range 16).find? (fun k => (s.seal sp k).isNone)

/-- The SEAL_WINDOW entry of a Spire that is open and whose TOWERS covers a Tower set (R354, R361). -/
def State.sealWindow (s : State) (sp : Nat) (towers : BitVec 16) : Option Nat :=
  (s.insts.find? (fun e => e.1 / 1024 = sp && (match e.2 with
    | i :: _ => i.started && !i.past && !i.abandoned && !i.notRun && byteAt i.bytes 0 = 2 &&
        (field i.bytes 5 4 &&& towers.toNat) = towers.toNat
    | [] => false))).map (fun e => e.1 % 1024)

/-- The banks in which the sealed sequences of a Spire keep limbs and intermediates (R306). -/
def State.sealBanks (s : State) (sp : Nat) : BitVec 64 := BitVec.ofNat 64 (s.reg (Reg.sprSealBanks sp))

/-- F_BANK_OFF of a sealed operation: the first named bank of a Tower of its set that is in Retention or Off, with the offset
of the bank's first row (R114, R282) (DESIGN CHOICE, log 102). -/
def State.workBankOff (s : State) (sp : Nat) (towers : BitVec 16) : Option FaultInfo :=
  (s.slotsOf sp towers).findSome? (fun g =>
    ((below 64 (fun n => (s.sealBanks sp).getLsbD n)).find? (fun n => match s.bankState g n with
      | .retention => true | .off => true | _ => false)).map (fun n =>
        bankOffFault g (256 * n) (s.bankState g n) 0xFFFF (srcSpire sp 5 0)))

/-- A sealed sequence leaves limbs and intermediates in the named banks of its Towers: what is where is not stated, so every
row of those that are On takes free bytes (R272, R276, R306) (DESIGN CHOICE, log 102). -/
def State.useBanks (s : State) (sp : Nat) (towers : BitVec 16) : State :=
  (s.slotsOf sp towers).foldl (fun (t : State) g =>
    (below 64 (fun n => (t.sealBanks sp).getLsbD n && t.bankState g n = .on)).foldl (fun (u : State) n =>
      (List.range (towerSize / 0x4000)).foldl (fun (v : State) r =>
        (v.towerPut g (0x4000 * r + 256 * n) (freeBytes v.free 256)).draw) u) t) s

/-- The window in which an operation may start now: its Towers have no task, no scrub and no other sealed sequence, and no
named bank of theirs is becoming On (R113). -/
def State.sealRoom (s : State) (sp : Nat) (towers : BitVec 16) : Option Nat :=
  if (s.slotsOf sp towers).all (fun g => (s.tower g).task.isNone && (s.tower g).scrub.isNone && !s.sealHolds g &&
      !(s.tower g).rising.any (fun n => (s.sealBanks sp).getLsbD n)) then
    s.sealWindow sp towers
  else none

/-! ### Memory -/

/-- Write bytes as a sealed sequence of a Spire. -/
def State.sealPut (s : State) (sp a : Nat) (bs : List Byte) : State × Option FaultInfo :=
  let (t, _, f) := s.putRange sp { x := sp, source := srcSpire sp 5 0, node := 0xFFFF, gen := 0 } false a bs
  (t, f)

/-- Read a header: 64 bytes. -/
def State.readHeader (s : State) (sp a : Nat) : State × Except FaultInfo (List Byte) :=
  match s.firstUnmapped a 64 with
  | some x => (s, .error (descFault (srcSpire sp 5 0) 0x01 (addr := x)))
  | none =>
    let r := s.readRange sp (srcSpire sp 5 0) a 64 false
    (r.s, match r.fault with | some f => .error f | none => .ok r.bytes)

/-- Read the headers of an operation: its inputs, and the output header as it stands. The one input of NTT and INTT may be a
plaintext, which is operand 2 (R264, R283). -/
def State.readHeaders (s : State) (sp code : Nat) (g : SealArgs) : State × Except FaultInfo (List SealIn × List Byte) :=
  let (s, is) := (sealInputs code g).foldl (fun (a : State × Except FaultInfo (List SealIn)) i =>
    match a.2 with
    | .error _ => a
    | .ok l => match a.1.readHeader sp i.2 with
      | (t, .error f) => (t, .error f)
      | (t, .ok h) => (t, .ok (l ++ [{ opnd := if hPlain h && (code = 0x0E || code = 0x0F) then 2 else i.1, dpa := i.2, h := h }]))) (s, .ok [])
  match is with
  | .error f => (s, .error f)
  | .ok l => match s.readHeader sp g.out.toNat with
    | (s, .error f) => (s, .error f)
    | (s, .ok h) => (s, .ok (l, h))

/-- Clear VALID in an output header, every other byte as it was but for CRC (R258): the header as it was read, whose CRC is
checked (R255) (DEDUCED, log 76). -/
def State.clearValid (s : State) (sp a : Nat) (bad : FaultInfo) : State × Except FaultInfo (List Byte) :=
  match s.readHeader sp a with
  | (s, .error f) => (s, .error f)
  | (s, .ok h) =>
    if !hCrcOk h then (s, .error bad)
    else match s.sealPut sp a (hSeal (patch h 7 (leBytes 1 (setBits (byteAt h 7) 0 0 0)))) with
      | (s, some f) => (s, .error f)
      | (s, none) => (s, .ok h)

/-- LEVEL of an output (R267). A plaintext's L need not be L0 and a multiple of G more: what LEVEL then is the rule does not
say (DEDUCED, log 19). -/
def levelOut (code : Nat) (r : List Byte) (l : Int) : Nat :=
  let d := l - psL0 r
  if d < 0 || d.toNat % psG r ≠ 0 then bits (Config.unstated (0x100 + code) (ofSigned 32 d)).toNat 7 0 else d.toNat / psG r

/-- The final output header: the fields of R267 over the first input's, the body's place as the output header had it
(R254, R258, R267, R270) (DEDUCED, log 76). -/
def outHeader (code : Nat) (r h0 old : List Byte) (o : SealOut) (scale : Nat) (poison : Bool) : List Byte :=
  let isNtt := if code = 0x0E then true else if code = 0x0F then false else hNtt h0
  let anneals := field h0 47 44
  hSeal (h0.take 2 ++ leBytes 1 o.l.toNat ++ (h0.drop 3).take 3 ++ leBytes 1 o.comp ++
    leBytes 1 (1 + ofBool isNtt * 2 + ofBool poison * 4) ++ (h0.drop 8).take 2 ++ leBytes 1 (levelOut code r o.l) ++
    (h0.drop 11).take 1 ++ leBytes 2 scale ++ leBytes 2 (ofSigned 16 o.budget) ++ (h0.drop 16).take 8 ++
    (old.drop 24).take 6 ++ leBytes 2 0 ++ (old.drop 32).take 8 ++ (h0.drop 40).take 4 ++
    leBytes 4 (if code = 0x10 then satAdd 32 anneals 1 else anneals) ++ List.replicate 12 0)

/-- SCALE as stored: a value below 0 has no code, and what RESCALE then writes is not stated (DEDUCED, log 19). -/
def storedScale (code : Nat) (x : Int) : Nat :=
  if x < 0 then bits (Config.unstated code (ofSigned 32 x)).toNat 15 0 else x.toNat % 65536

/-- Write limbs one after another. -/
def State.putLimbs (s : State) (sp : Nat) (ls : List (Nat × Nat)) (data : Nat → List Byte) : State × Option FaultInfo :=
  ls.zipIdx.foldl (fun (a : State × Option FaultInfo) e => match a.2 with
    | some _ => a
    | none => a.1.sealPut sp e.1.1 (data e.2)) (s, none)

/-- Leave a body undefined (R270, R282). -/
def State.spoil (s : State) (sp : Nat) (ls : List (Nat × Nat)) : State :=
  let f := s.free
  ((s.putLimbs sp ls (fun i => freeBytes (f * 2 ^ 16 + i) (ls.getD i (0, 0)).2)).1).draw

/-- Read the limbs of a body: the words by polynomial and limb, whether a codeword was uncorrectable, and a fault that ends
the operation. -/
def State.readBody (s : State) (sp : Nat) (h : List Byte) (l : Nat) :
    State × List (List (List Nat)) × Bool × Option FaultInfo :=
  let n := 2 ^ hLogn h
  (List.range (hComp h)).foldl (fun (a : State × List (List (List Nat)) × Bool × Option FaultInfo) c =>
    let (t, p, bad, f) := (List.range l).foldl (fun (b : State × List (List Nat) × Bool × Option FaultInfo) i =>
      match b.2.2.2 with
      | some _ => b
      | none =>
        let r := b.1.readRange sp (srcSpire sp 5 0) (hBody h + c * hPolyStride h + i * hLimbStride h) (4 * n) true
        (r.s, b.2.1 ++ [unpackLimb n r.bytes], b.2.2.1 || !r.hits.isEmpty, r.fault)) (a.1, [], a.2.2.1, a.2.2.2)
    (t, a.2.1 ++ [p], bad, f)) (s, [], false, none)

/-! ### Ends -/

/-- RESULT of a SEAL command (R323). -/
def sealResult (out : Nat) (h : List Byte) (bells : Nat) : List Byte :=
  leBytes 6 out ++ leBytes 2 (hBudget h) ++ leBytes 1 (hL h) ++ leBytes 1 (hLevel h) ++ leBytes 1 bells

/-- Take the pins of an operation away (R300). -/
def State.unpin (s : State) (c : SealOp) : State :=
  match c.session, c.pins with
  | some i, some ps => s.pinPages i ps false
  | _, _ => s

/-- A SEAL command ends with a fault: its place is free. -/
def State.sealFail (s : State) (sp k : Nat) (c : SealOp) (f : FaultInfo) : State :=
  ((s.unpin c).setSeal sp k none).completeFault c.o 0x30 f (sealResult c.g.out.toNat [] c.bells)

/-- A refusal with F_LEVEL counts (R268). -/
def State.levelCount (s : State) (sp : Nat) (f : FaultInfo) : State :=
  if f.code = F_LEVEL then s.count (Reg.sprSealLevel sp) 1 else s

/-- The scratch ciphertexts that R269 anneals the ciphertext inputs into, in operand order. -/
def annealQueue (c : List Byte) (is : List SealIn) : List (Nat × Nat) :=
  ((is.filter (fun i => !hPlain i.h)).zipIdx).map (fun e => (e.1.dpa, ctxScratch c e.2))

/-- What an F_LEVEL verdict comes to for a command not yet refused: auto-anneals, or the refusal (R268, R269). -/
def State.sealLevel (s : State) (sp k : Nat) (c : SealOp) (is : List SealIn) (f : FaultInfo) : State :=
  let ctx := match c.session with | some i => s.ctx i | none => []
  if ctxAuto ctx && c.code ≠ 0x10 && !c.auto then
    s.setSeal sp k (some { c with phase := .waiting, queue := annealQueue ctx is })
  else (s.levelCount sp f).sealFail sp k c f

/-- Demand the slots that inputs name (R262) (DEDUCED, log 76). -/
def State.demandSlots (s : State) (sp : Nat) (is : List SealIn) : State :=
  is.foldl (fun (t : State) i => t.psetDemand sp (hPset i.h)) s

/-- A SEAL command arrives at Blowpipe: checks 1 to 9; it then waits for its window (R265, R361). -/
def State.sealBegin (s : State) (o : Origin) (code : Nat) (g : SealArgs) : State :=
  let sp := o.spire.val
  s.onEngine o 2 0x30 (fun s =>
    match s.freeSeal sp with
    | none => s
    | some k =>
      let c : SealOp :=
        { o := o, code := code, g := g, auto := false, phase := .waiting, win := none, hdrs := [],
          old := [], pset := [], session := none, pins := none, since := none, bells := 0, abandon := none, queue := [], ann := none }
      let (s, r) := s.readHeaders sp code g
      match r with
      | .error f => s.sealFail sp k c f
      | .ok (is, out) =>
        let c := { c with session := sealSessionOf is }
        match s.sealCheck sp code g is out false with
        | .refuse f => s.sealFail sp k c f
        | .stall => (s.demandSlots sp is).setSeal sp k (some c)
        | .level f => s.sealLevel sp k c is f
        | .pass _ => s.setSeal sp k (some c))

/-- HADD. -/
def execHadd (o : Origin) (g : SealArgs) (s : State) : Host.Outcome State Fault Refusal := .next (s.sealBegin o 0x01 g)
/-- HSUB. -/
def execHsub (o : Origin) (g : SealArgs) (s : State) : Host.Outcome State Fault Refusal := .next (s.sealBegin o 0x02 g)
/-- HNEG. -/
def execHneg (o : Origin) (g : SealArgs) (s : State) : Host.Outcome State Fault Refusal := .next (s.sealBegin o 0x03 g)
/-- PADD (DEDUCED, log 76). -/
def execPadd (o : Origin) (g : SealArgs) (s : State) : Host.Outcome State Fault Refusal := .next (s.sealBegin o 0x04 g)
/-- CMUL. -/
def execCmul (o : Origin) (g : SealArgs) (s : State) : Host.Outcome State Fault Refusal := .next (s.sealBegin o 0x05 g)
/-- PMUL. -/
def execPmul (o : Origin) (g : SealArgs) (s : State) : Host.Outcome State Fault Refusal := .next (s.sealBegin o 0x06 g)
/-- HMUL. -/
def execHmul (o : Origin) (g : SealArgs) (s : State) : Host.Outcome State Fault Refusal := .next (s.sealBegin o 0x07 g)
/-- HMUL3. -/
def execHmul3 (o : Origin) (g : SealArgs) (s : State) : Host.Outcome State Fault Refusal := .next (s.sealBegin o 0x08 g)
/-- RELIN. -/
def execRelin (o : Origin) (g : SealArgs) (s : State) : Host.Outcome State Fault Refusal := .next (s.sealBegin o 0x09 g)
/-- RESCALE (DEDUCED, log 19). -/
def execRescale (o : Origin) (g : SealArgs) (s : State) : Host.Outcome State Fault Refusal := .next (s.sealBegin o 0x0A g)
/-- ROTATE. -/
def execRotate (o : Origin) (g : SealArgs) (s : State) : Host.Outcome State Fault Refusal := .next (s.sealBegin o 0x0B g)
/-- CONJ. -/
def execConj (o : Origin) (g : SealArgs) (s : State) : Host.Outcome State Fault Refusal := .next (s.sealBegin o 0x0C g)
/-- LEVELDOWN. -/
def execLeveldown (o : Origin) (g : SealArgs) (s : State) : Host.Outcome State Fault Refusal :=
  .next (s.sealBegin o 0x0D g)
/-- NTT. -/
def execNtt (o : Origin) (g : SealArgs) (s : State) : Host.Outcome State Fault Refusal := .next (s.sealBegin o 0x0E g)
/-- INTT. -/
def execIntt (o : Origin) (g : SealArgs) (s : State) : Host.Outcome State Fault Refusal := .next (s.sealBegin o 0x0F g)
/-- ANNEAL. -/
def execAnneal (o : Origin) (g : SealArgs) (s : State) : Host.Outcome State Fault Refusal := .next (s.sealBegin o 0x10 g)

/-! ### Slices of an ANNEAL that fail (R280, R281) -/

/-- A checkpoint record of an area, if its CRC is good: record slot A at the area's start, B 64 bytes on (DESIGN CHOICE, log 49). -/
def State.ckRecord (s : State) (sp : Nat) (a : AnnealRun) (b : Bool) : Option (List Byte) :=
  let r := SMap.getRun (fun _ => 0) s.gallery (galKey sp (a.area.1 + ofBool b * 64)) 64
  if hCrcOk r && field r 35 32 ≠ 0 then some r else none

/-- SEQ of a record slot, 0 for none. -/
def ckSeq (r : Option (List Byte)) : Nat := match r with | some r => field r 35 32 | none => 0

/-- The slot of the latest record: true for B. -/
def State.ckLatest (s : State) (sp : Nat) (a : AnnealRun) : Bool :=
  ckSeq (s.ckRecord sp a false) < ckSeq (s.ckRecord sp a true)

/-- Write a record into a slot, its CRC last. -/
def State.ckPut (s : State) (sp : Nat) (a : AnnealRun) (b : Bool) (r : List Byte) : State :=
  let o := a.area.1 + ofBool b * 64
  let r := hSeal r
  (s.galleryPut sp o (r.take 60)).galleryPut sp (o + 60) (r.drop 60)

/-- F_SESSION, CLOSED: work that SESS_CLOSE ends (R305). -/
def closedFault (i : Nat) : FaultInfo := sessFault 0x18 i 3

/-- Whether an operation's session is closing. -/
def State.sealClosing (s : State) (c : SealOp) : Bool :=
  match c.session with
  | some i => ctxState (s.ctx i) = 3
  | none => false

/-- What a running slice has written of its ANNEAL's output body is not stated: the body is free (R282; DESIGN CHOICE, log 49). -/
def State.annealSpoil (s : State) (sp : Nat) (c : SealOp) (a : AnnealRun) : State :=
  if c.phase ≠ .running then s
  else
    let h0 := c.hdrs.headD []
    let o := sealOut 0x10 0 c.pset h0 []
    s.spoil sp (bodyLimbs a.old o.comp o.l.toNat (hLogn h0))

/-- Candidates rejected, and clk that a Marver waited for key words, of key switches that the model does not compute: those of
ANNEAL slices and of aborted operations (R303, R304). Both counts are free (DESIGN CHOICE, log 49). -/
def State.keyClks (s : State) (sp : Nat) (switches : Bool) : State :=
  if switches then
    let s := (s.count64 (Reg.blpReject sp) s.clk).draw
    (s.count64 (Reg.blpStall sp) s.clk).draw
  else s

/-- A slice ends without its checkpoint (R281): it restarts from the latest good record at a later bell, or ends the ANNEAL
when it has failed from that checkpoint before. A stop is no failure of the slice (DEDUCED, log 50). -/
def State.sliceFail (s : State) (sp k : Nat) (c : SealOp) (a : AnnealRun) (f : FaultInfo) (failure : Bool) : State :=
  let s := (s.annealSpoil sp c a).keyClks sp (decide (0 < a.ksws))
  if s.sealClosing c then s.sealFail sp k c (closedFault (c.session.getD 0))
  else if failure && a.failed then s.sealFail sp k c f
  else
    let s := s.count (Reg.sprAnnealRestart sp) 1
    let b := s.ckLatest sp a
    let r := s.ckRecord sp a b
    let s := match r with
      | some r => s.ckPut sp a b (patch r 36 (leBytes 2 (satAdd 16 (field r 37 36) 1)))
      | none => s
    let next := match r with | some r => field r 7 4 | none => 0
    let a := { a with next := next, failed := a.failed || failure, after := s.bellNum + 1 }
    (s.unpin c).setSeal sp k
      (some { c with phase := .waiting, pins := none, since := none, abandon := none, ann := some a })

/-- A fault ends an operation that waits for pages, or the slice of an ANNEAL (R281, R301). -/
def State.sealFault (s : State) (sp k : Nat) (c : SealOp) (f : FaultInfo) : State :=
  match c.ann with
  | some a => s.sliceFail sp k c a f true
  | none => s.sealFail sp k c f

/-! ### Deferral (R300, R301) -/

/-- Whether an expander of a Tower set is out of order until the next bell (R450). -/
def State.expWaits (s : State) (sp : Nat) (towers : BitVec 16) : Bool :=
  (List.range 16).any (fun t => towers.getLsbD t && SMap.get (fun _ => 0) s.expDown (16 * sp + t) = 1)

/-- Check 10 for pages: the operation with its pins, or held (R300, R301); a faulty expander holds it in the same way
(R450). `none`: held or ended (DEDUCED, log 43). -/
def State.checkPages (s : State) (sp k : Nat) (c : SealOp) (pages : List Nat) : State × Option SealOp :=
  match c.session with
  | none => (s, some c)
  | some i =>
    let (s, ue) := s.mapRead sp (srcKey 8 0) (s.ctx i) pages
    match ue with
    | some f => (s.sealFault sp k c f, none)
    | none =>
    let ctx := s.ctx i
    let miss := s.missing ctx pages
    let waits := s.expWaits sp c.g.towers
    if miss.isEmpty && !waits then (s.pinPages i pages true, some { c with pins := some pages })
    else
      let since := c.since.getD (s.bellNum, ctxLimit ctx)
      let s := if c.since.isSome then s else
        (s.sessCount i 184 4 1).faultToSpire sp (absentFault sp i (if waits then pages else miss) c.code 0)
      let s := s.requestPages i miss
      match s.badPage i pages with
      | some f => (s.sealFault sp k c f, none)
      | none => (s.setSeal sp k (some { c with phase := .deferred, since := some since, pins := some pages }), none)

/-- The pages for which a deferred operation waits stand in `pins` until they are pinned. At a bell check 10 is repeated:
on success the operation waits for its window, its pages pinned (R301). -/
def State.recheck (s : State) (sp k : Nat) (c : SealOp) : State :=
  match c.pins with
  | none => s
  | some pages =>
    let c := { c with bells := c.bells + 1, pins := none }
    match s.checkPages sp k c pages with
    | (s, some c) => s.setSeal sp k (some { c with phase := .waiting })
    | (s, none) => s

/-- The SEAL commands of a Spire: place and command. -/
def State.sealsOf (s : State) (sp : Nat) : List (Nat × SealOp) :=
  (List.range 16).filterMap (fun k => (s.seal sp k).map (fun c => (k, c)))

/-- Action 7 of a bell (R349). -/
def State.recheckAll (s : State) (sp : Nat) : State :=
  (s.sealsOf sp).foldl (fun (t : State) e => if e.2.phase = .deferred then t.recheck sp e.1 e.2 else t) s

/-- An operation that holds no pin: pages noted for check 10 are forgotten. -/
def SealOp.unheld (c : SealOp) : SealOp := if c.phase = .deferred then { c with pins := none } else c

/-- DEFER_LIMIT bells have passed since the first deferral: the operation completes with F_KEY_ABSENT; an ANNEAL's slice
fails by it (R301, R279). -/
def execKeyDeferTimeout (spire : Fin 4) (op : Fin 16) (s : State) : Host.Outcome State Fault Refusal :=
  let sp := spire.val
  .next (match s.seal sp op.val with
    | some c => match c.phase, c.since, c.session with
      | .deferred, some (b, limit), some i =>
        if s.bellNum < b + limit then s
        else s.sealFault sp op.val c.unheld
          (absentFault sp i (s.missing (s.ctx i) (c.pins.getD [])) c.code (s.bellNum - b))
      | _, _, _ => s
    | none => s)

/-- Deferred operations that need a page that has become BAD complete with F_KEY_DIGEST (R301). -/
def State.failBad (s : State) (i p : Nat) (f : FaultInfo) : State :=
  (List.range 4).foldl (fun (t : State) sp => (t.sealsOf sp).foldl (fun (u : State) e =>
    if e.2.phase = .deferred && e.2.session = some i && (e.2.pins.getD []).contains p then
      u.sealFault sp e.1 e.2.unheld f
    else u) t) s

/-- A page image's digest completes (R297, R299); not while Alxis is down (R400). -/
def execKeyPageDigestDone (index : Fin 16384) (page : BitVec 32) (s : State) : Host.Outcome State Fault Refusal :=
  .next (if !s.alxUp then s else match s.keyJobs.find? (fun j => j.index = index.val && j.page = page.toNat) with
    | none => s
    | some j => match s.pageDone j with
      | (s, none) => s
      | (s, some f) => s.failBad index.val page.toNat f)

/-! ### Start and completion -/

/-- The Towers of a set become touched by a session (R287). -/
def State.touch (s : State) (sp : Nat) (session : Option Nat) (towers : BitVec 16) : State :=
  match session with
  | none => s
  | some i =>
    let c := s.ctx i
    s.setCtx i (patch c 104 (leBytes 8 (ctxTouched c ||| towers.toNat <<< (16 * sp))))


/-- The limbs of an operation's output body. -/
def SealOp.outLimbs (c : SealOp) (o : SealOut) : List (Nat × Nat) :=
  bodyLimbs c.old o.comp o.l.toNat (hLogn (c.hdrs.headD []))

/-- R267's fields for an operation as it started. -/
def SealOp.result (c : SealOp) : SealOut :=
  sealOut c.code c.g.value.toNat c.pset (c.hdrs.headD []) (c.hdrs.getD 1 [])

/-- An operation that has begun is aborted: its output stays without VALID, its body undefined (R282). -/
def State.sealAbort (s : State) (sp k : Nat) (c : SealOp) (o : SealOut) (f : FaultInfo) : State :=
  (s.spoil sp (c.outLimbs o)).sealFail sp k c f

/-- An operation runs: VALID of its output is cleared (R258), and its work begins in the banks of its Towers, if they are On
(R282, R306). -/
def State.sealRun (s : State) (sp k win : Nat) (c : SealOp) : State :=
  let bad := sealParam sp 0x01 3 (c.hdrs.headD []) c.g.out.toNat c.auto
  match (s.touch sp c.session c.g.towers).clearValid sp c.g.out.toNat bad with
  | (s, .error f) => s.sealFail sp k c f
  | (s, .ok old) =>
    let c := { c with phase := .running, win := some win, old := old }
    match s.workBankOff sp c.g.towers with
    | some f => s.sealAbort sp k c c.result f
    | none => (s.useBanks sp c.g.towers).setSeal sp k (some c)

/-- SEAL_OP_START: a waiting command starts inside an open window (R361). The checks are made again, since memory may have
changed while it waited (DEDUCED, log 46); an operation that is past check 10 runs (DESIGN CHOICE, log 18). -/
def execSealOpStart (spire : Fin 4) (op : Fin 16) (s : State) : Host.Outcome State Fault Refusal :=
  let sp := spire.val
  let k := op.val
  .next (match s.seal sp k with
    | none => s
    | some c => match s.sealRoom sp c.g.towers with
      | none => s
      | some win =>
        if c.phase ≠ .waiting || c.code = 0x10 || !c.queue.isEmpty then s
        else if c.pins.isSome then s.sealRun sp k win c
        else
          let (s, r) := s.readHeaders sp c.code c.g
          match r with
          | .error f => s.sealFail sp k c f
          | .ok (is, out) =>
            let c := { c with session := sealSessionOf is, hdrs := is.map (·.h) }
            match s.sealCheck sp c.code c.g is out c.auto with
            | .refuse f => s.sealFail sp k c f
            | .stall => s.demandSlots sp is
            | .level f => s.sealLevel sp k c is f
            | .pass _ =>
              let r := (s.pset sp (hPset (c.hdrs.headD []))).cur
              let c := { c with pset := r }
              let ctx := match c.session with | some i => s.ctx i | none => []
              match s.neededPages c.code c.g.value.toNat ctx r (hL (c.hdrs.headD [])) with
              | none => s.sealRun sp k win c
              | some pages => match s.checkPages sp k c pages with
                | (s, some c) => s.sealRun sp k win c
                | (s, none) => s)

/-- F_CHECKSUM of a sealed operation: the array's or the Marver's, of the set's first Tower (DEDUCED, log 45). -/
def State.sealCheckFault (s : State) (sp : Nat) (c : SealOp) (b : CheckFail) : State × FaultInfo :=
  let g := (s.slotsOf sp c.g.towers).headD (17 * sp)
  let f := if b.site.toNat < 2 then checkFault g 0xFF b else
    { code := F_CHECKSUM, source := if b.site = 6 then srcSpire sp 5 b.row.toNat else srcTower g 4,
      detail := leBytes 1 0xFF ++ leBytes 1 0 ++ leBytes 2 b.row.toNat ++ leBytes 2 0xFFFF ++ leBytes 4 0 ++
        leBytes 1 b.site.toNat }
  let s := if b.site = 6 then s else s.countCheck g (if b.site = 0 then some (b.row.toNat, b.col.toNat) else none)
  (s.faultToSpire sp f, f)

/-- The final header is written and the command completes (R258, R270, R287). -/
def State.sealDone (s : State) (sp k : Nat) (c : SealOp) (o : SealOut) (ksws : Nat) (poison : Bool) : State :=
  let h := outHeader c.code c.pset (c.hdrs.headD []) c.old o (storedScale c.code o.scale) poison
  match s.sealPut sp c.g.out.toNat h with
  | (s, some f) => s.sealFail sp k c f
  | (s, none) =>
    let s := if poison then s.count (Reg.sprSealPoison sp) 1 else s
    let s := match c.session with
      | some i => (s.sessCount i 156 8 1).sessCount i 164 8 ksws
      | none => s
    ((s.unpin c).setSeal sp k none).completeOk c.o 0x30 (sealResult c.g.out.toNat h c.bells)

/-- The key halves of an operation, with BLP_REJECT and BLP_STALL counted (R303, R304): whether a codeword was
uncorrectable. -/
def State.sealKey (s : State) (sp : Nat) (c : SealOp) :
    State × List (List (List Nat)) × List (List (List Nat)) × Bool :=
  match kswOf c.code c.g.value.toNat, c.session with
  | some (kind, index), some i =>
    let m := s.resMap (s.ctx i)
    let l := hL (c.hdrs.headD [])
    let j := (s.findKey m kind index).getD 0
    let (ka, rej) := s.keyA m c.pset j l
    let (s, kb, bad) := s.keyB sp m c.pset j l
    let s := ((s.count64 (Reg.blpReject sp) rej).count64 (Reg.blpStall sp) s.clk).draw
    (s, ka, kb, bad)
  | _, _ => (s, [], [], false)

/-- A running operation other than ANNEAL ends (R258, R270, R276, R282, R302, R359). A key switch that a tag mismatch or a
failing expander aborts has not written the output body (R302, R445). -/
def State.sealFinish (s : State) (sp k : Nat) (c : SealOp) (bad : Option CheckFail) : State :=
  let o := c.result
  let h0 := c.hdrs.headD []
  let h1 := c.hdrs.getD 1 []
  let switches := (kswOf c.code 1).isSome
  match s.tagCheck sp (s.slotsOf sp c.g.towers).length (kswOf c.code c.g.value.toNat) h0 c.pset (c.pins.getD []) with
  | (s, some f) => ((s.keyClks sp switches).mismatch sp (c.session.getD 0) f).sealFail sp k c f
  | (s, none) =>
  match bad with
  | some b =>
    let (s, f) := (s.keyClks sp switches).sealCheckFault sp c b
    if b.site = 6 then s.sealFail sp k c f else s.sealAbort sp k c o f
  | none =>
  match c.abandon.or (s.workBankOff sp c.g.towers) with
  | some f => (s.keyClks sp switches).sealAbort sp k c o f
  | none =>
    let l := hL h0
    let (s, a, ue0, f0) := s.readBody sp h0 l
    let (s, b, ue1, f1) := if c.hdrs.length = 2 then s.readBody sp h1 l else (s, [], false, none)
    match f0.or f1 with
    | some f => s.sealAbort sp k c o f
    | none =>
      let (s, ka, kb, ue2) := s.sealKey sp c
      let poison := hPoison h0 || (c.hdrs.length = 2 && hPoison h1) || ue0 || ue1 || ue2
      let ls := c.outLimbs o
      let ksws := ofBool switches
      if poison then (s.spoil sp ls).sealDone sp k c o ksws true
      else
        let out := (sealValue c.code c.g.value.toNat c.pset l (hNtt h0) a b ka kb).flatten
        match s.putLimbs sp ls (fun i => packLimb (out.getD i [])) with
        | (s, some f) => s.sealAbort sp k c o f
        | (s, none) => s.sealDone sp k c o ksws false

/-- The deadline of an entry abandons the sealed operations of its window (R277, R281, R359): one without a key switch
aborts; a key switch, and an ANNEAL slice, runs to its end first. -/
def State.sealAbandon (s : State) (sp e : Nat) (f : FaultInfo) : State :=
  (s.sealsOf sp).foldl (fun (t : State) x =>
    let (k, c) := x
    if c.phase = .running && c.win = some e then
      if c.ann.isSome || (kswOf c.code 1).isSome then t.setSeal sp k (some { c with abandon := some (f.met s.bellNum) })
      else t.sealAbort sp k c c.result f
    else t) s

end Sys2Proof.Machine
end

