-- ==== Sys2Proof/Machine/Anneal.lean ====
section
/-!
DEFINITION. ANNEAL in slices (R269, R278 to R281), and the close of a session (R305, R306). The plan of a parameter set is not
in the spec: the pages and the key switches of a slice, the checkpoint area and the live ciphertexts come with the
commands, and the ciphertexts' values are free (DESIGN CHOICE, log 49).
-/
namespace Sys2Proof.Machine
open Sys2Proof.Seal

/-! ### Slices -/

/-- The checks of the ANNEAL that begins: the command's own, or one that R269 inserts, whose input is a named ciphertext
and whose output a scratch one. The command with its headers and parameter set, and the run; or what ends it. -/
def State.annealCheck (s : State) (sp : Nat) (c : SealOp) (area : Nat × Nat) :
    State × Except (Option FaultInfo) (SealOp × AnnealRun) :=
  let (inn, out) := c.queue.headD (c.g.in0.toNat, c.g.out.toNat)
  let g : SealArgs := { c.g with in0 := BitVec.ofNat 48 inn, in1 := 0, out := BitVec.ofNat 48 out, value := 0 }
  let auto := !c.queue.isEmpty
  let (s, r) := s.readHeaders sp 0x10 g
  match r with
  | .error f => (s, .error (some f))
  | .ok (is, old) =>
    match s.sealCheck sp 0x10 g is old auto with
    | .refuse f => (s, .error (some f))
    | .level f => (s.levelCount sp f, .error (some f))
    | .stall => (s.demandSlots sp is, .error none)
    | .pass _ =>
      let h := (is.map (·.h)).headD []
      let a : AnnealRun :=
        { inn := inn, out := out, old := [], next := 0, area := area, began := false, failed := false, after := 0, ksws := 0 }
      (s, .ok ({ c with session := sealSessionOf is, hdrs := [h], pset := (s.pset sp (hPset h)).cur }, a))

/-- The work of a slice begins in the banks of its Towers, if they are On (R282, R306). -/
def State.sliceWork (s : State) (sp k : Nat) (c : SealOp) (a : AnnealRun) : State :=
  match s.workBankOff sp c.g.towers with
  | some f => s.sliceFail sp k c a f true
  | none => (s.useBanks sp c.g.towers).setSeal sp k (some { c with ann := some a })

/-- A slice runs; the first one clears VALID of the output, the record slots of the area, and counts an inserted ANNEAL
(R258, R269, R280). -/
def State.sliceRun (s : State) (sp k win : Nat) (c : SealOp) (a : AnnealRun) : State :=
  let c := { c with phase := .running, win := some win }
  let s := s.touch sp c.session c.g.towers
  if a.began then s.sliceWork sp k c a
  else
    let i := c.session.getD 0
    let s := if c.queue.isEmpty then s else (s.count (Reg.sprSealAuto sp) 1).sessCount i 172 4 1
    let areas := SMap.get (fun _ => []) s.sessAreas i ++ [(sp, a.area.1, a.area.2)]
    let s := { s with sessAreas := SMap.set (fun _ => []) s.sessAreas i areas }
    let s := s.galleryPut sp a.area.1 (List.replicate 128 0)
    let bad := sealParam sp 0x01 3 (c.hdrs.headD []) a.out !c.queue.isEmpty
    match s.clearValid sp a.out bad with
    | (s, .error f) => s.sealFail sp k c f
    | (s, .ok old) => s.sliceWork sp k c { a with began := true, old := old }

/-- ANNEAL_SLICE_START: a slice of a waiting ANNEAL runs inside an open window once its pages are resident (R279, R361)
(DESIGN CHOICE, log 18; DESIGN CHOICE, log 49). -/
def execAnnealSliceStart (spire : Fin 4) (op : Fin 16) (pages : List (BitVec 32)) (ksws : BitVec 16) (lo hi : BitVec 32)
    (s : State) : Host.Outcome State Fault Refusal :=
  let sp := spire.val
  let k := op.val
  .next (match s.seal sp k with
    | none => s
    | some c =>
      let early := match c.ann with | some a => s.bellNum < a.after | none => false
      if c.phase ≠ .waiting || (c.code ≠ 0x10 && c.queue.isEmpty) || early then s
      else match s.sealRoom sp c.g.towers with
      | none => s
      | some win =>
        let (s, r) := match c.ann with
          | some a => (s, Except.ok (c, a))
          | none => s.annealCheck sp c (lo.toNat, hi.toNat)
        match r with
        | .error none => s
        | .error (some f) => s.sealFail sp k c f
        | .ok (c, a) =>
          let a := { a with ksws := ksws.toNat }
          let c := { c with ann := some a }
          if c.pins.isSome then s.sliceRun sp k win c a
          else match s.checkPages sp k c (pages.map (·.toNat)) with
            | (s, none) => s
            | (s, some c) => s.sliceRun sp k win c a)

/-- The tags of the pages that a running slice has streamed (R302). -/
def State.sliceTags (s : State) (sp : Nat) (c : SealOp) : State × Option FaultInfo :=
  s.tagCheck sp (s.slotsOf sp c.g.towers).length none (c.hdrs.headD []) c.pset (c.pins.getD [])

/-- A slice ends by a tag: the mismatch ends the ANNEAL (R281, R302); F_MEM_UE of a tag slot is a fault of the slice (R373). -/
def State.sliceTagEnd (s : State) (sp k : Nat) (c : SealOp) (a : AnnealRun) (f : FaultInfo) : State :=
  if f.code = F_KEY_MISMATCH then
    ((s.keyClks sp (decide (0 < a.ksws))).mismatch sp (c.session.getD 0) f).sealFail sp k c f
  else s.sliceFail sp k c a f true

/-- A slice has run to its end: its pins are released and its key switches counted (R287). -/
def State.sliceOver (s : State) (sp : Nat) (c : SealOp) (a : AnnealRun) : State :=
  ((s.unpin c).sessCount (c.session.getD 0) 164 8 a.ksws).keyClks sp (decide (0 < a.ksws))

/-- The session of a slice that has run to its end is closing: the ANNEAL ends (R305). -/
def State.sliceClosed (s : State) (sp k : Nat) (c : SealOp) (a : AnnealRun) : State :=
  ((s.annealSpoil sp c a).sliceOver sp c a).sealFail sp k { c with pins := none } (closedFault (c.session.getD 0))

/-- The checkpoint record (R280). -/
def ckBytes (c : SealOp) (a : AnnealRun) (bell seq : Nat) (cts : List (BitVec 64)) : List Byte :=
  leBytes 1 (hPset (c.hdrs.headD [])) ++ leBytes 1 cts.length ++ leBytes 2 (c.session.getD 0) ++ leBytes 4 (a.next + 1) ++
    leBytes 8 a.inn ++ leBytes 8 a.out ++ leBytes 8 bell ++ leBytes 4 seq ++ leBytes 2 0 ++ leBytes 2 0 ++
    leBytes 8 (cts.headD 0).toNat ++ leBytes 8 (cts.getD 1 0).toNat ++ leBytes 4 0

/-- ANNEAL_SLICE_END: the checkpoint, the live ciphertexts first and the record after them (R280); a session that closes
ends the ANNEAL here, and a tag that differs ends it at once (R281, R302, R305) (DESIGN CHOICE, log 49). -/
def execAnnealSliceEnd (spire : Fin 4) (op : Fin 16) (cts : List (BitVec 64)) (s : State) :
    Host.Outcome State Fault Refusal :=
  let sp := spire.val
  let k := op.val
  .next (match s.seal sp k with
    | none => s
    | some c => match c.phase, c.ann with
      | .running, some a => match s.sliceTags sp c with
        | (s, some f) => s.sliceTagEnd sp k c a f
        | (s, none) =>
          if s.sealClosing c then s.sliceClosed sp k c a
          else match c.abandon.or (s.workBankOff sp c.g.towers) with
          | some f => s.sliceFail sp k c a f true
          | none =>
            let s := s.sliceOver sp c a
            let n := a.area.2 - (a.area.1 + 128)
            let s := (s.galleryPut sp (a.area.1 + 128) (freeBytes s.free n)).draw
            let b := s.ckLatest sp a
            let seq := ckSeq (s.ckRecord sp a b) + 1
            let s := s.ckPut sp a (if seq = 1 then false else !b) (ckBytes c a s.bellNum seq cts)
            let a := { a with next := a.next + 1, failed := false }
            s.setSeal sp k (some { c with phase := .waiting, pins := none, since := none, ann := some a })
      | _, _ => s)

/-- The inserted ANNEALs of an operation are done: checks 7 to 9 are made again on the copies, and it waits to run on them
(R269). -/
def State.annealNext (s : State) (sp k : Nat) (c : SealOp) : State :=
  let done := c.queue.take 1
  let c := { c with queue := c.queue.drop 1, ann := none, phase := .waiting, pins := none, since := none, hdrs := [] }
  -- operands that have been annealed name their copies
  let swap := fun (d : Dpa) (first : Bool) => match done with
    | (i, o) :: _ => if d.toNat = i && first then BitVec.ofNat 48 o else d
    | [] => d
  let isFirst := (done.headD (0, 0)).2 = ctxScratch (s.ctx (c.session.getD 0)) 0
  let g := { c.g with in0 := swap c.g.in0 isFirst, in1 := swap c.g.in1 (!isFirst) }
  let c := { c with g := g }
  if !c.queue.isEmpty then s.setSeal sp k (some c)
  else
    let c := { c with auto := true }
    let (s, r) := s.readHeaders sp c.code g
    match r with
    | .error f => s.sealFail sp k c f
    | .ok (is, out) => match s.sealCheck sp c.code g is out true with
      | .refuse f => s.sealFail sp k c f
      | .level f => (s.levelCount sp f).sealFail sp k c f
      | .stall => (s.demandSlots sp is).setSeal sp k (some c)
      | .pass _ => s.setSeal sp k (some c)

/-- The last slice ends: the output's header is written (R267, R278); its body is free (DESIGN CHOICE, log 49). -/
def State.annealFinish (s : State) (sp k : Nat) (c : SealOp) (a : AnnealRun) (bad : Option CheckFail) : State :=
  match s.sliceTags sp c with
  | (s, some f) => s.sliceTagEnd sp k c a f
  | (s, none) =>
  match bad with
  | some b =>
    let (s, f) := s.sealCheckFault sp c b
    if b.site = 6 then s.sealFail sp k c f else s.sliceFail sp k c a f true
  | none =>
  if s.sealClosing c then s.sliceClosed sp k c a
  else match c.abandon.or (s.workBankOff sp c.g.towers) with
  | some f => s.sliceFail sp k c a f true
  | none =>
    let h0 := c.hdrs.headD []
    let o := sealOut 0x10 0 c.pset h0 []
    let (s, _, ue, f0) := s.readBody sp h0 (hL h0)
    let poison := hPoison h0 || ue
    match f0 with
    | some f => s.sliceFail sp k c a f true
    | none =>
      let s := s.spoil sp (bodyLimbs a.old o.comp o.l.toNat (hLogn h0))
      if c.queue.isEmpty then
        (s.keyClks sp (decide (0 < a.ksws))).sealDone sp k { c with old := a.old } o a.ksws poison
      else
        let h := outHeader 0x10 c.pset h0 a.old o (storedScale 0x10 o.scale) poison
        match s.sealPut sp a.out h with
        | (s, some f) => s.sealFail sp k c f
        | (s, none) =>
          let s := if poison then s.count (Reg.sprSealPoison sp) 1 else s
          (s.sliceOver sp c a).annealNext sp k c

/-- SEAL_OP_COMPLETE: a running operation ends; for an ANNEAL, its last slice (DEDUCED, log 44). -/
def execSealOpComplete (spire : Fin 4) (op : Fin 16) (bad : Option CheckFail) (s : State) :
    Host.Outcome State Fault Refusal :=
  let sp := spire.val
  let k := op.val
  .next (match s.seal sp k with
    | none => s
    | some c => match c.phase, c.ann with
      | .running, none => s.sealFinish sp k c bad
      | .running, some a => s.annealFinish sp k c a bad
      | _, _ => s)

/-- Whether a STOP waits for a Tower of a set (R158, R277). -/
def State.stopAsked (s : State) (sp : Nat) (towers : BitVec 16) : Bool :=
  (s.slotsOf sp towers).any (fun g => s.stops.any (fun r => r.left.contains g))

/-- ANNEAL_SLICE_RESTART: a running slice ends by a failing check, by its entry's abandonment, or by STOP (R281).
A mismatch or a failing expander ends the ANNEAL at once, its output body not written (R302, R445). -/
def execAnnealSliceRestart (spire : Fin 4) (op : Fin 16) (bad : Option CheckFail) (s : State) :
    Host.Outcome State Fault Refusal :=
  let sp := spire.val
  let k := op.val
  .next (match s.seal sp k with
    | none => s
    | some c => match c.phase, c.ann with
      | .running, some a => match s.sliceTags sp c, bad, c.abandon.or (s.workBankOff sp c.g.towers) with
        | (s, some f), _, _ => s.sliceTagEnd sp k c a f
        | (s, none), some b, _ =>
          let (s, f) := s.sealCheckFault sp c b
          if b.site = 6 then (s.keyClks sp (decide (0 < a.ksws))).sealFail sp k c f else s.sliceFail sp k c a f true
        | (s, none), none, some f => s.sliceFail sp k c a f true
        | (s, none), none, none =>
          if s.stopAsked sp c.g.towers then s.sliceFail sp k c a (closedFault 0) false else s
      | _, _ => s)

/-! ### Close and scrub (R305, R306) -/

/-- The SEAL commands of session `i`: Spire, place and command. -/
def State.sealsWith (s : State) (i : Nat) : List (Nat × Nat × SealOp) :=
  (List.range 4).flatMap (fun sp => ((s.sealsOf sp).filter (fun e => e.2.session = some i)).map (fun e => (sp, e.1, e.2)))

/-- SESS_CLOSE (R305): the session is CLOSING from here on; verifications end, deferred operations and ANNEALs between
slices complete with CLOSED. -/
def execSessClose (o : Origin) (index : BitVec 16) (s : State) : Host.Outcome State Fault Refusal :=
  let i := index.toNat
  .next (s.onSession o 0x83 i [1, 2] (fun s c =>
    let s := s.setCtx i (patch c 0 (leBytes 1 (setBits (byteAt c 0) 1 0 3)))
    let mine := s.binds.filter (fun b => b.index = i)
    let s := mine.foldl (fun (t : State) b => t.bindAbort b.engine closedFault) s
    let s := (s.sealsWith i).foldl (fun (t : State) e =>
      let (sp, k, c) := e
      let between := c.phase = .waiting && (match c.ann with | some a => a.began | none => false)
      if c.phase = .deferred || between then t.sealFail sp k c.unheld (closedFault i) else t) s
    { s with closes := s.closes ++
      [{ o := some o, index := i, released := false, wait := [], active := [], areas := [] }] }))

/-- Replace a close in progress. -/
def State.setClose (s : State) (j : CloseJob) : State :=
  { s with closes := s.closes.map (fun e => if e.index = j.index then j else e) }

/-- The Tower slots of TOUCHED. -/
def State.touchedSlots (s : State) (c : List Byte) : List Nat :=
  (below 64 (fun g => bit (ctxTouched c) g)).map (fun g => s.slotOf (g / 16) (g % 16))

/-- The frames of a session are released (R305). -/
def State.releaseAll (s : State) (i : Nat) : State :=
  s.frames.foldl (fun (t : State) e => match e.2 with
    | some (j, p) => if j = i then t.releasePage e.1 j p else t
    | none => t) s

/-- Action 8 of a bell (R306, R349): the scrubs of closing sessions start on the Towers of a Spire: the banks of
SPR_SEAL_BANKS that are On, and those in Retention, which come On first. -/
def State.closeBell (s : State) (sp : Nat) : State :=
  s.closes.foldl (fun (t : State) j =>
    let mine := j.wait.filter (fun g => slotSpire g = sp)
    let banks : BitVec 64 := BitVec.ofNat 64 (t.reg (Reg.sprSealBanks sp))
    let t' := mine.foldl (fun (u : State) g => u.scrubTower g banks) t
    t'.setClose { j with wait := j.wait.filter (fun g => slotSpire g ≠ sp), active := j.active ++ mine }) s

/-- SESS_CLOSE_RELEASE: the next part of a close (R305). Once no work of the session holds pages its frames are released
and its scrubs asked for; then each checkpoint area is scrubbed; when all are done the context is zeroed and SESS_CLOSE
completes. -/
def execSessCloseRelease (index : Fin 16384) (s : State) : Host.Outcome State Fault Refusal :=
  let i := index.val
  .next (match s.closes.find? (fun j => j.index = i) with
    | none => s
    | some j =>
      let busy := (s.sealsWith i).any (fun e => e.2.2.phase = .running || e.2.2.pins.isSome) ||
        s.keyJobs.any (fun e => e.index = i)
      if !j.released then
        if busy then s
        else
          let s := s.releaseAll i
          let areas := SMap.get (fun _ => []) s.sessAreas i
          s.setClose { j with released := true, wait := s.touchedSlots (s.ctx i), areas := areas }
      else match j.areas with
      | (sp, lo, hi) :: rest =>
        if !(s.scrubs sp).isEmpty then s
        else
          (({ s with galScrub := SMap.set (fun _ => []) s.galScrub sp [(lo, hi)] } : State).setClose
            { j with areas := rest })
      | [] =>
        let scrubbing := j.active.any (fun g => (s.tower g).scrub.isSome) ||
          (SMap.get (fun _ => []) s.sessAreas i).any (fun a => !(s.scrubs a.1).isEmpty)
        if !j.wait.isEmpty || scrubbing then s
        else
          let c := s.ctx i
          let s := { s with sessAreas := SMap.set (fun _ => []) s.sessAreas i [], closes := s.closes.filter (fun e => e.index ≠ i) }
          let s := s.setCtx i (List.replicate 256 0)
          match j.o with
          | some o => s.complete o 0x83 [] none [(c.drop 156).take 32]
          | none => s)

end Sys2Proof.Machine
end

