-- ==== Sys2Proof/Machine/Cullet.lean ====
section
/-!
DEFINITION. The cullet map (R14 to R16, R29), the replacement of a Tower (R449), the loss of work in flight (R446, R452),
and the retirement of Towers and Spires (R451, R452).
-/
namespace Sys2Proof.Machine

/-! ### The map -/

/-- The 17 physical slots that a map names: T0 to T15, then the spare. -/
def State.cullet (s : State) (sp : Nat) : List Nat :=
  (List.range 16).map (fun t => s.slotOf sp t - 17 * sp) ++ [s.reg (Reg.sprTwrSpare sp)]

/-- Whether a map may stand (R29): 16 distinct slots, and a spare that no logical Tower uses, or none. A number that names no
slot refuses the whole map too (DEDUCED, log 86). -/
def culletOk (m : List Nat) : Bool :=
  let ts := m.take 16
  let spare := m.getD 16 0x1F
  ts.all (· < 17) && ts.Nodup && (spare = 0x1F || (spare < 17 && !ts.contains spare))

/-- Write a map into the map registers of a Spire. -/
def State.setCullet (s : State) (sp : Nat) (m : List Nat) : State :=
  ((s.setReg (Reg.sprTwrMapLo sp) (packFields 8 8 (fun j => m.getD j 0))).setReg (Reg.sprTwrMapHi sp)
    (packFields 8 8 (fun j => m.getD (j + 8) 0))).setReg (Reg.sprTwrSpare sp) (m.getD 16 0x1F)

/-- The pending writes of a Spire over its map, in order (DEDUCED, log 86). -/
def State.culletNext (s : State) (sp : Nat) : List Nat :=
  (s.cullets.filter (fun w => w.spire = sp)).foldl (fun m w => m.set (w.tower.getD 16) w.slot) (s.cullet sp)

/-- TWR of KEY_CULLET_POOL follows the spare slot. -/
def State.poolTower (s : State) (sp : Nat) : State :=
  s.setFld Reg.keyCulletPool (16 * sp + 15) (16 * sp + 15) (ofBool (s.reg (Reg.sprTwrSpare sp) ≠ 0x1F))

/-! ### Replacement of a Tower (R449) -/

/-- The state of a slot that is its own hardware's, and stays when a Tower moves. -/
def Tower.onSlot (t old : Tower) : Tower :=
  { t with retired := old.retired, lastSite0 := old.lastSite0, steer := old.steer, steered := old.steered,
           spareRows := old.spareRows, power := old.power }

/-- The whole state of a slot moves to the spare (R449 step 2): the Tower, its memory, its errors, its registers, and what
waits for it. Packets that the old slot has accepted and not yet written, which the rule does not name, move too (DESIGN
CHOICE, log 94). -/
def State.moveSlot (s : State) (g h : Nat) : State :=
  let a := s.tower g
  let b := s.tower h
  let goes := fun (x : Nat) => if x = g then h else x
  let s := (s.setTower h (a.onSlot b)).setTower g (Tower.init.onSlot a)
  { s with
    tmem := SMap.move (fun _ => 0) s.tmem (tmKey g 0) (tmKey h 0) towerSize,
    ramErr := SMap.move (fun _ => 0) s.ramErr (tmCw g 0) (tmCw h 0) (towerSize / 16),
    ctl := SMap.move regReset s.ctl (Reg.twrBase g) (Reg.twrBase h) 0x10_0000,
    staged := SMap.move (fun _ => none) s.staged (Reg.twrBase g) (Reg.twrBase h) 0x10_0000,
    launches := s.launches.map (fun l => { l with left := l.left.map goes }),
    stops := s.stops.map (fun l => { l with left := l.left.map goes }),
    imRuns := s.imRuns.map (fun l => { l with left := l.left.map goes }),
    closes := s.closes.map (fun j => { j with wait := j.wait.map goes, active := j.active.map goes }),
    sems := SMap.each (fun _ => Sem.init) (fun _ m => { m with waiters := m.waiters.map (fun w => match w.who with
      | .stream x st => { w with who := .stream (Fin.ofNat 68 (goes x.val)) st }
      | _ => w) }) s.sems }

/-- Towers under replacement on a Spire whose map now names the spare move to it and go on (R449 steps 2 to 4); where the
map was refused they go on where they are. -/
def State.replaceBell (s : State) (sp : Nat) : State :=
  let mine := s.replaces.filter (fun e => slotSpire e.1 = sp)
  mine.foldl (fun (t : State) e =>
    if (t.logicalOf e.2).isSome then (t.moveSlot e.1 e.2).resumeTower e.2 else t.resumeTower e.1)
    { s with replaces := s.replaces.filter (fun e => slotSpire e.1 ≠ sp) }

/-- CULLET_MAP_APPLY: the pending writes of a Spire are applied together, or all refused with a record in KEY_DECODE_ERR
(R15, R29) (DEDUCED, log 86). -/
def State.culletBell (s : State) (sp : Nat) : State :=
  if s.cullets.any (fun w => w.spire = sp) then
    let m := s.culletNext sp
    let s' := { s with cullets := s.cullets.filter (fun w => w.spire ≠ sp) }
    (if culletOk m then (s'.setCullet sp m).poolTower sp
      else s'.decodeErr none true 0x4000 Reg.keyCulletSet).replaceBell sp
  else s

/-! ### Work that is lost -/

/-- Forget what engines hold of the commands that `p` names, but for sealed operations and launches. -/
def State.forget (s : State) (p : Origin → Bool) : State :=
  let t := State.pkeSync { s with
    imRuns := s.imRuns.filter (fun r => !p r.o),
    stops := s.stops.filter (fun r => match r.o with | some o => !p o | none => true),
    channels := s.channels.filter (fun e => match e.2 with | some c => !p c.o | none => true),
    colls := s.colls.filter (fun e => match e.2 with | some c => !p c.o | none => true),
    pkes := s.pkes.filter (fun e => match e.2 with | some c => !p c.o | none => true),
    binds := s.binds.filter (fun b => !p b.o),
    closes := s.closes.map (fun j => match j.o with | some o => if p o then { j with o := none } else j | none => j),
    keyJobs := s.keyJobs.map (fun j => match j.o with | some o => if p o then { j with o := none } else j | none => j),
    psets := SMap.each (fun _ => PsetSlot.init) (fun _ x => match x.o with
      | some o => if p o then { x with o := none } else x
      | none => x) s.psets,
    descs := SMap.each (fun _ => DescEntry.init) (fun _ x =>
      { x with freeing := x.freeing.filter (fun o => !p o), kv := x.kv.filter (fun y => !p y.2) }) s.descs,
    sems := SMap.each (fun _ => Sem.init) (fun k m => { m with waiters := m.waiters.filter (fun w => match w.who with
      | .cmd o => !p o
      | .channel ch => match SMap.get (fun _ => none) s.channels (16 * (k / 4096) + ch.val) with
        | some c => !p c.o
        | none => true
      | _ => true) }) s.sems,
    bandCmds := s.bandCmds.filter (fun c => !p c.1),
    btabJobs := s.btabJobs.filter (fun j => !p j.o) }
  ((s.pkes.filterMap (·.2)).filter (fun c => p c.o)).foldl State.unreserve t

/-- Every sealed operation that `p` names ends with a fault: one that runs is aborted (R282). -/
def State.loseSeals (s : State) (p : Origin → Bool) (f : Origin → FaultInfo) : State :=
  (List.range 4).foldl (fun (t : State) sp => (t.sealsOf sp).foldl (fun (t : State) e =>
    let c := e.2
    if !p c.o then t
    else if c.phase = .running then
      match c.ann with
      | some a => (t.annealSpoil sp c a).sealFail sp e.1 c (f c.o)
      | none => t.sealAbort sp e.1 c c.result (f c.o)
    else t.sealFail sp e.1 c.unheld (f c.o)) t) s

/-- The launches that `p` names end, their Towers stopped (R158, R452, R460). -/
def State.loseLaunches (s : State) (p : Origin → Bool) (f : Origin → FaultInfo) : State :=
  (s.launches.filter (fun l => p l.o)).foldl (fun (t : State) l => t.abandonLaunch l.o (f l.o)) s

/-- Commands of a runner in flight complete with a fault; its LISTs end. -/
def State.loseRunner (s : State) (k : Nat) (p : Origin → Bool) (f : Origin → Nat → FaultInfo) : State :=
  let s := ((s.runq k).lists.filter (fun l => p l.o)).foldl (fun (t : State) l => t.endList k l.o.cseq (f l.o 0x04)) s
  ((s.runq k).running.filter (fun r => p r.o && r.opcode ≠ 0x04)).foldl (fun (t : State) r =>
    t.completeFault r.o r.opcode (f r.o r.opcode)) s

/-- The keys of the runners. -/
def State.runners (s : State) : List Nat := s.runs.map (·.1)

/-- All commands in flight that `p` names complete with F_ILLEGAL of a reason, in R340's layout. -/
def State.loseWork (s : State) (p : Origin → Bool) (reason : Nat) : State :=
  let s := (s.loseSeals p (fun o => ringIllegal o reason 0x30)).loseLaunches p (fun o => ringIllegal o reason 0x20)
  let s := s.forget p
  s.runners.foldl (fun (t : State) k => t.loseRunner k p (fun o op => ringIllegal o reason op)) s

/-- Commands of a runner that have not started complete with a fault, in order; `n` bounds their number. -/
def State.loseQueue (s : State) (k sp r : Nat) (reason : Nat) : Nat → State
  | 0 => s
  | n + 1 => match (s.runq k).queue with
    | [] => s
    | c :: _ => (s.dropNext k sp r none (fun o => ringIllegal o reason (byteAt c.bytes 0))).loseQueue k sp r reason n

/-! ### Retirement (R451, R452) -/

/-- A retirement asserts ALERT_N (R451, R462) (DEDUCED, log 84). -/
def State.retireTower (s : State) (g : Nat) : State :=
  (s.setReg Reg.keyCulletRetired (s.reg Reg.keyCulletRetired ||| 1 <<< g)).alert alertRetired

/-- Every Tower of a Spire stops (R158), unless a sealed sequence holds it. -/
def State.stopSpire (s : State) (sp : Nat) : State :=
  (below 16 (fun _ => true)).foldl (fun (t : State) i => t.stopTower (t.slotOf sp i)) s

/-- BEL_CTL.EN of a Spire is cleared. -/
def State.clearEn (s : State) (sp : Nat) : State := s.setFld (Reg.belCtl sp) 0 0 0

/-- A Spire is retired (R452): its bits, its bell sequencer and rings, its commands, its Towers. Its memories are unmapped
from the next bell. -/
def State.retireSpire (s : State) (sp : Nat) : State :=
  if s.spireRetired sp then s
  else
    let s := s.setFld Reg.keyCulletPool2 (18 + sp) (18 + sp) 1
    let s := s.setReg Reg.keyCulletRetired (s.reg Reg.keyCulletRetired ||| 0xFFFF <<< (16 * sp))
    let s := (s.alert alertRetired).clearEn sp
    let s := (List.range 16).foldl (fun (t : State) r => t.stopRing sp r) s
    let s := s.loseWork (fun o => o.spire.val = sp) 0x26
    let s := (List.range 16).foldl (fun (t : State) r =>
      t.loseQueue (ringKey sp r) sp r 0x26 (t.runq (ringKey sp r)).queue.length) s
    let s := (below 1024 (fun e => !(s.instances sp e).isEmpty)).foldl (fun (t : State) e =>
      (t.setInstances sp e []).setRunq (entryKey sp e) RunQ.init) s
    s.stopSpire sp

/-- The memories of retired Spires are unmapped at the bell (R452). -/
def State.goneBell (s : State) : State :=
  (List.range 4).foldl (fun (t : State) sp =>
    if t.spireRetired sp then { t with gone := SMap.set (fun _ => false) t.gone sp true } else t) s

end Sys2Proof.Machine
end

