-- ==== Sys2Proof/Machine/Entries.lean ====
section
/-!
DEFINITION. Bell-table entries (R350 to R364): their fields, BTAB_LOAD, and the starts, deadlines and ends of their instances.
-/
namespace Sys2Proof.Machine

/-! ### The table (R350, R351) -/

def entKind (b : List Byte) : Nat := bits (byteAt b 0) 2 0
def entEngine (b : List Byte) : Nat := bits (byteAt b 1) 3 0
def entAbandon (b : List Byte) : Bool := bit (byteAt b 2) 0
def entIntr (b : List Byte) : Bool := bit (byteAt b 2) 1
def entTowers (b : List Byte) : Nat := field b 5 4
def entStart (b : List Byte) : Nat := field b 9 6
def entDeadline (b : List Byte) : Nat := field b 13 10
def entList (b : List Byte) : Nat := field b 19 14
def entCount (b : List Byte) : Nat := field b 21 20
def entTag (b : List Byte) : Nat := field b 23 22
def entRequire (b : List Byte) : Option Nat := if bit (field b 25 24) 15 then some (field b 25 24 % 512) else none

/-- Whether the fields that R350 reserves are zero. -/
def entReservedOk (b : List Byte) : Bool :=
  byteAt b 0 / 8 = 0 && byteAt b 1 / 16 = 0 && byteAt b 2 / 4 = 0 && byteAt b 3 / 16 = 0 &&
    bits (field b 25 24) 14 9 = 0 && field b 31 26 = 0

/-- Whether ENGINE pairs with KIND (R350); an entry that is off pairs with any. -/
def entEngineOk (k e : Nat) : Bool := if k = 1 then e = 1 || e = 3 || e = 4 else if k = 2 then e = 2 else k = 0 || e = 1

/-- Whether LIST and COUNT are as R350 requires of a KIND. -/
def entListOk (k l n : Nat) : Bool :=
  if k = 1 then l % 64 = 0 && 1 ≤ n && n ≤ 4096 else if k = 2 then l = 0 && n = 0 else l % 64 = 0 && n = 0

/-- Whether entry `i` is valid (R351): an entry that is off too. -/
def entOk (i : Nat) (b : List Byte) : Bool :=
  let k := entKind b
  entReservedOk b && k ≤ 3 && entEngineOk k (entEngine b) && entStart b < entDeadline b &&
    entDeadline b ≤ 2000000 && !((k = 2 || (k = 1 && entEngine b = 3)) && entTowers b = 0) &&
    entListOk k (entList b) (entCount b) && entRequire b ≠ some i

/-- The bytes of a bell-table entry: index 512 × table + entry. -/
def State.btab (s : State) (sp e : Nat) : List Byte :=
  SMap.get (fun _ => List.replicate 32 0) s.btabs (1024 * sp + e)

/-- Write an entry. -/
def State.setBtab (s : State) (sp e : Nat) (b : List Byte) : State :=
  { s with btabs := SMap.set (fun _ => List.replicate 32 0) s.btabs (1024 * sp + e) b }

/-- ACTIVE_TABLE of a Spire. -/
def State.activeTable (s : State) (sp : Nat) : Nat := s.fld (Reg.belStatus sp) 0 0

/-- F_ILLEGAL, BAD_ENTRY (R351). -/
def badEntry (o : Origin) (i : Nat) : FaultInfo :=
  let f := ringIllegal o 0x25 0x50
  { f with detail := f.detail ++ leBytes 2 i }

/-- Read bytes at a DPA as the Spire controller's sequencer: the bytes, or the fault that prevents it. -/
def State.seqRead (s : State) (sp src a n : Nat) : State × Except FaultInfo (List Byte) :=
  match s.firstUnmapped a n with
  | some x => (s, .error (descFault src 0x01 (addr := x)))
  | none =>
    let r := s.readRange sp src a n false
    (r.s, match r.fault with | some f => .error f | none => .ok r.bytes)

/-- A BTAB_LOAD ends: its entries stand in the table that was not active. -/
def State.btabDone (s : State) (j : BtabJob) : State :=
  (j.entries.foldl (fun (t : State) e => t.setBtab j.o.spire.val e.1 e.2) s).completeOk j.o 0x50

/-- BTAB_LOAD writes the standby table, once every entry is valid (R351, R352). No entry, or one past index 511, is a bad
entry (DEDUCED, log 52). How long a load takes is not stated: whether the next bell finds it in progress is free (DESIGN
CHOICE, log 52). -/
def execBtabLoad (o : Origin) (src : Dpa) (first count : BitVec 16) (s : State) : Host.Outcome State Fault Refusal :=
  let sp := o.spire.val
  let i := first.toNat
  let n := count.toNat
  .next (s.onEngine o 0 0x50 (fun s =>
    if n = 0 || 512 < i + n then s.completeFault o 0x50 (badEntry o i)
    else match s.seqRead sp (srcSpire sp 3 0) src.toNat (32 * n) with
    | (s, .error f) => s.completeFault o 0x50 f
    | (s, .ok bs) =>
      let es := (List.range n).map (fun j => (i + j, (bs.drop (32 * j)).take 32))
      match es.find? (fun e => !entOk e.1 e.2) with
      | some e => s.completeFault o 0x50 (badEntry o e.1)
      | none =>
        let base := 512 * (1 - s.activeTable sp)
        let j : BtabJob := { o := o, entries := es.map (fun e => (base + e.1, e.2)) }
        if (Config.unstated 0x50 s.free).getLsbD 0 then { s.draw with btabJobs := s.btabJobs ++ [j] }
        else s.draw.btabDone j))

/-! ### Records (R356, R360) -/

/-- BEL_CTL.MODE: bell mode (R358). -/
def State.bellMode (s : State) (sp : Nat) : Bool := bit (s.reg (Reg.belCtl sp)) 1

/-- The deadline of an instance, in 10 ns units: the entry's, or the end of its bell (R351). -/
def State.deadlineOf (s : State) (b : List Byte) : Nat := min (entDeadline b) s.gen.period

/-- The command number that an instance's records carry (R356). -/
def entCseq (e bell : Nat) : Nat := 0x8000_0000 + (e % 512) <<< 16 + bell % 65536

/-- The origin of an instance's entry record. -/
def entOrigin (sp e : Nat) (i : Instance) : Origin :=
  { spire := Fin.ofNat 4 sp, ring := Fin.ofNat 16 i.ring, cseq := BitVec.ofNat 32 (entCseq e i.bell), lidx := 0xFFFF,
    tag := BitVec.ofNat 16 (entTag i.bytes), intr := false, nocomp := false, post := none,
    entry := some (Fin.ofNat 1024 e) }

/-- Write an entry record with its extension entries: its instance ends, well or not, once it is written (R328, R356). -/
def State.entryRecord (s : State) (sp e : Nat) (i : Instance) (exts : List (List Byte)) (flags : Nat) (ok : Bool) : State :=
  let s := s.setInstances sp e ((s.instances sp e).map (fun j => if j.bell = i.bell then { j with ending := true } else j))
  s.putEntries sp i.ring s.starts (.entry e i.bell ok) (exts ++ [completionRecord (entOrigin sp e i) (0xF0 + entKind i.bytes)
    (byteAt (exts.headD []) 0) s.bellNum (!exts.isEmpty) exts.length (leBytes 4 i.count ++ leBytes 1 flags)])

/-- F_DEADLINE (R360). `flags`: 1 abandoned, 2 started late, 4 SKIPPED. -/
def deadlineFault (sp e : Nat) (i : Instance) (flags running delay : Nat) : FaultInfo :=
  { code := F_DEADLINE, source := srcSpire sp 3 0,
    detail := leBytes 2 (e % 512) ++ leBytes 1 (entKind i.bytes) ++ leBytes 1 flags ++ leBytes 2 i.count ++
      leBytes 2 running ++ leBytes 2 (entTowers i.bytes) ++ leBytes 4 delay ++ leBytes 2 0 }

/-- Raise F_DEADLINE (R359): its record, whose CLK is the deadline's, goes to the Spire controller; BEL_MISS_CNT, and the
entry-miss source with INTR. -/
def State.raiseDeadline (s : State) (sp : Nat) (i : Instance) (f : FaultInfo) : State × List Byte :=
  let r := faultRecord f 0 s.bellNum (25 * s.deadlineOf i.bytes)
  let s := (s.count (Reg.belMissCnt sp) 1).toSpire sp r
  (if entIntr i.bytes then s.raise sp 50 else s, r)

/-- An instance is skipped (R353, R358): in bell mode its F_DEADLINE goes to the Spire controller and, while its ring is
enabled, to the completion ring with its entry record (DEDUCED, log 74). -/
def State.skipInstance (s : State) (sp e : Nat) (i : Instance) : State :=
  let s := s.count (Reg.belSkipCnt sp) 1
  if s.bellMode sp then
    let (s, r) := s.raiseDeadline sp i (deadlineFault sp e i 4 0xFFFF (s.deadlineOf i.bytes - entStart i.bytes))
    if s.ringOn sp i.ring then s.entryRecord sp e i [r] 1 false else s.dropInstance sp e i.bell false
  else s.dropInstance sp e i.bell false

/-! ### Starts (R353 to R357, R363, R364) -/

/-- Whether the instance of the required entry in the same bell has yet to end (R354). -/
def State.requireWaits (s : State) (sp e : Nat) (i : Instance) : Bool :=
  match entRequire i.bytes with
  | some r => (s.instances sp (e / 512 * 512 + r)).any (fun j => j.bell = i.bell)
  | none => false

/-- Whether the required entry has completed without fault in the same bell (R354, R355). -/
def State.requireOk (s : State) (sp e : Nat) (i : Instance) : Bool :=
  match entRequire i.bytes with
  | some r => SMap.get (fun _ => (0, false)) s.ended (1024 * sp + (e / 512 * 512 + r)) = (i.bell, true)
  | none => true

/-- Whether a session's scrub occupies one of an entry's Towers (R306, R353). -/
def State.scrubHolds (s : State) (sp : Nat) (towers : BitVec 16) : Bool :=
  (s.slotsOf sp towers).any (fun g => (s.tower g).scrub.isSome && s.closes.any (fun j => j.active.contains g))

/-- Whether an entry or a command names a retired Tower (R451). -/
def State.namesRetired (s : State) (sp towers : Nat) : Bool :=
  bits (s.reg Reg.keyCulletRetired) (16 * sp + 15) (16 * sp) &&& towers ≠ 0

/-- The handles of a KV_COMMIT list with their counts (R363): none as counts when R354 applies. COUNT beyond 4,096 acts as
4,096 (DEDUCED, log 52). -/
def State.kvList (s : State) (sp a : Nat) (reject : Bool) : State × Except FaultInfo (List (Nat × Option Nat)) :=
  match s.seqRead sp (srcSde sp) a 16 with
  | (s, .error f) => (s, .error f)
  | (s, .ok h) =>
    let n := min (field h 1 0) 4096
    match s.seqRead sp (srcSde sp) (a + 16) (8 * n) with
    | (s, .error f) => (s, .error f)
    | (s, .ok es) =>
      (List.range n).foldl (fun (x : State × Except FaultInfo (List (Nat × Option Nat))) j =>
        match x.2 with
        | .error _ => x
        | .ok l =>
          let h' := field es (8 * j + 3) (8 * j)
          if reject then (x.1, .ok (l ++ [(h', none)]))
          else match x.1.seqRead sp (srcSde sp) (field h 7 2 + 4 * field es (8 * j + 5) (8 * j + 4)) 4 with
            | (t, .error f) => (t, .error f)
            | (t, .ok w) => (t, .ok (l ++ [(h', some (byteAt w 0))]))) (s, .ok [])

/-- Put an instance at the head of its entry's list. -/
def State.setHead (s : State) (sp e : Nat) (i : Instance) : State :=
  s.setInstances sp e (i :: (s.instances sp e).drop 1)

/-- The work of an instance that starts: its commands, or its handles. -/
def State.beginWork (s : State) (sp e : Nat) (i : Instance) : State :=
  match entKind i.bytes with
  | 1 =>
    if i.notRun then s
    else match s.readList sp (entCseq e i.bell) { left := entCount i.bytes, idx := 0, addr := entList i.bytes } with
    | (s, .error f) => (s.setHead sp e (i.note (s.record f 0))).wrote f
    | (s, .ok (cs, more)) => s.setRunq (entryKey sp e) { RunQ.init with queue := cs, more := more }
  | 3 => match s.kvList sp (entList i.bytes) (i.notRun || i.abandoned) with
    | (s, .error f) => (s.setHead sp e (i.note (s.record f 0))).wrote f
    | (s, .ok l) => (s.setHead sp e { i with todo := l }).kvAdvance sp e 4096
  | _ => s

/-- An instance starts: LATE in bell mode when an attempt at START has failed (R353); R354's outcome; R451's refusal. -/
def State.startInstance (s : State) (sp e : Nat) (i : Instance) : State :=
  let late := i.late && s.bellMode sp
  let s := if late then (s.count (Reg.belLateCnt sp) 1).draw else s
  let i := { i with
    started := true, late := late, delay := if late then s.clk / 25 - entStart i.bytes else 0,
    notRun := !s.requireOk sp e i }
  if s.namesRetired sp (entTowers i.bytes) then
    let f := ringIllegal (entOrigin sp e i) 0x26 (0xF0 + entKind i.bytes)
    (s.setHead sp e (i.note (s.record f 0))).wrote f
  else (s.setHead sp e i).beginWork sp e i

/-- Try to start the oldest instance of an entry that has not started. -/
def State.tryStart (s : State) (sp e : Nat) : State :=
  let l := s.instances sp e
  match firstIdx (fun n => match l[n]? with | some i => !i.started && !i.ending | none => false) (List.range l.length) with
  | none => s
  | some n => match l[n]? with
    | none => s
    | some i =>
      if i.abandoned || !s.live then s
      else if n ≠ 0 || s.requireWaits sp e i || s.scrubHolds sp (BitVec.ofNat 16 (entTowers i.bytes)) then
        s.setInstances sp e (l.set n { i with late := true })
      else if !s.ringOn sp i.ring then s.skipInstance sp e i
      else s.startInstance sp e i

/-- START of an entry arrives, or what held its instance has gone. -/
def execEntryStart (spire : Fin 4) (entry : Fin 1024) (s : State) : Host.Outcome State Fault Refusal :=
  .next (s.tryStart spire.val entry.val)

/-! ### Deadlines (R358, R359) -/

/-- Index of the command running at a deadline: the lowest (DEDUCED, log 52). -/
def State.runningIdx (s : State) (sp e : Nat) : Nat :=
  ((s.runq (entryKey sp e)).running.map (fun r => r.o.lidx.toNat)).foldl min 0xFFFF

/-- A command in progress of an abandoned entry is abandoned in turn (R359). -/
def State.abandonCommand (s : State) (sp : Nat) (r : Running) (f : FaultInfo) : State :=
  if r.opcode = 0x20 then s.abandonLaunch r.o f
  else if r.opcode = 0x40 then
    (below 16 (fun k => match s.coll sp k with | some c => c.o = r.o | none => false)).foldl (fun (t : State) k =>
      t.collAbandon sp k f) s
  else (s.channelsWith sp (fun c => c.o = r.o)).foldl (fun (t : State) ch => match t.channel sp ch with
    | some c => t.setChannel sp ch (some { c with abandon := some (f.met s.bellNum) })
    | none => t) s

/-- The work of an entry is abandoned (R359); `i` is its instance as it stands now. -/
def State.abandonEntry (s : State) (sp e : Nat) (i : Instance) (f : FaultInfo) : State :=
  let k := entryKey sp e
  let q := s.runq k
  let s := s.setRunq k { q with queue := [], pre := none, more := none }
  let leave := fun (n : Nat) (m : Sem) =>
    if n / 4096 = sp then { m with waiters := m.waiters.filter (fun w => w.who ≠ .preEntry (Fin.ofNat 1024 e)) } else m
  let s := { s with sems := SMap.each (fun _ => Sem.init) leave s.sems }
  let s := q.running.foldl (fun (t : State) r => t.abandonCommand sp r f) s
  match entKind i.bytes with
  | 2 => s.sealAbandon sp e f
  | 3 =>
    if i.started then (s.modInstance sp e (fun i => { i with todo := i.todo.map (fun t => (t.1, none)) })).kvAdvance sp e 4096
    else
      let i := { i with started := true }
      (s.setHead sp e i).beginWork sp e i
  | _ => s

/-- Whether a sealed operation runs in the window of an entry. -/
def State.windowBusy (s : State) (sp e : Nat) : Bool :=
  (s.sealsOf sp).any (fun x => x.2.phase = .running && x.2.win = some e)

/-- The deadline of instance `i` at place `n` in bell mode: it is skipped behind a running one (R353), a window without
work closes, and anything else has missed (R359). -/
def State.missDeadline (s : State) (sp e n : Nat) (i : Instance) : State :=
  let past := fun (s : State) (i : Instance) => s.setInstances sp e ((s.instances sp e).set n { i with past := true })
  if n ≠ 0 && !i.started then s.skipInstance sp e i
  else if entKind i.bytes = 2 && i.started && !s.windowBusy sp e then past s i
  else
    let late := i.late || !i.started
    let delay := if i.started then i.delay else s.deadlineOf i.bytes - entStart i.bytes
    let drop := entAbandon i.bytes
    let f := deadlineFault sp e i (ofBool drop + ofBool late * 2) (s.runningIdx sp e) delay
    let (s, r) := s.raiseDeadline sp i f
    let i := { i with miss := some r, bad := true, past := true, abandoned := drop }
    let s := past s i
    if drop then s.abandonEntry sp e i f else s

/-- DEADLINE of the present bell's instance arrives. In throughput mode it only closes a window (R358). -/
def execDeadline (spire : Fin 4) (entry : Fin 1024) (s : State) : Host.Outcome State Fault Refusal :=
  let sp := spire.val
  let e := entry.val
  let l := s.instances sp e
  .next (match firstIdx (fun n => match l[n]? with | some i => i.bell = s.bellNum && !i.past && !i.ending | none => false)
      (List.range l.length) with
    | none => s
    | some n => match l[n]? with
      | none => s
      | some i =>
        if s.bellMode sp then s.missDeadline sp e n i
        else if entKind i.bytes = 2 then s.setInstances sp e (l.set n { i with past := true })
        else s)

/-! ### Ends (R356) -/

/-- Whether the work of the oldest instance of an entry has ended (DEDUCED, log 74). -/
def State.instanceDone (s : State) (sp e : Nat) (i : Instance) : Bool :=
  if i.ending then false
  else if !i.started then i.abandoned
  else match entKind i.bytes with
  | 1 =>
    let q := s.runq (entryKey sp e)
    q.queue.isEmpty && q.running.isEmpty && q.lists.isEmpty
  | 2 => (i.notRun || i.past || i.fault.isSome) && !s.windowBusy sp e
  | _ => i.todo.isEmpty

/-- The work of an instance is over and its entry record is written, with which it ends: NOT_RUN, ROLLED_BACK, LATE, ABANDONED (R354, R356, R359, R364). -/
def execEntryEnd (spire : Fin 4) (entry : Fin 1024) (s : State) : Host.Outcome State Fault Refusal :=
  let sp := spire.val
  let e := entry.val
  .next (match s.instances sp e with
    | [] => s
    | i :: _ =>
      if !s.instanceDone sp e i then s
      else
        let kv := entKind i.bytes = 3
        let flags := ofBool (i.notRun && !kv) + ofBool (i.notRun && kv) * 2 + ofBool i.late * 4 + ofBool i.abandoned * 8
        let s := if i.abandoned then s.count (Reg.belAbandonCnt sp) 1 else s
        s.entryRecord sp e i (i.miss.toList ++ i.fault.toList) flags (!i.bad && !i.abandoned))

end Sys2Proof.Machine
end

