-- ==== Sys2Proof/Machine/Hbm.lean ====
section
/-!
DEFINITION. The region table and the band table (R24, R83, R126, R382), HBM patrol (R379 to R381), and the age of
write-combining lines (R374).
-/
namespace Sys2Proof.Machine

/-- The live descriptors of all Spires (R83). -/
def State.liveDescs (s : State) : List (List Byte) :=
  (s.descs.filter (fun e => e.2.live)).map (fun e => s.entryBytes (e.1 / 16384) (e.1 % 16384))

/-- Whether a range shares a byte of a Gallery with another region (R126). -/
def State.regionClash (s : State) (i base limit : Nat) : Bool :=
  let lo := 0x4000_0000_0000
  let hi := lo + 0x4000_0000
  s.regions.any (fun e => e.1 ≠ i &&
    max (max base e.2.1) lo < min (min limit e.2.2) hi)

/-- REGION_SET: a region that a live descriptor names is neither removed nor shrunk (R83); no byte of a Gallery lies in two
regions (R126). A refusal is F_DESC, REGION (DEDUCED, log 54). -/
def execRegionSet (o : Origin) (index : BitVec 16) (base limit : Dpa) (s : State) : Host.Outcome State Fault Refusal :=
  let i := index.toNat
  let b := base.toNat
  let l := limit.toNat
  .next (s.onEngine o 10 0xA1 (fun s =>
    let old := s.region i
    let less := old.1 < old.2 && (l = 0 || old.1 < b || l < old.2)
    let named := s.liveDescs.any (fun d => field d 11 10 = i)
    if (less && named) || s.regionClash i b l then s.completeFault o 0xA1 (descFault (srcKey 0 0) 0x04 (addr := b))
    else
      let r := if l = 0 then (0, 0) else (b, l)
      ({ s with regions := SMap.set (fun _ => (0, 0)) s.regions i r } : State).completeOk o 0xA1))

/-- Whether a live descriptor rests on a band (R24). -/
def State.bandUsed (s : State) (b : Nat) : Bool :=
  s.liveDescs.any (fun d => (parseDesc d).ranges.any (fun r => overlaps (b <<< 35) ((b + 1) <<< 35) r.1 (r.1 + r.2)))

/-- Stage a field of an RWS register beside what is staged there. -/
def State.stageFld (s : State) (a hi lo v : Nat) : State :=
  let old := match s.stagedReg a with | some w => w.toNat | none => s.reg a &&& (rwsMask a).toNat
  s.stage a (some (BitVec.ofNat 64 (setBits old hi lo v)))

/-- BAND_CLASS stages the class in all four copies; the command completes after the bell (R382). -/
def execBandClass (o : Origin) (band cls : BitVec 8) (s : State) : Host.Outcome State Fault Refusal :=
  let b := band.toNat
  .next (s.onEngine o 10 0xA2 (fun s =>
    if 36 ≤ b || 3 < cls.toNat then s.badCmd o 0xA2
    else if s.bandUsed b then s.completeFault o 0xA2 (descFault (srcKey 0 0) 0x03 (addr := b <<< 35))
    else
      let s := (List.range 4).foldl (fun (t : State) sp =>
        if b < 32 then t.stageFld (Reg.hbmBandLo (8 * sp)) (2 * b + 1) (2 * b) cls.toNat
        else t.stageFld (Reg.hbmBandHi (8 * sp)) (2 * (b - 32) + 1) (2 * (b - 32)) cls.toNat) s
      { s with bandCmds := s.bandCmds ++ [(o, b, cls.toNat)] }))

/-- Drop what is staged for a band on which a live descriptor rests, in the copies of the Spires `sps`: the band keeps its
class, and the refusal is recorded (R24; DEDUCED, log 90). A staged 3 is left to the commit, which refuses it (R382). -/
def State.keepBand (s : State) (b sp : Nat) : State :=
  let a := if b < 32 then Reg.hbmBandLo (8 * sp) else Reg.hbmBandHi (8 * sp)
  match s.stagedReg a with
  | none => s
  | some v =>
    let p := 2 * (b % 32)
    let new := bits v.toNat (p + 1) p
    if new = 3 || new = s.bandClass sp b || !s.bandUsed b then s
    else (s.stageFld a (p + 1) p (s.bandClass sp b)).decodeErr (some (Fin.ofNat 4 sp)) true 0x4000 a

/-- The same for every band. -/
def State.keepBands (s : State) (sps : List Nat) : State :=
  sps.foldl (fun (t : State) sp =>
    if (t.stagedReg (Reg.hbmBandLo (8 * sp))).isNone && (t.stagedReg (Reg.hbmBandHi (8 * sp))).isNone then t
    else (List.range 36).foldl (fun (u : State) b => u.keepBand b sp) t) s

/-- A COMMIT write of 1 to a block (R5, R337), but for the bands that keep their class (R24). -/
def State.commitOf (s : State) (b : Block) : State :=
  (match b with | .hbm h => s.keepBands [h.val / 8] | _ => s).commitBlock b

/-- Patrol rewrites a burst in which it has corrected a codeword: the burst as read, its line's bytes over the stack's, goes
through the write-combining buffer as a whole burst, which takes the line with it (R374, R375, R379, R380). A burst whose
other codeword is uncorrectable keeps that one, and its line (R373; DEDUCED, log 91). -/
def State.patrolRewrite (s : State) (stack addr own : Nat) : State :=
  let b := addr / 64 * 64
  let other := if addr % 64 = 0 then b + 32 else b
  match s.cwRead stack (hbmKey stack other / 32) with
  | .addrError | .multi => s.stackPut stack addr (s.stackRead stack addr 32)
  | _ => s.granulePut stack b (s.granuleGet stack b 64) own

/-- Patrol reads one codeword with stored errors (R379): a correctable one is rewritten, an uncorrectable one reported; one
that a line holds whole is not read (R375). -/
def State.patrolCw (s : State) (stack cw : Nat) : State :=
  let addr := 32 * cw - hbmKey stack 0
  let own := srcSpire (stack / 8) 6 (stack % 8)
  if s.lineHolds stack addr then s
  else match s.cwRead stack cw with
  | .clean => s
  | .corrected pos v => (s.hbmCorrected stack addr pos v).patrolRewrite stack addr own
  | .addrError => s.hbmUeReport stack addr 2 (s.hbmUeFault (stack / 8) stack addr 2 own)
  | .multi => s.hbmUeReport stack addr 1 (s.hbmUeFault (stack / 8) stack addr 1 own)

/-- One patrol row of each channel: the 64 KiB unit UNIT (R367, R379). At the end of a pass the pin counts are cleared
(R378). A stack in H-sr is not patrolled (R381), nor one that has not been trained. -/
def execHbmPatrolRow (stack : Fin 32) (s : State) : Host.Outcome State Fault Refusal :=
  let h := stack.val
  if !bit (s.reg (Reg.hbmCtl h)) 0 || !s.trained h || bit (s.reg (Reg.hbmStatus h)) 1 then .next s
  else
    let a := Reg.hbmPatrolPos h
    let u := s.fld a 19 0
    let lo := hbmKey h (u * 0x1_0000) / 32
    let s := ((s.hbmErr.map (fun e => e.1 / 36)).eraseDups.filter (fun cw => inSpan cw lo 2048)).foldl
      (fun (t : State) cw => t.patrolCw h cw) s
    .next (if u + 1 < 589824 then s.setFld a 19 0 (u + 1)
      else
        let s := { s with
          pinCounts := s.pinCounts.filter (fun e => !inSpan e.1 (72 * 32 * h) (72 * 32)),
          pinsOver := s.pinsOver.filter (fun e => !inSpan e.1 (72 * 32 * h) (72 * 32)) }
        (s.setFld a 19 0 0).setFld a 31 20 (s.fld a 31 20 + 1))

/-- The line that has waited longest in a Spire's buffer reaches AGE and is written out (R374) (DEDUCED, log 78). -/
def execWcbAgeWriteout (spire : Fin 4) (s : State) : Host.Outcome State Fault Refusal :=
  .next (match s.lines spire.val with
    | l :: _ => s.writeOut l
    | [] => s)

end Sys2Proof.Machine
end

