-- ==== Sys2Proof/Machine/Bell.lean ====
section
/-!
DEFINITION. The bell (R341 to R349, R352, R355): its sources, frames, and what every die does in its first clk.
-/
namespace Sys2Proof.Machine

/-! ### Sources (R342 to R348) -/

/-- BEL_GEN.SRC. -/
def State.bellSrc (s : State) : Nat := s.fld (Reg.belGen 0) 1 0

/-- Whether the next bell may come: the timer's, that of an edge or a frame, or the timer's in holdover (R342, R345). -/
def State.bellDue (s : State) : Bool :=
  s.bellSrc = 0 || ((s.bellSrc = 1 || s.bellSrc = 2) && (s.gen.due || s.gen.holdover))

/-- The ports that send frames: those of FRAME_OUT that are up and not training (R410). -/
def State.framePorts (s : State) : List Nat :=
  below 8 (fun p => bit (s.fld (Reg.belGen 0) 15 8) p && s.portUp p && !s.isTraining p)

/-- Send a frame on every such port. -/
def State.sendFrame (s : State) (f : Frame) : State := s.framePorts.foldl (fun (t : State) p => t.send (.frame p f)) s

/-- The master's frame, LEAD before the bell with number `n` (R346, R410; DEDUCED, log 53). -/
def State.masterFrame (s : State) (n : Nat) : State :=
  if s.bellSrc ≤ 1 then
    s.sendFrame { number := BitVec.ofNat 64 n, period := BitVec.ofNat 24 (s.fld (Reg.belPeriod 0) 20 0), hops := 0,
                  lead := BitVec.ofNat 32 (100 * s.fld (Reg.belGen 0) 27 16) }
  else s

/-- An edge of BELL_SYNC gives the next bell, unless it comes less than 20 µs (50,000 clk) after the last (R342; DESIGN CHOICE, log 4). -/
def execBellSyncEdge (s : State) : Host.Outcome State Fault Refusal :=
  .next (if s.bellSrc ≠ 1 then s
    else if s.clk < 50000 then s.draw
    else { s.draw with gen := { s.gen with due := true, holdover := false } })

/-- The device takes a frame: its period, HOPS and rounding, which is free within 5 ns (R347; DESIGN CHOICE, log 4), stand, and
it gives the next bell. -/
def State.frameTaken (s : State) (f : Frame) : State :=
  let s := (s.setFld (Reg.belStatus 0) 27 24 f.hops.toNat).setReg (Reg.belSkew 0) (ofSigned 32 ((Config.measured s.free).toNat % 101 - 50))
  { s.draw with gen := { s.gen with framePeriod := f.period.toNat, due := true, holdover := false } }

/-- A frame arrives (R345, R346, R348): it is forwarded while HOPS allows; a joining device takes its number at the bell;
one that has joined follows it, or sets NUM_ERR and keeps its own count (DEDUCED, log 53). -/
def execBellFrame (port : Fin 8) (frame : Frame) (s : State) : Host.Outcome State Fault Refusal :=
  if s.bellSrc ≠ 2 || s.fld (Reg.belGen 0) 4 2 ≠ port.val then .next s
  else
    let s := if frame.hops.toNat < 8 then
        (s.sendFrame { frame with hops := frame.hops + 1, lead := Config.clk s.free }).draw
      else s
    let n := frame.number.toNat
    if s.gen.joining then
      let s := (s.frameTaken frame).setFld (Reg.belStatus 0) 28 28 1
      .next { s with gen := { s.gen with joining := false, join := some n } }
    else if !bit (s.reg (Reg.belStatus 0)) 28 then .next s
    else if n = (match s.gen.join with | some k => k | none => s.bellNum + 1) then .next (s.frameTaken frame)
    else .next ((s.setFld (Reg.belStatus 0) 30 30 1).setFld (Reg.belStatus 0) 28 28 0)

/-- No edge or frame has come: the device enters holdover, and the timer makes the bell (R345). -/
def execHoldover (s : State) : Host.Outcome State Fault Refusal :=
  .next (if (s.bellSrc = 1 || s.bellSrc = 2) && !s.gen.due && !s.gen.holdover then
      ({ s.setFld (Reg.belStatus 0) 31 31 1 with gen := { s.gen with holdover := true } } : State).raise 4 0
    else s)

/-! ### The actions of a bell (R349) -/

/-- Action 1: BEL_NUM, on every die (R341, R344). A join takes the frame's number (R348). -/
def State.countBell (s : State) : State :=
  let n := s.gen.join.getD (s.bellNum + 1)
  (List.range 4).foldl (fun (t : State) sp => t.setReg (Reg.belNum sp) n)
    { s with bellNum := n, gen := { s.gen with due := false, join := none } }

/-- The period of the bell that begins (R343, R345); with OUT_EN set the device drives BELL_SYNC high from it (R342). -/
def State.readPeriod (s : State) : State :=
  let p := if s.bellSrc = 2 then (if s.gen.framePeriod = 0 then s.gen.period else s.gen.framePeriod)
    else s.fld (Reg.belPeriod 0) 20 0
  { s with gen := { s.gen with period := p, out := bit (s.reg (Reg.belGen 0)) 31 } }

/-- EN is cleared on a Spire whose sequencer has disagreed with its copy (R445). -/
def State.seqBell (s : State) : State :=
  s.seqBad.foldl (fun (t : State) e => t.clearEn e.1) { s with seqBad := [] }

/-- The fewest spares left of a kind of which a slot has `n`, over the slots of a Spire. -/
def State.fewest (s : State) (sp n : Nat) (used : Tower → Nat) : Nat :=
  ((List.range 17).map (fun k => n - used (s.tower (17 * sp + k)))).foldl min n

/-- ROWS, COLS and TMROWS of KEY_CULLET_POOL (R447, R450). -/
def State.poolRows (s : State) (sp : Nat) : State :=
  let kind := fun (c : Bool) (t : Tower) => (t.steered.filter (fun e => e.1 = c)).length
  let bank := fun (t : Tower) =>
    ((List.range 64).map (fun b => (t.spareRows.filter (fun e => e.1 = b)).length)).foldl max 0
  let a := Reg.keyCulletPool
  ((s.setFld a (16 * sp + 11) (16 * sp + 9) (s.fewest sp 4 (kind false))).setFld a (16 * sp + 8) (16 * sp + 6)
    (s.fewest sp 4 (kind true))).setFld a (16 * sp + 4) (16 * sp) (s.fewest sp 16 bank)

/-- Spare rows and columns are steered in on Towers without a task, four of each at most (R449). -/
def State.steerBell (s : State) (g : Nat) : State :=
  let t := s.tower g
  if t.steer.isEmpty || t.task.isSome then s
  else
    let room := fun (l : List (Bool × Nat)) (e : Bool × Nat) => (l.filter (fun x => x.1 = e.1)).length < 4
    let (on, left) := t.steer.foldl (fun (x : List (Bool × Nat) × List (Bool × Nat)) e =>
      if room x.1 e then (x.1 ++ [e], x.2) else (x.1, x.2 ++ [e])) (t.steered, [])
    (s.setTower g { t with steered := on, steer := left }).poolRows (slotSpire g)

/-- A copied Gallery bank switches to its spare (R450): SPR_GAL_SPARE and GAL of KEY_CULLET_POOL. -/
def State.galleryBell (s : State) : State :=
  s.galFix.foldl (fun (t : State) e =>
    let a := Reg.sprGalSpare e.1
    let t := if t.fld a 7 0 = 0xFF then t.setFld a 7 0 e.2 else t.setFld a 15 8 e.2
    t.setFld Reg.keyCulletPool (16 * e.1 + 13) (16 * e.1 + 12)
      (ofBool (t.fld a 7 0 = 0xFF) + ofBool (t.fld a 15 8 = 0xFF))) { s with galFix := [] }

/-- Action 2: staged fields, cullet maps, and what else waits for a bell (R5, R15, R382, R445, R449 to R452, R457). -/
def State.bellChanges (s : State) : State :=
  let s := ((s.seqBell.keepBands [0, 1, 2, 3]).commitBell).readPeriod
  let s := ((List.range 4).foldl State.culletBell s).goneBell
  let s := (s.towers.map (·.1)).foldl State.steerBell s.galleryBell
  let s := { s with expDown := s.expDown.filter (fun e => e.2 ≠ 1) }
  s.pointsBell

/-- Action 3 on a Tower: element programs, IMSWAP.B (R162, R227); BELLW sees the bell (R181). -/
def State.towerBell (s : State) (g : Nat) : State :=
  let s := s.modTower g Tower.flipAll
  let s := if (s.tower g).swapPend = some true then s.swapNow g else s
  (s.bellwEnd g .a).bellwEnd g .x

/-- A queue wait whose limit has come times out (R145). -/
def State.queueTimeout (s : State) (g : Nat) (st : Stream) : State :=
  match execQueueWaitTimeout (Fin.ofNat 68 g) st s with
  | .next t => t
  | _ => s

/-- The semaphores of a Spire serve waiters whose count is there; `k` bounds their number (R332). -/
def State.serveAll (s : State) (sp n : Nat) : Nat → State
  | 0 => s
  | k + 1 => (s.serveOne sp n).serveAll sp n k

/-- Action 5: semaphore and queue waits time out (R145, R334). -/
def State.timeoutBell (s : State) : State :=
  let s := (List.range 4).foldl (fun (t : State) sp =>
    let t := (t.waitedSems sp).foldl (fun (u : State) p => u.serveAll sp p.1 p.2.waiters.length) t
    t.semTimeouts sp (fun _ => true)) s
  (s.towers.map (·.1)).foldl (fun (t : State) g => (t.queueTimeout g .a).queueTimeout g .x) s

/-- Action 6: the table that NEXT_TABLE names becomes active; while it is being loaded the switch is held (R352). -/
def State.tableBell (s : State) (sp : Nat) : State :=
  let next := s.fld (Reg.belCtl sp) 2 2
  if next ≠ s.activeTable sp && s.btabJobs.any (fun j => j.o.spire.val = sp) then s.setFld (Reg.belStatus sp) 29 29 1
  else s.setFld (Reg.belStatus sp) 0 0 next

/-- The BTAB_LOADs that the bell has interrupted end in the bell that begins (DESIGN CHOICE, log 52). -/
def State.btabBell (s : State) : State := s.btabJobs.foldl State.btabDone { s with btabJobs := [] }

/-- BEL_SLACK: free over the instances of the last bell, DESIGN CHOICE, log 4, and 0x7FFF_FFFF when none had a deadline. -/
def State.slackBell (s : State) (sp old : Nat) : State :=
  let had := s.bellMode sp && (s.ended.any (fun e => e.1 / 1024 = sp && e.2.1 = old) ||
    s.insts.any (fun e => e.1 / 1024 = sp && e.2.any (fun i => i.bell = old)))
  if had then (s.setReg (Reg.belSlack sp) (Config.measured s.free).toNat).draw
  else s.setReg (Reg.belSlack sp) 0x7FFF_FFFF

/-- Instances whose entry's previous one still runs at the next bell are skipped (R353). -/
def State.skipStale (s : State) (sp e : Nat) : State :=
  let l := s.instances sp e
  match firstIdx (fun n => n ≠ 0 && (match l[n]? with | some i => !i.started && !i.ending | none => false)) (List.range l.length) with
  | some n => match l[n]? with
    | some i => s.skipInstance sp e i
    | none => s
  | none => s

/-- The new instance of an entry (R355). -/
def newInstance (b : List Byte) (bell : Nat) : Instance :=
  { bytes := b, bell := bell, started := false, late := false, delay := 0, notRun := false, abandoned := false,
    past := false, count := 0, bad := false, fault := none, miss := none, ending := false, todo := [] }

/-- Action 9 on a Spire: each entry of the active table that is not off and whose START lies before the end of the bell has
an instance; those with START 0 begin, in ascending index (R349, R355). -/
def State.entriesBell (s : State) (sp : Nat) : State :=
  let stale := (s.insts.filter (fun e => e.1 / 1024 = sp)).map (fun e => e.1 % 1024)
  let s := stale.foldl (fun (t : State) e => t.skipStale sp e) s
  if !bit (s.reg (Reg.belCtl sp)) 0 then s
  else
    let base := 512 * s.activeTable sp
    let es := (s.btabs.filter (fun e => inSpan e.1 (1024 * sp + base) 512 && entKind e.2 ≠ 0 &&
      entStart e.2 < s.gen.period)).map (fun e => (e.1 - 1024 * sp, e.2))
    let s := es.foldl (fun (t : State) e =>
      t.setInstances sp e.1 (t.instances sp e.1 ++ [newInstance e.2 t.bellNum])) s
    es.foldl (fun (t : State) e => if entStart e.2 = 0 then t.tryStart sp e.1 else t) s

/-- LAST_BELL of pinned pages (R300). -/
def State.pinnedBell (s : State) : State :=
  s.frames.foldl (fun (t : State) e => match e.2 with
    | some (i, p) =>
      let m := t.resMap (t.ctx i)
      if t.pagePin m p = 0 then t else t.dirPut m p 76 (leBytes 8 t.bellNum)
    | none => t) s

/-- F_CHECKSUM, site 5: the sequencer of a Spire disagrees with its copy at an action (R445). -/
def State.seqMismatch (s : State) (sp e : Nat) : State :=
  let f : FaultInfo :=
    { code := F_CHECKSUM, source := srcSpire sp 3 0,
      detail := leBytes 1 0xFF ++ leBytes 1 0 ++ leBytes 2 e ++ leBytes 2 0xFFFF ++ leBytes 4 0 ++ leBytes 1 5 }
  ({ s with seqBad := SMap.set (fun _ => false) s.seqBad sp true } : State).alertPin.faultToSpire sp f

/-- BAND_CLASS commands complete after the bell that changed their class (R382). One whose band has got a live descriptor
meanwhile has been refused there (R24) and completes with F_DESC, CLASS (DEDUCED, log 90). -/
def State.bandsBell (s : State) : State :=
  s.bandCmds.foldl (fun (t : State) c =>
    if t.bandClass 0 c.2.1 ≠ c.2.2 && t.bandUsed c.2.1 then
      t.completeFault c.1 0xA2 (descFault (srcKey 0 0) 0x03 (addr := c.2.1 <<< 35))
    else t.completeOk c.1 0xA2) { s with bandCmds := [] }

/-- BELL (R349): the nine actions in order, on every die; then enabled rings read their tail lines (R313). `bad` names a
Spire and an entry at which its sequencer is found to disagree with its copy (R445). -/
def execBell (bad : Option (Fin 4 × Fin 512)) (s : State) : Host.Outcome State Fault Refusal :=
  if !s.live || !s.bellDue then .next s
  else
    let old := s.bellNum
    let s := (s.masterFrame (s.gen.join.getD (old + 1))).countBell
    let s := s.bellChanges
    let s := ((s.towers.map (·.1)).foldl State.towerBell s).psetBell
    let s := (List.range 4).foldl (fun (t : State) sp => (List.range 64).foldl (fun (u : State) g => u.dropGroupAt sp g) t) s
    let s := s.timeoutBell
    let s := (List.range 4).foldl State.tableBell s
    let s := (List.range 4).foldl State.recheckAll s
    let s := (List.range 4).foldl State.closeBell s
    let s := (List.range 4).foldl (fun (t : State) sp => (t.slackBell sp old).entriesBell sp) s
    let s := (match bad with | some (sp, e) => s.seqMismatch sp.val e.val | none => s).pinnedBell.bandsBell.btabBell
    .next (((List.range 64).filter (fun k => s.ringOn (k / 16) (k % 16))).foldl (fun (t : State) k =>
      t.readTail (k / 16) (k % 16)) s)

/-- A write of 1 to BEL_JOIN on Spire 0 (R346). -/
def State.joinBell (s : State) (sp : Nat) : State :=
  if sp = 0 && s.bellSrc = 2 then { s with gen := { s.gen with joining := true } } else s

/-- BEL_JOIN. -/
def execBelJoin (actor : Actor) (spire : Fin 4) (s : State) : Host.Outcome State Fault Refusal :=
  .next (s.guarded actor (Reg.belJoin spire.val) (fun s => s.joinBell spire.val))

end Sys2Proof.Machine
end

