-- ==== Sys2Proof/Machine/Fuse.lean ====
section
/-!
DEFINITION. The fuse bank (R419 to R422): programming requests, their end, and what the sensing at reset shows.
-/
namespace Sys2Proof.Machine

/-- The life-cycle states as FUSE_LIFECYCLE.STATE has them. -/
def lcRaw : Nat := 0
def lcTest : Nat := 1
def lcProd : Nat := 2
def lcRma : Nat := 3
def lcScrap : Nat := 4

/-- The code of a life-cycle state, and the state that a pattern is sensed as: SCRAP where it is no code (R419). -/
def lcCode (st : Nat) : Nat := [0, 1, 3, 7, 15].getD st 15
def lcSense (code : Nat) : Nat := (firstIdx (· = code) [0, 1, 3, 7, 15]).getD lcScrap

/-- The sensed life-cycle state. -/
def State.lifecycle (s : State) : Nat := s.fld Reg.fuseLifecycle 2 0

/-! ### Programming (R421) -/

/-- A request is refused: nothing is programmed (DEDUCED, log 82). -/
def State.fuseRefuse (s : State) : State := s.setReg Reg.fuseProgStatus (s.reg Reg.fuseProgStatus ||| 0xC000_0000)

/-- A request is accepted unless one is in progress or it is not allowed; it leads to the bank `b`. -/
def State.fuseRequest (s : State) (ok : Bool) (b : FuseBank) : State :=
  if s.fuseJob.isSome || !ok then s.fuseRefuse
  else { s.setFld Reg.fuseProgStatus 29 29 1 with fuseJob := some b }

/-- Advance LIFECYCLE: one step forward, or to SCRAP (DEDUCED, log 82). -/
def State.fuseLife (s : State) (st : Nat) : State :=
  let old := s.fuses.lifecycle.toNat
  let ok := (st = s.lifecycle + 1 || st = lcScrap) && s.lifecycle < st && st ≤ lcScrap && old &&& lcCode st = old
  s.fuseRequest ok { s.fuses with lifecycle := BitVec.ofNat 4 (lcCode st) }

/-- Advance ROLLBACK by one bit, in TEST and PROD (DEDUCED, log 82). -/
def State.fuseRoll (s : State) : State :=
  let r := s.fuses.rollback
  s.fuseRequest ((s.lifecycle = lcTest || s.lifecycle = lcProd) && r ≠ BitVec.allOnes 128) { s.fuses with rollback := r ||| (r + 1) }

/-- Set bits of word `w` of a field, in RAW and TEST (DEDUCED, log 82). -/
def State.fuseField (s : State) (f w : Nat) (data : Word) : State :=
  let d := data.toNat <<< (64 * w)
  let b := s.fuses
  let ok := (s.lifecycle = lcRaw || s.lifecycle = lcTest) && f ≤ 5 && w < [4, 1, 8, 1, 1, 32].getD f 0
  s.fuseRequest ok (match f with
    | 0 => { b with secret := b.secret ||| BitVec.ofNat 256 d }
    | 1 => { b with serial := b.serial ||| BitVec.ofNat 64 d }
    | 2 => { b with fwkey := b.fwkey ||| BitVec.ofNat 512 d }
    | 3 => { b with debugBits := b.debugBits ||| BitVec.ofNat 2 d }
    | 4 => { b with port := b.port ||| BitVec.ofNat 9 d }
    | _ => { b with cullet := b.cullet ||| BitVec.ofNat 2048 d })

/-- FUSE_PROG with OP 1. -/
def execFuseAdvanceLifecycle (actor : Actor) (state : BitVec 8) (s : State) : Host.Outcome State Fault Refusal :=
  .next (s.guarded actor Reg.fuseProg (fun s => s.fuseLife state.toNat))

/-- FUSE_PROG with OP 2. -/
def execFuseAdvanceRollback (actor : Actor) (s : State) : Host.Outcome State Fault Refusal :=
  .next (s.guarded actor Reg.fuseProg State.fuseRoll)

/-- FUSE_PROG with OP 3; `data` is FUSE_PROG_DATA. -/
def execFuseWriteField (actor : Actor) (field : BitVec 4) (word : BitVec 5) (data : Word) (s : State) :
    Host.Outcome State Fault Refusal :=
  .next (s.guarded actor Reg.fuseProg (fun s => (s.setReg Reg.fuseProgData data.toNat).fuseField field.toNat word.toNat data))

/-- FUSE_PROG_DONE: the request has been programmed. The FUSE_ registers change at the next reset. -/
def execFuseProgDone (s : State) : Host.Outcome State Fault Refusal :=
  .next (match s.fuseJob with
    | none => s
    | some b =>
      ({ s with fuses := b, fuseJob := none } : State).setReg Reg.fuseProgStatus
        (setBits (s.reg Reg.fuseProgStatus ||| 0x8000_0000) 29 29 0))

/-- Bits that an interrupted request leaves: each bit of it programmed or not, by a free word repeated (R469). -/
def torn {n : Nat} (old new : BitVec n) (free : Word) : BitVec n :=
  let w := BitVec.ofNat n ((List.range 32).foldl (fun v i => v + free.toNat <<< (64 * i)) 0)
  old ||| (new &&& w)

/-- A reset interrupts a request (R469): LIFECYCLE and ROLLBACK are wholly old or wholly new (DEDUCED, log 82). -/
def State.fuseBreak (s : State) : State :=
  match s.fuseJob with
  | none => s
  | some b =>
    let x := Config.unstated s.free 0
    let a := s.fuses
    let whole := x.getLsbD 0
    let f : FuseBank :=
      { lifecycle := if whole then b.lifecycle else a.lifecycle, secret := torn a.secret b.secret x,
        serial := torn a.serial b.serial x, fwkey := torn a.fwkey b.fwkey x,
        rollback := if whole then b.rollback else a.rollback, debugBits := torn a.debugBits b.debugBits x,
        port := torn a.port b.port x, cullet := torn a.cullet b.cullet x }
    ({ s with fuses := f, fuseJob := none } : State).draw

/-! ### Sensing (R419, R422) -/

/-- The number of bits set. -/
def popcount (n v : Nat) : Nat := (below n (fun i => v.testBit i)).length

/-- The FUSE_ registers take the bank's values. -/
def State.sense (s : State) : State :=
  let b := s.fuses
  let s := { s with secret := b.secret }
  let s := s.setReg Reg.fuseLifecycle (lcSense b.lifecycle.toNat)
  let s := s.setReg Reg.fusePolicy (b.port.toNat + b.debugBits.toNat <<< 9)
  let s := s.setReg Reg.fuseRollback (popcount 128 b.rollback.toNat)
  let s := s.setReg Reg.fuseSerial b.serial.toNat
  let s := (List.range 8).foldl (fun (t : State) i => t.setReg (Reg.fuseFwkey i) (b.fwkey.toNat >>> (64 * i) % 2 ^ 64)) s
  (List.range 32).foldl (fun (t : State) i => t.setReg (Reg.fuseCullet i) (b.cullet.toNat >>> (64 * i) % 2 ^ 64)) s

end Sys2Proof.Machine
end

