-- ==== Sys2Proof/Machine/Pke.lean ====
section
/-!
DEFINITION. The public-key engines (R433 to R441): their commands, validation, completion and abort, the key store (R435),
the measurement registers (R426) and the attestation report (R431).
-/
namespace Sys2Proof.Machine
open Sys2Proof.Crypto

/-! ### Key store and measurements -/

/-- Measurement register Mi. -/
def State.measure (s : State) (i : Nat) : List Byte := (List.range 8).flatMap (fun j => leBytes 8 (s.reg (Reg.keyMeas i j)))

/-- Mi ← SHAKE256-512(Mi ‖ d), in one step (R426). -/
def State.extend (s : State) (i : Nat) (d : List Byte) : State :=
  let m := shake256 (s.measure i ++ d) 64
  (List.range 8).foldl (fun (t : State) j => t.setReg (Reg.keyMeas i j) (field m (8 * j + 7) (8 * j))) s

/-! ### Starting -/

/-- The engine that takes a command (R433): the one named, or the lowest-numbered active one that is idle. -/
def State.pkeFor (s : State) (p : PkeArgs) : Option Nat :=
  if p.engine = 0 then s.pkeAny
  else if s.pkeFree (p.engine.toNat - 1) then some (p.engine.toNat - 1) else none

/-- The modulus length that VALIDATE's RSA key has: the spec gives VALIDATE no way to say it (DESIGN CHOICE, log 55). -/
def validateRsa : Nat := if (Config.unstated 0x9A 3).getLsbD 0 then 512 else 384

/-- Bytes of RSA_VERIFY's modulus; 0 for a SUB out of range. -/
def rsaLen (sub : Nat) : Nat := if sub = 0 then 384 else if sub = 1 then 512 else 0

/-- Bytes of the input block (R434). -/
def pkeInLen (op sub : Nat) : Nat :=
  match op with
  | 0x90 => 171 | 0x93 => 56 | 0x95 => 48 | 0x96 => 240
  | 0x97 => if rsaLen sub = 0 then 0 else 2 * rsaLen sub + 4
  | 0x99 => 32
  | 0x9A => if sub = 0 then 57 else if sub = 1 then 56 else if sub = 2 then 96 else if sub = 3 then validateRsa + 4 else 0
  | 0x9B => 64 | _ => 0

/-- Bytes of the output block. -/
def pkeOutLen (op sub : Nat) : Nat :=
  match op with
  | 0x91 => 114 | 0x92 => 56 | 0x93 => 56 | 0x94 => 96 | 0x95 => 96 | 0x97 => rsaLen sub | 0x99 => 690 | _ => 0

/-- Bytes of the message that an operation reads. -/
def pkeMsgLen (op : Nat) (p : PkeArgs) : Nat :=
  if (op = 0x90 || op = 0x91) && p.mlen.toNat ≤ 0x10_0000 then p.mlen.toNat else 0

/-- The first unmapped address of IN, OUT and MSG, where the operation uses them (R440) (DEDUCED, log 81). -/
def State.pkeUnmapped (s : State) (op : Nat) (p : PkeArgs) : Option Nat :=
  (s.firstUnmapped p.inp.toNat (pkeInLen op p.sub.toNat)).or
    ((s.firstUnmapped p.out.toNat (pkeOutLen op p.sub.toNat)).or (s.firstUnmapped p.msg.toNat (pkeMsgLen op p)))

/-- Read bytes for engine `n`. -/
def State.pkeGet (s : State) (o : Origin) (n a len : Nat) : State × Option FaultInfo × List Byte :=
  if len = 0 then (s, none, [])
  else
    let r := s.readRange o.spire.val (srcKey 2 n) a len false
    (r.s, r.fault, r.bytes)

/-- Whether an operation uses a private key (R439). -/
def usesPrivate (op : Nat) : Bool := [0x91, 0x92, 0x93, 0x94, 0x95, 0x99].contains op

/-- What an operation takes at its start beside its input: a keygen, whether it has reserved its slot (R435); ATTEST, M0 to
M7, BEL_NUM and EN (R432). -/
def State.pkeSample (s : State) (op : Nat) (p : PkeArgs) : State × List Byte :=
  let k := p.slot.toNat
  if isKeygen op then
    if 1 ≤ k && k ≤ 15 && (s.keySlot k).ty = 0 then (s.setKeySlot k { ty := 4, key := [] }, [1]) else (s, [])
  else if op = 0x99 then
    (s, (List.range 8).flatMap s.measure ++ leBytes 8 s.bellNum ++ leBytes 1 (ofBool (bit (s.reg Reg.alxCryptCtl) 31)))
  else (s, [])

/-- Engine `n` starts an operation: it reads its input, after the check of R19 (R436, R440). -/
def State.pkeBegin (s : State) (o : Origin) (op : Nat) (p : PkeArgs) (n : Nat) : State :=
  match s.pkeUnmapped op p with
  | some x => s.completeFault o op (descFault (srcKey 2 n) 0x01 (addr := x))
  | none =>
    let (s, f, inp) := s.pkeGet o n p.inp.toNat (pkeInLen op p.sub.toNat)
    let (s, g, msg) := s.pkeGet o n p.msg.toNat (pkeMsgLen op p)
    match f.or g with
    | some f => s.completeFault o op f
    | none =>
      let (s, sample) := s.pkeSample op p
      let c : PkeOp := { o := o, opcode := op, p := p, inp := inp, msg := msg, valid := false, sample := sample }
      ((s.opmemFree n).setFld (Reg.pkeStatus n) 15 8 op).setPke n (some c)

/-- Start a PKE command on its engine: one that names an inactive engine is refused (R433). With no engine free it goes on
waiting at its ring. -/
def State.pkeStart (s : State) (o : Origin) (op : Nat) (p : PkeArgs) : State :=
  s.onEngine o 8 op (fun s =>
    if s.pkeInactive p.engine.toNat then s.badCmd o op
    else match s.pkeFor p with
    | none => s
    | some n => s.pkeBegin o op p n)

/-! ### Validation (R436) -/

/-- The checks on a key-store slot that must hold a key of type `ty`. -/
def State.slotBad (s : State) (k ty : Nat) : List Nat :=
  badList [(15 < k, P_FORMAT), (k ≤ 15 && (k = 0 || (s.keySlot k).ty ≠ ty), P_SLOT)]

/-- The checks of an operation that fail, as statuses (DEDUCED, log 81). -/
def State.pkeBad (s : State) (c : PkeOp) : List Nat :=
  let k := c.p.slot.toNat
  let sub := c.p.sub.toNat
  let b := c.inp
  let long := badList [(0x10_0000 < c.p.mlen.toNat, P_FORMAT)]
  match c.opcode with
  | 0x90 => edPointBad (b.take 57) ++ edPointBad ((b.drop 57).take 57) ++ edScalarBad ((b.drop 114).take 57) ++ long
  | 0x91 => s.slotBad k 1 ++ long
  | 0x93 => x448Bad b ++ s.slotBad k 2
  | 0x95 => s.slotBad k 3
  | 0x96 => p384PointBad (b.take 96) ++ p384SigBad (b.drop 144)
  | 0x97 =>
    let n := rsaLen sub
    badList [(n = 0, P_FORMAT)] ++ rsaKeyBad n b ++ rsaSigBad (beNat (b.take n)) (beNat (b.drop (n + 4)))
  | 0x98 => badList [(15 < k, P_FORMAT), (k = 0, P_SLOT)]
  | 0x99 => badList [((s.keySlot 0).ty ≠ 1, P_SLOT)]
  | 0x9A => match sub with
    | 0 => edPointBad b
    | 1 => x448Bad b
    | 2 => p384PointBad b
    | 3 => rsaKeyBad validateRsa b
    | _ => [P_FORMAT]
  | 0x9B => badList [(k < 4 || 7 < k, P_FORMAT)]
  | _ => badList [(15 < k, P_FORMAT), (k ≤ 15 && c.sample.isEmpty, P_SLOT)]

/-! ### Completion (R438, R440) -/

/-- RESULT of a PKE command (R440). -/
def pkeResult (status n time : Nat) : List Byte := leBytes 1 status ++ leBytes 1 n ++ leBytes 4 time

/-- An operation's status is latched: the record, source 1 + n, the counts (R440). -/
def State.pkeEnd (s : State) (n : Nat) (c : PkeOp) (status time : Nat) (refused : Bool := false) : State :=
  ((s.setPke n none).pkeLatch n status refused).completeOk c.o c.opcode (pkeResult status n time)

/-- PKE_VALIDATION_END (R436, R439): the status of the first failing column refuses the operation; an operation that needs
randomness completes with P_ENTROPY when the noise sources are unhealthy. -/
def execPkeValidationEnd (engine : Fin 3) (s : State) : Host.Outcome State Fault Refusal :=
  let n := engine.val
  .next (match s.pke n with
    | none => s
    | some c =>
      if c.valid then s
      else
        let status := firstStatus (s.pkeBad c)
        if status ≠ 0 then (s.unreserve c).pkeEnd n c status 3 true
        else if s.entropyBad && usesPrivate c.opcode then (s.unreserve c).pkeEnd n c P_ENTROPY 3
        else s.setPke n (some { c with valid := true }))

/-- `n` random bytes (R439; DESIGN CHOICE, log 22). -/
def State.randomBytes (s : State) (n : Nat) : List Byte := (List.range n).map (fun i => Config.random (1024 * s.free + i))

/-- The part of an attestation report that is signed (R431). -/
def State.reportBody (s : State) (c : PkeOp) : List Byte :=
  let lock := byteAt c.sample 520
  leBytes 4 0x5441_5A55 ++ leBytes 1 1 ++ leBytes 1 (s.fld Reg.fuseLifecycle 2 0) ++ leBytes 1 (s.fld Reg.fuseRollback 7 0) ++
    leBytes 1 (s.fld Reg.fusePolicy 10 9) ++ leBytes 1 (s.fld Reg.fusePolicy 7 0) ++
    leBytes 1 (s.fld Reg.fusePolicy 8 8 + 2 * lock) ++ leBytes 6 0 ++ leBytes 8 (s.reg Reg.fuseSerial) ++
    (c.sample.drop 512).take 8 ++ c.inp.take 32 ++ c.sample.take 512

/-- What an operation that has passed validation computes: its status, its output block, and the state it leaves. -/
def State.pkeCompute (s : State) (c : PkeOp) : State × Nat × List Byte :=
  let k := c.p.slot.toNat
  let b := c.inp
  let key := (s.keySlot k).key
  let verdict := fun (ok : Bool) => if ok then 0 else P_SIG_INVALID
  match c.opcode with
  | 0x90 => (s, verdict (ed448Verify (b.take 57) [] c.msg (b.drop 57)), [])
  | 0x91 => (s, 0, ed448Sign key [] c.msg)
  | 0x92 =>
    let d := s.randomBytes 56
    ((s.setKeySlot k { ty := 2, key := d }).draw, 0, x448 d 5)
  | 0x93 => (s, 0, x448 key (leNat b))
  | 0x94 =>
    let d := 1 + leNat (s.randomBytes 64) % (n384 - 1)
    ((s.setKeySlot k { ty := 3, key := beBytes 48 d }).draw, 0, ecBytes (ecMul d g384))
  | 0x95 => (s.draw, 0, p384Sign (beNat key) (leNat (shake256 (key ++ b ++ s.randomBytes 32) 64) % n384) b)
  | 0x96 =>
    let q := (beNat (b.take 48), beNat ((b.drop 48).take 48))
    (s, verdict (p384Verify q ((b.drop 96).take 48) (beNat ((b.drop 144).take 48)) (beNat ((b.drop 192).take 48))), [])
  | 0x97 =>
    let n := rsaLen c.p.sub.toNat
    (s, 0, beBytes n (powMod (beNat (b.drop (n + 4))) (beNat ((b.drop n).take 4)) (beNat (b.take n))))
  | 0x98 => (s.setKeySlot k KeySlot.init, 0, [])
  | 0x99 =>
    let body := s.reportBody c
    (s, 0, body ++ ed448Sign (s.keySlot 0).key (text "UZD-ATTEST") body)
  | 0x9B => (s.extend k b, 0, [])
  | _ => (s, 0, [])

/-- The time of an operation in µs (R438): the stated time; free, within the stated bound, where only a bound is given; the
fraction of a microsecond of hashing, and the wait of KEY_CLEAR, are free (DESIGN CHOICE, log 57). -/
def State.pkeTime (s : State) (c : PkeOp) : Nat :=
  let free := (Config.measured s.free).toNat
  let hash := c.p.mlen.toNat / 2000
  let big := c.p.sub = 1
  match c.opcode with
  | 0x90 => min free (1603 + hash)
  | 0x91 => 1103 + hash + (if c.p.mlen.toNat % 2000 = 0 then 0 else free % 2)
  | 0x92 => 903 | 0x93 => 903 | 0x94 => 1203 | 0x95 => 1303
  | 0x96 => min free 1903
  | 0x97 =>
    let n := rsaLen c.p.sub.toNat
    min free ((if big then 123 else 73) * (if beNat ((c.inp.drop n).take 4) = 65537 then 1 else 2))
  | 0x98 => max 3 free
  | 0x99 => 1103
  | _ => 3

/-- Write the output block of engine `n`. -/
def State.pkePut (s : State) (o : Origin) (n a : Nat) (bs : List Byte) : State × Option FaultInfo :=
  if bs.isEmpty then (s, none)
  else
    let (t, _, f) := s.putRange o.spire.val { x := o.spire.val, source := srcKey 2 n, node := 0xFFFF, gen := 0 } false a bs
    (t, f)

/-- Whether an operation on another engine uses slot `k` (R435). -/
def State.slotInUse (s : State) (n k : Nat) : Bool :=
  (List.range 3).any (fun m => m ≠ n && (match s.pke m with
    | some c => (usesPrivate c.opcode || c.opcode = 0x98) && (if c.opcode = 0x99 then 0 else c.p.slot.toNat) = k
    | none => false))

/-- F_CHECKSUM, site 7 (R445), in the layout of R220. -/
def pkeCheckFault (n : Nat) : FaultInfo :=
  { code := F_CHECKSUM, source := srcKey 2 n,
    detail := leBytes 1 0xFF ++ leBytes 1 0 ++ leBytes 2 n ++ leBytes 2 0xFFFF ++ leBytes 4 0 ++ leBytes 1 7 }

/-- An engine's final check fails (R445, R451): no output, and the engine is excluded until PKE_SPARE names its spare
(DEDUCED, log 81). -/
def State.pkeFailed (s : State) (n : Nat) (c : PkeOp) : State :=
  let s := ((s.unreserve c).setPke n none).setFld (Reg.pkeStatus n) 1 1 0
  (s.completeFault c.o c.opcode (pkeCheckFault n)).raise 4 (1 + n)

/-- PKE_COMPLETE (R440): the output block, the record, the source. With `selfTest` the final check of a private-key operation
fails (R445, site 7). KEY_CLEAR waits for its slot (R435). -/
def execPkeComplete (engine : Fin 3) (selfTest : Bool) (s : State) : Host.Outcome State Fault Refusal :=
  let n := engine.val
  .next (match s.pke n with
    | none => s
    | some c =>
      if !c.valid || (c.opcode = 0x98 && s.slotInUse n c.p.slot.toNat) then s
      else if selfTest && usesPrivate c.opcode then s.pkeFailed n c
      else
        let time := s.pkeTime c
        let (s, status, out) := s.draw.pkeCompute c
        let (s, f) := (s.opmemFree n).pkePut c.o n c.p.out.toNat out
        match f with
        | some f => ((s.setPke n none).completeFault c.o c.opcode f).raise 4 (1 + n)
        | none => s.pkeEnd n c status time)

/-- PKE_ABORT (R441) (DEDUCED, log 81). -/
def State.pkeAbort (s : State) (n : Nat) : State :=
  match s.pke n with
  | none => s.bindAbort n (sessFault 0x11 · 1)
  | some c =>
    let s := (s.opmemZero n).unreserve c
    s.draw.pkeEnd n c P_ABORTED (Config.measured s.free).toNat

/-- A write of 1 to PKE_CTL.ABORT (R441). -/
def execPkeAbort (actor : Actor) (engine : Fin 3) (s : State) : Host.Outcome State Fault Refusal :=
  .next (s.guarded actor (Reg.pkeCtl engine.val) (fun s => s.pkeAbort engine.val))

/-- A write of 1 to PKE_CTL.OPMEM_CLR, ignored while the engine is busy (R440). -/
def execPkeOpmemClr (actor : Actor) (engine : Fin 3) (s : State) : Host.Outcome State Fault Refusal :=
  .next (s.guarded actor (Reg.pkeCtl engine.val) (fun s =>
    if s.pkeBusy engine.val then s else s.opmemZero engine.val))

/-! ### The commands (R434) -/

/-- ED448_VERIFY. -/
def execEd448Verify (o : Origin) (p : PkeArgs) (s : State) : Host.Outcome State Fault Refusal := .next (s.pkeStart o 0x90 p)
/-- ED448_SIGN. -/
def execEd448Sign (o : Origin) (p : PkeArgs) (s : State) : Host.Outcome State Fault Refusal := .next (s.pkeStart o 0x91 p)
/-- X448_KEYGEN. -/
def execX448Keygen (o : Origin) (p : PkeArgs) (s : State) : Host.Outcome State Fault Refusal := .next (s.pkeStart o 0x92 p)
/-- X448. -/
def execX448 (o : Origin) (p : PkeArgs) (s : State) : Host.Outcome State Fault Refusal := .next (s.pkeStart o 0x93 p)
/-- P384_KEYGEN. -/
def execP384Keygen (o : Origin) (p : PkeArgs) (s : State) : Host.Outcome State Fault Refusal := .next (s.pkeStart o 0x94 p)
/-- P384_SIGN. -/
def execP384Sign (o : Origin) (p : PkeArgs) (s : State) : Host.Outcome State Fault Refusal := .next (s.pkeStart o 0x95 p)
/-- P384_VERIFY. -/
def execP384Verify (o : Origin) (p : PkeArgs) (s : State) : Host.Outcome State Fault Refusal := .next (s.pkeStart o 0x96 p)
/-- RSA_VERIFY. -/
def execRsaVerify (o : Origin) (p : PkeArgs) (s : State) : Host.Outcome State Fault Refusal := .next (s.pkeStart o 0x97 p)
/-- KEY_CLEAR. -/
def execKeyClear (o : Origin) (p : PkeArgs) (s : State) : Host.Outcome State Fault Refusal := .next (s.pkeStart o 0x98 p)
/-- ATTEST. -/
def execAttest (o : Origin) (p : PkeArgs) (s : State) : Host.Outcome State Fault Refusal := .next (s.pkeStart o 0x99 p)
/-- VALIDATE. -/
def execValidate (o : Origin) (p : PkeArgs) (s : State) : Host.Outcome State Fault Refusal := .next (s.pkeStart o 0x9A p)
/-- MEASURE_EXTEND. -/
def execMeasureExtend (o : Origin) (p : PkeArgs) (s : State) : Host.Outcome State Fault Refusal := .next (s.pkeStart o 0x9B p)

/-- The noise sources fail their health test (R439). -/
def execEntropyHealthFail (s : State) : Host.Outcome State Fault Refusal := .next { s with entropyBad := true }

end Sys2Proof.Machine
end

