-- ==== Sys2Proof/Machine/Boot.lean ====
section
/-!
DEFINITION. Spares at boot and what is appended to the repair log (R447, R448), the boot ROM (R423 to R429) and service-readiness (R427, R460).
-/
namespace Sys2Proof.Machine
open Sys2Proof.Crypto

/-! ### Spares -/

/-- TWR, EXP, GAL and the row counts of KEY_CULLET_POOL for a Spire with every spare but those that the state says are used;
`ex` tells whether its spare expander is left. -/
def State.poolSpire (s : State) (sp : Nat) (ex : Bool) : State :=
  let a := Reg.sprGalSpare sp
  let s := (s.poolTower sp).setFld Reg.keyCulletPool (16 * sp + 14) (16 * sp + 14) (ofBool ex)
  (s.setFld Reg.keyCulletPool (16 * sp + 13) (16 * sp + 12) (ofBool (s.fld a 7 0 = 0xFF) + ofBool (s.fld a 15 8 = 0xFF))).poolRows sp

/-- 16 units out of 17, without `x`; all but the last where `x` names none. -/
def without (x : Nat) : List Nat := ((List.range 17).filter (· ≠ x)).take 16

/-- Write BLP_MAP. -/
def State.setExpanders (s : State) (sp : Nat) (m : List Nat) : State :=
  (s.setReg (Reg.blpMapLo sp) (packFields 5 12 (fun j => m.getD j 16))).setReg (Reg.blpMapHi sp)
    (packFields 5 4 (fun j => m.getD (12 + j) 16))

/-- A repair of a slot (R447): an array row (1), an array column (2), a Tower-memory row (3); none where no spare is left. -/
def State.repair (s : State) (g kind index : Nat) : Option State :=
  let t := s.tower g
  if kind = 3 then
    let e := (bits index 16 11, bits index 10 0)
    if (t.spareRows.filter (fun x => x.1 = e.1)).length < 16 then
      some (s.setTower g { t with spareRows := t.spareRows ++ [e] })
    else none
  else
    let e := (decide (kind = 2), bits index 7 0)
    if (t.steered.filter (fun x => x.1 = e.1)).length < 4 then some (s.setTower g { t with steered := t.steered ++ [e] }) else none

/-- The fuse map of a Spire (R447). -/
def State.fuseSpire (s : State) (sp : Nat) : State :=
  let r := leBytes 56 (s.fuses.cullet.toNat >>> (448 * sp))
  let u := byteAt r 0
  let x := byteAt r 1
  let s := s.setCullet sp (without u ++ [if u ≤ 16 then 0x1F else 16])
  let s := s.setExpanders sp (without x)
  let s := (s.setFld (Reg.sprGalSpare sp) 7 0 (byteAt r 2)).setFld (Reg.sprGalSpare sp) 15 8 (byteAt r 3)
  let s := (List.range 13).foldl (fun (t : State) i =>
    let e := field r (4 * i + 7) (4 * i + 4)
    let kind := bits e 26 24
    let slot := bits e 31 27
    if 1 ≤ kind && kind ≤ 3 && slot < 17 then (t.repair (17 * sp + slot) kind (bits e 23 0)).getD t else t) s
  s.poolSpire sp (16 < x)

/-- The fuse map is applied (R447). -/
def State.fuseMap (s : State) : State :=
  let s := (List.range 4).foldl State.fuseSpire s
  let x := s.fuses.cullet.toNat >>> 1792 % 256
  let on := ((List.range 3).filter (· ≠ x)).take 2
  let s := (List.range 3).foldl (fun (t : State) n => t.setFld (Reg.pkeStatus n) 1 1 (ofBool (on.contains n))) s
  (s.setFld Reg.keyCulletPool2 0 0 (ofBool (2 < x))).poolLanes

/-! ### The repair log (R448) -/

/-- An entry is ignored for want of a spare. -/
def State.logIgnored (s : State) : State :=
  s.setFld Reg.keyCulletPool2 31 24 (satAdd 8 (s.fld Reg.keyCulletPool2 31 24) 1)

/-- A Tower slot leaves service for the spare of its Spire. -/
def State.swapSlot (s : State) (g : Nat) : State :=
  let sp := slotSpire g
  let m := s.cullet sp
  let spare := m.getD 16 0x1F
  let m := (m.take 16).map (fun x => if x = slotPhys g then spare else x)
  (s.setCullet sp (m ++ [0x1F])).poolTower sp

/-- Take the next spare Gallery bank for bank `b`. -/
def State.takeGallery (s : State) (sp b : Nat) : State := ({ s with galFix := [(sp, b)] } : State).galleryBell

/-- Tower `t` of the Spire that uses expander `x` takes the spare one, from now on. -/
def State.takeExpander (s : State) (sp x : Nat) : State :=
  let m := (List.range 16).map (s.expander sp)
  match (List.range 17).find? (fun e => !m.contains e) with
  | some spare => (s.setExpanders sp (m.map (fun e => if e = x then spare else e))).setFld Reg.keyCulletPool
      (16 * sp + 14) (16 * sp + 14) 0
  | none => s

/-- An entry of the log applied; none where its spare is in use. Lane remaps of HBM act in training alone (R378)
(DEDUCED, log 84). -/
def State.logEntry (s : State) (e : List Byte) : Option State :=
  let sp := byteAt e 0
  let kind := byteAt e 1
  let unit := field e 3 2
  let index := field e 7 4
  if kind = 7 then
    if bit (s.reg Reg.keyCulletPool2) 0 && unit < 3 then
      some ((List.range 3).foldl (fun (t : State) n => t.setFld (Reg.pkeStatus n) 1 1 (ofBool (n ≠ unit)))
        (s.setFld Reg.keyCulletPool2 0 0 0))
    else none
  else if kind = 9 then if s.spareLanes (unit % 8) ≠ 0 then some (s.takeLane (unit % 8) index) else none
  else if 4 ≤ sp then some s
  else if 1 ≤ kind && kind ≤ 3 then (s.repair (17 * sp + unit % 17) kind index).map (fun t => t.poolRows sp)
  else if kind = 4 then if s.reg (Reg.sprTwrSpare sp) ≠ 0x1F then some (s.swapSlot (17 * sp + unit % 17)) else none
  else if kind = 5 then
    if s.fld Reg.keyCulletPool (16 * sp + 13) (16 * sp + 12) ≠ 0 then some (s.takeGallery sp (unit % 64)) else none
  else if kind = 6 then if bit (s.reg Reg.keyCulletPool) (16 * sp + 14) then some (s.takeExpander sp unit) else none
  else some s

/-- Apply the copy in use, and extend M3 with it (R426, R448) (DEDUCED, log 83). -/
def State.applyLog (s : State) : State :=
  match s.logBest with
  | none => s
  | some i =>
    let b := s.logBytes i
    let s := (List.range (s.logCount i)).foldl (fun (t : State) k =>
      (t.logEntry ((b.drop (64 + 8 * k)).take 8)).getD t.logIgnored) s
    s.extend 3 (shake256 b 64)

/-! ### Images (R423, R424) -/

/-- Reasons of R424. -/
def bootOk : Nat := 0x01
def bootFlash : Nat := 0x02
def bootMagic : Nat := 0x03
def bootLength : Nat := 0x04
def bootKey : Nat := 0x05
def bootRoll : Nat := 0x06
def bootSig : Nat := 0x07
def bootLife : Nat := 0x08

/-- The 256-byte header, and the body, of image A (0) or B (1). -/
def State.imageHeader (s : State) (i : Nat) : List Byte := s.flashGet (0x10_0000 * i) 256
def State.imageBody (s : State) (i : Nat) : List Byte := s.flashGet (0x10_0000 * i + 256) (field (s.imageHeader i) 11 8)

/-- The measurement of an image. -/
def State.imageMeasure (s : State) (i : Nat) : List Byte := shake256 ((s.imageHeader i).take 128 ++ s.imageBody i) 64

/-- FWKEY_DIGEST as sensed. -/
def State.fwkey (s : State) : List Byte := (List.range 8).flatMap (fun i => leBytes 8 (s.reg (Reg.fuseFwkey i)))

/-- The checks of R424 on an image, in order; `hdrErr` and `bodyErr` tell of SPI errors. -/
def State.imageReason (s : State) (i : Nat) (hdrErr bodyErr : Bool) : Nat :=
  let h := s.imageHeader i
  let len := field h 11 8
  let signer := (h.drop 16).take 57
  if hdrErr then bootFlash
  else if field h 3 0 ≠ 0x3153_5A55 || byteAt h 4 ≠ 1 || field h 7 6 ≠ 0 || field h 127 73 ≠ 0 || field h 255 242 ≠ 0 then
    bootMagic
  else if len % 4 ≠ 0 || 524288 < len || len ≤ field h 15 12 then bootLength
  else if shake256 signer 64 ≠ s.fwkey then bootKey
  else if byteAt h 5 < s.fld Reg.fuseRollback 7 0 then bootRoll
  else if bodyErr then bootFlash
  else if firstStatus (edPointBad signer) ≠ 0 ||
      !ed448Verify signer (text "UZD-BOOT") (s.imageMeasure i) ((h.drop 128).take 114) then bootSig
  else bootOk

/-! ### Boot (R425 to R429) -/

/-- The identity key goes into slot 0 and its public key to KEY_ID_PUB, in TEST and PROD (R420, R429). -/
def State.deriveIdentity (s : State) : State :=
  if s.idOpen && (s.lifecycle = lcTest || s.lifecycle = lcProd) then
    let sk := shake256 (leBytes 32 s.secret.toNat ++ text "UZD-4X32 identity") 57
    let pk := ed448Public sk
    (List.range 8).foldl (fun (t : State) i => t.setReg (Reg.keyIdPub i) (field pk (8 * i + 7) (8 * i)))
      (s.setKeySlot 0 { ty := 1, key := sk })
  else s

/-- What M1 takes (R426) (DEDUCED, log 83). -/
def State.fuseMeasure (s : State) : List Byte :=
  shake256 (leBytes 4 (s.reg Reg.fuseLifecycle) ++ leBytes 4 (s.reg Reg.fusePolicy) ++ leBytes 4 (s.reg Reg.fuseRollback) ++
    s.fwkey) 64

/-- Service-ready: every stack trained, and FLOW_OK high (R427, R452, R460). -/
def State.tryService (s : State) : State :=
  if s.fld Reg.keyBootStatus 31 30 = 1 && bit (s.reg Reg.pwrStatus) 0 && (List.range 32).all s.trained then
    s.setFld Reg.keyBootStatus 31 30 2
  else s

/-- Lanes of a stack that the repair log remaps (R377, R448): its entries of KIND 8 that name the stack. -/
def State.logLanes (s : State) (h : Nat) : Nat :=
  match s.logBest with
  | none => 0
  | some i => (((s.logBytes i).drop 64).take (8 * s.logCount i) |> fun es =>
      (List.range (s.logCount i)).filter (fun k => byteAt es (8 * k + 1) = 8 && field es (8 * k + 3) (8 * k + 2) = h)).length

/-- Stacks are trained, with the lanes of the log remapped unless the log is not applied (R448), and filled with zeros
(R377); one that fails asserts ALERT_N (R452) (DEDUCED, log 83). -/
def State.trainStacks (s : State) (log : Bool) : State :=
  match s.power.train with
  | none => s
  | some m =>
    let s := (List.range 32).foldl (fun (t : State) h =>
      if m.getLsbD h then t.setReg (Reg.hbmStatus h)
        (setBits (setBits (t.reg (Reg.hbmStatus h)) 1 0 1) 15 8 (if log then s.logLanes h % 256 else 0)) else t) s
    let up := fun (k : Nat) => m.getLsbD k
    let s := { s with
      hbm := s.hbm.filter (fun e => !up (e.1 / stackSize)),
      hbmErr := s.hbmErr.filter (fun e => !up (e.1 / 36 * 32 / stackSize)),
      power := { s.power with train := none } }
    if m = BitVec.allOnes 32 then s else s.alertPin

/-- Stage 1 is entered with image `i`: the identity, M0 and M1; Alxis trains (R425, R427); then stage-1 firmware applies the repair log, but in RMA,
and trains the stacks. After a lockstep reboot the log stays applied and the path to DEVICE_SECRET closed (DEDUCED, log 58;
DEDUCED, log 83). -/
def State.enterStage1 (s : State) (i : Nat) : State :=
  let fresh := s.idOpen
  let s := s.setReg Reg.keyBootStatus (setBits (setBits (setBits (s.reg Reg.keyBootStatus) 31 30 1) 29 29 i) 7 0
    (byteAt (s.imageHeader i) 5))
  let s := (s.deriveIdentity.extend 0 (s.imageMeasure i)).extend 1 s.fuseMeasure
  let s := { s with idOpen := false }
  let s := s.alertOff alertLockstep
  let s := if s.alxUp then s else s.setTraining 8 true
  let log := fresh && (s.lifecycle = lcTest || s.lifecycle = lcProd)
  let s := if log then s.applyLog else s
  (s.trainStacks log).tryService

/-- BOOT_ROM: image A, then image B; with neither the ROM halts and asserts ALERT_N (R424, R425). In RAW it holds, in SCRAP
it halts, with reason LIFECYCLE (R420). Bits of `spiErr`: SPI errors in A's header, A's body, B's header, B's body
(DEDUCED, log 83). -/
def execBootRom (spiErr : BitVec 4) (s : State) : Host.Outcome State Fault Refusal :=
  let b := Reg.keyBootStatus
  .next (
    if !s.live || s.reg b ≠ 0 then s
    else if s.lifecycle = lcRaw then s.setFld b 15 8 bootLife
    else if s.lifecycle = lcScrap then (s.setFld b 15 8 bootLife).alert alertBoot
    else
      let ra := s.imageReason 0 (spiErr.getLsbD 0) (spiErr.getLsbD 1)
      let s := s.setFld b 15 8 ra
      if ra = bootOk then s.enterStage1 0
      else
        let rb := s.imageReason 1 (spiErr.getLsbD 2) (spiErr.getLsbD 3)
        let s := s.setFld b 23 16 rb
        if rb = bootOk then s.enterStage1 1 else s.alert alertBoot)

/-- A SHAKE256 job of Keystone firmware ends: source 4 (R384). -/
def execHasherJobComplete (s : State) : Host.Outcome State Fault Refusal := .next (s.raise 4 4)

/-- An SPI flash operation ends: source 13 (R384) (DESIGN CHOICE, log 12). -/
def execSpiFlashOpComplete (s : State) : Host.Outcome State Fault Refusal := .next (s.raise 4 13)

end Sys2Proof.Machine
end

