-- ==== Sys2Proof/Machine/Carillon.lean ====
section
/-!
DEFINITION. The Carillons (R383 to R394): pending sources, delivery, claims, completions, hold-off, messages.
-/
namespace Sys2Proof.Machine

/-- The sources of a Carillon. -/
def carSources (car : Nat) : Nat := if car < 4 then 1024 else 256

/-- A Carillon's own fault source (R391). -/
def ownSource (car : Nat) : Nat := carSources car - 1

/-- The stack of target `t`, top first. -/
def State.carStack (s : State) (car t : Nat) : List (Nat × Nat) := SMap.get (fun _ => []) s.carStacks (3 * car + t)

/-- Replace the stack of a target. -/
def State.setCarStack (s : State) (car t : Nat) (l : List (Nat × Nat)) : State :=
  { s with carStacks := SMap.set (fun _ => []) s.carStacks (3 * car + t) l }

/-- PENDING and ACTIVE of a source. -/
def State.carPending (s : State) (car n : Nat) : Bool := bit (s.reg (Reg.carPendSet car (n / 64))) (n % 64)
def State.carActive (s : State) (car n : Nat) : Bool := bit (s.reg (Reg.carActive car (n / 64))) (n % 64)

/-- Whether a group is in hold-off (R389). -/
def State.held (s : State) (car g : Nat) : Bool := SMap.get (fun _ => false) s.holds (64 * car + g)

/-- PRIO of a source. -/
def State.carPrio (s : State) (car n : Nat) : Nat := s.fld (Reg.carSrcCfg car n) 3 0

/-- Whether a source is deliverable to target `t` (R386). The Carillon's own fault source is never held off (R389). -/
def State.deliverable (s : State) (car t n : Nat) : Bool :=
  let cfg := s.reg (Reg.carSrcCfg car n)
  let p := bits cfg 3 0
  s.carPending car n && !s.carActive car n && bit cfg 7 && bits cfg 5 4 = t && s.fld (Reg.carTThresh car t) 3 0 ≤ p &&
    (match s.carStack car t with | (_, q) :: _ => decide (q < p) | [] => true) &&
    (n = ownSource car || !s.held car (n / 16))

/-- Sources that may be deliverable: those PENDING. -/
def State.pendingSources (s : State) (car : Nat) : List Nat := below (carSources car) (s.carPending car)

/-- The deliverable source of highest priority, the lowest-numbered among equals (R387), with its priority. -/
def State.bestSource (s : State) (car t : Nat) : Option (Nat × Nat) :=
  ((s.pendingSources car).filter (s.deliverable car t)).foldl (fun (b : Option (Nat × Nat)) n =>
    match b with
    | some (m, p) => if p < s.carPrio car n then some (n, s.carPrio car n) else some (m, p)
    | none => some (n, s.carPrio car n)) none

/-- Set or clear PENDING, ACTIVE of a source. -/
def State.setPending (s : State) (car n : Nat) (b : Bool) : State :=
  s.setFld (Reg.carPendSet car (n / 64)) (n % 64) (n % 64) (ofBool b)
def State.setActive (s : State) (car n : Nat) (b : Bool) : State :=
  s.setFld (Reg.carActive car (n / 64)) (n % 64) (n % 64) (ofBool b)

/-- Start the hold-off of a group, unless it runs or HOLDOFF is 0 (R389). -/
def State.startHold (s : State) (car g : Nat) : State :=
  if s.fld (Reg.carHold car g) 15 0 = 0 then s
  else { s with holds := SMap.set (fun _ => false) s.holds (64 * car + g) true }

/-- Whether a source has a hardware input: neither software's nor reserved (R384, R418) (DEDUCED, log 75). -/
def hardSource (car n : Nat) : Bool :=
  if car < 4 then n < 54 || (inSpan n 64 35 && !(inSpan n 80 16 && 6 ≤ n % 8)) || n = 1023 else n < 20 || n = 255

/-- A hardware event sets its source PENDING, whatever EN and TARGET hold (R383); a source of software has none (R384)
(DEDUCED, log 75). -/
def execCarillonSourceEvent (car : Option (Fin 4)) (src : BitVec 10) (s : State) : Host.Outcome State Fault Refusal :=
  .next (if hardSource (carNum car) src.toNat then s.raise (carNum car) src.toNat else s)

/-- A write to CAR_PEND_SETw (R385). -/
def execCarPendSet (actor : Actor) (car : Option (Fin 4)) (w : Fin 16) (b : Word) (s : State) :
    Host.Outcome State Fault Refusal :=
  let a := Reg.carPendSet (carNum car) w.val
  .next (s.guarded actor a (fun s => s.setReg a (s.reg a ||| b.toNat)))

/-- A write to CAR_PEND_CLRw (R385). -/
def execCarPendClr (actor : Actor) (car : Option (Fin 4)) (w : Fin 16) (b : Word) (s : State) :
    Host.Outcome State Fault Refusal :=
  let a := Reg.carPendSet (carNum car) w.val
  .next (s.guarded actor (Reg.carPendClr (carNum car) w.val) (fun s =>
    s.setReg a (BitVec.ofNat 64 (s.reg a) &&& ~~~b).toNat))

/-- What a claim does (R387): the state, and what the read returns. -/
def State.claim (s : State) (car t : Nat) : State × Nat :=
  let s := if t = 2 then s.setReg (Reg.carMsgStatus car) 0 else s
  match s.bestSource car t with
  | none => (s, 1 <<< 31)
  | some (n, p) =>
    ((((s.setPending car n false).setActive car n true).setCarStack car t ((n, p) :: s.carStack car t)).startHold car
      (n / 16), p <<< 16 + n)

/-- A read of CAR_Tt_CLAIM: only target t reaches it (R388); a refused read returns zero (R27). -/
def execCarClaim (actor : Actor) (car : Option (Fin 4)) (target : Fin 3) (s : State) :
    Host.Outcome State Fault Refusal :=
  let a := Reg.carTClaim (carNum car) target.val
  if s.refuses actor a false then .next { s.refuse actor a false with reply := leBytes 4 0 }
  else
    let (s, v) := s.claim (carNum car) target.val
    .next { s with reply := leBytes 4 v }

/-- F_STACK_ORDER (R391). -/
def State.stackOrder (s : State) (car t n req : Nat) : FaultInfo :=
  let l := s.carStack car t
  { code := F_STACK_ORDER, source := if car < 4 then srcSpire car 1 0 else srcKey 5 0,
    detail := leBytes 1 t ++ leBytes 2 n ++ leBytes 2 (match l with | (m, _) :: _ => m | [] => 0xFFFF) ++
      leBytes 1 (match l with | (_, p) :: _ => p | [] => 0xFF) ++ leBytes 1 l.length ++ leBytes 2 req }

/-- Report F_STACK_ORDER: the Carillon's own source, and the record in CAR_FAULT0 to 3 unless one is held (R391). -/
def State.stackFault (s : State) (car : Nat) (f : FaultInfo) : State :=
  let s := s.raise car (ownSource car)
  if bit (s.reg (Reg.carFaultStatus car)) 31 then
    { s.count (Reg.carFaultCnt car) 1 with carLost := SMap.set (fun _ => false) s.carLost car true }
  else
    let r := s.record f (ofBool (SMap.get (fun _ => false) s.carLost car) * 64)
    let s := (List.range 4).foldl (fun (t : State) i =>
      t.setReg (Reg.carFault car i) (field r (8 * i + 7) (8 * i))) s
    { (s.setReg (Reg.carFaultStatus car) (1 <<< 31)).wrote f with
      carLost := SMap.set (fun _ => false) s.carLost car false }

/-- COMPLETE of source `n` by a requester (R390, R391). -/
def State.completeSource (s : State) (actor : Actor) (c t n : Nat) : State :=
  match s.carStack c t with
  | (m, _) :: rest =>
    if m = n then (s.setCarStack c t rest).setActive c n false
    else s.stackFault c (s.stackOrder c t n (actorSource actor))
  | [] => s.stackFault c (s.stackOrder c t n (actorSource actor))

/-- A write to CAR_Tt_COMPLETE. -/
def execCarComplete (actor : Actor) (car : Option (Fin 4)) (target : Fin 3) (src : BitVec 10) (s : State) :
    Host.Outcome State Fault Refusal :=
  .next (s.guarded actor (Reg.carTComplete (carNum car) target.val) (fun s =>
    s.completeSource actor (carNum car) target.val src.toNat))

/-- A group's hold-off ends (R389). -/
def execHoldoffExpiry (car : Option (Fin 4)) (group : Fin 64) (s : State) : Host.Outcome State Fault Refusal :=
  .next { s with holds := SMap.set (fun _ => false) s.holds (64 * carNum car + group.val) false }

/-- A message to the companion (R394), while the Alxis link is up (ALX_STATUS.UP; R400 holds it otherwise). -/
def execCarMessage (car : Option (Fin 4)) (s : State) : Host.Outcome State Fault Refusal :=
  let c := carNum car
  match s.bestSource c 2 with
  | none => .next s
  | some (_, p) =>
    if bit (s.reg (Reg.carMsgStatus c)) 0 || !s.alxUp then .next s
    else .next ((s.companionWrite (s.reg (Reg.carMsgAddr c)) (leBytes 4 (s.fld (Reg.carMsgData c) 31 4 * 16 + p))).setReg
      (Reg.carMsgStatus c) 1)

end Sys2Proof.Machine
end

