-- ==== Sys2Proof/Machine/Repair.lean ====
section
/-!
DEFINITION. Repairs in service (R449 to R452), wear (R453), and a lockstep mismatch of the Keystone (R446).
-/
namespace Sys2Proof.Machine

/-! ### Towers (R449, R451) -/

/-- TOWER_REPLACE: the Tower of a slot stops, and at the next bell its state stands in the spare slot, which takes its place
in the map; the log gets a KIND 4 entry. With no spare slot the logical Tower is retired. A sealed sequence holds its
Towers until it ends (DEDUCED, log 59; DEDUCED, log 84). -/
def execTowerReplace (slot : Fin 68) (s : State) : Host.Outcome State Fault Refusal :=
  let g := slot.val
  let sp := slotSpire g
  .next (match s.logicalOf g with
    | none => s
    | some t =>
      if !s.live || s.sealHolds g || s.spireRetired sp || s.replaces.any (fun e => slotSpire e.1 = sp) then s
      else
        let spare := s.reg (Reg.sprTwrSpare sp)
        if 17 ≤ spare then s.retireTower (16 * sp + t)
        else
          let s := s.stopTower g
          let new : List CulletWrite :=
            [{ spire := sp, tower := some t, slot := spare }, { spire := sp, tower := none, slot := 0x1F }]
          let s := { s with replaces := s.replaces ++ [(g, 17 * sp + spare)], cullets := s.cullets ++ new }
          s.logAppend sp 4 (slotPhys g) 0)

/-! ### Memories (R450) -/

/-- TM_ROW_REPAIR: a Tower-memory row is copied to the next spare row of its bank. What could be corrected is clean there, an
uncorrectable codeword stays so. A bank without a spare row left is a hard fault that TOWER_REPLACE meets. -/
def execTmRowRepair (slot : Fin 68) (row : BitVec 17) (s : State) : Host.Outcome State Fault Refusal :=
  let g := slot.val
  let bank := bits row.toNat 16 11
  let r := bits row.toNat 10 0
  .next (if !s.live || 1536 ≤ r then s
    else match s.repair g 3 row.toNat with
      | none => s
      | some s =>
        let lo := tmCw g (256 * (64 * r + bank))
        let s := { s with ramErr := s.ramErr.filter (fun e => !(e.2 = 1 && inSpan e.1 lo 16)) }
        (s.poolRows (slotSpire g)).logAppend (slotSpire g) 3 (slotPhys g) row.toNat)

/-- GALLERY_BANK_REPAIR: a Gallery bank has been copied into a spare, which takes its place at the next bell; with none left
the Spire is retired (R451). -/
def execGalleryBankRepair (spire : Fin 4) (bank : BitVec 6) (s : State) : Host.Outcome State Fault Refusal :=
  let sp := spire.val
  .next (if !s.live || s.spireRetired sp || s.galFix.contains (sp, bank.toNat) then s
    else if s.fld Reg.keyCulletPool (16 * sp + 13) (16 * sp + 12) ≤ (s.galFix.filter (fun e => e.1 = sp)).length then
      s.retireSpire sp
    else
      ({ s with galFix := s.galFix ++ [(sp, bank.toNat)] } : State).logAppend sp 5 bank.toNat 0)

/-- The Towers of a Spire whose key switches use expander `x`. -/
def State.usersOf (s : State) (sp x : Nat) : List Nat := below 16 (fun t => s.expander sp t = x)

/-- EXPANDER_REPAIR: BLP_MAP names the spare expander from the next bell, and until then the Tower's key switches defer;
without a spare its SEAL operations are refused (R450, R451). -/
def execExpanderRepair (spire : Fin 4) (expander : BitVec 5) (s : State) : Host.Outcome State Fault Refusal :=
  let sp := spire.val
  let x := expander.toNat
  let us := s.usersOf sp x
  let mark := fun (s : State) (v : Nat) =>
    us.foldl (fun (t : State) u => { t with expDown := SMap.set (fun _ => 0) t.expDown (16 * sp + u) v }) s
  .next (if !s.live || 16 < x then s
    else
      let m := (List.range 16).map (s.expander sp)
      let pool := 16 * sp + 14
      if us.isEmpty then s.setFld Reg.keyCulletPool pool pool 0
      else if !bit (s.reg Reg.keyCulletPool) pool then (mark s 2).alert alertRetired
      else
        let spare := ((List.range 17).find? (fun e => !m.contains e)).getD 16
        let m := m.map (fun e => if e = x then spare else e)
        let s := (s.stage (Reg.blpMapLo sp) (some (BitVec.ofNat 64 (packFields 5 12 (fun j => m.getD j 16))))).stage
          (Reg.blpMapHi sp) (some (BitVec.ofNat 64 (packFields 5 4 (fun j => m.getD (12 + j) 16))))
        ((mark s 1).setFld Reg.keyCulletPool pool pool 0).logAppend sp 6 x 0)

/-- PKE_SPARE: the spare engine becomes active in place of one that site 7 has excluded; without a spare the device runs on
(R450, R451). -/
def execPkeSpare (engine : Fin 3) (s : State) : Host.Outcome State Fault Refusal :=
  let n := engine.val
  let off := (List.range 3).filter (fun m => !s.pkeActive m)
  .next (if !s.live || s.pkeActive n then s
    else match off.find? (fun m => m ≠ n) with
      | none => s
      | some m =>
        if bit (s.reg Reg.keyCulletPool2) 0 then
          ((s.setFld (Reg.pkeStatus m) 1 1 1).setFld Reg.keyCulletPool2 0 0 0).logAppend 4 7 n 0
        else s.alert alertRetired)

/-- SPIRE_RETIRE (R452). -/
def execSpireRetire (spire : Fin 4) (s : State) : Host.Outcome State Fault Refusal :=
  .next (if s.live then s.retireSpire spire.val else s)

/-- WEAR_SAMPLE: the margins of one wear register (R453). -/
def execWearSample (spire : Fin 4) (group : Fin 3) (margins : Word) (s : State) : Host.Outcome State Fault Refusal :=
  .next (if s.power.rstLow then s
    else s.setReg (Reg.pwrWear spire.val group.val) (if group.val = 2 then margins.toNat % 2 ^ 40 else margins.toNat))

/-! ### Lockstep (R446) -/

/-- LOCKSTEP_MISMATCH: the cores go back to the boot ROM; the Towers stop, and the work in flight completes with POWER_LOST.
ALERT_N stays asserted until stage 1 is entered. -/
def execLockstepMismatch (s : State) : Host.Outcome State Fault Refusal :=
  .next (if s.power.rstLow then s
    else
      let s := ((s.count Reg.keyLockstepCnt 1).alert alertLockstep).setReg Reg.keyBootStatus 0
      (List.range 4).foldl State.stopSpire (s.loseWork (fun _ => true) 0x27))

end Sys2Proof.Machine
end

