-- ==== Sys2Proof/Machine/Power.lean ====
section
/-!
DEFINITION. Idle states (R454, R455), the power cap and throttling (R458, R459), coolant, rails, clocks and resets (R459 to
R461, R468 to R476), and JTAG (R420).
-/
namespace Sys2Proof.Machine

/-! ### Idle states (R454, R455) -/

/-- The time to a unit's next known event, in ns (DESIGN CHOICE, log 4): none when the free value's top bit is set. -/
def State.nextEvent (s : State) : Option Nat :=
  let t := Config.clk64 s.free
  if t.getLsbD 63 then none else some t.toNat

/-- Whether a state with these times in ns fits before the next event: 1.1 × (entry + wake), and the break-even time. -/
def idleFits (t entry wake even : Nat) : Bool := (entry + wake) * 11 ≤ t * 10 && even ≤ t

/-- Whether a slot has no task and nothing in flight. -/
def State.towerIdle (s : State) (g : Nat) : Bool :=
  let t := s.tower g
  t.task.isNone && t.launch.isEmpty && t.ops.isEmpty && t.loads.isEmpty && t.stores.isEmpty && t.imLoad.isEmpty &&
    t.packets.isEmpty && t.rising.isEmpty && t.scrub.isNone && !s.sealHolds g

/-- T-park: the task state is lost (R454). -/
def Tower.park (t : Tower) : Tower :=
  { Tower.init with
    sdm := t.sdm, imA := t.imA, imB := t.imB, validA := t.validA, validB := t.validB, active := t.active, eps := t.eps,
    retired := t.retired, lastSite0 := t.lastSite0, steer := t.steer, steered := t.steered, spareRows := t.spareRows,
    packets := t.packets, stores := t.stores, imLoad := t.imLoad, rising := t.rising, scrub := t.scrub,
    power := .park }

/-- T-off: the memories of the Tower are lost too (R113, R229, R454). -/
def State.towerOff (s : State) (g : Nat) : State :=
  let s := s.modTower g (fun t =>
    { t.park with sdm := [], imA := [], imB := [], validA := false, validB := false, eps := [], power := .off })
  { s with
    tmem := s.tmem.filter (fun e => !inSpan e.1 (tmKey g 0) towerSize),
    ramErr := s.ramErr.filter (fun e => !inSpan e.1 (tmCw g 0) (towerSize / 16)) }

/-- The deepest state that PWR_IDLE_CTL permits and that fits (R455): 0 none, 1 T-gate, 2 T-park, 3 T-off. -/
def State.towerState (s : State) (g : Nat) (t : Option Nat) : Nat :=
  let deepest := s.fld Reg.pwrIdleCtl 1 0
  match t with
  | none => min deepest 1
  | some t =>
    let off := bit (s.reg Reg.pwrIdleCtl) 4 && (List.range 64).all (fun n =>
      bit (s.reg (Reg.twrBankOn g)) n || !bit (s.reg (Reg.twrBankRet g)) n)
    if 3 ≤ deepest && off && idleFits t 1000 6000 200000 then 3
    else if 2 ≤ deepest && idleFits t 1000 1500 12000 then 2
    else if 1 ≤ deepest && idleFits t 4 8 1000 then 1
    else 0

/-- Whether a Spire qualifies for S-ret: its Towers for T-park, which PWR_IDLE_CTL permits, its rings idle (R455). -/
def State.spireIdle (s : State) (sp : Nat) : Bool :=
  2 ≤ s.fld Reg.pwrIdleCtl 1 0 && (below 17 (fun k => !s.towerIdle (17 * sp + k))).isEmpty &&
    (List.range 16).all (fun r => (s.runq (ringKey sp r)).queue.isEmpty && (s.runq (ringKey sp r)).running.isEmpty)

/-- The supply state of a Spire. -/
def State.supply (s : State) (sp : Nat) : SpirePower := SMap.get (fun _ => .on) s.power.spires sp
def State.setSupply (s : State) (sp : Nat) (p : SpirePower) : State :=
  { s with power := { s.power with spires := SMap.set (fun _ => .on) s.power.spires sp p } }

/-- S-ret: the lines of the buffer are written out (R376), the Towers keep what T-park keeps, the Gallery stays. -/
def State.retain (s : State) (sp : Nat) : State :=
  let s := (List.range 17).foldl (fun (t : State) k => t.modTower (17 * sp + k) Tower.park) (s.writeOutAll sp)
  s.setSupply sp .ret

/-- H-sr: the stack's lines are written out, and it refreshes itself (R374, R376). -/
def State.selfRefresh (s : State) (h : Nat) : State :=
  if !s.trained h then s
  else
    let s := ((s.lines (h / 8)).filter (fun l => l.stack = h)).foldl State.writeOut s
    s.setFld (Reg.hbmStatus h) 1 1 1

/-- The ns to the next patrol row of a stack: a known event no later than INTERVAL µs away (R379, R381; free within it,
DESIGN CHOICE, log 79). -/
def State.nextPatrol (s : State) (h : Nat) : Option Nat :=
  if bit (s.reg (Reg.hbmCtl h)) 0 && s.trained h then
    some ((Config.measured s.free).toNat % (1000 * s.fld (Reg.hbmPatrol h) 16 0 + 1))
  else none

/-- The earlier of two times, where none is no known event. -/
def sooner : Option Nat → Option Nat → Option Nat
  | some a, some b => some (min a b)
  | some a, none => some a
  | none, b => b

/-- IDLE_STATE_ENTRY: an idle unit goes into the deepest permitted state that fits before its next known event; D-stby is
firmware's request, once every Spire is in S-ret or off (DESIGN CHOICE, log 79). -/
def execIdleStateEntry (unit : PowerUnit) (s : State) : Host.Outcome State Fault Refusal :=
  let t := s.nextEvent
  let ctl := s.reg Reg.pwrIdleCtl
  .next (if !s.live then s
    else match unit with
      | .tower g =>
        if !s.towerIdle g.val || (s.tower g.val).power ≠ .on then s
        else
          let s := s.draw
          match s.towerState g.val t with
          | 0 => s
          | 1 => s.modTower g.val (fun x => { x with power := .gate })
          | 2 => s.modTower g.val Tower.park
          | _ => s.towerOff g.val
      | .stack h =>
        if !bit ctl 6 || bit (s.reg (Reg.hbmStatus h.val)) 1 then s
        else if (match sooner t (s.nextPatrol h.val) with | some t => idleFits t 1000 2000 300000 | none => true) then s.draw.selfRefresh h.val else s.draw
      | .spire sp =>
        if !bit ctl 5 || !s.spireIdle sp.val || s.supply sp.val ≠ .on then s
        else if (match t with | some t => idleFits t 40000 60000 1000000 | none => false) then s.draw.retain sp.val else s.draw
      | .device =>
        if (List.range 4).all (fun sp => s.supply sp ≠ .on) then { s with power := { s.power with stby := true } } else s)

/-- A Spire leaves retention, its Towers clocked. -/
def State.wakeSpire (s : State) (sp : Nat) : State :=
  if s.supply sp = .ret then
    ((List.range 17).foldl (fun (t : State) k => t.modTower (17 * sp + k) (fun x => { x with power := .on })) s).setSupply sp .on
  else s

/-- UNIT_WAKE: a known event or a request wakes a unit. While FLOW_OK is low after a fall, Spires and stacks stay as they
are (R460) (DESIGN CHOICE, log 79). -/
def execUnitWake (unit : PowerUnit) (s : State) : Host.Outcome State Fault Refusal :=
  .next (if !s.live || s.power.flowStop then s
    else match unit with
      | .tower g => s.modTower g.val (fun x => { x with power := .on })
      | .stack h => s.setFld (Reg.hbmStatus h.val) 1 1 0
      | .spire sp => s.wakeSpire sp.val
      | .device => { s with power := { s.power with stby := false } })

/-! ### Power cap (R458) -/

/-- POWER_SAMPLE: every 10 µs. Above 3,600 W over 1 s, or 4,200 W over 10 ms, a step down is decided; it acts at the next
bell, or after 100 samples. Below 3,400 W for 10,000 samples a step up is asked for, at each bell. -/
def execPowerSample (avg1s avg10ms : BitVec 16) (s : State) : Host.Outcome State Fault Refusal :=
  .next (if s.power.rstLow then s
    else
      let s := s.setReg Reg.pwrPower (avg1s.toNat <<< 16 + avg10ms.toNat)
      let p := s.power
      let high := 3600 < avg1s.toNat || 4200 < avg10ms.toNat
      let low := if avg1s.toNat < 3400 then min (p.lowFor + 1) 10000 else 0
      let held := if p.cap.isEmpty then 0 else min (p.capFor + 1) 100001
      let wait := match p.capWait with
        | some n => some (n + 1)
        | none => if high then some 0 else none
      let s := { s with power := { p with
        lowFor := low, capFor := held, capWait := wait, capRise := 10000 ≤ low && !p.cap.isEmpty } }
      let s := if 100 ≤ wait.getD 0 then s.capAll else s
      if 100000 < held then s.alert alertCap else s)

/-! ### Temperature (R459) -/

/-- A temperature read on a Spire: TJ_MAX is the hottest. -/
def State.setTemp (s : State) (sp t : Nat) : State :=
  let temps := SMap.set (fun _ => 0) s.power.temps sp t
  let s := { s with power := { s.power with temps := temps } }
  s.setFld Reg.pwrStatus 47 40 (temps.foldl (fun m e => max m e.2) 0)

/-- THROTTLE_STEP: at 100 °C or above a Spire falls one point, at once; source 5 on entry to throttling. -/
def execThrottleStep (spire : Fin 4) (temp : BitVec 8) (s : State) : Host.Outcome State Fault Refusal :=
  let sp := spire.val
  .next (if !s.live || temp.toNat < 100 then s
    else
      let s := s.setTemp sp temp.toNat
      let s := if s.power.throttle.isEmpty then s.raise 4 5 else s
      let s := { s with power := { s.power with rise := SMap.set (fun _ => false) s.power.rise sp false } }
      ((s.throttleTo sp (min 3 (s.point sp + 1))).fallPoint sp).showThrottle)

/-- THROTTLE_RECOVERY_STEP: after 10 ms below 95 °C a throttled Spire rises one point at the next bell. -/
def execThrottleRecoveryStep (spire : Fin 4) (temp : BitVec 8) (s : State) : Host.Outcome State Fault Refusal :=
  let sp := spire.val
  .next (if !s.live || 95 ≤ temp.toNat then s
    else
      let s := s.setTemp sp temp.toNat
      if SMap.get (fun _ => 0) s.power.throttle sp = 0 then s
      else { s with power := { s.power with rise := SMap.set (fun _ => false) s.power.rise sp true } })

/-! ### Work that is lost without a record (R459, R461, R470) -/

/-- Commands that `p` names, with the entries `q` of the runners and the slots `w`, vanish with what engines hold of them
(DESIGN CHOICE, log 80). -/
def State.dropWork (s : State) (p : Origin → Bool) (q w : Nat → Bool) : State :=
  let s := s.forget p
  let s := { s with
    seals := s.seals.filter (fun e => match e.2 with | some c => !p c.o | none => true),
    launches := s.launches.filter (fun l => !p l.o),
    runs := s.runs.filter (fun e => !q e.1),
    insts := s.insts.filter (fun e => !q (64 + e.1)) }
  ((List.range 68).filter w).foldl (fun (t : State) g =>
    (t.stopTower g).modTower g (fun x => { x with task := none, launch := [] })) s

/-- All of it. -/
def State.dropAll (s : State) : State := s.dropWork (fun _ => true) (fun _ => true) (fun _ => true)

/-- Every ring of the device stops (R461). -/
def State.stopRings (s : State) : State :=
  (List.range 64).foldl (fun (t : State) i => t.stopRing (i / 16) (i % 16)) s

/-- THERMAL_TRIP: at 115 °C every Spire clock stops and THERM_TRIP_N is asserted; the work in flight is lost. -/
def execThermalTrip (s : State) : Host.Outcome State Fault Refusal :=
  .next (if s.power.rstLow then s
    else
      let s := s.setFld Reg.pwrStatus 47 40 (max 115 (s.fld Reg.pwrStatus 47 40))
      ({ s.setFld Reg.pwrStatus 3 3 1 with power := { s.power with tripPin := true } } : State).dropAll)

/-! ### Coolant (R460) -/

/-- Sealed operations abort; a running ANNEAL keeps its checkpoints and goes on later (R281, R282). -/
def State.flowSeals (s : State) : State :=
  let f := fun (o : Origin) => ringIllegal o 0x27 0x30
  (List.range 4).foldl (fun (t : State) sp => (t.sealsOf sp).foldl (fun (t : State) e =>
    let c := e.2
    if c.phase ≠ .running then t
    else match c.ann with
      | some a => t.sliceFail sp e.1 c a (f c.o) false
      | none => t.sealAbort sp e.1 c c.result (f c.o)) t) s

/-- FLOW_OK_FALL: in service the fetchers stop and EN is cleared; Towers stop and their launches complete with POWER_LOST;
sealed operations abort; buffers are written out; Spires go into S-ret and stacks into H-sr. Source 7, and ALERT_N
(DESIGN CHOICE, log 80). -/
def execFlowOkFall (s : State) : Host.Outcome State Fault Refusal :=
  .next (if !bit (s.reg Reg.pwrStatus) 0 then s
    else
      let s := s.setFld Reg.pwrStatus 0 0 0
      if s.power.rstLow || s.fld Reg.keyBootStatus 31 30 ≠ 2 then s
      else
        let s := (List.range 4).foldl State.clearEn { s with power := { s.power with flowStop := true } }
        let s := s.loseLaunches (fun _ => true) (fun o => ringIllegal o 0x27 0x20)
        let s := ((List.range 4).foldl State.stopSpire s).flowSeals
        let s := (List.range 4).foldl State.writeOutAll s
        let s := (List.range 32).foldl State.selfRefresh ((List.range 4).foldl State.retain s)
        (s.raise 4 7).alert alertFlow)

/-- FLOW_OK_RISE: the device may become service-ready; service that a fall has stopped resumes when firmware sets EN. -/
def execFlowOkRise (s : State) : Host.Outcome State Fault Refusal :=
  .next (
    let s := s.setFld Reg.pwrStatus 0 0 1
    if s.power.rstLow then s else (s.alertOff alertFlow).tryService)

/-- Service resumes: firmware has set BEL_CTL.EN with FLOW_OK high (R460) (DESIGN CHOICE, log 80). -/
def State.resumeService (s : State) : State :=
  if s.power.flowStop && bit (s.reg Reg.pwrStatus) 0 then
    let s := { s with power := { s.power with flowStop := false } }
    (List.range 32).foldl (fun (t : State) h => t.setFld (Reg.hbmStatus h) 1 1 0) ((List.range 4).foldl State.wakeSpire s)
  else s

/-! ### Rails, clocks, resets -/

/-- What a Spire loses with its rail (R461): Gallery, Tower memory, write-combining lines, the contents of its stacks. -/
def State.loseSpire (s : State) (sp : Nat) : State :=
  let s := (List.range 8).foldl (fun (t : State) h => t.setFld (Reg.hbmStatus (8 * sp + h)) 0 0 0) (s.setLines sp [])
  let s := { s with
    ramErr := s.ramErr.filter (fun e =>
      !inSpan e.1 (tmCw (17 * sp) 0) (17 * towerSize / 16) && !inSpan e.1 (galCw sp 0) (gallerySize / 16)),
    gallery := s.gallery.filter (fun e => !inSpan e.1 (galKey sp 0) gallerySize),
    tmem := s.tmem.filter (fun e => !inSpan e.1 (tmKey (17 * sp) 0) (17 * towerSize)),
    hbm := s.hbm.filter (fun e => !inSpan e.1 (hbmKey (8 * sp) 0) (8 * stackSize)) }
  s.setSupply sp .lost

/-- RAIL_LOSS (R461): the Spire's contents and work are lost, every ring stops; ALERT_N and source 6. -/
def execRailLoss (spire : Fin 4) (s : State) : Host.Outcome State Fault Refusal :=
  let sp := spire.val
  .next (if s.power.rstLow then s
    else
      let s := s.loseSpire sp
      let s := s.dropWork (fun o => o.spire.val = sp)
        (fun k => keySpire k = sp) (fun g => slotSpire g = sp)
      s.stopRings.alert alertRail)

/-- REFCLK_LOSS (R471): without REFCLK_156 every Buttress port goes down; without REFCLK_100 the Spire clocks stop, as for a
rail loss (DESIGN CHOICE, log 80). -/
def execRefclkLoss (clock : RefClock) (s : State) : Host.Outcome State Fault Refusal :=
  .next (if s.power.rstLow then s
    else match clock with
      | .ref156 => (List.range 8).foldl (fun (t : State) p => t.portDown p 0x02) s
      | .ref100 => s.dropAll.stopRings.alert alertRail)

/-- PWR_OK_FALL (R470): fetchers stop, buffers are written out, stacks go into H-sr, ALERT_N is asserted; the work in flight
is lost. -/
def execPwrOkFall (s : State) : Host.Outcome State Fault Refusal :=
  .next (if s.power.rstLow || !s.power.pwrOk then s
    else
      let s := { s with power := { s.power with pwrOk := false } }
      let s := (List.range 4).foldl State.writeOutAll s
      ((List.range 32).foldl State.selfRefresh s).alertPin.dropAll)

/-- Erroneous codewords of the Galleries, whose numbers follow those of the Tower memories. -/
def State.galErr (s : State) : SMap Nat := s.ramErr.filter (fun e => galCw 0 0 ≤ e.1)

/-- The Spires are powered up in boot: the Galleries are zero-filled with valid check bits before any port is granted
(R127, R427). -/
def State.galleriesUp (s : State) : State :=
  { s with gallery := [], ramErr := s.ramErr.filter (fun e => decide (e.1 < galCw 0 0)) }

/-- RESET_ASSERT (R469): every block is held in reset. Fuses, flash and companion memory are no part of it, nor are the pins
FLOW_OK and PWR_OK; KEY_LOCKSTEP_CNT is cleared by power-up alone; whether THERM_TRIP_N stays asserted depends on the
hottest sensor, which no command tells (R475; DESIGN CHOICE, log 60). Nothing is written because of a reset; the Galleries
keep their contents while their rails stay on (R127), until boot powers the Spires up. -/
def execResetAssert (s : State) : Host.Outcome State Fault Refusal :=
  .next (
    let hot := s.power.tripPin && (Config.measured s.free).getLsbD 0
    let s := s.fuseBreak.draw
    let r : State := { State.reset with
      pending := s.pending, free := s.free, fuses := s.fuses, flash := s.flash, companion := s.companion, sent := s.sent,
      gallery := s.gallery, ramErr := s.galErr,
      power := { PowerState.init with rstLow := true, pwrOk := s.power.pwrOk, tripPin := hot } }
    (r.setReg Reg.keyLockstepCnt (s.reg Reg.keyLockstepCnt)).setFld Reg.pwrStatus 0 0 (s.fld Reg.pwrStatus 0 0))

/-- RESET_RELEASE (R422, R469): the fuses are sensed and their map applied; `trained` tells which stacks training will bring
up once the ROM has found an image (R377). The board has PWR_OK high by then (R468) (DEDUCED, log 83). -/
def execResetRelease (trained : BitVec 32) (s : State) : Host.Outcome State Fault Refusal :=
  .next (if !s.power.rstLow then s
    else
      let s := { s with power := { s.power with rstLow := false, pwrOk := true, train := some trained } }
      s.galleriesUp.sense.fuseMap)

/-! ### JTAG (R420) -/

/-- Whether the life-cycle state admits a JTAG instruction. -/
def State.jtagOk (s : State) (ir : JtagIr) : Bool :=
  match ir with
  | .bypass => true
  | .idcode => true
  | .boundaryScan => s.lifecycle ≠ lcScrap && (s.lifecycle ≠ lcProd || bit (s.reg Reg.fusePolicy) 9)
  | .other => s.lifecycle ≠ lcScrap && s.lifecycle ≠ lcProd

/-- JTAG_TAP_ACCESS: the instruction is accepted (1) or refused (0); what the accepted ones do is not in the spec
(DESIGN CHOICE, log 14). -/
def execJtagTapAccess (ir : JtagIr) (s : State) : Host.Outcome State Fault Refusal :=
  .next { s with reply := leBytes 1 (ofBool (s.jtagOk ir)) }

end Sys2Proof.Machine
end

