-- ==== Sys2Proof/Machine/Control.lean ====
section
/-!
DEFINITION. Control accesses (R3 to R7, R12, R26 to R30): reads, writes and what each block does with them, the rows of the
table for single writes, REGW (R322), and the I3C management target (R472).
-/
namespace Sys2Proof.Machine

/-! ### Reads -/

/-- SPR_RINGr_STATUS (R340). -/
def State.ringStatus (s : State) (sp r : Nat) : Nat :=
  let q := s.ring sp r
  let n := s.inflight sp r
  (q.fetched % 2 ^ 32) <<< 32 + (min n 32) <<< 8 + ofBool (n = 0) * 4 + ofBool q.stopped * 2 + ofBool (!q.held.isEmpty)

/-- SPR_PSETn_STATE (R286). -/
def PsetSlot.show (p : PsetSlot) : Nat :=
  p.gen % 256 + ofBool p.valid * 256 + (if p.code < 4 then p.code else 0) <<< 16

/-- What a register of SPR_CTL reads as. -/
def State.readSpr (s : State) (sp off : Nat) : Nat :=
  if off = 0x88 then (s.descs.filter (fun e => e.1 / 16384 = sp && e.2.live)).length
  else if off = 0x1020 then min 0xFFFF_FFFF (s.reg (Reg.spireBase sp + off) + (Config.measured s.free).toNat)
  else if off = 0x1030 then (SMap.get (fun _ => []) s.galPackets sp).length
  else if inSpan off 0x4100 0x100 then (s.pset sp ((off - 0x4100) / 8)).show
  else if inSpan off 0x5000 0x400 && off % 0x40 = 0x28 then s.ringStatus sp ((off - 0x5000) / 0x40)
  else if off = 0x6008 then (s.lines sp).length
  else s.reg (Reg.spireBase sp + off)

/-- What a semaphore's register reads as (R331, R340). -/
def State.readSem (s : State) (sp off : Nat) : Nat :=
  let m := s.sem sp (off / 64)
  if 0x4_0000 ≤ off then s.reg (Reg.spireBase sp + 0x20_0000 + off)
  else if off % 64 = 0 then m.count
  else if off % 64 = 0x18 then (m.lastBell % 2 ^ 48) <<< 16 + m.lastSource
  else if off % 64 = 0x20 then m.waiters.length <<< 16 + (match m.waiters with | w :: _ => w.source | [] => 0xFFFF)
  else s.reg (Reg.spireBase sp + 0x20_0000 + off)

/-- What a Carillon's register reads as (R385, R386): both PENDING registers, and the stack. -/
def State.readCar (s : State) (car off : Nat) : Nat :=
  if inSpan off 0x2080 0x80 then s.reg (Reg.carBase car + off - 0x80)
  else if inSpan off 0x3000 0xC0 && off % 0x40 = 0x18 then
    let l := s.carStack car ((off - 0x3000) / 0x40)
    match l with
    | (n, p) :: _ => l.length <<< 16 + p <<< 12 + n
    | [] => 0
  else s.reg (Reg.carBase car + off)

/-- What a register of the SESS block reads as (R287, R307): the session table, eight bytes of a context at each offset,
and the registers after it. -/
def State.readSess (s : State) (off : Nat) : Nat :=
  if off < 0x40_0000 then leNat (((s.ctx (off / 256)).drop (off % 256)).take 8)
  else if off = 0x40_0000 then
    let n := fun (k : Nat) => (s.sess.filter (fun e => ctxState e.2 = k)).length
    (16384 - n 1 - n 2 - n 3) + n 1 <<< 16 + n 2 <<< 32 + n 3 <<< 48
  else if off = 0x40_0020 then (below s.frameCount (fun f => (s.frameUse f).isNone)).length
  else s.reg (Reg.sessBase + off)

/-- What the register at a control address reads as: WO fields read as zero (R3). TEMP of HBM_STATUS is what a trained stack
has last reported, a free value (DESIGN CHOICE, log 4). -/
def State.readReg (s : State) (a : Nat) : Nat :=
  match findReg a with
  | none => 0
  | some (b, off, r) =>
    let v := match b with
      | .twr g => s.readTower g.val off
      | .spr sp => s.readSpr sp.val off
      | .sem sp => s.readSem sp.val off
      | .sde sp => if off = 0x808 then s.specPend sp.val else s.reg a
      | .car sp => s.readCar sp.val off
      | .carK => s.readCar 4 off
      | .sess => s.readSess off
      | .alx => if off = 8 then setBits (s.reg a) 5 5 (ofBool (bit (s.reg Reg.fusePolicy) 8)) else s.reg a
      | .hbm _ => if off = 8 && bit (s.reg a) 0 then setBits (s.reg a) 23 16 (Config.measured s.free).toNat else s.reg a
      | _ => s.reg a
    (BitVec.ofNat 64 v &&& ~~~fieldMask r (fun t => t = .wo)).toNat

/-! ### Writes that do more than set fields -/

/-- Whether a register is its block's COMMIT register (R337). -/
def isCommit (b : Block) (off : Nat) : Bool :=
  match b with
  | .twr _ => off = 0x5008
  | .spr _ => off = 0xF8
  | .hbm _ => off = 0xFFF8
  | .but _ => off = 0xFFF8
  | .sem _ | .bel _ | .sde _ | .blp _ | .car _ | .carK | .alx | .pwr => off = 0xF_FFF8
  | _ => false

/-- The COMMIT register of a block. -/
def commitReg (b : Block) : Option Nat :=
  ([0x5008, 0xF8, 0xFFF8, 0xF_FFF8].find? (isCommit b)).map (fun off => blockBase b + off)

/-- VALID and OVERRUN of a decode-error register clear together (R30). -/
def State.clearDecodeErr (s : State) (a : Nat) : State := s.setFld a 63 62 0

/-- A write to an ordinary register (R3, R7): the block's LOCK guards its RWL fields, and refused writes are counted. -/
def State.fieldWrite (s : State) (b : Block) (a v : Nat) : State :=
  let (lock, viol) := match b with
    | .sess => (Reg.sessLock, Reg.sessLockViol)
    | .alx => (Reg.alxLock, Reg.alxLockViol)
    | _ => (0, 0)
  let locked := lock ≠ 0 && bit (s.reg lock) 0
  let refused := locked && fieldMask (rowAt a) (fun t => t = .rwl) ≠ 0
  let s := s.writeFields a (BitVec.ofNat 64 v) locked
  if refused then s.count viol 1 else s

/-- A table base whose write is refused while the table is in use, or outside the Spire's Gallery (R101, R286)
(DEDUCED, log 85). -/
def State.baseWrite (s : State) (actor : Actor) (sp a v size : Nat) (used : Bool) : State :=
  let m := fieldMask (rowAt a) (fun t => t = .rw)
  let base := (BitVec.ofNat 64 v &&& m).toNat
  let lo := 0x4000_0000_0000 + 0x1000_0000 * sp
  if used || base < lo || lo + gallerySize < base + size then s.refuse actor a true
  else s.setReg a base

/-- Whether a scrub of a session that closes is pending on a Spire (R305, R309): of a touched Tower, also before the frames are
released, or of a checkpoint area. -/
def State.closeBusy (s : State) (sp : Nat) (j : CloseJob) : Bool :=
  (if j.released then j.wait ++ j.active.filter (fun g => (s.tower g).scrub.isSome) else s.touchedSlots (s.ctx j.index)).any
      (fun g => slotSpire g = sp) ||
    (if j.released then j.areas else SMap.get (fun _ => []) s.sessAreas j.index).any (fun x => x.1 = sp) ||
    (s.scrubs sp).any (fun x => (SMap.get (fun _ => []) s.sessAreas j.index).contains (sp, x.1, x.2))

/-- Whether SPR_SEAL_BANKS may not change (R309): a Tower of the Spire runs a SEAL operation, or a scrub of a CLOSING session is
pending there. -/
def State.banksBusy (s : State) (sp : Nat) : Bool :=
  (s.sealsOf sp).any (fun e => e.2.phase = .running) || s.closes.any (s.closeBusy sp)

/-- A pending change of a cullet map (R29). -/
def State.culletWrite (s : State) (sp : Nat) (t : Option Nat) (slot : Nat) : State :=
  { s with cullets := s.cullets ++ [{ spire := sp, tower := t, slot := slot }] }

/-- KEY_CULLET_SET: OP 0 and 3 are ignored. -/
def State.culletSet (s : State) (v : Nat) : State :=
  match bits v 31 30 with
  | 1 => s.culletWrite (bits v 25 24) (some (bits v 19 16)) (bits v 4 0)
  | 2 => s.culletWrite (bits v 25 24) none (bits v 4 0)
  | _ => s

/-- FUSE_PROG (R421) (DEDUCED, log 82). -/
def State.fuseProg (s : State) (v : Nat) : State :=
  match bits v 31 28 with
  | 1 => s.fuseLife (bits v 2 0)
  | 2 => s.fuseRoll
  | 3 => s.fuseField (bits v 23 16) (bits v 15 8) (BitVec.ofNat 64 (s.reg Reg.fuseProgData))
  | _ => s

/-- PKE_CTL (R440, R441). -/
def State.pkeCtl (s : State) (n v : Nat) : State :=
  let s := if bit v 0 then s.pkeAbort n else s
  if bit v 1 && !s.pkeBusy n then s.opmemZero n else s

/-- ARM of a loader sequencer by a control write (R240): a fault of R86 or R232 is reported to the controller of the
requester (DEDUCED, log 61). -/
def State.armWrite (s : State) (actor : Actor) (g k : Nat) : State :=
  match s.armSeq g k with
  | (t, none) => t
  | (t, some f) => t.faultToActor (slotSpire g) actor f

/-- A write to a register of SPR_CTL. -/
def State.sprWrite (s : State) (actor : Actor) (sp off v : Nat) : State :=
  let a := Reg.spireBase sp + off
  let b : Block := .spr (Fin.ofNat 4 sp)
  if off = 0x40 then (if bit v 63 then s.clearDecodeErr a else s.fieldWrite b a v)
  else if off = 0x80 then s.baseWrite actor sp a v 0x10_0000 (s.readSpr sp 0x88 ≠ 0)
  else if off = 0x4000 then
    s.baseWrite actor sp a v 0x200_0000 ((List.range 32).any (fun n => (s.pset sp n).valid || (s.pset sp n).o.isSome))
  else if off = 0x4200 then (if s.banksBusy sp then s.refuse actor a true else s.fieldWrite b a v)
  else if inSpan off 0x5000 0x400 && off % 0x40 = 0x30 then
    (if bit v 0 then s.resumeRing sp ((off - 0x5000) / 0x40) else s)
  else s.fieldWrite b a v

/-- A write to a register of a Tower slot (R225, R240). -/
def State.twrWrite (s : State) (actor : Actor) (g off v : Nat) : State :=
  if off = 0x4828 then s.epBuildWrite g v
  else if inSpan off 0x4A00 0x100 && (off - 0x4A00) % 0x40 = 0x18 then
    let k := (off - 0x4A00) / 0x40
    if bit v 0 then s.armWrite actor g k else if bit v 1 then s.abandonSeq g k else s
  else s.fieldWrite (.twr (Fin.ofNat 68 g)) (Reg.twrBase g + off) v

/-- A write to a register of a Carillon (R385, R390). -/
def State.carWrite (s : State) (actor : Actor) (b : Block) (car off v : Nat) : State :=
  let a := Reg.carBase car + off
  if inSpan off 0x2000 0x80 then s.setReg a (s.reg a ||| v)
  else if inSpan off 0x2080 0x80 then
    s.setReg (a - 0x80) (BitVec.ofNat 64 (s.reg (a - 0x80)) &&& ~~~(BitVec.ofNat 64 v)).toNat
  else if inSpan off 0x3000 0xC0 && off % 0x40 = 8 then s.completeSource actor car ((off - 0x3000) / 0x40) (v % 1024)
  else s.fieldWrite b a v

/-- A write to a register of the ALX block (R396, R443). -/
def State.alxWrite (s : State) (off v : Nat) : State :=
  if off = 0 then
    let s := s.fieldWrite .alx Reg.alxCtl v
    if bit v 0 then s.setTraining 8 true else s
  else if inSpan off 0x200 0x40 then
    { s with alxPending := SMap.set (fun _ => 0) s.alxPending ((off - 0x200) / 8) (BitVec.ofNat 64 v) }
  else s.fieldWrite .alx (Reg.alxBase + off) v

/-- The fields of the eight bytes at offset `o` of a context; the other bits are reserved (R287). -/
def ctxMask (o : Nat) : Word :=
  if o = 0 then 0x00FF_FFFF_FFFF_1F07
  else if o = 72 then 0xFF
  else if o = 184 then 0xFFFF_FFFF
  else if o < 188 then ~~~0 else 0

/-- A write of the Keystone controller to the session table (R12, R287): the reserved bits stay zero. -/
def State.ctxWrite (s : State) (off v : Nat) : State :=
  let o := off % 256
  s.setCtx (off / 256) (patch (s.ctx (off / 256)) o (leBytes 8 (BitVec.ofNat 64 v &&& ctxMask o).toNat))

/-- What an accepted write does. -/
def State.blockWrite (s : State) (actor : Actor) (b : Block) (off a v : Nat) : State :=
  if isCommit b off then (if bit v 0 then s.commitOf b else s)
  else match b with
    | .keyCtl =>
      if off = 0x420 then s.culletSet v
      else if off = 0x40 && bit v 63 then s.clearDecodeErr a
      else s.fieldWrite b a v
    | .fuse => if off = 0x200 then s.fuseProg v else if off = 0x208 then s.setReg a v else s.fieldWrite b a v
    | .pke n => if off = 8 then s.pkeCtl n.val v else s.fieldWrite b a v
    | .alx => s.alxWrite off v
    | .sess => if off < 0x40_0000 then s.ctxWrite off v else s.fieldWrite b a v
    | .spr sp => s.sprWrite actor sp.val off v
    | .sem sp =>
      let n := off / 64
      if 0x4_0000 ≤ off then s.fieldWrite b a v
      else if off % 64 = 0 then s.setSem sp.val n { s.sem sp.val n with count := v % 65536 }
      else if off % 64 = 8 then s.postWrite actor sp.val n (v % 65536)
      else s.fieldWrite b a v
    | .bel sp =>
      if off = 0x28 then (if bit v 0 then s.joinBell sp.val else s)
      else
        let s := s.fieldWrite b a v
        if off = 0 && bit v 0 then s.resumeService else s
    | .car sp => s.carWrite actor b sp.val off v
    | .carK => s.carWrite actor b 4 off v
    | .twr g => s.twrWrite actor g.val off v
    | _ => s.fieldWrite b a v

/-- A control write of 64 bits. -/
def State.ctlWrite (s : State) (actor : Actor) (a v : Nat) : State :=
  s.guarded actor a (fun s => match findReg a with
    | some (b, off, _) => s.blockWrite actor b off a v
    | none => s)

/-! ### The rows of single writes -/

/-- REGISTER_WRITE (R3). -/
def execRegisterWrite (actor : Actor) (addr : BitVec 36) (value : Word) (s : State) : Host.Outcome State Fault Refusal :=
  .next (s.ctlWrite actor addr.toNat value.toNat)

/-- COMMIT (R5, R337): a block without a COMMIT register takes nothing (DEDUCED, log 85). -/
def execCommit (actor : Actor) (blk : Block) (s : State) : Host.Outcome State Fault Refusal :=
  .next (match commitReg blk with
    | none => s
    | some a => s.guarded actor a (fun s => s.commitOf blk))

/-- LOCK (R7): SESS_LOCK or ALX_LOCK; no other block has one (DEDUCED, log 85). -/
def execLock (actor : Actor) (blk : Block) (s : State) : Host.Outcome State Fault Refusal :=
  .next (match blk with
    | .sess => s.guarded actor Reg.sessLock (fun s => s.setReg Reg.sessLock 1)
    | .alx => s.guarded actor Reg.alxLock (fun s => s.setReg Reg.alxLock 1)
    | _ => s)

/-- DECODE_ERR_CLEAR (R30). -/
def execDecodeErrClear (actor : Actor) (spire : Option (Fin 4)) (s : State) : Host.Outcome State Fault Refusal :=
  .next (s.guarded actor (decodeErrReg spire) (fun s => s.clearDecodeErr (decodeErrReg spire)))

/-- CULLET_ASSIGN (R29). -/
def execCulletAssign (actor : Actor) (spire : Fin 4) (tower : Fin 16) (slot : BitVec 5) (s : State) :
    Host.Outcome State Fault Refusal :=
  .next (s.guarded actor Reg.keyCulletSet (fun s => s.culletWrite spire.val (some tower.val) slot.toNat))

/-- CULLET_SET_SPARE (R29). -/
def execCulletSetSpare (actor : Actor) (spire : Fin 4) (slot : BitVec 5) (s : State) : Host.Outcome State Fault Refusal :=
  .next (s.guarded actor Reg.keyCulletSet (fun s => s.culletWrite spire.val none slot.toNat))

/-- EP_BUILD_COPY (R225). -/
def execEpBuildCopy (actor : Actor) (slot : Fin 68) (prog gen : BitVec 4) (s : State) : Host.Outcome State Fault Refusal :=
  .next (s.guarded actor (Reg.twrEpBuild slot.val) (fun s => s.epBuildWrite slot.val (prog.toNat + 16 * gen.toNat)))

/-- EP_BUILD_GENERATE (R225). -/
def execEpBuildGenerate (actor : Actor) (slot : Fin 68) (prog gen : BitVec 4) (s : State) :
    Host.Outcome State Fault Refusal :=
  .next (s.guarded actor (Reg.twrEpBuild slot.val) (fun s =>
    s.epBuildWrite slot.val (prog.toNat + 16 * gen.toNat + 0x800)))

/-- SEQ_ARM (R240). -/
def execSeqArm (actor : Actor) (slot : Fin 68) (k : Fin 4) (s : State) : Host.Outcome State Fault Refusal :=
  .next (s.guarded actor (Reg.twrSeqCtl slot.val k.val) (fun s => s.armWrite actor slot.val k.val))

/-- SEQ_ABANDON (R240). -/
def execSeqAbandon (actor : Actor) (slot : Fin 68) (k : Fin 4) (s : State) : Host.Outcome State Fault Refusal :=
  .next (s.guarded actor (Reg.twrSeqCtl slot.val k.val) (fun s => s.abandonSeq slot.val k.val))

/-! ### REGW (R322) -/

/-- The writes of REGW in order, until R27 refuses one: how many were made, and whether one was refused (DEDUCED, log 85). -/
def State.regwRun (s : State) (done : Nat) : List (Word × Word) → State × Nat × Bool
  | [] => (s, done, false)
  | (a, v) :: rest =>
    if 2 ^ 36 ≤ a.toNat then (s.refuse .companion a.toNat true, done, true)
    else if s.refuses .companion a.toNat true then (s.refuse .companion a.toNat true, done, true)
    else (s.ctlWrite .companion a.toNat v.toNat).regwRun (done + 1) rest

/-- REGW: a write that R27 refuses ends it with CTL_REFUSED. -/
def execRegw (o : Origin) (pairs : List (Word × Word)) (s : State) : Host.Outcome State Fault Refusal :=
  let (s, n, bad) := s.regwRun 0 pairs
  .next (if bad then s.completeFault o 0x05 (ringIllegal o 0x24 0x05) (leBytes 4 n) else s.completeOk o 0x05 (leBytes 4 n))

/-! ### I3C (R472) -/

/-- I3C_MANAGEMENT_TRANSACTION: the management block reads a register (the reply), or writes one; source 12 (R384). In reset
the target does not respond (R476) (DESIGN CHOICE, log 14). -/
def execI3cManagementTransaction (addr : BitVec 36) (write : Option Word) (s : State) : Host.Outcome State Fault Refusal :=
  let a := addr.toNat
  .next (if s.power.rstLow then s
    else match write with
      | some v => (s.ctlWrite .management a v.toNat).raise 4 12
      | none =>
        let refused := s.refuses .management a false
        let v := if refused then 0 else s.readReg a
        { (if refused then s.refuse .management a false else s).raise 4 12 with reply := leBytes 8 v })

end Sys2Proof.Machine
end

