-- ==== Sys2Proof/Machine/Run.lean ====
section
/-!
DEFINITION. How a fetched command starts (R316, R318 to R323, R326, R339): the checks of the fetcher, breaks, FENCE and PRE,
arbitration, what holds a command, and its dispatch.
-/
namespace Sys2Proof.Machine

/-! ### The form of a command (R318, R321, R323, R326, R434) -/

/-- Bits of the header that are fields, as low bit and width: all but byte 1 [7:3], PRE_SEM [14:12], POST_SEM [14], SUB and
bytes 14 and 15. -/
def hdrFields : List (Nat × Nat) := [(0, 11), (16, 28), (47, 31), (79, 25)]

/-- SUB, where a command defines a use for it. -/
def subField : Nat × Nat := (104, 8)

/-- `n` bytes from byte `lo`. -/
def bytesAt (lo n : Nat) : Nat × Nat := (8 * lo, 8 * n)

/-- The operand fields of an opcode, as low bit and width in the whole command; none for an opcode that is not assigned. -/
def cmdFields (op : Nat) : Option (List (Nat × Nat)) :=
  match op with
  | 0x00 => some []
  | 0x01 => some [subField]
  | 0x02 => some [bytesAt 16 4]
  | 0x03 => some [bytesAt 16 5]
  | 0x04 => some [bytesAt 16 8]
  | 0x05 => some [subField, bytesAt 16 48]
  | 0x10 => some [bytesAt 16 18]
  | 0x11 => some [bytesAt 16 7, bytesAt 24 16]
  | 0x12 => some [bytesAt 16 36, (416, 6), bytesAt 53 9]
  | 0x13 => some [bytesAt 16 3, bytesAt 24 8]
  | 0x14 => some [bytesAt 16 3, bytesAt 24 6]
  | 0x15 => some [bytesAt 16 2, bytesAt 64 64]
  | 0x16 => some [bytesAt 16 4]
  | 0x17 => some [bytesAt 16 7]
  | 0x18 => some [bytesAt 16 4]
  | 0x19 => some [bytesAt 16 8]
  | 0x1A => some [bytesAt 16 8]
  | 0x20 => some [bytesAt 16 7, bytesAt 24 16, bytesAt 64 64]
  | 0x21 => some [bytesAt 16 2]
  | 0x22 => some [bytesAt 16 2]
  | 0x30 => some [bytesAt 16 1, bytesAt 18 24]
  | 0x40 => some [subField, bytesAt 16 3, bytesAt 20 14]
  | 0x50 => some [bytesAt 16 10]
  | 0x80 => some [(128, 25), bytesAt 20 5, bytesAt 32 6, bytesAt 40 6, bytesAt 64 57]
  | 0x81 => some [bytesAt 16 20]
  | 0x82 => some [bytesAt 16 6]
  | 0x83 => some [bytesAt 16 2]
  | 0x84 => some [bytesAt 16 8]
  | 0x85 => some [bytesAt 16 6]
  | 0x86 => some [bytesAt 16 6]
  | 0xA0 => some [bytesAt 16 7]
  | 0xA1 => some [bytesAt 16 14]
  | 0xA2 => some [bytesAt 16 2]
  | _ =>
    if 0x90 ≤ op && op ≤ 0x9B then
      some ([(128, 2), bytesAt 17 23] ++ (if op = 0x97 || op = 0x9A then [subField] else []))
    else none

/-- The bits of a list of fields. -/
def maskOf (l : List (Nat × Nat)) : Nat := l.foldl (fun m f => m ||| (2 ^ f.2 - 1) <<< f.1) 0

/-- The bytes [hi:lo] of a command as a bit vector. -/
def opnd (w : Nat) (b : List Byte) (hi lo : Nat) : BitVec w := BitVec.ofNat w (field b hi lo)

/-- Operand values out of the range that the tables state (DEDUCED, log 33). -/
def operandBad (op : Nat) (b : List Byte) : Bool :=
  let sub := byteAt b 13
  match op with
  | 0x01 => 2 < sub
  | 0x02 => bit (field b 17 16) 14
  | 0x03 => 4096 ≤ field b 17 16
  | 0x04 => field b 23 22 = 0 || 4096 < field b 23 22 || field b 21 16 % 64 ≠ 0
  | 0x05 => sub = 0 || 3 < sub
  | 0x11 => 7 < byteAt b 22
  | 0x12 =>
    field b 55 54 / 2 ^ 14 ≠ 0 || field b 57 56 / 2 ^ 12 ≠ 0 || bits (byteAt b 52) 5 4 = 3 ||
      (bits (byteAt b 52) 5 4 = 2 && 63 < byteAt b 53)
  | 0x13 => 1 < byteAt b 18 || field b 31 30 = 0 || 16384 < field b 31 30
  | 0x14 => 15 < byteAt b 18
  | 0x20 => 1 < byteAt b 22
  | 0x30 => byteAt b 16 = 0 || 0x10 < byteAt b 16
  | 0x40 => 2 < sub || 2 < byteAt b 16 || 1 < byteAt b 17
  | 0x82 => 1 < byteAt b 20
  | 0xA2 => 35 < byteAt b 16 || 3 < byteAt b 17
  | _ => false

/-- The engine of an opcode (R310, R323); none for a command that any engine accepts (R321). -/
def cmdEngine (op : Nat) : Option Nat :=
  if op < 0x10 then none
  else if op < 0x20 then some 1
  else if op < 0x30 then some 3
  else if op < 0x40 then some 2
  else if op < 0x50 then some 4
  else if op < 0x80 then some 0
  else if op < 0x90 then some 9
  else if op < 0xA0 then some 8
  else some 10

/-- Whether the fetcher refuses a command with BAD_CMD (R326, R433). -/
def State.cmdBad (s : State) (b : List Byte) : Bool :=
  let op := byteAt b 0
  match cmdFields op with
  | none => true
  | some fs =>
    let v := leNat b
    v &&& maskOf (hdrFields ++ fs) ≠ v || operandBad op b ||
      (cmdEngine op = some 8 && s.pkeInactive (bits (byteAt b 16) 1 0))

/-! ### Dispatch -/

/-- Run the command of an origin from its bytes. -/
def runCmd (o : Origin) (b : List Byte) (s : State) : Host.Outcome State Fault Refusal :=
  let sub := byteAt b 13
  match byteAt b 0 with
  | 0x00 => execNop o s
  | 0x01 => execFenceCommand o (opnd 8 b 13 13) s
  | 0x02 => execSemPost o (opnd 14 b 17 16) (opnd 16 b 19 18) s
  | 0x03 => execSemWait o (opnd 12 b 17 16) (opnd 16 b 19 18) (opnd 8 b 20 20) s
  | 0x04 => execListCmd o (opnd 48 b 21 16) (opnd 16 b 23 22) s
  | 0x05 => execRegw o ((List.range sub).map (fun k => (opnd 64 b (16 * k + 23) (16 * k + 16), opnd 64 b (16 * k + 31) (16 * k + 24)))) s
  | 0x10 => execMove o (opnd 48 b 21 16) (opnd 48 b 27 22) (opnd 48 b 33 28) s
  | 0x11 => execPeerMove o (opnd 48 b 21 16) (Fin.ofNat 8 (byteAt b 22)) (opnd 16 b 25 24) (opnd 48 b 31 26) (opnd 16 b 33 32) (opnd 48 b 39 34) s
  | 0x12 => execSeqMove o ((b.drop 16).take 32) (opnd 32 b 51 48) (opnd 4 b 52 52) (BitVec.ofNat 2 (bits (byteAt b 52) 5 4)) (opnd 8 b 53 53) (opnd 16 b 55 54) (opnd 16 b 57 56) (opnd 32 b 61 58) s
  | 0x13 => execImLoad o (opnd 16 b 17 16) (byteAt b 18 = 1) (opnd 48 b 29 24) (opnd 16 b 31 30) s
  | 0x14 => execEpLoad o (opnd 16 b 17 16) (opnd 4 b 18 18) (opnd 48 b 29 24) s
  | 0x15 => execDescCreate o (opnd 16 b 17 16) ((b.drop 64).take 64) s
  | 0x16 => execDescFree o (opnd 32 b 19 16) s
  | 0x17 => execAccept o (opnd 32 b 19 16) (opnd 24 b 22 20) s
  | 0x18 => execReject o (opnd 32 b 19 16) s
  | 0x19 => execPrefetchConfirm o (opnd 64 b 23 16) s
  | 0x1A => execPrefetchDrop o (opnd 64 b 23 16) s
  | 0x20 => execLaunch o (opnd 16 b 17 16) (opnd 16 b 19 18) (opnd 16 b 21 20) (byteAt b 22 = 1) (opnd 64 b 31 24) (opnd 64 b 39 32) ((List.range 8).map (fun i => opnd 64 b (71 + 8 * i) (64 + 8 * i))) s
  | 0x21 => execStop o (opnd 16 b 17 16) s
  | 0x22 => execResume o (opnd 16 b 17 16) s
  | 0x30 =>
    let g : SealArgs :=
      { in0 := opnd 48 b 23 18, in1 := opnd 48 b 29 24, out := opnd 48 b 35 30, towers := opnd 16 b 37 36,
        value := opnd 32 b 41 38 }
    match byteAt b 16 with
    | 0x01 => execHadd o g s | 0x02 => execHsub o g s | 0x03 => execHneg o g s | 0x04 => execPadd o g s
    | 0x05 => execCmul o g s | 0x06 => execPmul o g s | 0x07 => execHmul o g s | 0x08 => execHmul3 o g s
    | 0x09 => execRelin o g s | 0x0A => execRescale o g s | 0x0B => execRotate o g s | 0x0C => execConj o g s
    | 0x0D => execLeveldown o g s | 0x0E => execNtt o g s | 0x0F => execIntt o g s | _ => execAnneal o g s
  | 0x40 =>
    let g : CollArgs :=
      { format := opnd 8 b 16 16, combine := opnd 8 b 17 17, dims := opnd 8 b 18 18, src := opnd 32 b 23 20,
        dst := opnd 32 b 27 24, elements := opnd 48 b 33 28 }
    if sub = 0 then execCollAllReduce o g s else if sub = 1 then execCollAllGather o g s else execCollReduceScatter o g s
  | 0x50 => execBtabLoad o (opnd 48 b 21 16) (opnd 16 b 23 22) (opnd 16 b 25 24) s
  | 0x80 => execSessOpen o (opnd 16 b 17 16) (opnd 8 b 18 18) (bit (byteAt b 19) 0) (opnd 16 b 21 20) (opnd 16 b 23 22) (opnd 8 b 24 24) (opnd 48 b 37 32) (opnd 48 b 45 40) ((b.drop 64).take 57) s
  | 0x81 => execSessBind o (opnd 16 b 17 16) (opnd 48 b 23 18) (opnd 32 b 27 24) (opnd 64 b 35 28) s
  | 0x82 => execSessPolicy o (opnd 16 b 17 16) (opnd 16 b 19 18) (bit (byteAt b 20) 0) (opnd 8 b 21 21) s
  | 0x83 => execSessClose o (opnd 16 b 17 16) s
  | 0x84 => execSessQuery o (opnd 16 b 17 16) (opnd 48 b 23 18) s
  | 0x85 => execKeyPageIn o (opnd 16 b 17 16) (opnd 32 b 21 18) s
  | 0x86 => execKeyPageOut o (opnd 16 b 17 16) (opnd 32 b 21 18) s
  | 0xA0 => execPsetLoad o (opnd 48 b 21 16) (opnd 8 b 22 22) s
  | 0xA1 => execRegionSet o (opnd 16 b 17 16) (opnd 48 b 23 18) (opnd 48 b 29 24) s
  | 0xA2 => execBandClass o (opnd 8 b 16 16) (opnd 8 b 17 17) s
  | op =>
    let p : PkeArgs :=
      { engine := BitVec.ofNat 2 (byteAt b 16), slot := opnd 8 b 17 17, inp := opnd 48 b 23 18, out := opnd 48 b 29 24,
        mlen := opnd 32 b 33 30, msg := opnd 48 b 39 34, sub := opnd 8 b 13 13 }
    match op with
    | 0x90 => execEd448Verify o p s | 0x91 => execEd448Sign o p s | 0x92 => execX448Keygen o p s
    | 0x93 => execX448 o p s | 0x94 => execP384Keygen o p s | 0x95 => execP384Sign o p s
    | 0x96 => execP384Verify o p s | 0x97 => execRsaVerify o p s | 0x98 => execKeyClear o p s
    | 0x99 => execAttest o p s | 0x9A => execValidate o p s | 0x9B => execMeasureExtend o p s
    | _ => .next s

/-! ### What holds a command -/

/-- The ring, the runner and the entry of a command that is to start. -/
structure Runner where
  sp : Nat
  r : Nat
  entry : Option (Fin 1024)
  deriving DecidableEq, Repr

/-- The key of a runner. -/
def Runner.key (x : Runner) : Nat :=
  match x.entry with
  | some e => entryKey x.sp e.val
  | none => ringKey x.sp x.r

/-- The engine of a runner: its ring's, or that of the entry whose list it is (R310, R350). -/
def State.engineOf (s : State) (x : Runner) : Nat :=
  match x.entry with
  | some e => s.entryEngine x.sp e.val
  | none => s.ringEngineOf x.sp x.r

/-- The engine of a runner's command: of its opcode, or the runner's for a command that any engine accepts. -/
def State.engineFor (s : State) (x : Runner) (op : Nat) : Nat := (cmdEngine op).getD (s.engineOf x)

/-- Whether a ring whose records lack room, or a stopped one, holds its fetched commands that have not started, those of a LIST
in flight among them (R328, R329, R339; DEDUCED, log 63). -/
def State.ringHolds (s : State) (x : Runner) : Bool :=
  let q := s.ring x.sp x.r
  x.entry.isNone && (q.brk || !q.held.isEmpty || q.stopped)

/-- Whether a SEAL command has not begun to run: it waits for its window or its key pages and holds its ring (R301, R361). -/
def SealOp.unbegun (c : SealOp) : Bool :=
  c.phase ≠ .running && (match c.ann with | some a => !a.began | none => true)

/-- Whether a wait of a runner is in progress: a requester waits on one semaphore at a time (R331). -/
def State.waitsSem (s : State) (x : Runner) : Bool :=
  s.sems.any (fun m => m.1 / 4096 = x.sp && m.2.waiters.any (fun w => match w.who with
    | .cmd o => runKey o = x.key
    | .pre r => ringKey x.sp r.val = x.key
    | .preEntry e => entryKey x.sp e.val = x.key
    | _ => false))

/-- Whether a command waits: behind a SEAL command that cannot start, or for a channel, a place or an engine (R316, R331,
R361, R433). -/
def State.noPlace (s : State) (x : Runner) (b : List Byte) : Bool :=
  let op := byteAt b 0
  if (s.sealsOf x.sp).any (fun e => e.2.unbegun && runKey e.2.o = x.key) then true
  else if op = 0x03 then s.waitsSem x
  else if op = 0x10 || op = 0x11 || op = 0x12 then (s.idleChannel x.sp).isNone
  else if op = 0x30 then (s.freeSeal x.sp).isNone
  else if op = 0x40 then (s.freeColl x.sp).isNone
  else if op = 0x80 || op = 0x81 then s.pkeAny.isNone
  else if op = 0xA0 then s.psetBuilding (byteAt b 22)
  else if cmdEngine op = some 8 then
    (s.pkeFor { engine := BitVec.ofNat 2 (byteAt b 16), slot := 0, inp := 0, out := 0, mlen := 0, msg := 0, sub := 0 }).isNone
  else false

/-- Whether the FENCE flag of a command is satisfied: it acts as a ring-scope FENCE (R318, R330). -/
def State.fenceFlagOk (s : State) (x : Runner) (c : Cmd) : Bool :=
  !bit (byteAt c.bytes 1) 2 ||
    s.fenceDone { o := originOf x.sp x.r x.entry c, opcode := byteAt c.bytes 0, engine := s.engineFor x (byteAt c.bytes 0),
                  order := s.starts, fence := none, broken := false } 0

/-- PRE_SEM's enable. -/
def preOn (c : Cmd) : Bool := bit (field c.bytes 5 4) 15

/-- Whether the next command of a ring is ready for its engine (R316): nothing holds it and its PRE wait is over. -/
def State.ringReady (s : State) (x : Runner) : Bool :=
  let q := s.runq x.key
  match q.queue with
  | [] => false
  | c :: _ =>
    !s.ringHolds x && !s.cmdBad c.bytes && s.fenceFlagOk x c && (!preOn c || q.pre = some true) && !s.noPlace x c.bytes

/-- The rings bound to an engine, as 16 × Spire + ring, and the key under which its last service is kept: a Spire engine
serves the rings of its Spire, a Keystone engine all (R310, R316). -/
def State.ringsOfEngine (s : State) (sp eng : Nat) : List Nat :=
  (List.range 64).filter (fun i => s.ringEngineOf (i / 16) (i % 16) = eng && (8 ≤ eng || i / 16 = sp))
def engineKey (sp eng : Nat) : Nat := if 8 ≤ eng then eng else 16 * (sp + 1) + eng

/-- Whether the engine of a ring serves it next: the highest PRIORITY among the ready rings, round robin among equals
(R316) (DESIGN CHOICE, log 64). -/
def State.turn (s : State) (sp r eng : Nat) : Bool :=
  let me := 16 * sp + r
  let prio := fun (i : Nat) => s.fld (Reg.sprRingCfg (i / 16) (i % 16)) 21 20
  let after := SMap.get (fun _ => 0) s.lastRing (engineKey sp eng)
  let place := fun (i : Nat) => (i + 64 - after) % 64
  (s.ringsOfEngine sp eng).all (fun i =>
    i = me || !s.ringReady { sp := i / 16, r := i % 16, entry := none } || prio i < prio me ||
      (prio i = prio me && place me < place i))

/-! ### Breaks (R339) -/

/-- Whether the count condition of a command break holds. -/
def State.countHit (s : State) (sp r : Nat) (c : Cmd) : Bool :=
  let ctl := s.reg (Reg.sprCmdBrkCtl sp)
  bit ctl 1 && bits ctl 11 8 = r && c.cseq = s.reg (Reg.sprCmdBrkCount sp)

/-- The command break that holds a command, if one fires (R339): CAUSE 0 tag, 1 count. -/
def State.breakFires (s : State) (sp r : Nat) (c : Cmd) : Option Nat :=
  let ctl := s.reg (Reg.sprCmdBrkCtl sp)
  let tag := s.reg (Reg.sprCmdBrkTag sp)
  if bit ctl 0 && bit ctl (16 + r) && (field c.bytes 3 2 ^^^ tag % 65536) &&& (tag >>> 16) = 0 then some 0
  else if s.countHit sp r c then some 1
  else none

/-- A break fires: CNT_EN clears, the first break is recorded, the command-break source is raised (R339, R384). -/
def State.breakTaken (s : State) (sp r cause : Nat) (c : Cmd) : State :=
  let a := Reg.sprCmdBrkStatus sp
  let s := if s.countHit sp r c then s.setFld (Reg.sprCmdBrkCtl sp) 1 1 0 else s
  let s := if bit (s.reg a) 63 then s
    else s.setReg a (1 <<< 63 + cause <<< 62 + (16 * sp + r) <<< 48 + field c.bytes 3 2 <<< 32 + c.cseq % 2 ^ 32)
  s.raise sp 49

/-! ### Starting -/

/-- Whether a command names what has been retired (R451, R452). -/
def State.cmdRetired (s : State) (x : Runner) (b : List Byte) : Bool :=
  let op := byteAt b 0
  let towers := if op = 0x20 then field b 17 16 else if op = 0x30 then field b 37 36 else 0
  s.spireRetired x.sp || s.namesRetired x.sp towers ||
    (op = 0x30 && (List.range 16).any (fun t => bit towers t && SMap.get (fun _ => 0) s.expDown (16 * x.sp + t) = 2))

/-- The reason for which the fetcher refuses a command, if it does (R320, R326). -/
def State.refusalOf (s : State) (x : Runner) (c : Cmd) : Option Nat :=
  let op := byteAt c.bytes 0
  if s.cmdBad c.bytes then some 0x20
  else if op = 0x04 && c.lidx ≠ 0xFFFF then some 0x23
  else match cmdEngine op with
    | some e => if s.engineOf x ≠ e then some 0x22 else none
    | none => none

/-- The last fetched command of a list has left the queue: the list's next commands are fetched before what follows
(R250; DEDUCED, log 100). A fault of the fetch ends the list: its LIST completes with it once the commands in progress have,
an entry notes it. -/
def State.fetchMore (s : State) (x : Runner) (cseq : Nat) : State :=
  let q := s.runq x.key
  match q.more with
  | none => s
  | some m =>
    if q.queue.head?.any (fun c => c.lidx ≠ 0xFFFF) then s
    else match s.readList x.sp cseq m with
    | (s, .ok (cs, more)) =>
      let q := s.runq x.key
      s.setRunq x.key { q with queue := cs ++ q.queue, more := more }
    | (s, .error f) =>
      match x.entry, s.instances x.sp (x.entry.elim 0 Fin.val) with
      | some e, i :: _ =>
        ((s.setRunq x.key { s.runq x.key with more := none }).setHead x.sp e.val (i.note (s.record f 0))).wrote f
      | _, _ => s.endList x.key (BitVec.ofNat 32 cseq) f

/-- A command that the fetcher refuses: it completes with the reason and its ring stops; a LIST inside a list ends the outer one
(R320, R326, R329) (DEDUCED, log 63). -/
def State.refuseCmd (s : State) (x : Runner) (c : Cmd) (reason : Nat) : State :=
  let o := originOf x.sp x.r x.entry c
  let op := byteAt c.bytes 0
  let s := s.dropNext x.key x.sp x.r x.entry (fun o => ringIllegal o reason op)
  let s := if c.lidx = 0xFFFF then s
    else if reason = 0x23 then s.endList x.key o.cseq (ringIllegal o reason op) else s.fetchMore x c.cseq
  if x.entry.isSome then s else s.stopRing x.sp x.r

/-- The head command of a runner starts: it is in progress, in its place among the starts, and its engine runs it
(DEDUCED, log 63). -/
def State.startCmd (s : State) (x : Runner) (c : Cmd) (rest : List Cmd) (broken : Bool) : State :=
  let op := byteAt c.bytes 0
  let o := originOf x.sp x.r x.entry c
  let eng := s.engineFor x op
  let run : Running := { o := o, opcode := op, engine := eng, order := s.starts, fence := none, broken := broken }
  let q := s.runq x.key
  let s := s.setRunq x.key { q with queue := rest, running := q.running ++ [run], pre := none }
  let s := if x.entry.isSome then s
    else
      { s.setRing x.sp x.r { s.ring x.sp x.r with brkPassed := false } with
        lastRing := SMap.set (fun _ => 0) s.lastRing (engineKey x.sp eng) ((16 * x.sp + x.r + 1) % 64) }
  let s := if c.lidx = 0xFFFF then s else s.fetchMore x c.cseq
  match runCmd o c.bytes { s with starts := s.starts + 1 } with
  | .next t => t
  | _ => s

/-- PRE_SEM's wait (R319 step 2): granted at once, or the ring waits in the semaphore's FIFO. -/
def State.askPre (s : State) (x : Runner) (c : Cmd) : State × Bool :=
  let who : WaiterId := match x.entry with | some e => .preEntry e | none => .pre (Fin.ofNat 16 x.r)
  let (s, ok) := s.waitSem x.sp (field c.bytes 5 4 % 4096) (field c.bytes 7 6) (byteAt c.bytes 12) (srcSpire x.sp 0 0) who
  (s.setRunq x.key { s.runq x.key with pre := some ok }, ok)

/-- The PRE wait, which begins once the runner's last wait is over (R331), then the start once nothing holds the command and its engine serves its ring. -/
def State.goCmd (s : State) (x : Runner) (c : Cmd) (rest : List Cmd) (broken : Bool) : State :=
  let (s, ok) := if !preOn c then (s, true)
    else match (s.runq x.key).pre with
      | some g => (s, g)
      | none => if s.waitsSem x then (s, false) else s.askPre x c
  if !ok then s
  else if s.cmdRetired x c.bytes then
    let s := s.dropNext x.key x.sp x.r x.entry (fun o => ringIllegal o 0x26 (byteAt c.bytes 0))
    if c.lidx = 0xFFFF then s else s.fetchMore x c.cseq
  else if s.noPlace x c.bytes || (x.entry.isNone && !s.turn x.sp x.r (s.engineFor x (byteAt c.bytes 0))) then s
  else s.startCmd x c rest broken

/-- COMMAND_START for a runner: its next command is refused, held, or started (R316, R319, R326, R339, R451)
(DEDUCED, log 63). -/
def State.tryCmd (s : State) (x : Runner) : State :=
  let q := s.runq x.key
  match q.queue with
  | [] => s
  | c :: rest =>
    if s.ringHolds x then s
    else match s.refusalOf x c with
    | some reason => s.refuseCmd x c reason
    | none =>
      if !s.fenceFlagOk x c then s
      else
        let brk := if x.entry.isSome || (s.ring x.sp x.r).brkPassed || q.pre.isSome then none else s.breakFires x.sp x.r c
        match brk, byteAt c.bytes 0 with
        | some cause, op =>
          let s := s.breakTaken x.sp x.r cause c
          if op = 0x20 then (s.setRing x.sp x.r { s.ring x.sp x.r with brkPassed := true }).goCmd x c rest true
          else (s.setRing x.sp x.r { s.ring x.sp x.r with brk := true }).stopRing x.sp x.r
        | none, op => s.goCmd x c rest (op = 0x20 && x.entry.isNone && (s.ring x.sp x.r).brkPassed)

/-- COMMAND_START: the next command of a ring, or of the instance of a bell-table entry that runs (DEDUCED, log 63). -/
def execCommandStart (spire : Fin 4) (ring : Fin 16) (entry : Option (Fin 1024)) (s : State) :
    Host.Outcome State Fault Refusal :=
  .next (if !s.serving then s else s.tryCmd { sp := spire.val, r := ring.val, entry := entry })

end Sys2Proof.Machine
end

