-- ==== Sys2Proof/Machine/Dispatch.lean ====
section
/-!
DEFINITION. The meaning of every command, one arm each.
-/
namespace Sys2Proof.Machine

def exec (i : Instr) (s : State) : Host.Outcome State Fault Refusal :=
  match i with
  | .registerWrite actor addr value => Sys2Proof.Machine.execRegisterWrite actor addr value s
  | .commit actor blk => Sys2Proof.Machine.execCommit actor blk s
  | .lock actor blk => Sys2Proof.Machine.execLock actor blk s
  | .decodeErrClear actor spire => Sys2Proof.Machine.execDecodeErrClear actor spire s
  | .culletAssign actor spire tower slot => Sys2Proof.Machine.execCulletAssign actor spire tower slot s
  | .culletSetSpare actor spire slot => Sys2Proof.Machine.execCulletSetSpare actor spire slot s
  | .add c sd sa sb => Sys2Proof.Machine.execAdd c sd sa sb s
  | .sub c sd sa sb => Sys2Proof.Machine.execSub c sd sa sb s
  | .and_ c sd sa sb => Sys2Proof.Machine.execAnd c sd sa sb s
  | .or_ c sd sa sb => Sys2Proof.Machine.execOr c sd sa sb s
  | .xor_ c sd sa sb => Sys2Proof.Machine.execXor c sd sa sb s
  | .sll c sd sa sb => Sys2Proof.Machine.execSll c sd sa sb s
  | .srl c sd sa sb => Sys2Proof.Machine.execSrl c sd sa sb s
  | .sra c sd sa sb => Sys2Proof.Machine.execSra c sd sa sb s
  | .mul c sd sa sb => Sys2Proof.Machine.execMul c sd sa sb s
  | .mulh c sd sa sb => Sys2Proof.Machine.execMulh c sd sa sb s
  | .li c sd imm => Sys2Proof.Machine.execLi c sd imm s
  | .ldB c sd imm sa => Sys2Proof.Machine.execLdB c sd imm sa s
  | .ldH c sd imm sa => Sys2Proof.Machine.execLdH c sd imm sa s
  | .ldW c sd imm sa => Sys2Proof.Machine.execLdW c sd imm sa s
  | .ldD c sd imm sa => Sys2Proof.Machine.execLdD c sd imm sa s
  | .ldBu c sd imm sa => Sys2Proof.Machine.execLdBu c sd imm sa s
  | .ldHu c sd imm sa => Sys2Proof.Machine.execLdHu c sd imm sa s
  | .ldWu c sd imm sa => Sys2Proof.Machine.execLdWu c sd imm sa s
  | .stB c ss imm sa => Sys2Proof.Machine.execStB c ss imm sa s
  | .stH c ss imm sa => Sys2Proof.Machine.execStH c ss imm sa s
  | .stW c ss imm sa => Sys2Proof.Machine.execStW c ss imm sa s
  | .stD c ss imm sa => Sys2Proof.Machine.execStD c ss imm sa s
  | .beq c sa sb imm => Sys2Proof.Machine.execBeq c sa sb imm s
  | .bne c sa sb imm => Sys2Proof.Machine.execBne c sa sb imm s
  | .blt c sa sb imm => Sys2Proof.Machine.execBlt c sa sb imm s
  | .bge c sa sb imm => Sys2Proof.Machine.execBge c sa sb imm s
  | .jal c sd imm => Sys2Proof.Machine.execJal c sd imm s
  | .jr c sa => Sys2Proof.Machine.execJr c sa s
  | .csrr c sd csr => Sys2Proof.Machine.execCsrr c sd csr s
  | .csrw c csr ss => Sys2Proof.Machine.execCsrw c csr ss s
  | .tqPush c ss => Sys2Proof.Machine.execTqPush c ss s
  | .tqPop c sd => Sys2Proof.Machine.execTqPop c sd s
  | .excRet c ss => Sys2Proof.Machine.execExcRet c ss s
  | .fence c => Sys2Proof.Machine.execFence c s
  | .fenceCp c => Sys2Proof.Machine.execFenceCp c s
  | .trap c => Sys2Proof.Machine.execTrap c s
  | .halt c => Sys2Proof.Machine.execHalt c s
  | .imswap c entry => Sys2Proof.Machine.execImswap c entry s
  | .imswapB c entry => Sys2Proof.Machine.execImswapB c entry s
  | .semp c sa sb => Sys2Proof.Machine.execSemp c sa sb s
  | .semw c sa sb => Sys2Proof.Machine.execSemw c sa sb s
  | .bellw c sd => Sys2Proof.Machine.execBellw c sd s
  | .tld c q sh ss si => Sys2Proof.Machine.execTld c q sh ss si s
  | .tldT c q sh ss si both => Sys2Proof.Machine.execTldT c q sh ss si both s
  | .tldS c q sh ss si => Sys2Proof.Machine.execTldS c q sh ss si s
  | .sequencedTld c q sh ss si flags => Sys2Proof.Machine.execSequencedTld c q sh ss si flags s
  | .pld c q sl se ss => Sys2Proof.Machine.execPld c q sl se ss s
  | .vld c q sh ss si => Sys2Proof.Machine.execVld c q sh ss si s
  | .tst c q sh ss si => Sys2Proof.Machine.execTst c q sh ss si s
  | .vst c q sh ss si => Sys2Proof.Machine.execVst c q sh ss si s
  | .get c sm sh sr => Sys2Proof.Machine.execGet c sm sh sr s
  | .put c sm sh sr => Sys2Proof.Machine.execPut c sm sh sr s
  | .mmaH4 c bank qa pa qb pb init => Sys2Proof.Machine.execMmaH4 c bank qa pa qb pb init s
  | .mmaH48 c bank qa pa qb pb init => Sys2Proof.Machine.execMmaH48 c bank qa pa qb pb init s
  | .mmaH8 c bank qa pa qb pb init => Sys2Proof.Machine.execMmaH8 c bank qa pa qb pb init s
  | .mmw c bank qa pa qb pb init => Sys2Proof.Machine.execMmw c bank qa pa qb pb init s
  | .mdrain c bank => Sys2Proof.Machine.execMdrain c bank s
  | .trel c q => Sys2Proof.Machine.execTrel c q s
  | .tcfg c tile q tag => Sys2Proof.Machine.execTcfg c tile q tag s
  | .vopAdd c ty vd sa sb bad => Sys2Proof.Machine.execVopAdd c ty vd sa sb bad s
  | .vopSub c ty vd sa sb bad => Sys2Proof.Machine.execVopSub c ty vd sa sb bad s
  | .vopMul c ty vd sa sb bad => Sys2Proof.Machine.execVopMul c ty vd sa sb bad s
  | .vopFma c ty vd sa sb bad => Sys2Proof.Machine.execVopFma c ty vd sa sb bad s
  | .vopMin c ty vd sa sb => Sys2Proof.Machine.execVopMin c ty vd sa sb s
  | .vopMax c ty vd sa sb => Sys2Proof.Machine.execVopMax c ty vd sa sb s
  | .vopAnd c ty vd sa sb => Sys2Proof.Machine.execVopAnd c ty vd sa sb s
  | .vopOr c ty vd sa sb => Sys2Proof.Machine.execVopOr c ty vd sa sb s
  | .vopXor c ty vd sa sb => Sys2Proof.Machine.execVopXor c ty vd sa sb s
  | .vopShl c ty vd sa sb => Sys2Proof.Machine.execVopShl c ty vd sa sb s
  | .vopShr c ty vd sa sb => Sys2Proof.Machine.execVopShr c ty vd sa sb s
  | .vopMov c ty vd sa sb => Sys2Proof.Machine.execVopMov c ty vd sa sb s
  | .vopCvt c ty vd sa sb => Sys2Proof.Machine.execVopCvt c ty vd sa sb s
  | .vopBcast c ty vd sa sb => Sys2Proof.Machine.execVopBcast c ty vd sa sb s
  | .vaddm c vd sa sb rq bad => Sys2Proof.Machine.execVaddm c vd sa sb rq bad s
  | .vsubm c vd sa sb rq bad => Sys2Proof.Machine.execVsubm c vd sa sb rq bad s
  | .vmulm c vd sa sb rq bad => Sys2Proof.Machine.execVmulm c vd sa sb rq bad s
  | .vredRowAdd c vd qs pop rq => Sys2Proof.Machine.execVredRowAdd c vd qs pop rq s
  | .vredRowMax c vd qs pop rq => Sys2Proof.Machine.execVredRowMax c vd qs pop rq s
  | .vredRowMin c vd qs pop rq => Sys2Proof.Machine.execVredRowMin c vd qs pop rq s
  | .vredRowAddm c vd qs pop rq => Sys2Proof.Machine.execVredRowAddm c vd qs pop rq s
  | .vredColAdd c vd qs pop rq => Sys2Proof.Machine.execVredColAdd c vd qs pop rq s
  | .vredColMax c vd qs pop rq => Sys2Proof.Machine.execVredColMax c vd qs pop rq s
  | .vredColMin c vd qs pop rq => Sys2Proof.Machine.execVredColMin c vd qs pop rq s
  | .vredColAddm c vd qs pop rq => Sys2Proof.Machine.execVredColAddm c vd qs pop rq s
  | .eprg c prog qs pop qd => Sys2Proof.Machine.execEprg c prog qs pop qd s
  | .vpop c vd q => Sys2Proof.Machine.execVpop c vd q s
  | .vpush c q va => Sys2Proof.Machine.execVpush c q va s
  | .taskStart slot => Sys2Proof.Machine.execTaskStart slot s
  | .queueWaitEnd slot st => Sys2Proof.Machine.execQueueWaitEnd slot st s
  | .loadPush slot q => Sys2Proof.Machine.execLoadPush slot q s
  | .tileStoreComplete slot => Sys2Proof.Machine.execTileStoreComplete slot s
  | .trelRelease slot => Sys2Proof.Machine.execTrelRelease slot s
  | .tcfgApply slot => Sys2Proof.Machine.execTcfgApply slot s
  | .mdrainPush slot => Sys2Proof.Machine.execMdrainPush slot s
  | .arrayOpStart slot => Sys2Proof.Machine.execArrayOpStart slot s
  | .arrayOpComplete slot bad => Sys2Proof.Machine.execArrayOpComplete slot bad s
  | .marverOpStart slot => Sys2Proof.Machine.execMarverOpStart slot s
  | .marverOpComplete slot bad => Sys2Proof.Machine.execMarverOpComplete slot bad s
  | .checkpointRetire slot => Sys2Proof.Machine.execCheckpointRetire slot s
  | .postedOpComplete slot st => Sys2Proof.Machine.execPostedOpComplete slot st s
  | .queueWaitTimeout slot st => Sys2Proof.Machine.execQueueWaitTimeout slot st s
  | .towerStop slot => Sys2Proof.Machine.execTowerStop slot s
  | .imswapSwap slot => Sys2Proof.Machine.execImswapSwap slot s
  | .countBreak slot st => Sys2Proof.Machine.execCountBreak slot st s
  | .tagBreak slot st tag => Sys2Proof.Machine.execTagBreak slot st tag s
  | .imLoadComplete slot => Sys2Proof.Machine.execImLoadComplete slot s
  | .epBuildCopy actor slot prog gen => Sys2Proof.Machine.execEpBuildCopy actor slot prog gen s
  | .epBuildGenerate actor slot prog gen => Sys2Proof.Machine.execEpBuildGenerate actor slot prog gen s
  | .epBuildComplete slot prog => Sys2Proof.Machine.execEpBuildComplete slot prog s
  | .seqArm actor slot k => Sys2Proof.Machine.execSeqArm actor slot k s
  | .seqAbandon actor slot k => Sys2Proof.Machine.execSeqAbandon actor slot k s
  | .bankPowerTransitionEnd slot bank => Sys2Proof.Machine.execBankPowerTransitionEnd slot bank s
  | .scrub actor unit banks lo hi => Sys2Proof.Machine.execScrub actor unit banks lo hi s
  | .scrubComplete unit => Sys2Proof.Machine.execScrubComplete unit s
  | .tmPatrol unit row => Sys2Proof.Machine.execTmPatrol unit row s
  | .remoteWritePacket dst src sender node gen data => Sys2Proof.Machine.execRemoteWritePacket dst src sender node gen data s
  | .creditRequest unit src units => Sys2Proof.Machine.execCreditRequest unit src units s
  | .remoteWriteDone unit => Sys2Proof.Machine.execRemoteWriteDone unit s
  | .descCreate o region desc => Sys2Proof.Machine.execDescCreate o region desc s
  | .descFree o handle => Sys2Proof.Machine.execDescFree o handle s
  | .descFreeComplete spire index => Sys2Proof.Machine.execDescFreeComplete spire index s
  | .accept o handle n => Sys2Proof.Machine.execAccept o handle n s
  | .reject o handle => Sys2Proof.Machine.execReject o handle s
  | .kvLengthApply spire index => Sys2Proof.Machine.execKvLengthApply spire index s
  | .seqMove o nest dst nbuf cls group semFull semEmpty bstride => Sys2Proof.Machine.execSeqMove o nest dst nbuf cls group semFull semEmpty bstride s
  | .streamSegment spire ch => Sys2Proof.Machine.execStreamSegment spire ch s
  | .gridPointComplete spire ch => Sys2Proof.Machine.execGridPointComplete spire ch s
  | .prefetchConfirm o mask => Sys2Proof.Machine.execPrefetchConfirm o mask s
  | .prefetchDrop o mask => Sys2Proof.Machine.execPrefetchDrop o mask s
  | .specGroupTimeout spire group => Sys2Proof.Machine.execSpecGroupTimeout spire group s
  | .nop o => Sys2Proof.Machine.execNop o s
  | .fenceCommand o scope => Sys2Proof.Machine.execFenceCommand o scope s
  | .semPost o target count => Sys2Proof.Machine.execSemPost o target count s
  | .semWait o sem count timeout => Sys2Proof.Machine.execSemWait o sem count timeout s
  | .listCmd o dpa count => Sys2Proof.Machine.execListCmd o dpa count s
  | .regw o pairs => Sys2Proof.Machine.execRegw o pairs s
  | .move o src dst len => Sys2Proof.Machine.execMove o src dst len s
  | .peerMove o src port node dst gen len => Sys2Proof.Machine.execPeerMove o src port node dst gen len s
  | .imLoad o towers bank src words => Sys2Proof.Machine.execImLoad o towers bank src words s
  | .epLoad o towers prog src => Sys2Proof.Machine.execEpLoad o towers prog src s
  | .launch o towers aEntry xEntry bank on ret args => Sys2Proof.Machine.execLaunch o towers aEntry xEntry bank on ret args s
  | .stop o towers => Sys2Proof.Machine.execStop o towers s
  | .resume o towers => Sys2Proof.Machine.execResume o towers s
  | .collAllReduce o g => Sys2Proof.Machine.execCollAllReduce o g s
  | .collAllGather o g => Sys2Proof.Machine.execCollAllGather o g s
  | .collReduceScatter o g => Sys2Proof.Machine.execCollReduceScatter o g s
  | .btabLoad o src first count => Sys2Proof.Machine.execBtabLoad o src first count s
  | .sessOpen o index pset auto region floor defer scratch0 scratch1 key => Sys2Proof.Machine.execSessOpen o index pset auto region floor defer scratch0 scratch1 key s
  | .sessBind o index manifest len comp => Sys2Proof.Machine.execSessBind o index manifest len comp s
  | .sessPolicy o index floor auto defer => Sys2Proof.Machine.execSessPolicy o index floor auto defer s
  | .sessClose o index => Sys2Proof.Machine.execSessClose o index s
  | .sessQuery o index dst => Sys2Proof.Machine.execSessQuery o index dst s
  | .keyPageIn o index page => Sys2Proof.Machine.execKeyPageIn o index page s
  | .keyPageOut o index page => Sys2Proof.Machine.execKeyPageOut o index page s
  | .psetLoad o src slot => Sys2Proof.Machine.execPsetLoad o src slot s
  | .regionSet o index base limit => Sys2Proof.Machine.execRegionSet o index base limit s
  | .bandClass o band cls => Sys2Proof.Machine.execBandClass o band cls s
  | .hadd o g => Sys2Proof.Machine.execHadd o g s
  | .hsub o g => Sys2Proof.Machine.execHsub o g s
  | .hneg o g => Sys2Proof.Machine.execHneg o g s
  | .padd o g => Sys2Proof.Machine.execPadd o g s
  | .cmul o g => Sys2Proof.Machine.execCmul o g s
  | .pmul o g => Sys2Proof.Machine.execPmul o g s
  | .hmul o g => Sys2Proof.Machine.execHmul o g s
  | .hmul3 o g => Sys2Proof.Machine.execHmul3 o g s
  | .relin o g => Sys2Proof.Machine.execRelin o g s
  | .rescale o g => Sys2Proof.Machine.execRescale o g s
  | .rotate o g => Sys2Proof.Machine.execRotate o g s
  | .conj o g => Sys2Proof.Machine.execConj o g s
  | .leveldown o g => Sys2Proof.Machine.execLeveldown o g s
  | .ntt o g => Sys2Proof.Machine.execNtt o g s
  | .intt o g => Sys2Proof.Machine.execIntt o g s
  | .anneal o g => Sys2Proof.Machine.execAnneal o g s
  | .sealOpStart spire op => Sys2Proof.Machine.execSealOpStart spire op s
  | .sealOpComplete spire op bad => Sys2Proof.Machine.execSealOpComplete spire op bad s
  | .annealSliceStart spire op pages ksws lo hi => Sys2Proof.Machine.execAnnealSliceStart spire op pages ksws lo hi s
  | .annealSliceEnd spire op cts => Sys2Proof.Machine.execAnnealSliceEnd spire op cts s
  | .annealSliceRestart spire op bad => Sys2Proof.Machine.execAnnealSliceRestart spire op bad s
  | .psetBuildComplete spire slot ok => Sys2Proof.Machine.execPsetBuildComplete spire slot ok s
  | .bindVerifyComplete index resmap => Sys2Proof.Machine.execBindVerifyComplete index resmap s
  | .keyPageDigestDone index page => Sys2Proof.Machine.execKeyPageDigestDone index page s
  | .keyDeferTimeout spire op => Sys2Proof.Machine.execKeyDeferTimeout spire op s
  | .sessCloseRelease index => Sys2Proof.Machine.execSessCloseRelease index s
  | .tailLineInvalidate spire ring tail ccons => Sys2Proof.Machine.execTailLineInvalidate spire ring tail ccons s
  | .ringFetch spire ring => Sys2Proof.Machine.execRingFetch spire ring s
  | .commandStart spire ring entry => Sys2Proof.Machine.execCommandStart spire ring entry s
  | .completionRingRoom spire ring => Sys2Proof.Machine.execCompletionRingRoom spire ring s
  | .ringResume actor spire ring => Sys2Proof.Machine.execRingResume actor spire ring s
  | .semWaitGrant spire sem => Sys2Proof.Machine.execSemWaitGrant spire sem s
  | .semWaitTimeout spire sem => Sys2Proof.Machine.execSemWaitTimeout spire sem s
  | .semCountWrite actor spire sem n => Sys2Proof.Machine.execSemCountWrite actor spire sem n s
  | .semPostWrite actor spire sem n => Sys2Proof.Machine.execSemPostWrite actor spire sem n s
  | .remoteSemPost spire src sender node sem n => Sys2Proof.Machine.execRemoteSemPost spire src sender node sem n s
  | .bell bad => Sys2Proof.Machine.execBell bad s
  | .bellSyncEdge => Sys2Proof.Machine.execBellSyncEdge s
  | .bellFrame port frame => Sys2Proof.Machine.execBellFrame port frame s
  | .holdover => Sys2Proof.Machine.execHoldover s
  | .belJoin actor spire => Sys2Proof.Machine.execBelJoin actor spire s
  | .entryStart spire entry => Sys2Proof.Machine.execEntryStart spire entry s
  | .deadline spire entry => Sys2Proof.Machine.execDeadline spire entry s
  | .entryEnd spire entry => Sys2Proof.Machine.execEntryEnd spire entry s
  | .hbmPatrolRow stack => Sys2Proof.Machine.execHbmPatrolRow stack s
  | .wcbAgeWriteout spire => Sys2Proof.Machine.execWcbAgeWriteout spire s
  | .carillonSourceEvent car src => Sys2Proof.Machine.execCarillonSourceEvent car src s
  | .carPendSet actor car w bits => Sys2Proof.Machine.execCarPendSet actor car w bits s
  | .carPendClr actor car w bits => Sys2Proof.Machine.execCarPendClr actor car w bits s
  | .carClaim actor car target => Sys2Proof.Machine.execCarClaim actor car target s
  | .carComplete actor car target src => Sys2Proof.Machine.execCarComplete actor car target src s
  | .holdoffExpiry car group => Sys2Proof.Machine.execHoldoffExpiry car group s
  | .carMessage car => Sys2Proof.Machine.execCarMessage car s
  | .alxFlitCrcFail again => Sys2Proof.Machine.execAlxFlitCrcFail again s
  | .alxLaneFail width => Sys2Proof.Machine.execAlxLaneFail width s
  | .alxRetrain actor => Sys2Proof.Machine.execAlxRetrain actor s
  | .alxRetrainDone width => Sys2Proof.Machine.execAlxRetrainDone width s
  | .alxRecoveryTimeout => Sys2Proof.Machine.execAlxRecoveryTimeout s
  | .alxAuthFail => Sys2Proof.Machine.execAlxAuthFail s
  | .keyExhausted dir => Sys2Proof.Machine.execKeyExhausted dir s
  | .apertureRead offset len => Sys2Proof.Machine.execApertureRead offset len s
  | .apertureWrite offset data => Sys2Proof.Machine.execApertureWrite offset data s
  | .butFlitCrcFail port again => Sys2Proof.Machine.execButFlitCrcFail port again s
  | .packetForward port dst src ours => Sys2Proof.Machine.execPacketForward port dst src ours s
  | .writeAck port bytes fault => Sys2Proof.Machine.execWriteAck port bytes fault s
  | .creditGrant port units => Sys2Proof.Machine.execCreditGrant port units s
  | .creditRetry port => Sys2Proof.Machine.execCreditRetry port s
  | .creditTimeout port => Sys2Proof.Machine.execCreditTimeout port s
  | .linkDelayEcho port delay => Sys2Proof.Machine.execLinkDelayEcho port delay s
  | .butLaneFail port lane => Sys2Proof.Machine.execButLaneFail port lane s
  | .butPortDown port => Sys2Proof.Machine.execButPortDown port s
  | .collStep spire op data bad => Sys2Proof.Machine.execCollStep spire op data bad s
  | .collAbortReceived spire op port code => Sys2Proof.Machine.execCollAbortReceived spire op port code s
  | .collPartnerTimeout spire op => Sys2Proof.Machine.execCollPartnerTimeout spire op s
  | .fuseAdvanceLifecycle actor state => Sys2Proof.Machine.execFuseAdvanceLifecycle actor state s
  | .fuseAdvanceRollback actor => Sys2Proof.Machine.execFuseAdvanceRollback actor s
  | .fuseWriteField actor field word data => Sys2Proof.Machine.execFuseWriteField actor field word data s
  | .fuseProgDone => Sys2Proof.Machine.execFuseProgDone s
  | .bootRom spiErr => Sys2Proof.Machine.execBootRom spiErr s
  | .ed448Verify o p => Sys2Proof.Machine.execEd448Verify o p s
  | .ed448Sign o p => Sys2Proof.Machine.execEd448Sign o p s
  | .x448Keygen o p => Sys2Proof.Machine.execX448Keygen o p s
  | .x448 o p => Sys2Proof.Machine.execX448 o p s
  | .p384Keygen o p => Sys2Proof.Machine.execP384Keygen o p s
  | .p384Sign o p => Sys2Proof.Machine.execP384Sign o p s
  | .p384Verify o p => Sys2Proof.Machine.execP384Verify o p s
  | .rsaVerify o p => Sys2Proof.Machine.execRsaVerify o p s
  | .keyClear o p => Sys2Proof.Machine.execKeyClear o p s
  | .attest o p => Sys2Proof.Machine.execAttest o p s
  | .validate o p => Sys2Proof.Machine.execValidate o p s
  | .measureExtend o p => Sys2Proof.Machine.execMeasureExtend o p s
  | .pkeValidationEnd engine => Sys2Proof.Machine.execPkeValidationEnd engine s
  | .pkeComplete engine selfTest => Sys2Proof.Machine.execPkeComplete engine selfTest s
  | .pkeAbort actor engine => Sys2Proof.Machine.execPkeAbort actor engine s
  | .pkeOpmemClr actor engine => Sys2Proof.Machine.execPkeOpmemClr actor engine s
  | .lockstepMismatch => Sys2Proof.Machine.execLockstepMismatch s
  | .towerReplace slot => Sys2Proof.Machine.execTowerReplace slot s
  | .tmRowRepair slot row => Sys2Proof.Machine.execTmRowRepair slot row s
  | .galleryBankRepair spire bank => Sys2Proof.Machine.execGalleryBankRepair spire bank s
  | .expanderRepair spire expander => Sys2Proof.Machine.execExpanderRepair spire expander s
  | .pkeSpare engine => Sys2Proof.Machine.execPkeSpare engine s
  | .spireRetire spire => Sys2Proof.Machine.execSpireRetire spire s
  | .wearSample spire group margins => Sys2Proof.Machine.execWearSample spire group margins s
  | .idleStateEntry unit => Sys2Proof.Machine.execIdleStateEntry unit s
  | .unitWake unit => Sys2Proof.Machine.execUnitWake unit s
  | .powerSample avg1s avg10ms => Sys2Proof.Machine.execPowerSample avg1s avg10ms s
  | .throttleStep spire temp => Sys2Proof.Machine.execThrottleStep spire temp s
  | .throttleRecoveryStep spire temp => Sys2Proof.Machine.execThrottleRecoveryStep spire temp s
  | .thermalTrip => Sys2Proof.Machine.execThermalTrip s
  | .flowOkFall => Sys2Proof.Machine.execFlowOkFall s
  | .flowOkRise => Sys2Proof.Machine.execFlowOkRise s
  | .railLoss spire => Sys2Proof.Machine.execRailLoss spire s
  | .resetAssert => Sys2Proof.Machine.execResetAssert s
  | .resetRelease trained => Sys2Proof.Machine.execResetRelease trained s
  | .pwrOkFall => Sys2Proof.Machine.execPwrOkFall s
  | .refclkLoss clock => Sys2Proof.Machine.execRefclkLoss clock s
  | .butPortUp port node lanes => Sys2Proof.Machine.execButPortUp port node lanes s
  | .butLossOfLock port => Sys2Proof.Machine.execButLossOfLock port s
  | .entropyHealthFail => Sys2Proof.Machine.execEntropyHealthFail s
  | .hasherJobComplete => Sys2Proof.Machine.execHasherJobComplete s
  | .spiFlashOpComplete => Sys2Proof.Machine.execSpiFlashOpComplete s
  | .i3cManagementTransaction addr write => Sys2Proof.Machine.execI3cManagementTransaction addr write s
  | .jtagTapAccess ir => Sys2Proof.Machine.execJtagTapAccess ir s

end Sys2Proof.Machine
end

