-- ==== Sys2Proof/Machine/Step.lean ====
section
/-!
DEFINITION. One step: the command at the front of the queue takes effect with the queue's rest; on an empty queue the
block idles (DESIGN CHOICE, log 2).
-/
namespace Sys2Proof.Machine

/-- One step of the block (DESIGN CHOICE, log 1; DESIGN CHOICE, log 2) (DESIGN CHOICE, log 88). -/
def step (s : State) : Host.Outcome State Fault Refusal :=
  match s.pending with
  | [] => .next s
  | c :: rest => exec c { s with pending := rest }

/-- The state with the command that a word spells put at the front of the queue. The opcode table gives no bits, so no
word spells one (DESIGN CHOICE, log 1). -/
def State.withFetchWord (s : State) (nbits w : Nat) : State :=
  match Sys2Proof.decodeTableWord nbits w with
  | none => s
  | some c => { s with pending := c :: s.pending }

end Sys2Proof.Machine
end

