-- ==== Sys2Proof/Safety.lean ====
section
/-!
DEFINITION. What counts as a safe state, and the terms in which the claims speak: when an instruction issues, what a
command leaves alone.
-/
namespace Sys2Proof.Machine

/-! ### Safe states -/

/-- A priority stack, top first: every entry's priority is a 4-bit number above that of the entry beneath (R386, R387). -/
def StackOk (l : List (Nat × Nat)) : Prop := l.Pairwise (fun a b => b.2 < a.2) ∧ ∀ e ∈ l, e.2 ≤ 15

/-- Every priority stack is in order. -/
def State.StacksOk (s : State) : Prop := ∀ k, StackOk (SMap.get (fun _ => []) s.carStacks k)

/-- Every bit set in bank `a` is set in bank `b`. -/
def FuseBank.le (a b : FuseBank) : Prop :=
  a.lifecycle &&& b.lifecycle = a.lifecycle ∧ a.secret &&& b.secret = a.secret ∧ a.serial &&& b.serial = a.serial ∧
    a.fwkey &&& b.fwkey = a.fwkey ∧ a.rollback &&& b.rollback = a.rollback ∧ a.debugBits &&& b.debugBits = a.debugBits ∧
    a.port &&& b.port = a.port ∧ a.cullet &&& b.cullet = a.cullet

/-- The bank that a request in progress leads to clears no bit (R421). -/
def State.FusesOk (s : State) : Prop := ∀ b, s.fuseJob = some b → s.fuses.le b

/-- A safe state. -/
def State.Safe (s : State) : Prop := s.StacksOk ∧ s.FusesOk

/-- Every memory stands in its canonical form: addresses strictly rising, and no byte listed that reads as an unlisted one
does. -/
abbrev Memory.wf (s : State) : Prop :=
  SMap.WF (fun _ => (0 : Byte)) s.hbm ∧ SMap.WF (fun _ => (0 : Byte)) s.gallery ∧ SMap.WF (fun _ => (0 : Byte)) s.tmem ∧
    SMap.WF (fun _ => (0 : Byte)) s.companion ∧ SMap.WF (fun _ => (0 : Byte)) s.flash

/-! ### Instructions -/

/-- The stream of an instruction. -/
abbrev State.strm (s : State) (c : Issue) : StreamState := (s.tower c.slot.val).stream c.stream

/-- The stream runs, no break is due, the word is in order, and nothing gates the instruction (R148, R151, R166, R201,
R202): it issues. -/
abbrev State.Ready (s : State) (c : Issue) (xy : Bool) (gate : Gate) : Prop :=
  (s.strm c).run = .running ∧ s.breakFree c = true ∧ badWord c (s.pcOf c) xy = false ∧
    (match c.stream with
      | .a => gate.a && (s.tower c.slot.val).aGated
      | .x => gate.x && !(s.tower c.slot.val).ops.isEmpty) = false

/-- Nothing but the Towers differs, and of the Towers only that of slot `g`. -/
abbrev OnlyTower (g : Nat) (s t : State) : Prop :=
  { t with towers := s.towers } = s ∧ ∀ h, h ≠ g → t.tower h = s.tower h

/-- Of a Tower only one stream's registers differ. -/
abbrev OnlyStream (st : Stream) (t u : Tower) : Prop := u = t.setStream st (u.stream st)

/-- The stream has gone on to address `pc` and counts one more instruction; only its scalar registers may differ
beside (R168, R200). -/
abbrev WentTo (pc : BitVec 17) (r r' : StreamState) : Prop :=
  r' = { r with pc := pc, icount := r.icount + 1, wait := none, tagPassed := false, regs := r'.regs }

/-- Register `n` reads as `v` afterwards, or as zero when it is s0, and every other register as before (R128). -/
abbrev WroteReg (n : BitVec 5) (v : Word) (r r' : StreamState) : Prop :=
  ∀ m, r'.sreg m = if m = n.toNat then (if n = 0 then 0 else v) else r.sreg m

/-- No register differs. -/
abbrev SameRegs (r r' : StreamState) : Prop := ∀ m, r'.sreg m = r.sreg m

/-- An instruction that only writes scalar register `n`: the whole of what it changes. -/
abbrev Computes (c : Issue) (n : BitVec 5) (v : Word) (s t : State) : Prop :=
  WentTo (nextPc c (s.pcOf c)) (s.strm c) (t.strm c) ∧ WroteReg n v (s.strm c) (t.strm c) ∧
    OnlyTower c.slot.val s t ∧ OnlyStream c.stream (s.tower c.slot.val) (t.tower c.slot.val)

/-- An instruction that only goes to an address: the whole of what it changes. -/
abbrev GoesTo (c : Issue) (pc : BitVec 17) (s t : State) : Prop :=
  WentTo pc (s.strm c) (t.strm c) ∧ SameRegs (s.strm c) (t.strm c) ∧
    OnlyTower c.slot.val s t ∧ OnlyStream c.stream (s.tower c.slot.val) (t.tower c.slot.val)

/-- The stream waits at the instruction `i`, which has raised no fault (R134, R150, R151). -/
abbrev WaitsAt (i : Instr) (r : StreamState) : Prop :=
  r.run = .waiting ∧ ∃ w, r.wait = some w ∧ w.instr = i ∧ w.fault = none

/-- What a descriptor fetch by user `u` may change (R250, R110, R111): its cache, its count of misses, the count of corrected
codewords of the Gallery it reads and, for an uncorrectable codeword of the group, the report to the Spire controller. -/
abbrev Fetched (u : DescUser) (s t : State) : Prop :=
  { t with
    towers := s.towers, sdeCache := s.sdeCache, ctl := s.ctl, faultsSpire := s.faultsSpire, lostFrom := s.lostFrom,
    free := s.free } = s ∧
  (∀ h, { t.tower h with dcache := (s.tower h).dcache } = s.tower h) ∧
  (∀ h, u ≠ .loader h → t.tower h = s.tower h) ∧
  (∀ k, u ≠ .sde k → SMap.get (fun _ => []) t.sdeCache k = SMap.get (fun _ => []) s.sdeCache k) ∧
  (∀ x, x ≠ u.misses → x ≠ Reg.sprGalCe u.spire → (∀ i < 16, x ≠ Reg.carPendSet u.spire i) → t.reg x = s.reg x)

/-- A load of queue `q` fits: the queue has tiles, the tile at its tail is EMPTY with the tag that the tensor's format
loads into, and in block formats start and limit are whole blocks (R135, R141, R182). -/
abbrev State.LoadFits (s : State) (c : Issue) (q : Nat) (desc : List Byte) (p : Place) (limit : Nat) : Prop :=
  let t := s.tower c.slot.val
  let v := t.tile (t.tailTile q)
  t.ringTiles q ≠ [] ∧ v.state = .empty ∧ v.tag = loadTag (parseDesc desc).fmt ∧
    (isBlockFmt v.tag = true → limit % 64 = 0 ∧ p.si % 64 = 0)

/-- A tile load is in flight (R135, R182): the whole of what its issue changes once its descriptor has been fetched. -/
abbrev LoadBegins (c : Issue) (q h : Nat) (desc : List Byte) (shape : LoadShape) (p : Place) (s t : State) : Prop :=
  let g := c.slot.val
  let k := (s.tower g).tailTile q
  (∃ l, (t.tower g).loads = (s.tower g).loads ++ [l] ∧ l.shape = shape ∧ l.h = BitVec.ofNat 32 h ∧ l.desc = desc ∧
    l.at_ = p ∧ l.q = q ∧ l.tile = k) ∧
  ((t.tower g).tile k).state = .filling ∧ (∀ j, j ≠ k → (t.tower g).tile j = (s.tower g).tile j) ∧
  WentTo (nextPc c (s.pcOf c)) (s.strm c) (t.strm c) ∧ SameRegs (s.strm c) (t.strm c) ∧
  (∀ x, x ≠ g → t.tower x = s.tower x) ∧
  (∀ x, x ≠ Reg.twrSeqSkip g → t.reg x = s.reg x) ∧
  { t with ctl := s.ctl, towers := s.towers } = s

/-- A vector instruction writes v register `vd` and nothing else: `u` is the Tower once its operands are read. -/
abbrev VectorWrites (c : Issue) (vd : BitVec 5) (u : Tower) (s t : State) : Prop :=
  WentTo (nextPc c (s.pcOf c)) (s.strm c) (t.strm c) ∧ SameRegs (s.strm c) (t.strm c) ∧
  (∀ n, n ≠ vd.toNat → (t.tower c.slot.val).vreg n = (s.tower c.slot.val).vreg n) ∧
  OnlyTower c.slot.val s { t with free := s.free } ∧ OnlyStream .x u { t.tower c.slot.val with vregs := u.vregs }

/-- The state in which an instruction that waited issues once more (R134). -/
abbrev State.woken (s : State) (c : Issue) : State :=
  s.modStream c.slot.val c.stream (fun r => { r with run := .running })

/-! ### Commands of rings -/

/-- A command whose completion is its record alone (R319, R327): on a ring, in no LIST, without a post and without NOCOMP,
with room for the record in a completion ring in companion memory, and with no FENCE command in progress. -/
abbrev State.Alone (s : State) (o : Origin) : Prop :=
  o.entry = none ∧ o.lidx = 0xFFFF ∧ o.post = none ∧ o.nocomp = false ∧ s.fences = 0 ∧
    s.compRoom o.spire.val o.ring.val 1 = true ∧ 2 ^ 47 ≤ s.reg (Reg.sprRingCompBase o.spire.val o.ring.val)

/-- From `u` to `t` a sealed sequence has begun to work in the named banks of its Towers: of their memory only those banks
differ, and nothing else but the list of sealed commands (R272, R306). -/
abbrev UsesBanks (sp : Nat) (towers : BitVec 16) (u t : State) : Prop :=
  { t with seals := u.seals, tmem := u.tmem, ramErr := u.ramErr, free := u.free } = u ∧
  ∀ x, (∀ g ∈ u.slotsOf sp towers, ¬ (g * towerSize ≤ x ∧ x < (g + 1) * towerSize ∧
      (u.sealBanks sp).getLsbD ((x - g * towerSize) / 256 % 64) = true)) →
    SMap.get (fun _ => 0) t.tmem x = SMap.get (fun _ => 0) u.tmem x

/-- A byte of companion memory. -/
abbrev State.compByte (s : State) (a : Nat) : Byte := SMap.get (fun _ => 0) s.companion a

/-- The 32 bytes of a record without fault (R327): code 0, VALID, PHASE, INTR, the ring, opcode, command number, list index,
TAG, bell and RESULT. -/
def State.plainRecord (s : State) (o : Origin) (opcode : Nat) (result : List Byte) : List Byte :=
  let q := s.ring o.spire.val o.ring.val
  let n := s.compEntries o.spire.val o.ring.val
  [0x00, BitVec.ofNat 8 (0x80 + (q.compPos / n + 1) % 2 * 32 + ofBool o.intr * 16),
    BitVec.ofNat 8 (16 * o.spire.val + o.ring.val), BitVec.ofNat 8 opcode] ++ leBytes 4 o.cseq.toNat ++
    leBytes 2 o.lidx.toNat ++ leBytes 2 o.tag.toNat ++ leBytes 8 s.bellNum ++ (result ++ List.replicate 12 0).take 12

/-- From `u` to `t` a command has completed alone and without fault, and nothing else has happened: its record stands at
the next place of the completion ring, it no longer runs, and INTR has raised the ring's source (R318, R319, R327). -/
abbrev Recorded (o : Origin) (opcode : Nat) (result : List Byte) (u t : State) : Prop :=
  let sp := o.spire.val
  let r := o.ring.val
  let q := u.ring sp r
  let at_ := u.reg (Reg.sprRingCompBase sp r) + 32 * (q.compPos % u.compEntries sp r) - 2 ^ 47
  (∀ j, t.compByte j = if at_ ≤ j ∧ j < at_ + 32 then (u.plainRecord o opcode result).getD (j - at_) 0 else u.compByte j) ∧
  t.ring sp r = { q with compPos := q.compPos + 1 } ∧
  (∀ sp' r', r' < 16 → (sp', r') ≠ (sp, r) → t.ring sp' r' = u.ring sp' r') ∧
  t.runq (runKey o) = { u.runq (runKey o) with running := (u.runq (runKey o)).running.filter (fun e => !sameCmd e.o o) } ∧
  (∀ k, k ≠ runKey o → t.runq k = u.runq k) ∧
  (∀ a, t.reg a = if o.intr = true ∧ a = Reg.carPendSet sp 0 then u.reg a ||| 1 <<< r else u.reg a) ∧
  { t with ctl := u.ctl, companion := u.companion, rings := u.rings, runs := u.runs } = u

/-- A byte of the scalar data memory of a Tower (R130). -/
abbrev Tower.sdmByte (t : Tower) (a : Nat) : Byte := SMap.get (fun _ => 0) t.sdm a

end Sys2Proof.Machine
end

