-- ==== Sys2Proof/WellFormed.lean ====
section
/-!
DEFINITION. The well-formed commands: operands that the spec's own fields can spell. A command that is not well formed
stands for no command of a ring, no instruction word and no access that the spec describes.
-/
namespace Sys2Proof

/-- An access through the data aperture is 1 to 64 bytes and does not cross a 64-byte boundary (R399). -/
def spanOk (offset : Dpa) (n : Nat) : Bool := decide (1 ≤ n ∧ offset.toNat % 64 + n ≤ 64)

/-- FORMAT and COMBINE of a COLL command (R323, R414). -/
def collOk (g : CollArgs) : Bool := decide (g.format.toNat ≤ 2 ∧ g.combine.toNat ≤ 1)

/-- Whether a command is well formed. The token-queue CSRs have rows of their own (R144, R153); bit 9 of X makes a TLD a
sequenced one (R239); the operands of ring commands keep to the ranges that R321 to R323 state. -/
def Instr.wellFormed : Instr → Bool
  | .registerWrite .. => true
  | .commit .. => true
  | .lock .. => true
  | .decodeErrClear .. => true
  | .culletAssign .. => true
  | .culletSetSpare .. => true
  | .add .. => true
  | .sub .. => true
  | .and_ .. => true
  | .or_ .. => true
  | .xor_ .. => true
  | .sll .. => true
  | .srl .. => true
  | .sra .. => true
  | .mul .. => true
  | .mulh .. => true
  | .li .. => true
  | .ldB .. => true
  | .ldH .. => true
  | .ldW .. => true
  | .ldD .. => true
  | .ldBu .. => true
  | .ldHu .. => true
  | .ldWu .. => true
  | .stB .. => true
  | .stH .. => true
  | .stW .. => true
  | .stD .. => true
  | .beq .. => true
  | .bne .. => true
  | .blt .. => true
  | .bge .. => true
  | .jal .. => true
  | .jr .. => true
  | .csrr _ _ csr => csr ≠ 1
  | .csrw _ csr _ => csr ≠ 0 && csr ≠ 2
  | .tqPush .. => true
  | .tqPop .. => true
  | .excRet .. => true
  | .fence .. => true
  | .fenceCp .. => true
  | .trap .. => true
  | .halt .. => true
  | .imswap .. => true
  | .imswapB .. => true
  | .semp .. => true
  | .semw .. => true
  | .bellw .. => true
  | .tld c _ _ _ _ => (match c.long with | some l => !l.x.getLsbD 9 | none => true)
  | .tldT .. => true
  | .tldS .. => true
  | .sequencedTld c _ _ _ _ _ => (match c.long with | some l => l.x.getLsbD 9 | none => false)
  | .pld .. => true
  | .vld .. => true
  | .tst .. => true
  | .vst .. => true
  | .get .. => true
  | .put .. => true
  | .mmaH4 .. => true
  | .mmaH48 .. => true
  | .mmaH8 .. => true
  | .mmw .. => true
  | .mdrain .. => true
  | .trel .. => true
  | .tcfg .. => true
  | .vopAdd .. => true
  | .vopSub .. => true
  | .vopMul .. => true
  | .vopFma .. => true
  | .vopMin .. => true
  | .vopMax .. => true
  | .vopAnd .. => true
  | .vopOr .. => true
  | .vopXor .. => true
  | .vopShl .. => true
  | .vopShr .. => true
  | .vopMov .. => true
  | .vopCvt .. => true
  | .vopBcast .. => true
  | .vaddm .. => true
  | .vsubm .. => true
  | .vmulm .. => true
  | .vredRowAdd .. => true
  | .vredRowMax .. => true
  | .vredRowMin .. => true
  | .vredRowAddm .. => true
  | .vredColAdd .. => true
  | .vredColMax .. => true
  | .vredColMin .. => true
  | .vredColAddm .. => true
  | .eprg .. => true
  | .vpop .. => true
  | .vpush .. => true
  | .taskStart .. => true
  | .queueWaitEnd .. => true
  | .loadPush .. => true
  | .tileStoreComplete .. => true
  | .trelRelease .. => true
  | .tcfgApply .. => true
  | .mdrainPush .. => true
  | .arrayOpStart .. => true
  | .arrayOpComplete .. => true
  | .marverOpStart .. => true
  | .marverOpComplete .. => true
  | .checkpointRetire .. => true
  | .postedOpComplete .. => true
  | .queueWaitTimeout .. => true
  | .towerStop .. => true
  | .imswapSwap .. => true
  | .countBreak .. => true
  | .tagBreak .. => true
  | .imLoadComplete .. => true
  | .epBuildCopy .. => true
  | .epBuildGenerate .. => true
  | .epBuildComplete .. => true
  | .seqArm .. => true
  | .seqAbandon .. => true
  | .bankPowerTransitionEnd .. => true
  | .scrub _ u _ lo hi => (match u with | .tower _ => true | .gallery _ => decide (lo ≤ hi ∧ hi.toNat ≤ 0x800_0000))
  | .scrubComplete .. => true
  | .tmPatrol u row => (match u with | .tower _ => decide (row.toNat < 98304) | .gallery _ => decide (row.toNat < 524288))
  | .remoteWritePacket _ _ _ _ _ data => !data.isEmpty
  | .creditRequest .. => true
  | .remoteWriteDone .. => true
  | .descCreate _ _ desc => desc.length = 64
  | .descFree .. => true
  | .descFreeComplete .. => true
  | .accept .. => true
  | .reject .. => true
  | .kvLengthApply .. => true
  | .seqMove _ nest _ _ cls group semFull semEmpty _ => nest.length = 32 && cls ≠ 3 && (cls ≠ 2 || decide (group.toNat < 64)) && decide (semFull.toNat < 2 ^ 14) && decide (semEmpty.toNat < 2 ^ 12)
  | .streamSegment .. => true
  | .gridPointComplete .. => true
  | .prefetchConfirm .. => true
  | .prefetchDrop .. => true
  | .specGroupTimeout .. => true
  | .nop .. => true
  | .fenceCommand _ scope => decide (scope.toNat ≤ 2)
  | .semPost .. => true
  | .semWait .. => true
  | .listCmd _ dpa count => decide (1 ≤ count.toNat ∧ count.toNat ≤ 4096 ∧ dpa.toNat % 64 = 0)
  | .regw _ pairs => decide (1 ≤ pairs.length ∧ pairs.length ≤ 3)
  | .move .. => true
  | .peerMove .. => true
  | .imLoad _ _ _ _ words => decide (1 ≤ words.toNat ∧ words.toNat ≤ 16384)
  | .epLoad .. => true
  | .launch _ _ _ _ _ _ _ args => args.length = 8
  | .stop .. => true
  | .resume .. => true
  | .collAllReduce _ g => collOk g
  | .collAllGather _ g => collOk g
  | .collReduceScatter _ g => collOk g
  | .btabLoad .. => true
  | .sessOpen _ _ _ _ _ _ _ _ _ key => key.length = 57
  | .sessBind .. => true
  | .sessPolicy .. => true
  | .sessClose .. => true
  | .sessQuery .. => true
  | .keyPageIn .. => true
  | .keyPageOut .. => true
  | .psetLoad .. => true
  | .regionSet .. => true
  | .bandClass _ band cls => decide (band.toNat ≤ 35 ∧ cls.toNat ≤ 3)
  | .hadd .. => true
  | .hsub .. => true
  | .hneg .. => true
  | .padd .. => true
  | .cmul .. => true
  | .pmul .. => true
  | .hmul .. => true
  | .hmul3 .. => true
  | .relin .. => true
  | .rescale .. => true
  | .rotate .. => true
  | .conj .. => true
  | .leveldown .. => true
  | .ntt .. => true
  | .intt .. => true
  | .anneal .. => true
  | .sealOpStart .. => true
  | .sealOpComplete .. => true
  | .annealSliceStart .. => true
  | .annealSliceEnd .. => true
  | .annealSliceRestart .. => true
  | .psetBuildComplete .. => true
  | .bindVerifyComplete .. => true
  | .keyPageDigestDone .. => true
  | .keyDeferTimeout .. => true
  | .sessCloseRelease .. => true
  | .tailLineInvalidate .. => true
  | .ringFetch .. => true
  | .commandStart .. => true
  | .completionRingRoom .. => true
  | .ringResume .. => true
  | .semWaitGrant .. => true
  | .semWaitTimeout .. => true
  | .semCountWrite .. => true
  | .semPostWrite .. => true
  | .remoteSemPost .. => true
  | .bell .. => true
  | .bellSyncEdge => true
  | .bellFrame .. => true
  | .holdover => true
  | .belJoin .. => true
  | .entryStart .. => true
  | .deadline .. => true
  | .entryEnd .. => true
  | .hbmPatrolRow .. => true
  | .wcbAgeWriteout .. => true
  | .carillonSourceEvent .. => true
  | .carPendSet .. => true
  | .carPendClr .. => true
  | .carClaim .. => true
  | .carComplete .. => true
  | .holdoffExpiry .. => true
  | .carMessage .. => true
  | .alxFlitCrcFail .. => true
  | .alxLaneFail .. => true
  | .alxRetrain .. => true
  | .alxRetrainDone .. => true
  | .alxRecoveryTimeout => true
  | .alxAuthFail => true
  | .keyExhausted .. => true
  | .apertureRead offset len => spanOk offset len.toNat
  | .apertureWrite offset data => spanOk offset data.length
  | .butFlitCrcFail .. => true
  | .packetForward .. => true
  | .writeAck .. => true
  | .creditGrant .. => true
  | .creditRetry .. => true
  | .creditTimeout .. => true
  | .linkDelayEcho .. => true
  | .butLaneFail .. => true
  | .butPortDown .. => true
  | .collStep .. => true
  | .collAbortReceived .. => true
  | .collPartnerTimeout .. => true
  | .fuseAdvanceLifecycle .. => true
  | .fuseAdvanceRollback .. => true
  | .fuseWriteField .. => true
  | .fuseProgDone => true
  | .bootRom .. => true
  | .ed448Verify .. => true
  | .ed448Sign .. => true
  | .x448Keygen .. => true
  | .x448 .. => true
  | .p384Keygen .. => true
  | .p384Sign .. => true
  | .p384Verify .. => true
  | .rsaVerify .. => true
  | .keyClear .. => true
  | .attest .. => true
  | .validate .. => true
  | .measureExtend .. => true
  | .pkeValidationEnd .. => true
  | .pkeComplete .. => true
  | .pkeAbort .. => true
  | .pkeOpmemClr .. => true
  | .lockstepMismatch => true
  | .towerReplace .. => true
  | .tmRowRepair .. => true
  | .galleryBankRepair .. => true
  | .expanderRepair .. => true
  | .pkeSpare .. => true
  | .spireRetire .. => true
  | .wearSample .. => true
  | .idleStateEntry .. => true
  | .unitWake .. => true
  | .powerSample .. => true
  | .throttleStep .. => true
  | .throttleRecoveryStep .. => true
  | .thermalTrip => true
  | .flowOkFall => true
  | .flowOkRise => true
  | .railLoss .. => true
  | .resetAssert => true
  | .resetRelease .. => true
  | .pwrOkFall => true
  | .refclkLoss .. => true
  | .butPortUp .. => true
  | .butLossOfLock .. => true
  | .entropyHealthFail => true
  | .hasherJobComplete => true
  | .spiFlashOpComplete => true
  | .i3cManagementTransaction .. => true
  | .jtagTapAccess .. => true

end Sys2Proof
end

