-- ==== Sys2Proof/Certificates/Slice0/Obligations.lean ====
section
/-!
DEFINITION. The statements for the provers. Each formalises rules of the spec that its entry of OBLIGATIONS.json cites,
or says what the model does where a log entry says so.
-/
open Sys2Proof Sys2Proof.Machine

/-- A step is `exec` of the command at the front of the queue, with the queue's rest; on an empty queue the block idles
(DESIGN CHOICE, log 2, the model's choice). -/
def Obligations.StepRunsFront : Prop :=
  (∀ c rest s, s.pending = c :: rest → step s = exec c { s with pending := rest }) ∧
  (∀ s, s.pending = [] → step s = .next s)

/-- No command of the table stops the block, and none puts a command into the queue or takes another one out. -/
def Obligations.StepTakesOneCommand : Prop :=
  ∀ s, ∃ t, step s = .next t ∧ t.pending = s.pending.tail

/-- Every step keeps a safe state safe (the stacks of R386 and R387, the requests of R421). -/
def Obligations.StepKeepsSafe : Prop :=
  ∀ s t, s.Safe → step s = .next t → t.Safe

/-- The state after reset is safe. -/
def Obligations.ResetIsSafe : Prop := State.reset.Safe

/-- Whatever the command, no fuse that is set is ever cleared (R421: a request that would clear a set bit is refused;
R469: nor does a reset that interrupts a request clear one). -/
def Obligations.FusesOnlyGrow : Prop :=
  ∀ s t, s.Safe → step s = .next t → s.fuses.le t.fuses

/-- DEVICE_SECRET changes only where the fuses are sensed, and the path that reads it, once the ROM has closed it, opens
again only with a reset (R422). -/
def Obligations.SecretSensedAtResetOnly : Prop :=
  ∀ c rest s t, s.pending = c :: rest → step s = .next t →
    (c ≠ .resetAssert → (∀ m, c ≠ .resetRelease m) → t.secret = s.secret ∧
      ((∀ e, c ≠ .bootRom e) → t.idOpen = s.idOpen) ∧ (s.idOpen = false → t.idOpen = false))

/-- The bell number is a count of bells: nothing but a bell moves it, by one, or to the number of a frame for a device that
joins (R341, R344, R348), and a reset sets it to 0. -/
def Obligations.BellCountsBells : Prop :=
  ∀ c rest s t, s.pending = c :: rest → step s = .next t →
    ((∀ b, c ≠ .bell b) → c ≠ .resetAssert → t.bellNum = s.bellNum) ∧
    (c = .resetAssert → t.bellNum = 0) ∧
    (∀ b, c = .bell b → t.bellNum =
      if s.live && s.bellDue then (match s.gen.join with | some n => n | none => s.bellNum + 1) else s.bellNum)

/-- The region table is written by REGION_SET alone, given as a command of the queue or started from a ring, and emptied by
a reset. -/
def Obligations.RegionsChangeByCommand : Prop :=
  ∀ c rest s t, s.pending = c :: rest → step s = .next t →
    (∀ o i b l, c ≠ .regionSet o i b l) → (∀ sp k e, c ≠ .commandStart sp k e) → c ≠ .resetAssert → t.regions = s.regions

/-- What an accepted write does to a register of a block whose writes only set fields, field type by field type (R3, R4);
the RWS fields go to the staged copy (R5). Completes under the conditions stated: REGISTER_WRITE. -/
def Obligations.RegisterWrite : Prop :=
  ∀ actor (addr : BitVec 36) (v : Word) s b off r, findReg addr.toNat = some (b, off, r) →
    (match b with | .hbm _ | .but _ | .sde _ | .blp _ | .pwr => True | _ => False) → isCommit b off = false →
    s.power.rstLow = false → s.refuses actor addr.toNat true = false →
    ∃ t, exec (.registerWrite actor addr v) s = .next t ∧
      (∀ i < 64, bit (t.reg addr.toNat) i =
        if (fieldMask r (fun k => k = .rw || k = .rwl)).getLsbD i then v.getLsbD i
        else if (fieldMask r (fun k => k = .w1s)).getLsbD i then bit (s.reg addr.toNat) i || v.getLsbD i
        else if (fieldMask r (fun k => k = .w1c)).getLsbD i then bit (s.reg addr.toNat) i && !v.getLsbD i
        else bit (s.reg addr.toNat) i) ∧
      t.stagedReg addr.toNat = (if fieldMask r (fun k => k = .rws) = 0 then s.stagedReg addr.toNat
        else some (v &&& fieldMask r (fun k => k = .rws))) ∧
      (∀ x, x ≠ addr.toNat → t.reg x = s.reg x ∧ t.stagedReg x = s.stagedReg x) ∧
      { t with ctl := s.ctl, staged := s.staged } = s

/-- COMMIT, LOCK and DECODE_ERR_CLEAR, when the write is accepted (R5, R7, R30). Completes under the conditions stated:
COMMIT, LOCK, DECODE_ERR_CLEAR. -/
def Obligations.CommitAndLock : Prop :=
  (∀ actor blk a s, commitReg blk = some a → s.power.rstLow = false → s.refuses actor a true = false →
    ∃ t, exec (.commit actor blk) s = .next t ∧
      (∀ x, (blockOf x).map (·.1) = some blk → t.stagedReg x = none) ∧
      (∀ x, (blockOf x).map (·.1) ≠ some blk → t.stagedReg x = s.stagedReg x) ∧
      ((match blk with | .sem _ | .sde _ | .but _ | .pwr => True | _ => False) →
        (∀ x, t.reg x = if (blockOf x).map (·.1) = some blk then (s.stagedValue x).toNat else s.reg x) ∧
        { t with ctl := s.ctl, staged := s.staged } = s)) ∧
  (∀ actor s, s.power.rstLow = false → s.refuses actor Reg.sessLock true = false →
    exec (.lock actor .sess) s = .next (s.setReg Reg.sessLock 1)) ∧
  (∀ actor s, s.power.rstLow = false → s.refuses actor Reg.alxLock true = false →
    exec (.lock actor .alx) s = .next (s.setReg Reg.alxLock 1)) ∧
  (∀ actor blk s, blk ≠ .sess → blk ≠ .alx → exec (.lock actor blk) s = .next s) ∧
  (∀ actor die s, s.power.rstLow = false → s.refuses actor (decodeErrReg die) true = false →
    ∃ t, exec (.decodeErrClear actor die) s = .next t ∧
      (∀ i < 64, bit (t.reg (decodeErrReg die)) i = (decide (i < 62) && bit (s.reg (decodeErrReg die)) i)) ∧
      (∀ x, x ≠ decodeErrReg die → t.reg x = s.reg x) ∧ { t with ctl := s.ctl } = s)

/-- What a refused write leaves (R27, R30). -/
def Obligations.RefusedAccess : Prop :=
  ∀ actor (addr : BitVec 36) (v : Word) s, s.power.rstLow = false → s.refuses actor addr.toNat true = true →
    ∃ t, exec (.registerWrite actor addr v) s = .next t ∧
      (let e := decodeErrReg (dieOf addr.toNat)
       bit (t.reg e) 63 = true ∧
       (bit (s.reg e) 63 = true → t.reg e = s.reg e ||| 2 ^ 62) ∧
       (bit (s.reg e) 63 = false → bit (t.reg e) 62 = false ∧ bit (t.reg e) 61 = true ∧
         bits (t.reg e) 51 36 = actorSource actor ∧ bits (t.reg e) 35 0 = addr.toNat) ∧
       (∀ x, x ≠ e → (∀ c < 5, ∀ i < 16, x ≠ Reg.carPendSet c i) → t.reg x = s.reg x)) ∧
      { t with ctl := s.ctl } = s

/-- Pending cullet changes (R29) and fuse programming (R421), when the write is accepted. Completes under the conditions
stated: CULLET_ASSIGN, CULLET_SET_SPARE, FUSE_ADVANCE_LIFECYCLE, FUSE_ADVANCE_ROLLBACK, FUSE_WRITE_FIELD, FUSE_PROG_DONE. -/
def Obligations.CulletAndFuseRequests : Prop :=
  (∀ actor (sp : Fin 4) (tw : Fin 16) (slot : BitVec 5) s, s.power.rstLow = false →
    s.refuses actor Reg.keyCulletSet true = false →
    exec (.culletAssign actor sp tw slot) s =
      .next { s with cullets := s.cullets ++ [{ spire := sp.val, tower := some tw.val, slot := slot.toNat }] }) ∧
  (∀ actor (sp : Fin 4) (slot : BitVec 5) s, s.power.rstLow = false → s.refuses actor Reg.keyCulletSet true = false →
    exec (.culletSetSpare actor sp slot) s =
      .next { s with cullets := s.cullets ++ [{ spire := sp.val, tower := none, slot := slot.toNat }] }) ∧
  (∀ actor s, s.power.rstLow = false → s.refuses actor Reg.fuseProg true = false →
    (s.fuseJob = none → s.lifecycle = 0 → s.fuses.lifecycle = 0 →
      exec (.fuseAdvanceLifecycle actor 1) s = .next { s.setReg Reg.fuseProgStatus
        (setBits (s.reg Reg.fuseProgStatus) 29 29 1) with fuseJob := some { s.fuses with lifecycle := 1 } }) ∧
    (∀ state : BitVec 8, let n := state.toNat
      let code := [0, 1, 3, 7, 15].getD n 15
      let old := s.fuses.lifecycle.toNat
      s.fuseJob = none → n = s.lifecycle + 1 ∨ n = 4 → s.lifecycle < n → n ≤ 4 → old &&& code = old →
      exec (.fuseAdvanceLifecycle actor state) s = .next { s.setReg Reg.fuseProgStatus
        (setBits (s.reg Reg.fuseProgStatus) 29 29 1) with fuseJob := some { s.fuses with lifecycle := BitVec.ofNat 4 code } }) ∧
    (∀ state : BitVec 8, let n := state.toNat
      let code := [0, 1, 3, 7, 15].getD n 15
      let old := s.fuses.lifecycle.toNat
      s.fuseJob ≠ none ∨ (n ≠ s.lifecycle + 1 ∧ n ≠ 4) ∨ n ≤ s.lifecycle ∨ 4 < n ∨ old &&& code ≠ old →
      exec (.fuseAdvanceLifecycle actor state) s =
        .next (s.setReg Reg.fuseProgStatus (s.reg Reg.fuseProgStatus ||| 0xC000_0000))) ∧
    (s.fuseJob = none → s.lifecycle = 1 ∨ s.lifecycle = 2 → s.fuses.rollback ≠ BitVec.allOnes 128 →
      exec (.fuseAdvanceRollback actor) s = .next { s.setReg Reg.fuseProgStatus
        (setBits (s.reg Reg.fuseProgStatus) 29 29 1) with
          fuseJob := some { s.fuses with rollback := s.fuses.rollback ||| (s.fuses.rollback + 1) } }) ∧
    (∀ (data : Word), s.fuseJob = none → s.lifecycle = 0 ∨ s.lifecycle = 1 →
      ∃ t, exec (.fuseWriteField actor 1 0 data) s = .next t ∧ t.fuses = s.fuses ∧
        t.fuseJob = some { s.fuses with serial := s.fuses.serial ||| data } ∧
        bit (t.reg Reg.fuseProgStatus) 29 = true) ∧
    (∀ (field : BitVec 4) (word : BitVec 5) (data : Word),
      let n := field.toNat
      let w := word.toNat
      let d := data.toNat <<< (64 * w)
      let bank := s.fuses
      (s.fuseJob = none → s.lifecycle = 0 ∨ s.lifecycle = 1 → n ≤ 5 → w < [4, 1, 8, 1, 1, 32].getD n 0 →
        ∃ t b, exec (.fuseWriteField actor field word data) s = .next t ∧ t.fuses = bank ∧ t.fuseJob = some b ∧
          b.secret = (if n = 0 then bank.secret ||| BitVec.ofNat 256 d else bank.secret) ∧
          b.serial = (if n = 1 then bank.serial ||| data else bank.serial) ∧
          b.fwkey = (if n = 2 then bank.fwkey ||| BitVec.ofNat 512 d else bank.fwkey) ∧
          b.debugBits = (if n = 3 then bank.debugBits ||| BitVec.ofNat 2 d else bank.debugBits) ∧
          b.port = (if n = 4 then bank.port ||| BitVec.ofNat 9 d else bank.port) ∧
          b.cullet = (if n = 5 then bank.cullet ||| BitVec.ofNat 2048 d else bank.cullet) ∧
          b.lifecycle = bank.lifecycle ∧ b.rollback = bank.rollback ∧ bit (t.reg Reg.fuseProgStatus) 29 = true ∧
          { t with ctl := s.ctl, fuseJob := none } = { s with fuseJob := none }) ∧
      (s.fuseJob ≠ none ∨ 1 < s.lifecycle ∨ 5 < n ∨ [4, 1, 8, 1, 1, 32].getD n 0 ≤ w →
        ∃ t, exec (.fuseWriteField actor field word data) s = .next t ∧
          t.reg Reg.fuseProgStatus = s.reg Reg.fuseProgStatus ||| 0xC000_0000 ∧ { t with ctl := s.ctl } = s)) ∧
    (s.fuseJob ≠ none ∨ (s.lifecycle ≠ 1 ∧ s.lifecycle ≠ 2) ∨ s.fuses.rollback = BitVec.allOnes 128 →
      exec (.fuseAdvanceRollback actor) s =
      .next (s.setReg Reg.fuseProgStatus (s.reg Reg.fuseProgStatus ||| 0xC000_0000)))) ∧
  (∀ s, s.fuseJob = none → exec .fuseProgDone s = .next s) ∧
  (∀ s b, s.fuseJob = some b → ∃ t, exec .fuseProgDone s = .next t ∧ t.fuses = b ∧ t.fuseJob = none ∧
    bit (t.reg Reg.fuseProgStatus) 31 = true ∧ bit (t.reg Reg.fuseProgStatus) 29 = false ∧
    t.secret = s.secret ∧ ∀ x, x ≠ Reg.fuseProgStatus → t.reg x = s.reg x)

/-- The values of some registers after reset, as their tables give them; all Towers halted, nothing waiting. The cullet
map's values rest on DESIGN CHOICE, log 7. -/
def Obligations.ResetValues : Prop :=
  State.reset.pending = [] ∧ State.reset.bellNum = 0 ∧ State.reset.fuseJob = none ∧ State.reset.idOpen = true ∧
  (∀ g < 68, State.reset.reg (Reg.twrNumCtl g) = 0x100 ∧ State.reset.reg (Reg.twrMemCtl g) = 1 ∧
    State.reset.reg (Reg.twrAEvec g) = 0 ∧
    (State.reset.tower g).a.run = .halted ∧ (State.reset.tower g).x.run = .halted) ∧
  (∀ sp < 4, State.reset.reg (Reg.belPeriod sp) = 100000 ∧ State.reset.reg (Reg.belCtl sp) = 0 ∧
    ∀ k < 16, State.reset.slotOf sp k = 17 * sp + k)

/-- The three-register arithmetic of R176: its value and the whole of what it changes. Completes under the conditions
stated: ADD, SUB, AND, OR, XOR, SLL, SRL, SRA, MUL, MULH. -/
def Obligations.AluResults : Prop :=
  ∀ p ∈ ([(Instr.add, fun a b => a + b), (Instr.sub, fun a b => a - b), (Instr.and_, fun a b => a &&& b),
      (Instr.or_, fun a b => a ||| b), (Instr.xor_, fun a b => a ^^^ b),
      (Instr.sll, fun a b => a <<< (b.toNat % 64)), (Instr.srl, fun a b => a >>> (b.toNat % 64)),
      (Instr.sra, fun a b => a.sshiftRight (b.toNat % 64)), (Instr.mul, fun a b => a * b),
      (Instr.mulh, fun a b => (a.signExtend 128 * b.signExtend 128).extractLsb' 64 64)] :
      List ((Issue → BitVec 5 → BitVec 5 → BitVec 5 → Instr) × (Word → Word → Word))),
    ∀ c sd sa sb s, s.Ready c false Gate.none →
      ∃ t, exec (p.1 c sd sa sb) s = .next t ∧ Computes c sd (p.2 (s.sreg c sa) (s.sreg c sb)) s t

/-- LI in both forms (R177). Completes under the conditions stated: LI. -/
def Obligations.LiResult : Prop :=
  ∀ c sd (imm : BitVec 20) s, s.Ready c true Gate.none → (∀ l, c.long = some l → l.y.toNat < 4) →
    ∃ t, exec (.li c sd imm) s = .next t ∧
      Computes c sd (match c.long with
        | none => BitVec.ofInt 64 imm.toInt
        | some l => BitVec.ofInt 64
            (BitVec.ofNat 32 (imm.toNat + l.x.toNat * 2 ^ 20 + l.y.toNat * 2 ^ 30)).toInt) s t

/-- The loads of R177 from the scalar data memory of R130. Completes under the conditions stated: LD_B, LD_H, LD_W, LD_D,
LD_BU, LD_HU, LD_WU. -/
def Obligations.ScalarLoads : Prop :=
  ∀ p ∈ ([(Instr.ldB, 1, true), (Instr.ldH, 2, true), (Instr.ldW, 4, true), (Instr.ldD, 8, true),
      (Instr.ldBu, 1, false), (Instr.ldHu, 2, false), (Instr.ldWu, 4, false)] :
      List ((Issue → BitVec 5 → BitVec 12 → BitVec 5 → Instr) × Nat × Bool)),
    ∀ c sd (imm : BitVec 12) sa s, s.Ready c false Gate.none →
      let a := (s.sreg c sa + BitVec.ofInt 64 imm.toInt).toNat
      a % p.2.1 = 0 → a + p.2.1 ≤ 0x4_0000 →
      ∃ t, exec (p.1 c sd imm sa) s = .next t ∧
        Computes c sd
          (let v := ((List.range p.2.1).map (fun k => ((s.tower c.slot.val).sdmByte (a + k)).toNat * 256 ^ k)).sum
           if p.2.2 && decide (2 ^ (8 * p.2.1 - 1) ≤ v) then BitVec.ofInt 64 ((v : Int) - 256 ^ p.2.1)
           else BitVec.ofNat 64 v) s t

/-- The stores of R177: the bytes stored, and that nothing else changes. Completes under the conditions stated: ST_B, ST_H,
ST_W, ST_D. -/
def Obligations.ScalarStores : Prop :=
  ∀ p ∈ ([(Instr.stB, 1), (Instr.stH, 2), (Instr.stW, 4), (Instr.stD, 8)] :
      List ((Issue → BitVec 5 → BitVec 12 → BitVec 5 → Instr) × Nat)),
    ∀ c ss (imm : BitVec 12) sa s, s.Ready c false Gate.both →
      let a := (s.sreg c sa + BitVec.ofInt 64 imm.toInt).toNat
      a % p.2 = 0 → a + p.2 ≤ 0x4_0000 →
      ∃ t, exec (p.1 c ss imm sa) s = .next t ∧
        (∀ k, k < p.2 → (t.tower c.slot.val).sdmByte (a + k) = (s.sreg c ss).extractLsb' (8 * k) 8) ∧
        (∀ x, x < a ∨ a + p.2 ≤ x → (t.tower c.slot.val).sdmByte x = (s.tower c.slot.val).sdmByte x) ∧
        WentTo (nextPc c (s.pcOf c)) (s.strm c) (t.strm c) ∧ SameRegs (s.strm c) (t.strm c) ∧
        OnlyTower c.slot.val s t ∧
        OnlyStream c.stream (s.tower c.slot.val) { t.tower c.slot.val with sdm := (s.tower c.slot.val).sdm }

/-- Control flow (R176): where the stream goes, and the whole of what it changes. Completes under the conditions stated:
BEQ, BNE, BLT, BGE, JAL, JR. -/
def Obligations.BranchesAndJumps : Prop :=
  (∀ p ∈ ([(Instr.beq, fun a b => decide (a = b)), (Instr.bne, fun a b => decide (a ≠ b)),
      (Instr.blt, fun a b => decide (a.toInt < b.toInt)), (Instr.bge, fun a b => decide (b.toInt ≤ a.toInt))] :
      List ((Issue → BitVec 5 → BitVec 5 → BitVec 15 → Instr) × (Word → Word → Bool))),
    ∀ c sa sb (imm : BitVec 15) s, s.Ready c false Gate.none →
      let to_ : Int := ((s.pcOf c).toNat : Int) + 4 * imm.toInt
      (p.2 (s.sreg c sa) (s.sreg c sb) = true → 0 ≤ to_ → to_ ≤ 0xFFFC →
        ∃ t, exec (p.1 c sa sb imm) s = .next t ∧ GoesTo c (BitVec.ofInt 17 to_) s t) ∧
      (p.2 (s.sreg c sa) (s.sreg c sb) = false →
        ∃ t, exec (p.1 c sa sb imm) s = .next t ∧ GoesTo c (nextPc c (s.pcOf c)) s t)) ∧
  (∀ c sd (imm : BitVec 20) s, s.Ready c false Gate.none →
    let to_ : Int := ((s.pcOf c).toNat : Int) + 4 * imm.toInt
    0 ≤ to_ → to_ ≤ 0xFFFC → ∃ t, exec (.jal c sd imm) s = .next t ∧
      WentTo (BitVec.ofInt 17 to_) (s.strm c) (t.strm c) ∧
      WroteReg sd ((nextPc c (s.pcOf c)).setWidth 64) (s.strm c) (t.strm c) ∧ OnlyTower c.slot.val s t ∧
      OnlyStream c.stream (s.tower c.slot.val) (t.tower c.slot.val)) ∧
  (∀ c sa s, s.Ready c false Gate.none → (s.sreg c sa).toNat % 4 = 0 →
    ∃ t, exec (.jr c sa) s = .next t ∧ GoesTo c (BitVec.ofNat 17 ((s.sreg c sa).toNat % 65536)) s t)

/-- Taking a Tower exception, by TRAP (R152, R176): F_ILLEGAL with reason 5. Completes under the conditions stated: TRAP. -/
def Obligations.TrapTakesException : Prop :=
  ∀ c s, s.Ready c false Gate.both → (s.tower c.slot.val).older c.stream = false → (s.strm c).inHandler = false →
    (s.strm c).wait = none →
    let ev := bits (s.reg (match c.stream with | .a => Reg.twrAEvec c.slot.val | .x => Reg.twrXEvec c.slot.val)) 15 2 * 4
    let area := match c.stream with | .a => 0x3_FF00 | .x => 0x3_FF20
    ev ≠ 0 →
    ∃ t, exec (.trap c) s = .next t ∧
      (t.strm c).run = .running ∧ (t.strm c).pc = BitVec.ofNat 17 ev ∧ (t.strm c).inHandler = true ∧
      (t.strm c).epc = BitVec.ofNat 17 (ofBool (s.tower c.slot.val).active * 65536 + (s.pcOf c).toNat % 65536) ∧
      SameRegs (s.strm c) (t.strm c) ∧ (t.strm c).icount = (s.strm c).icount ∧
      (let r := (List.range 32).map (fun k => (t.tower c.slot.val).sdmByte (area + k))
       field r 0 0 = 0x01 ∧ bit (field r 1 1) 7 = true ∧
       field r 3 2 = slotSpire c.slot.val * 0x1000 + 0x800 + streamUnit c.stream * 32 + slotPhys c.slot.val ∧
       field r 11 4 = s.bellNum % 2 ^ 64 ∧ field r 16 16 = 0x05 ∧ field r 17 17 = streamUnit c.stream ∧
       field r 19 18 = (s.pcOf c).toNat % 65536) ∧
      (∀ x, x < area ∨ area + 32 ≤ x → (t.tower c.slot.val).sdmByte x = (s.tower c.slot.val).sdmByte x) ∧
      (∀ x, t.reg x = s.reg x) ∧ t.pending = s.pending ∧ t.descs = s.descs ∧
      (∀ h, h ≠ c.slot.val → t.tower h = s.tower h)

/-- A fault with no handler, or inside one, ends the task (R154). The Tower here runs without a LAUNCH. Completes under the
conditions stated: TRAP. -/
def Obligations.TrapEndsTask : Prop :=
  ∀ c s, s.Ready c false Gate.both → (s.tower c.slot.val).older c.stream = false →
    (c.stream = .x → (s.tower c.slot.val).a.inHandler = false) →
    (s.tower c.slot.val).a.run ≠ .halted → (s.tower c.slot.val).x.run ≠ .halted →
    (s.tower c.slot.val).task = none →
    (s.strm c).inHandler = true ∨
      bits (s.reg (match c.stream with | .a => Reg.twrAEvec c.slot.val | .x => Reg.twrXEvec c.slot.val)) 15 2 = 0 →
    ∃ t, exec (.trap c) s = .next t ∧
      (t.tower c.slot.val).a.run = .stopped ∧ (t.tower c.slot.val).x.run = .stopped ∧
      (t.tower c.slot.val).task = none ∧
      ∃ r, SMap.get (fun _ => []) t.faultsSpire (slotSpire c.slot.val) =
          SMap.get (fun _ => []) s.faultsSpire (slotSpire c.slot.val) ++ [r] ∧ field r 0 0 = 0x01 ∧
        ((s.strm c).inHandler = false → field r 16 16 = 0x05) ∧
        ((s.strm c).inHandler = true → field r 16 16 = 0x08 ∧ field r 24 24 = 0x01)

/-- Token queues (R144): CQA carries A's tokens to X, CQX carries X's to A. Completes under the conditions stated: CSRR,
CSRW, TQ_PUSH, TQ_POP. -/
def Obligations.TokenQueues : Prop :=
  ∀ c s, s.Ready c false Gate.both →
    let g := c.slot.val
    let other : Stream := match c.stream with | .a => .x | .x => .a
    (∀ ss, ((s.tower g).outTokens c.stream).length < 32 → ∀ i ∈ [Instr.tqPush c ss, Instr.csrw c 0 ss],
      ∃ t, exec i s = .next t ∧
        (t.tower g).outTokens c.stream = (s.tower g).outTokens c.stream ++ [s.sreg c ss] ∧
        (t.tower g).outTokens other = (s.tower g).outTokens other ∧
        WentTo (nextPc c (s.pcOf c)) (s.strm c) (t.strm c) ∧ SameRegs (s.strm c) (t.strm c) ∧ OnlyTower g s t ∧
        OnlyStream c.stream (s.tower g)
          { t.tower g with cqa := (s.tower g).cqa, cqx := (s.tower g).cqx, queues := (s.tower g).queues }) ∧
    (∀ sd v vs, (s.tower g).outTokens other = v :: vs → ∀ i ∈ [Instr.tqPop c sd, Instr.csrr c sd 1],
      ∃ t, exec i s = .next t ∧
        (t.tower g).outTokens other = vs ∧ (t.tower g).outTokens c.stream = (s.tower g).outTokens c.stream ∧
        WentTo (nextPc c (s.pcOf c)) (s.strm c) (t.strm c) ∧ WroteReg sd v (s.strm c) (t.strm c) ∧ OnlyTower g s t ∧
        OnlyStream c.stream (s.tower g)
          { t.tower g with cqa := (s.tower g).cqa, cqx := (s.tower g).cqx, queues := (s.tower g).queues })

/-- CSRR (R172): the value and the whole of what changes. Completes under the conditions stated: CSRR. -/
def Obligations.CsrReads : Prop :=
  ∀ c sd (n : BitVec 12) s, s.Ready c false Gate.none →
    let g := c.slot.val
    let gives := fun (v : Word) => ∃ t, exec (.csrr c sd n) s = .next t ∧ Computes c sd v s { t with free := s.free }
    (n = 0 ∨ n = 2 → gives 0) ∧
    (n = 3 → gives (BitVec.ofNat 64 ((match c.stream with | .a => 0 | .x => 256) + 16 * slotSpire g +
      (s.logicalOf g).getD 0))) ∧
    (n = 4 → ∃ v, gives v) ∧
    (n = 5 → gives (BitVec.ofNat 64 s.bellNum)) ∧
    (0x800 ≤ n.toNat → (findReg (Reg.twrBase g + 8 * n.toNat)).isSome →
      gives (BitVec.ofNat 64 (s.readTower g (8 * n.toNat))))

/-- Completes under the conditions stated (R173): CSRW. -/
def Obligations.CsrWrites : Prop :=
  ∀ c (n : BitVec 12) ss s, s.Ready c false Gate.both →
    let g := c.slot.val
    let off := 8 * n.toNat
    let a := Reg.twrBase g + off
    let r := rowAt a
    let v := s.sreg c ss
    (n = 1 ∨ n = 3 ∨ n = 4 ∨ n = 5 ∨ off = 0x5000 ∨ ((0x7000 ≤ off ∧ off < 0x7030) ∧ (findReg a).isSome) →
      ∃ t, exec (.csrw c n ss) s = .next t ∧ GoesTo c (nextPc c (s.pcOf c)) s t) ∧
    (0x800 ≤ n.toNat → (findReg a).isSome → off ≠ 0x5000 → off ≠ 0x5008 → off ≠ 0x4828 →
      ¬(0x7000 ≤ off ∧ off < 0x7030) → ¬(0x4A00 ≤ off ∧ off < 0x4B00 ∧ off % 0x40 = 0x18) →
      ((s.tower g).quantising = false ∨ (off ≠ 0x4020 ∧ off ≠ 0x4028)) →
      ∃ t, exec (.csrw c n ss) s = .next t ∧
        (∀ i < 64, bit (t.reg a) i =
          if (fieldMask r (fun k => k = .rw || k = .rwl)).getLsbD i then v.getLsbD i
          else if (fieldMask r (fun k => k = .w1s)).getLsbD i then bit (s.reg a) i || v.getLsbD i
          else if (fieldMask r (fun k => k = .w1c)).getLsbD i then bit (s.reg a) i && !v.getLsbD i
          else bit (s.reg a) i) ∧
        t.stagedReg a = (if fieldMask r (fun k => k = .rws) = 0 then s.stagedReg a
          else some (v &&& fieldMask r (fun k => k = .rws))) ∧
        (∀ x, x ≠ a → t.reg x = s.reg x ∧ t.stagedReg x = s.stagedReg x) ∧
        GoesTo c (nextPc c (s.pcOf c)) s { t with ctl := s.ctl, staged := s.staged })

/-- The return from a handler (R153), with what it does to the other stream (R149). Completes under the conditions stated:
CSRW, EXC_RET. -/
def Obligations.ReturnFromHandler : Prop :=
  ∀ c ss s, s.Ready c false Gate.both → (s.sreg c ss).toNat % 4 = 0 →
    let g := c.slot.val
    let pc := BitVec.ofNat 17 ((s.sreg c ss).toNat % 65536)
    ∀ i ∈ [Instr.excRet c ss, Instr.csrw c 2 ss],
    (c.stream = .x → ∃ t, exec i s = .next t ∧ OnlyTower g s t ∧
      (t.tower g).x = { (s.tower g).x with
        pc := pc, inHandler := false, icount := (s.tower g).x.icount + 1, wait := none, tagPassed := false } ∧
      (t.tower g).a = (if (s.tower g).a.run = .held && !(s.tower g).a.inHandler then
        { (s.tower g).a with run := .running } else (s.tower g).a)) ∧
    (c.stream = .a → ∀ p n, (s.tower g).a.resume = some (p, n) → ∃ t, exec i s = .next t ∧ OnlyTower g s t ∧
      (t.tower g).x = (s.tower g).x ∧ (t.tower g).a.pc = p.pc ∧ (t.tower g).a.regs = p.regs ∧
      (t.tower g).a.icount = p.icount ∧ (t.tower g).a.step = n ∧ (t.tower g).a.inHandler = false ∧
      (t.tower g).a.resume = none ∧ (t.tower g).a.run = (if (s.tower g).x.run = .stopped then .stopped
        else if (s.tower g).x.inHandler then .held else .running)) ∧
    (c.stream = .a → (s.tower g).a.resume = none → ∃ t, exec i s = .next t ∧ OnlyTower g s t ∧
      (t.tower g).x = (s.tower g).x ∧ (t.tower g).a.pc = pc ∧ (t.tower g).a.inHandler = false ∧
      SameRegs (s.tower g).a (t.tower g).a ∧ (t.tower g).a.icount = (s.tower g).a.icount + 1 ∧
      (t.tower g).a.run = (if (s.tower g).x.run = .stopped then .stopped
        else if (s.tower g).x.inHandler then .held else .running))

/-- FENCE, FENCE.CP and HALT (R146, R147, R178). Completes under the conditions stated: FENCE, FENCE_CP, HALT. -/
def Obligations.FencesAndHalt : Prop :=
  ∀ c s, (s.strm c).postedFault = none →
    let g := c.slot.val
    let other : Stream := match c.stream with | .a => .x | .x => .a
    (s.Ready c false { a := false, x := true } → (s.tower g).settled c.stream = true →
      ∃ t, exec (.fence c) s = .next t ∧ GoesTo c (nextPc c (s.pcOf c)) s t) ∧
    (s.Ready c false Gate.none → c.stream = .a → (s.strm c).posted = [] → (s.tower g).outstanding < 4 →
      ∃ t, exec (.fenceCp c) s = .next t ∧ OnlyTower g s t ∧
        (t.tower g).cps = (s.tower g).cps ++ [{
          snap := { pc := nextPc c (s.pcOf c), regs := (s.strm c).regs, icount := (s.strm c).icount + 1 },
          seqs := (s.tower g).seqs, marks := (s.tower g).markCounts, restored := false }] ∧
        (t.tower g).a = { (s.tower g).a with
          pc := nextPc c (s.pcOf c), icount := (s.tower g).a.icount + 1, step := (s.tower g).a.step + 1, wait := none,
          tagPassed := false } ∧
        (t.tower g).x = (s.tower g).x) ∧
    (s.Ready c false Gate.none → c.stream = .x → (s.tower g).settled .x = true →
      ∀ cp rest, (s.tower g).cps = cp :: rest → (s.tower g).balanced cp = true →
      ∃ t, exec (.fenceCp c) s = .next t ∧ OnlyTower g s t ∧ (t.tower g).cps = rest ∧
        (t.tower g).x = { (s.tower g).x with
          pc := nextPc c (s.pcOf c), icount := (s.tower g).x.icount + 1, step := (s.tower g).x.step + 1, wait := none,
          tagPassed := false } ∧
        (t.tower g).a = (s.tower g).a) ∧
    (s.Ready c false Gate.both → (s.tower g).settled c.stream = true → s.launches = [] →
      ∃ t, exec (.halt c) s = .next t ∧ OnlyTower g s t ∧
        t.strm c = { s.strm c with
          run := .halted, pc := nextPc c (s.pcOf c), icount := (s.strm c).icount + 1, wait := none,
          tagPassed := false } ∧
        (t.tower g).stream other = (s.tower g).stream other ∧
        (((s.tower g).stream other).run ≠ .halted → (t.tower g).task = (s.tower g).task) ∧
        (((s.tower g).stream other).run = .halted → (t.tower g).task = none))

/-- The bank swap (R161, R162). Completes under the conditions stated: IMSWAP, IMSWAP_B, IMSWAP_SWAP. -/
def Obligations.BankSwaps : Prop :=
  (∀ c (e : BitVec 14) b s, s.Ready c false Gate.both →
    let g := c.slot.val
    let other : Stream := match c.stream with | .a => .x | .x => .a
    ∃ t, exec (if b then .imswapB c e else .imswap c e) s = .next t ∧ OnlyTower g s t ∧
      (t.strm c).run = .waiting ∧ (t.strm c).swap = some (e.setWidth 16 <<< 2, b) ∧ (t.strm c).pc = s.pcOf c ∧
      SameRegs (s.strm c) (t.strm c) ∧ (t.tower g).stream other = (s.tower g).stream other ∧
      (((s.tower g).stream other).swap = none → ((s.tower g).stream other).run = .halted →
        (t.tower g).swapPend = some b) ∧
      (∀ e' b', ((s.tower g).stream other).swap = some (e', b') → (t.tower g).swapPend = some (b || b'))) ∧
  (∀ (slot : Fin 68) ea xa s, (s.tower slot.val).swapPend = some false → (s.tower slot.val).imLoad = [] →
    (s.tower slot.val).idleValid = true → (s.tower slot.val).a.swap = some (ea, false) →
    (s.tower slot.val).x.swap = some (xa, false) →
    ∃ t, exec (.imswapSwap slot) s = .next t ∧ OnlyTower slot.val s t ∧
      (t.tower slot.val).active = !(s.tower slot.val).active ∧ (t.tower slot.val).swapPend = none ∧
      (t.tower slot.val).a.run = .running ∧ (t.tower slot.val).a.pc = ea.setWidth 17 ∧
      (t.tower slot.val).x.run = .running ∧ (t.tower slot.val).x.pc = xa.setWidth 17 ∧
      SameRegs (s.tower slot.val).a (t.tower slot.val).a ∧ SameRegs (s.tower slot.val).x (t.tower slot.val).x)

/-- SEMP, SEMW and BELLW (R179 to R181). The clause on the bell is about the operation that BELL applies to each Tower.
Completes under the conditions stated: SEMP, SEMW, BELLW. -/
def Obligations.SemaphoreInstructions : Prop :=
  (∀ c sa sb s, s.Ready c false Gate.both →
    let g := c.slot.val
    let sp := bits (s.sreg c sa).toNat 13 12
    let n := bits (s.sreg c sa).toNat 11 0
    let k := (s.sreg c sb).toNat % 65536
    let m := s.sem sp n
    (k = 0 → ∃ t, exec (.semp c sa sb) s = .next t ∧ GoesTo c (nextPc c (s.pcOf c)) s t) ∧
    (k ≠ 0 → sp = slotSpire g → m.count + k ≤ 65535 → ∃ t, exec (.semp c sa sb) s = .next t ∧
      t.sem sp n = { m with
        count := m.count + k, lastBell := s.bellNum, lastSource := srcTower g (streamUnit c.stream), lastRemote := false } ∧
      (∀ sp' n', n' < 4096 → (sp', n') ≠ (sp, n) → t.sem sp' n' = s.sem sp' n') ∧
      GoesTo c (nextPc c (s.pcOf c)) s { t with sems := s.sems }) ∧
    (k ≠ 0 → sp ≠ slotSpire g → ∃ t, exec (.semp c sa sb) s = .next t ∧ OnlyTower g s t ∧
      (t.strm c).posted = (s.strm c).posted ++ [.semp sp n k] ∧
      WentTo (nextPc c (s.pcOf c)) { s.strm c with posted := (t.strm c).posted } (t.strm c) ∧
      SameRegs (s.strm c) (t.strm c)) ∧
    (k ≠ 0 → sp = slotSpire g → 65535 < m.count + k → ∃ f, f.code = F_QUEUE_OVF ∧
      exec (.semp c sa sb) s = .next ((s.count (Reg.semOvfCnt sp) 1).takeFault g c.stream f))) ∧
  (∀ c sa sb s, s.Ready c false Gate.both →
    let g := c.slot.val
    let n := bits (s.sreg c sa).toNat 11 0
    let k := (s.sreg c sb).toNat % 65536
    let m := s.sem (slotSpire g) n
    (bits (s.sreg c sa).toNat 13 12 ≠ slotSpire g →
      exec (.semw c sa sb) s = .next (s.issueFault g c.stream (.semw c sa sb) (s.illegal c 0x0A))) ∧ (
    bits (s.sreg c sa).toNat 13 12 = slotSpire g →
    (k = 0 → ∃ t, exec (.semw c sa sb) s = .next t ∧ GoesTo c (nextPc c (s.pcOf c)) s t) ∧
    (k ≠ 0 → m.waiters = [] → k ≤ m.count → ∃ t, exec (.semw c sa sb) s = .next t ∧
      t.sem (slotSpire g) n = { m with count := m.count - k } ∧
      (∀ sp' n', n' < 4096 → (sp', n') ≠ (slotSpire g, n) → t.sem sp' n' = s.sem sp' n') ∧
      GoesTo c (nextPc c (s.pcOf c)) s { t with sems := s.sems }) ∧
    (k ≠ 0 → m.waiters ≠ [] ∨ m.count < k → ∃ t, exec (.semw c sa sb) s = .next t ∧
      WaitsAt (.semw c sa sb) (t.strm c) ∧ (t.strm c).pc = s.pcOf c ∧ SameRegs (s.strm c) (t.strm c) ∧
      ∃ w, (t.sem (slotSpire g) n).waiters = m.waiters ++ [w] ∧ w.who = .stream c.slot c.stream ∧ w.want = k))) ∧
  (∀ c sd s, s.Ready c false Gate.both → ∃ t, exec (.bellw c sd) s = .next t ∧ WaitsAt (.bellw c sd) (t.strm c) ∧
    (t.strm c).pc = s.pcOf c ∧ SameRegs (s.strm c) (t.strm c) ∧ OnlyTower c.slot.val s t) ∧
  (∀ c sd (s : State), WaitsAt (.bellw c sd) (s.strm c) → (s.tower c.slot.val).aGated = false → (s.tower c.slot.val).ops = [] →
    ((s.bellwEnd c.slot.val c.stream).strm c).run = .running ∧
    ((s.bellwEnd c.slot.val c.stream).strm c).pc = nextPc c (s.pcOf c) ∧
    WroteReg sd (BitVec.ofNat 64 s.bellNum) (s.strm c) ((s.bellwEnd c.slot.val c.stream).strm c))

/-- Issue of the loads (R182 to R186, R239). Completes under the conditions stated: TLD, TLD_T, TLD_S, SEQUENCED_TLD, PLD,
VLD. -/
def Obligations.TileLoads : Prop :=
  (∀ (u : DescUser) src h (s : State), Fetched u s (s.fetchDesc u src h).1) ∧
  (∀ c (q : BitVec 4) sh ss si b s, s.Ready c true Gate.none → c.stream = .a → longX c = 0 → q.toNat < 4 →
    let h := (s.sreg c sh).toNat % 2 ^ 32
    let d := parseDesc b
    let p := s.placeOf c ss si
    let r := s.ownTensor c h
    r.2 = .ok b → s.LoadFits c q.toNat b p (8 * longY c) → Fetched (.loader c.slot.val) s r.1 ∧
    (∃ t, exec (.tld c q sh ss si) s = .next t ∧ LoadBegins c q.toNat h b .tile p r.1 t) ∧
    (isPlainFmt d.fmt = true → d.stride 1 * elemBytes d.fmt = 256 → d.base % 256 = 0 →
      ∃ t, exec (.tldT c q sh ss si false) s = .next t ∧ LoadBegins c q.toNat h b .transposed p r.1 t) ∧
    (isPlainFmt d.fmt = true → d.stride 1 * elemBytes d.fmt % 256 = 0 →
      ∃ t, exec (.tldS c q sh ss si) s = .next t ∧ LoadBegins c q.toNat h b .strided p r.1 t)) ∧
  (∀ c (q : BitVec 4) sh ss si s, s.Ready c true Gate.none → c.stream = .a → longX c = 0 → q.toNat < 4 →
    exec (.tldT c q sh ss si true) s =
      .next (s.issueFault c.slot.val .a (.tldT c q sh ss si true) (s.illegal c 0x0A q.toNat))) ∧
  (∀ c (q : BitVec 4) sl se ss hd en b s, s.Ready c true Gate.none → c.stream = .a → longX c = 0 → q.toNat < 4 →
    let g := c.slot.val
    let lo := (s.sreg c sl).toNat % 2 ^ 25
    let e := (s.sreg c se).toNat % 4096
    let h := field hd 3 0
    let p : Place := { s.placeOf c ss 0 with ofs := (parsePl en).ofs }
    let s' := (s.noteRead g lo 16).noteRead g (lo + 16 + 8 * e) 8
    let r := s'.ownTensor c h
    lo % 8 = 0 → lo + 24 + 8 * e ≤ towerSize → s.waitsForBank g = false → (s.tower g).loads = [] →
    s.issueRead g lo 16 = .ok hd → s.issueRead g (lo + 16 + 8 * e) 8 = .ok en →
    1 ≤ field hd 5 4 → field hd 5 4 ≤ 4096 → r.2 = .ok b →
    s.plFault (srcTower g 0) h e (parseDesc b) (parsePl en) = none → s.LoadFits c q.toNat b p (8 * longY c) →
    (∀ x, x ≠ Reg.twrMemCe g → s'.reg x = s.reg x) ∧ { s' with ctl := s.ctl } = s ∧ Fetched (.loader g) s' r.1 ∧
    ∃ t, exec (.pld c q sl se ss) s = .next t ∧ LoadBegins c q.toNat h b .tile p r.1 t) ∧
  (∀ c (q : BitVec 4) l b s, c.long = some l → s.Ready c true Gate.none → c.stream = .a → l.x = 0x200 → l.y = 0 →
    q.toNat < 4 →
    let sq := (s.tower c.slot.val).seq q.toNat
    let d := parseDesc b
    let n := loaderNest d sq.nest
    let p : Place := {
      si := (n.idx sq.pos 0 * n.text 0 : Nat), row := n.idx sq.pos 1 * 256, ofs := 0,
      outer := n.idx sq.pos 2 + d.size 2 * (n.idx sq.pos 3 + d.size 3 * (n.idx sq.pos 4 + d.size 4 * n.idx sq.pos 5)) }
    let r := s.ownTensor c sq.handle.toNat
    sq.left ≠ 0 → r.2 = .ok b → s.LoadFits c q.toNat b p (bits sq.nest 39 30) → Fetched (.loader c.slot.val) s r.1 ∧
    ∀ i ∈ [Instr.sequencedTld c q 0 0 0 0, Instr.tld c q 0 0 0],
    ∃ t, exec i s = .next t ∧ LoadBegins c q.toNat sq.handle.toNat b .tile p r.1 t ∧
      ((t.tower c.slot.val).seq q.toNat).left = sq.left - 1) ∧
  (∀ c (q : BitVec 4) sh ss si b s, s.Ready c false Gate.none → c.stream = .a → q = 4 ∨ q = 5 →
    let g := c.slot.val
    let h := (s.sreg c sh).toNat % 2 ^ 32
    let r := s.ownTensor c h
    r.2 = .ok b → isPlainFmt (parseDesc b).fmt = true →
    ((s.tower g).vecs q.toNat).length + ((s.tower g).loads.filter (fun l => l.q = q.toNat)).length < 8 →
    Fetched (.loader g) s r.1 ∧
    ∃ t l, exec (.vld c q sh ss si) s = .next t ∧ (t.tower g).loads = (s.tower g).loads ++ [l] ∧
      l.shape = .vector ∧ l.h = BitVec.ofNat 32 h ∧ l.desc = b ∧ l.at_ = s.placeOf c ss si ∧ l.q = q.toNat ∧
      (t.tower g).tiles = (s.tower g).tiles ∧ WentTo (nextPc c (s.pcOf c)) (s.strm c) (t.strm c) ∧
      SameRegs (s.strm c) (t.strm c) ∧ (∀ x, x ≠ g → t.tower x = r.1.tower x) ∧ { t with towers := r.1.towers } = r.1)

/-- The completion of a load (R135, R182, R186). Completes under the conditions stated: LOAD_PUSH. -/
def Obligations.LoadsLand : Prop :=
  ∀ (slot : Fin 68) (q : BitVec 4) l rest ga s,
    let g := slot.val
    let t0 := s.tower g
    t0.loads = l :: rest → l.q = q.toNat → s.waitsForBank g = false → s.gather g l = .ok ga →
    ∃ t, exec (.loadPush slot q) s = .next t ∧ (t.tower g).loads = rest ∧
      ((t.tower g).queue l.q).pushed = (t0.queue l.q).pushed + 1 ∧
      (l.shape ≠ .vector → (t.tower g).tile l.tile = l.tileOf (t0.tile l.tile) ga ∧
        ((t.tower g).tile l.tile).state = .full ∧ ∀ j, j ≠ l.tile → (t.tower g).tile j = t0.tile j) ∧
      (l.shape = .vector → (t.tower g).vecs l.q = t0.vecs l.q ++ [BitVec.ofNat 2048 (leNat (ga.rows.getD 0 []))] ∧
        (t.tower g).tiles = t0.tiles) ∧
      (t.tower g).a = t0.a ∧ (t.tower g).x = t0.x ∧ (∀ x, x ≠ g → t.tower x = s.tower x) ∧
      t.hbm = s.hbm ∧ t.gallery = s.gallery ∧ t.tmem = s.tmem ∧ t.companion = s.companion ∧ t.pending = s.pending

/-- Stores and copies (R185 to R188). Completes under the conditions stated: TST, VST, GET, PUT, TILE_STORE_COMPLETE,
POSTED_OP_COMPLETE. -/
def Obligations.StoresAndCopies : Prop :=
  (∀ c (q : BitVec 4) sh ss si b s, s.Ready c false { a := true, x := false } → c.stream = .a → q = 6 ∨ q = 7 →
    let g := c.slot.val
    let t0 := s.tower g
    let h := (s.sreg c sh).toNat % 2 ^ 32
    let k := t0.entryTile q.toNat (t0.queue q.toNat).claimed
    let r := s.ownTensor c h
    r.2 = .ok b → t0.isTileQueue q.toNat = true → t0.entryFull q.toNat (t0.queue q.toNat).claimed = true →
    (t0.tile k).tag = (parseDesc b).fmt → (isBlockFmt (t0.tile k).tag = true → (s.placeOf c ss si).si % 64 = 0) →
    Fetched (.loader g) s r.1 ∧ ∃ t st, exec (.tst c q sh ss si) s = .next t ∧ (t.tower g).stores = t0.stores ++ [st] ∧
      st.h = BitVec.ofNat 32 h ∧ st.desc = b ∧ st.at_ = s.placeOf c ss si ∧ st.q = q.toNat ∧ st.tile = k ∧
      ((t.tower g).queue q.toNat).claimed = (t0.queue q.toNat).claimed + 1 ∧ (t.tower g).tiles = t0.tiles ∧
      WentTo (nextPc c (s.pcOf c)) (s.strm c) (t.strm c) ∧ SameRegs (s.strm c) (t.strm c) ∧
      (∀ x, x ≠ g → t.tower x = r.1.tower x) ∧ { t with towers := r.1.towers } = r.1) ∧
  (∀ (slot : Fin 68) st rest s,
    let g := slot.val
    let t0 := s.tower g
    let d := parseDesc st.desc
    t0.stores = st :: rest → s.waitsForBank g = false →
    (if isBlockFmt d.fmt then s.storeBlocks g st d (t0.tile st.tile) else s.storeRows g st d (t0.tile st.tile)).2 = none →
    ∃ t, exec (.tileStoreComplete slot) s = .next t ∧ (t.tower g).stores = rest ∧
      ((t.tower g).tile st.tile).state = .empty ∧ ((t.tower g).tile st.tile).q = (t0.tile st.tile).q ∧
      ((t.tower g).tile st.tile).tag = (t0.tile st.tile).tag ∧
      (∀ j, j ≠ st.tile → (t.tower g).tile j = t0.tile j) ∧
      ((t.tower g).queue st.q).popped = (t0.queue st.q).popped + 1 ∧ (t.tower g).a = t0.a ∧ (t.tower g).x = t0.x ∧
      t.hbm = s.hbm ∧ t.companion = s.companion ∧ t.pending = s.pending) ∧
  (∀ c (q : BitVec 4) sh ss si b v vs s, s.Ready c false { a := true, x := false } → c.stream = .a → q = 6 ∨ q = 7 →
    let g := c.slot.val
    let t0 := s.tower g
    let h := (s.sreg c sh).toNat % 2 ^ 32
    let d := parseDesc b
    let w := elemBytes d.fmt
    let p := s.placeOf c ss si
    let r := s.ownTensor c h
    r.2 = .ok b → isPlainFmt d.fmt = true → t0.isTileQueue q.toNat = false → t0.vecs q.toNat = v :: vs →
    s.waitsForBank g = false →
    (r.1.storeElems g d p 0 true ((List.range (256 / w)).map (fun k => leBytes w (v.toNat >>> (8 * w * k))))).2 = none →
    ∃ t, exec (.vst c q sh ss si) s = .next t ∧ (t.tower g).vecs q.toNat = vs ∧
      WentTo (nextPc c (s.pcOf c)) (s.strm c) (t.strm c) ∧ SameRegs (s.strm c) (t.strm c) ∧
      (∀ x, (∀ k u, k < 256 / w → d.writeAt d.aux0 (d.tuple (p.si + (k : Int)) p.row p.outer) = some u →
          x < tmKey g (tmOfs (d.elemAddr (d.pos u + p.ofs))) ∨ tmKey g (tmOfs (d.elemAddr (d.pos u + p.ofs))) + w ≤ x) →
        SMap.get (fun _ => 0) t.tmem x = SMap.get (fun _ => 0) s.tmem x) ∧
      t.hbm = s.hbm ∧ t.companion = s.companion ∧ t.pending = s.pending) ∧
  (∀ c put sm sh sr b s, s.Ready c false { a := true, x := false } → c.stream = .a →
    let g := c.slot.val
    let h := (s.sreg c sh).toNat % 2 ^ 32
    let ofs := (s.sreg c sm).toNat % 2 ^ 25
    let pos := bits (s.sreg c sr).toNat 39 0
    let count := bits (s.sreg c sr).toNat 63 40
    let r := s.fetchDesc (.sde (slotSpire g)) (srcTower g 0) h
    count ≠ 0 →
    ((s.strm c).posted.filter (fun p => match p with | .copy _ _ _ _ _ _ _ => true | _ => false)).length < 16 →
    r.2 = .ok b → copyFault c s h ofs pos count (parseDesc b) = none →
    Fetched (.sde (slotSpire g)) s r.1 ∧
    ∃ t, exec (if put then .put c sm sh sr else .get c sm sh sr) s = .next t ∧
      (t.strm c).posted = (s.strm c).posted ++
        [.copy put (BitVec.ofNat 32 h) b pos count ofs (s.bandsOf (slotSpire g))] ∧
      WentTo (nextPc c (s.pcOf c)) { s.strm c with posted := (t.strm c).posted } (t.strm c) ∧
      SameRegs (s.strm c) (t.strm c) ∧ (∀ x, x ≠ g → t.tower x = s.tower x) ∧
      { t with towers := r.1.towers } = r.1) ∧
  (∀ (slot : Fin 68) (st : Stream) p rest s, ((s.tower slot.val).stream st).posted = p :: rest →
    s.waitsForBank slot.val = false → (s.tower slot.val).packets = [] →
    ∃ t, exec (.postedOpComplete slot st) s = .next t ∧ ((t.tower slot.val).stream st).posted = rest ∧
      ((t.tower slot.val).stream st).pc = ((s.tower slot.val).stream st).pc ∧
      SameRegs ((s.tower slot.val).stream st) ((t.tower slot.val).stream st) ∧ t.pending = s.pending)

/-- The instructions of the matrix array (R136, R142, R143, R189 to R191). Completes under the conditions stated: MMA_H4,
MMA_H48, MMA_H8, MMW, MDRAIN, TREL, TCFG. -/
def Obligations.MatrixInstructions : Prop :=
  (∀ m ∈ ([(Instr.mmaH4, .mma 0), (Instr.mmaH48, .mma 1), (Instr.mmaH8, .mma 2), (Instr.mmw, .mmw)] :
      List ((Issue → BitVec 2 → BitVec 4 → Bool → BitVec 4 → Bool → Bool → Instr) × OpKind)),
    ∀ c bank (qa : BitVec 4) pa (qb : BitVec 4) pb init s, s.Ready c false Gate.none → c.stream = .x →
    qa.toNat < 4 → qb.toNat < 4 →
    let g := c.slot.val
    let t0 := s.tower g
    let ca := (t0.claim qa.toNat pa).2
    let cb := ((t0.claim qa.toNat pa).1.claim qb.toNat pb).2
    t0.ringTiles qa.toNat ≠ [] → t0.ringTiles qb.toNat ≠ [] →
    tagsBad m.2 (t0.tile ca.tile).tag (t0.tile cb.tile).tag = none →
    (init = true ∨ t0.modeAfter t0.ops bank.toNat = decide (m.2 = .mmw)) →
    (t0.entryFull ca.q ca.n && t0.entryFull cb.q cb.n = true →
      s.arrayLate g t0.ops.length (s.newOp g m.2 [ca, cb] bank.toNat init) = none) →
    ∃ t o, exec (m.1 c bank qa pa qb pb init) s = .next t ∧ (t.tower g).ops = t0.ops ++ [o] ∧ o.kind = m.2 ∧
      o.claims = [ca, cb] ∧ o.bank = bank.toNat ∧ o.init = init ∧ o.started = false ∧
      (∀ j, j ≠ qa.toNat → j ≠ qb.toNat → (t.tower g).queue j = t0.queue j) ∧
      WentTo (nextPc c (s.pcOf c)) (s.strm c) (t.strm c) ∧ SameRegs (s.strm c) (t.strm c) ∧ OnlyTower g s t ∧
      OnlyStream .x t0 { t.tower g with ops := t0.ops, queues := t0.queues }) ∧
  (∀ c (bank : BitVec 2) s, s.Ready c false Gate.none → c.stream = .x →
    (s.tower c.slot.val).bankOnFtq bank.toNat = false →
    ∃ t o, exec (.mdrain c bank) s = .next t ∧ (t.tower c.slot.val).ops = (s.tower c.slot.val).ops ++ [o] ∧
      o.kind = .mdrain ∧ o.bank = bank.toNat ∧ o.claims = [] ∧
      WentTo (nextPc c (s.pcOf c)) (s.strm c) (t.strm c) ∧ SameRegs (s.strm c) (t.strm c) ∧
      OnlyTower c.slot.val s t ∧
      OnlyStream .x (s.tower c.slot.val) { t.tower c.slot.val with ops := (s.tower c.slot.val).ops }) ∧
  (∀ c (q : BitVec 4) s, s.Ready c false { a := false, x := true } → c.stream = .x → q.toNat < 4 →
    let g := c.slot.val
    let t0 := s.tower g
    let k := t0.queue q.toNat
    let i := t0.entryTile q.toNat k.claimed
    t0.ringTiles q.toNat ≠ [] → t0.entryFull q.toNat k.claimed = true → k.peeked = true →
    ∃ t, exec (.trel c q) s = .next t ∧
      (t.tower g).tile i = { Tile.init with q := (t0.tile i).q, tag := (t0.tile i).tag } ∧
      (∀ j, j ≠ i → (t.tower g).tile j = t0.tile j) ∧
      (t.tower g).queue q.toNat = { k with claimed := k.claimed + 1, peeked := false } ∧
      (∀ j, j ≠ q.toNat → (t.tower g).queue j = t0.queue j) ∧
      WentTo (nextPc c (s.pcOf c)) (s.strm c) (t.strm c) ∧ SameRegs (s.strm c) (t.strm c) ∧ OnlyTower g s t ∧
      OnlyStream .x t0 { t.tower g with tiles := t0.tiles, queues := t0.queues }) ∧
  (∀ c (tile q tag : BitVec 4) s, s.Ready c false { a := false, x := true } → c.stream = .x →
    let g := c.slot.val
    let t0 := s.tower g
    q.toNat < 4 ∨ q = 6 ∨ q = 7 ∨ q = 15 → tagOk tag.toNat = true →
    t0.loads.any (fun l => l.shape ≠ .vector && l.tile = tile.toNat) = false →
    t0.stores.any (fun st => st.tile = tile.toNat) = false →
    t0.queueHolds (t0.tile tile.toNat).q = false → t0.queueHolds q.toNat = false →
    (∀ w, t0.a.run = .waiting → t0.a.wait = some w → waitQueue w.instr .a ≠ (t0.tile tile.toNat).q) →
    ∃ t, exec (.tcfg c tile q tag) s = .next t ∧
      (t.tower g).tile tile.toNat = { Tile.init with q := q.toNat, tag := tag.toNat } ∧
      (∀ j, j ≠ tile.toNat → (t.tower g).tile j = t0.tile j) ∧
      (∀ j, j ≠ q.toNat → j ≠ (t0.tile tile.toNat).q → (t.tower g).queue j = t0.queue j) ∧
      (q ≠ 15 → ((t.tower g).queue q.toNat).claimed = ((t.tower g).queue q.toNat).pushed) ∧
      WentTo (nextPc c (s.pcOf c)) (s.strm c) (t.strm c) ∧ SameRegs (s.strm c) (t.strm c) ∧ OnlyTower g s t ∧
      OnlyStream .x t0 { t.tower g with tiles := t0.tiles, queues := t0.queues })

/-- VOP (R193). The sign and payload of a NaN result are free (DESIGN CHOICE, log 15). Completes under the conditions
stated: VOP_ADD, VOP_SUB, VOP_MUL, VOP_FMA, VOP_MIN, VOP_MAX, VOP_AND, VOP_OR, VOP_XOR, VOP_SHL, VOP_SHR, VOP_MOV, VOP_CVT,
VOP_BCAST. -/
def Obligations.VectorArithmetic : Prop :=
  (∀ c (ty : BitVec 2) (vd : BitVec 5) sa sb a b t1 t2 s, s.Ready c false { a := false, x := true } → c.stream = .x →
    selKind c sa s = none → selKind c sb s = none →
    (s.tower c.slot.val).select sa = some (a, t1) → t1.select sb = some (b, t2) →
    let w := if ty.toNat % 2 = 0 then 32 else 16
    let mb := if ty = 0 then 23 else 7
    let int := decide (2 ≤ ty.toNat)
    let sg : Nat → Int := fun x => if 2 ^ (w - 1) ≤ x then (x : Int) - 2 ^ w else x
    let does := fun (i : Instr) (f : Nat → Nat → Nat → Nat) => ∃ t, exec i s = .next t ∧
      VectorWrites c vd t2 s t ∧
      ∀ k < 2048 / w, lane w ((t.tower c.slot.val).vreg vd.toNat) k = f (s.seed k) (lane w a k) (lane w b k)
    (int = true →
      does (.vopAdd c ty vd sa sb none) (fun _ x y => (x + y) % 2 ^ w) ∧
      does (.vopSub c ty vd sa sb none) (fun _ x y => (x + 2 ^ w - y) % 2 ^ w) ∧
      does (.vopMul c ty vd sa sb none) (fun _ x y => x * y % 2 ^ w) ∧
      does (.vopMin c ty vd sa sb) (fun _ x y => if sg x ≤ sg y then x else y) ∧
      does (.vopMax c ty vd sa sb) (fun _ x y => if sg x ≤ sg y then y else x) ∧
      does (.vopAnd c ty vd sa sb) (fun _ x y => x &&& y) ∧
      does (.vopOr c ty vd sa sb) (fun _ x y => x ||| y) ∧
      does (.vopXor c ty vd sa sb) (fun _ x y => x ^^^ y) ∧
      does (.vopShl c ty vd sa sb) (fun _ x y => x * 2 ^ (y % w) % 2 ^ w) ∧
      does (.vopShr c ty vd sa sb) (fun _ x y => ((sg x / 2 ^ (y % w)) % 2 ^ w).toNat)) ∧
    (int = false →
      does (.vopAdd c ty vd sa sb none) (fun z x y => ((Num.decode mb x).add (Num.decode mb y)).encode mb z % 2 ^ w) ∧
      does (.vopSub c ty vd sa sb none) (fun z x y => ((Num.decode mb x).add (Num.decode mb y).neg).encode mb z % 2 ^ w) ∧
      does (.vopMul c ty vd sa sb none) (fun z x y => ((Num.decode mb x).mul (Num.decode mb y)).encode mb z % 2 ^ w) ∧
      does (.vopMin c ty vd sa sb) (fun z x y => ((Num.decode mb x).minNum (Num.decode mb y)).encode mb z % 2 ^ w) ∧
      does (.vopMax c ty vd sa sb) (fun z x y => ((Num.decode mb x).maxNum (Num.decode mb y)).encode mb z % 2 ^ w) ∧
      ∃ t, exec (.vopFma c ty vd sa sb none) s = .next t ∧ VectorWrites c vd t2 s t ∧
        ∀ k < 2048 / w, lane w ((t.tower c.slot.val).vreg vd.toNat) k =
          ((Num.decode mb (lane w a k)).fma (Num.decode mb (lane w b k))
            (Num.decode mb (lane w ((s.tower c.slot.val).vreg vd.toNat) k))).encode mb (s.seed k) % 2 ^ w)) ∧
  (∀ c (ty : BitVec 2) (vd : BitVec 5) sa sb s, s.Ready c false { a := false, x := true } → c.stream = .x →
    selKind c sa s = none → selKind c sb s = none →
    let g := c.slot.val
    let t0 := s.tower g
    let int := decide (2 ≤ ty.toNat)
    let onInt := [Instr.vopAnd c ty vd sa sb, .vopOr c ty vd sa sb, .vopXor c ty vd sa sb, .vopShl c ty vd sa sb,
      .vopShr c ty vd sa sb]
    let waits := fun (i : Instr) => ∃ t o, exec i s = .next t ∧ (t.tower g).ops = [o] ∧ o.kind = .vec i ∧ o.vd = vd.toNat ∧
      WentTo (nextPc c (s.pcOf c)) (s.strm c) (t.strm c) ∧ SameRegs (s.strm c) (t.strm c) ∧ OnlyTower g s t ∧
      OnlyStream .x t0 { t.tower g with ops := [] }
    (∀ bad, ∀ i ∈ (if int then [Instr.vopFma c ty vd sa sb bad] else onInt),
      exec i s = .next (s.issueFault g .x i (s.illegal c 0x0A))) ∧
    (∀ bad, ∀ i ∈ [Instr.vopAdd c ty vd sa sb bad, .vopSub c ty vd sa sb bad, .vopMul c ty vd sa sb bad,
        .vopMin c ty vd sa sb, .vopMax c ty vd sa sb] ++ (if int then onInt else [.vopFma c ty vd sa sb bad]),
      t0.select sa = none ∨ (∃ a t1, t0.select sa = some (a, t1) ∧ t1.select sb = none) → waits i) ∧
    (∀ k a b t1 t2, t0.select sa = some (a, t1) → t1.select sb = some (b, t2) →
      ∀ i ∈ [Instr.vopAdd c ty vd sa sb (some k), .vopSub c ty vd sa sb (some k), .vopMul c ty vd sa sb (some k)] ++
        (if int then [] else [.vopFma c ty vd sa sb (some k)]),
      exec i s = .next ((s.countCheck g none).takeFault g .x (residueFault g 0xFF 2 k))) ∧
    (t0.select sa = none → waits (.vopMov c ty vd sa 0) ∧ ∀ frm : BitVec 2, waits (.vopCvt c ty vd sa (frm.setWidth 6)))) ∧
  (∀ c (ty : BitVec 2) (vd : BitVec 5) sa a t1 s, s.Ready c false { a := false, x := true } → c.stream = .x →
    selKind c sa s = none → (s.tower c.slot.val).select sa = some (a, t1) →
    (∃ t, exec (.vopMov c ty vd sa 0) s = .next t ∧ VectorWrites c vd t1 s t ∧
      (t.tower c.slot.val).vreg vd.toNat = a) ∧
    (∀ frm : BitVec 2, ∃ t, exec (.vopCvt c ty vd sa (frm.setWidth 6)) s = .next t ∧ VectorWrites c vd t1 s t ∧
      ∀ k, k < 2048 / tyBits ty.toNat → k < 2048 / tyBits frm.toNat →
        lane (tyBits ty.toNat) ((t.tower c.slot.val).vreg vd.toNat) k =
          laneCvt frm.toNat ty.toNat (s.seed k) (lane (tyBits frm.toNat) a k) % 2 ^ tyBits ty.toNat)) ∧
  (∀ c (ty : BitVec 2) (vd r : BitVec 5) s, s.Ready c false { a := false, x := true } → c.stream = .x →
    ∃ t, exec (.vopBcast c ty vd (r.setWidth 6) 0) s = .next t ∧ VectorWrites c vd (s.tower c.slot.val) s t ∧
      ∀ k < 2048 / tyBits ty.toNat, lane (tyBits ty.toNat) ((t.tower c.slot.val).vreg vd.toNat) k =
        (s.sreg c r).toNat % 2 ^ tyBits ty.toNat)

/-- Modular vectors (R194) and vector queues (R197). Completes under the conditions stated: VADDM, VSUBM, VMULM, VPOP,
VPUSH. -/
def Obligations.VectorModularAndQueues : Prop :=
  (∀ m ∈ ([(Instr.vaddm, fun q x y => (x + y) % q), (Instr.vsubm, fun q x y => (x % q + q - y % q) % q),
      (Instr.vmulm, fun q x y => x * y % q)] :
      List ((Issue → BitVec 5 → BitVec 6 → BitVec 6 → BitVec 5 → Option CheckFail → Instr) × (Nat → Nat → Nat → Nat))),
    ∀ c (vd : BitVec 5) sa sb rq a b t1 t2 s, s.Ready c false { a := false, x := true } → c.stream = .x →
    selKind c sa s = none → selKind c sb s = none →
    (s.tower c.slot.val).select sa = some (a, t1) → t1.select sb = some (b, t2) →
    let q := (s.sreg c rq).toNat % 2 ^ 32
    2 ≤ q → ∃ t, exec (m.1 c vd sa sb rq none) s = .next t ∧
      VectorWrites c vd { t2 with moduli := (t.tower c.slot.val).moduli } s t ∧
      (t.tower c.slot.val).moduli.head? = some q ∧
      ∀ k < 64, lane 32 ((t.tower c.slot.val).vreg vd.toNat) k = m.2 q (lane 32 a k) (lane 32 b k)) ∧
  (∀ c (vd : BitVec 5) sa sb rq s, s.Ready c false { a := false, x := true } → c.stream = .x →
    selKind c sa s = none → selKind c sb s = none →
    let g := c.slot.val
    let t0 := s.tower g
    let q := (s.sreg c rq).toNat % 2 ^ 32
    (∀ bad, ∀ i ∈ [Instr.vaddm c vd sa sb rq bad, .vsubm c vd sa sb rq bad, .vmulm c vd sa sb rq bad],
      (q < 2 → exec i s = .next (s.issueFault g .x i (s.illegal c 0x0A))) ∧
      (2 ≤ q → t0.select sa = none ∨ (∃ a t1, t0.select sa = some (a, t1) ∧ t1.select sb = none) →
        ∃ t o, exec i s = .next t ∧ (t.tower g).ops = [o] ∧ o.kind = .vec i ∧ o.vd = vd.toNat ∧
          WentTo (nextPc c (s.pcOf c)) (s.strm c) (t.strm c) ∧ SameRegs (s.strm c) (t.strm c) ∧ OnlyTower g s t)) ∧
    (∀ k a b t1 t2, 2 ≤ q → t0.select sa = some (a, t1) → t1.select sb = some (b, t2) →
      (∀ i ∈ [Instr.vaddm c vd sa sb rq (some k), .vsubm c vd sa sb rq (some k)],
        exec i s = .next ((s.countCheck g none).takeFault g .x (residueFault g 0xFF 3 k))) ∧
      exec (.vmulm c vd sa sb rq (some k)) s =
        .next ((s.countCheck g none).takeFault g .x (residueFault g 0xFF (if k.site = 2 then 2 else 3) k)))) ∧
  (∀ c vd (q : BitVec 4) v vs s, s.Ready c false { a := false, x := true } → c.stream = .x → q = 4 ∨ q = 5 →
    (s.tower c.slot.val).vecs q.toNat = v :: vs →
    ∃ t, exec (.vpop c vd q) s = .next t ∧ (t.tower c.slot.val).vreg vd.toNat = v ∧
      (∀ n, n ≠ vd.toNat → (t.tower c.slot.val).vreg n = (s.tower c.slot.val).vreg n) ∧
      (t.tower c.slot.val).vecs q.toNat = vs ∧
      (∀ j, j ≠ q.toNat → (t.tower c.slot.val).vecs j = (s.tower c.slot.val).vecs j) ∧
      WentTo (nextPc c (s.pcOf c)) (s.strm c) (t.strm c) ∧ SameRegs (s.strm c) (t.strm c) ∧
      OnlyTower c.slot.val s t ∧ OnlyStream .x (s.tower c.slot.val) { t.tower c.slot.val with
        vregs := (s.tower c.slot.val).vregs, vq := (s.tower c.slot.val).vq, queues := (s.tower c.slot.val).queues }) ∧
  (∀ c vd (q : BitVec 4) s, s.Ready c false { a := false, x := true } → c.stream = .x → q = 4 ∨ q = 5 →
    (s.tower c.slot.val).vecs q.toNat = [] →
    ∃ t o, exec (.vpop c vd q) s = .next t ∧ (t.tower c.slot.val).ops = [o] ∧ o.kind = .vec (.vpop c vd q) ∧
      o.vd = vd.toNat ∧ WentTo (nextPc c (s.pcOf c)) (s.strm c) (t.strm c) ∧ SameRegs (s.strm c) (t.strm c) ∧
      OnlyTower c.slot.val s t ∧ OnlyStream .x (s.tower c.slot.val) { t.tower c.slot.val with ops := [] }) ∧
  (∀ c (q : BitVec 4) va s, s.Ready c false { a := false, x := true } → c.stream = .x → q = 6 ∨ q = 7 →
    (s.tower c.slot.val).isTileQueue q.toNat = false → ((s.tower c.slot.val).vecs q.toNat).length < 8 →
    ∃ t, exec (.vpush c q va) s = .next t ∧
      (t.tower c.slot.val).vecs q.toNat = (s.tower c.slot.val).vecs q.toNat ++ [(s.tower c.slot.val).vreg va.toNat] ∧
      (∀ j, j ≠ q.toNat → (t.tower c.slot.val).vecs j = (s.tower c.slot.val).vecs j) ∧
      WentTo (nextPc c (s.pcOf c)) (s.strm c) (t.strm c) ∧ SameRegs (s.strm c) (t.strm c) ∧
      OnlyTower c.slot.val s t ∧ OnlyStream .x (s.tower c.slot.val) { t.tower c.slot.val with
        vq := (s.tower c.slot.val).vq, queues := (s.tower c.slot.val).queues })

/-- Issue of the Marver's tile operations (R195, R196). Completes under the conditions stated: VRED_ROW_ADD, VRED_ROW_MAX,
VRED_ROW_MIN, VRED_ROW_ADDM, VRED_COL_ADD, VRED_COL_MAX, VRED_COL_MIN, VRED_COL_ADDM, EPRG. -/
def Obligations.MarverInstructions : Prop :=
  (∀ m ∈ ([(Instr.vredRowAdd, false, 0), (Instr.vredRowMax, false, 1), (Instr.vredRowMin, false, 2),
      (Instr.vredRowAddm, false, 3), (Instr.vredColAdd, true, 0), (Instr.vredColMax, true, 1),
      (Instr.vredColMin, true, 2), (Instr.vredColAddm, true, 3)] :
      List ((Issue → BitVec 5 → BitVec 4 → Bool → BitVec 5 → Instr) × Bool × Nat)),
    ∀ c (vd : BitVec 5) (qs : BitVec 4) pop rq s, s.Ready c false Gate.none → c.stream = .x →
    let g := c.slot.val
    let t0 := s.tower g
    let cl := (t0.claim qs.toNat pop).2
    sourceCheck c qs pop s = none → vd.toNat % 4 = 0 → t0.noSlots qs.toNat = false →
    (m.2.2 = 3 → 2 ≤ (s.sreg c rq).toNat % 2 ^ 32) →
    (∀ src, t0.sourceOf t0.ops cl = some src → t0.sourceReady cl || decide (qs.toNat < 4) = true →
      s.vredFault g m.2.2 qs.toNat src = none) →
    ∃ t o, exec (m.1 c vd qs pop rq) s = .next t ∧ (t.tower g).ops = t0.ops ++ [o] ∧ o.kind = .vred m.2.1 m.2.2 ∧
      o.claims = [cl] ∧ o.vd = vd.toNat ∧ o.modulus = (s.sreg c rq).toNat % 2 ^ 32 ∧ o.started = false ∧
      WentTo (nextPc c (s.pcOf c)) (s.strm c) (t.strm c) ∧ SameRegs (s.strm c) (t.strm c) ∧ OnlyTower g s t ∧
      OnlyStream .x t0 { t.tower g with ops := t0.ops, queues := t0.queues }) ∧
  (∀ c (prog qs : BitVec 4) pop (qd : BitVec 4) s, s.Ready c true Gate.none → c.stream = .x →
    let g := c.slot.val
    let t0 := s.tower g
    let e := t0.ep prog.toNat
    let cl := (t0.claim qs.toNat pop).2
    longY c = 0 → longX c < 512 → t0.x.wait = none → (bit (longX c) 8 = true → longX c % 256 = e.gen) →
    sourceCheck c qs pop s = none → qd = 6 ∨ qd = 7 → e.valid = true → t0.noSlots qs.toNat = false →
    t0.isTileQueue qd.toNat = true →
    (∀ src, t0.sourceOf t0.ops cl = some src → t0.sourceReady cl || decide (qs.toNat < 4) = true →
      s.eprgFault g qs.toNat e.image src qd.toNat (t0.eprgDest t0.ops qd.toNat) = none) →
    ∃ t o, exec (.eprg c prog qs pop qd) s = .next t ∧ (t.tower g).ops = t0.ops ++ [o] ∧
      o.kind = .eprg prog.toNat qd.toNat ∧ o.claims = [cl] ∧ o.image = e.image ∧ o.gen = e.gen ∧ o.started = false ∧
      (∀ n, (t.tower g).ep n = t0.ep n) ∧
      WentTo (nextPc c (s.pcOf c)) (s.strm c) (t.strm c) ∧ SameRegs (s.strm c) (t.strm c) ∧ OnlyTower g s t ∧
      OnlyStream .x t0 { t.tower g with ops := t0.ops, queues := t0.queues, eps := t0.eps })

/-- The events of tile operations, where they are enabled and no fault arises. Completes under the conditions stated:
MDRAIN_PUSH, ARRAY_OP_START, ARRAY_OP_COMPLETE, MARVER_OP_START, MARVER_OP_COMPLETE. -/
def Obligations.TileOperationEvents : Prop :=
  (∀ (slot : Fin 68) k o s,
    let g := slot.val
    let t0 := s.tower g
    firstIdx (fun (o : TileOp) => o.kind.onArray && !o.started) t0.ops = some k → t0.ops[k]? = some o →
    (t0.ops.filter (fun o => o.kind.onArray && o.started)).length < 2 → t0.ftq.contains o.bank = false →
    (t0.ops.take k).any (fun m => m.kind = .mdrain && m.bank = o.bank) = false →
    o.claims.all (fun c => t0.entryFull c.q c.n) = true → s.arrayLate g k o = none →
    ∃ t, exec (.arrayOpStart slot) s = .next t ∧ OnlyTower g s t ∧
      t.tower g = { t0 with ops := t0.ops.set k { o with started := true, numCtl := s.reg (Reg.twrNumCtl g) } }) ∧
  (∀ (slot : Fin 68) k o a b bank steps skips extra sats s,
    let g := slot.val
    let t0 := s.tower g
    firstIdx (fun (o : TileOp) => o.kind.onArray) t0.ops = some k → t0.ops[k]? = some o → o.started = true →
    o.claims = [a, b] → t0.inTurn k = true → t0.arrayUe o (t0.tile a.tile) (t0.tile b.tile) = none →
    arrayResult g o (t0.bank o.bank) (t0.tile a.tile) (t0.tile b.tile) = .ok (bank, steps, skips, extra, sats) →
    ∃ t, exec (.arrayOpComplete slot none) s = .next t ∧ (t.tower g).bank o.bank = bank ∧
      (∀ n, n ≠ o.bank → (t.tower g).bank n = t0.bank n) ∧
      (t.tower g).ops = t0.ops.take k ++ t0.ops.drop (k + 1) ∧ (t.tower g).a = t0.a ∧ (t.tower g).x = t0.x ∧
      (∀ x, x ≠ g → t.tower x = s.tower x) ∧
      (∀ x, x ∉ [Reg.twrArrSteps g, Reg.twrArrXclk g, Reg.twrArrSkip g, Reg.twrAccSatcnt g] → t.reg x = s.reg x) ∧
      { t with ctl := s.ctl, towers := s.towers } = s) ∧
  (∀ (slot : Fin 68) k o s,
    let g := slot.val
    let t0 := s.tower g
    firstIdx (fun (o : TileOp) => o.kind = .mdrain) t0.ops = some k → t0.ops[k]? = some o →
    (t0.ops.take k).any (fun m => m.kind.onArray && m.bank = o.bank) = false → t0.inTurn k = true →
    ((t0.bank o.bank).poisons = [] ∨ bit o.numCtl 17 = false) →
    ∃ t, exec (.mdrainPush slot) s = .next t ∧ (t.tower g).ftq = t0.ftq ++ [o.bank] ∧
      (t.tower g).ops = t0.ops.take k ++ t0.ops.drop (k + 1) ∧ (t.tower g).a = t0.a ∧ (t.tower g).x = t0.x ∧
      (t.tower g).banks = t0.banks ∧ (∀ x, x ≠ g → t.tower x = s.tower x) ∧
      (∀ x, x ≠ Reg.twrPoisonCnt g → t.reg x = s.reg x) ∧ { t with ctl := s.ctl, towers := s.towers } = s) ∧
  (∀ (slot : Fin 68) k o c cs src s,
    let g := slot.val
    let t0 := s.tower g
    firstIdx (fun (o : TileOp) => o.kind.onMarver && !o.started) t0.ops = some k → t0.ops[k]? = some o →
    o.claims = c :: cs → (t0.ops.filter (fun o => o.kind.onMarver && o.started)).length < 2 →
    (∀ m ∈ t0.ops.take k, ∀ i, m.kind ≠ .vec i) →
    t0.sourceReady c = true → t0.sourceOf (t0.ops.take k) c = some src → s.marverFault g o src o.dest = none →
    waitsForVred (t0.ops.take k) o (t0.sourceWidth src) = false →
    (∀ p qd, o.kind = .eprg p qd → (t0.tile o.dest).state = .empty) →
    ∃ t o', exec (.marverOpStart slot) s = .next t ∧ OnlyTower g s t ∧ (t.tower g).ops = t0.ops.set k o' ∧
      o'.started = true ∧ o'.kind = o.kind ∧ o'.claims = o.claims ∧ o'.numCtl = s.reg (Reg.twrNumCtl g) ∧
      (t.tower g).a = t0.a ∧ (t.tower g).x = t0.x ∧
      (∀ p qd, o.kind = .eprg p qd → ((t.tower g).tile o.dest).state = .filling)) ∧
  (∀ (slot : Fin 68) k o c cs src s,
    let g := slot.val
    let t0 := s.tower g
    firstIdx (fun (o : TileOp) => o.kind.onMarver) t0.ops = some k → t0.ops[k]? = some o → o.started = true →
    o.claims = c :: cs → t0.sourceOf (t0.ops.take k) c = some src → t0.inTurn k = true →
    (∀ b, src = .bank b → (t0.bank b).bad = []) →
    (∀ col opr rs sats, o.kind = .vred col opr →
      vredResult g o t0 src col opr (s.seed 0) = .ok (rs, sats) →
      ∃ t, exec (.marverOpComplete slot none) s = .next t ∧
        (t.tower g).ops = t0.ops.take k ++ t0.ops.drop (k + 1) ∧
        (∀ n < 4, (t.tower g).vreg (o.vd + n) = packLanes 32 ((rs.drop (64 * n)).take 64)) ∧
        (∀ n, n < o.vd ∨ o.vd + 4 ≤ n → (t.tower g).vreg n = t0.vreg n) ∧ (t.tower g).a = t0.a ∧ (t.tower g).x = t0.x ∧
        (∀ x, x ≠ Reg.twrAccSatcnt g → t.reg x = s.reg x)) ∧
    (∀ p qd, o.kind = .eprg p qd →
      ∃ t, exec (.marverOpComplete slot none) s = .next t ∧
        (t.tower g).ops = t0.ops.take k ++ t0.ops.drop (k + 1) ∧
        ((t.tower g).queue qd).pushed = (t0.queue qd).pushed + 1 ∧ (t.tower g).a = t0.a ∧ (t.tower g).x = t0.x))

/-- The events that end a wait (R134, R136, R142, R147). Completes under the conditions stated: QUEUE_WAIT_END,
TREL_RELEASE, TCFG_APPLY, CHECKPOINT_RETIRE. -/
def Obligations.WaitsEnd : Prop :=
  (∀ c (a b d : BitVec 5) (q p r : BitVec 4) (k : BitVec 2) (n : BitVec 12) (u v w : Bool) (s : State),
    ∀ i ∈ ([.tqPush c a, .tqPop c a, .csrr c a n, .csrw c n a, .tld c q a b d, .tst c q a b d, .fence c, .halt c,
      .mmaH4 c k q u p v w, .mdrain c k, .vredRowAdd c a q u b, .eprg c q p u r, .vpop c a q, .vpush c q a] : List Instr),
    WaitsAt i (s.strm c) → (c.stream = .x → ∀ o ∈ (s.tower c.slot.val).ops, ∀ j, o.kind ≠ .vec j) →
    exec (.queueWaitEnd c.slot c.stream) s = exec i (s.woken c)) ∧
  (∀ c ss (s : State), WaitsAt (.tqPush c ss) (s.strm c) → (s.woken c).Ready c false Gate.both →
    ((s.tower c.slot.val).outTokens c.stream).length < 32 →
    ∃ t, exec (.queueWaitEnd c.slot c.stream) s = .next t ∧
      (t.tower c.slot.val).outTokens c.stream = (s.tower c.slot.val).outTokens c.stream ++ [s.sreg c ss] ∧
      WentTo (nextPc c (s.pcOf c)) { s.strm c with run := .running } (t.strm c) ∧ SameRegs (s.strm c) (t.strm c) ∧
      OnlyTower c.slot.val s t) ∧
  (∀ c (q : BitVec 4) (s : State), c.stream = .x → WaitsAt (.trel c q) (s.strm c) →
    (s.woken c).Ready c false { a := false, x := true } → q.toNat < 4 →
    let g := c.slot.val
    let t0 := s.tower g
    let k := t0.queue q.toNat
    let i := t0.entryTile q.toNat k.claimed
    t0.ringTiles q.toNat ≠ [] → t0.entryFull q.toNat k.claimed = true → k.peeked = true →
    ∃ t, exec (.trelRelease c.slot) s = .next t ∧
      (t.tower g).tile i = { Tile.init with q := (t0.tile i).q, tag := (t0.tile i).tag } ∧
      (∀ j, j ≠ i → (t.tower g).tile j = t0.tile j) ∧
      (t.tower g).queue q.toNat = { k with claimed := k.claimed + 1, peeked := false } ∧
      (∀ j, j ≠ q.toNat → (t.tower g).queue j = t0.queue j) ∧
      WentTo (nextPc c (s.pcOf c)) { s.strm c with run := .running } (t.strm c) ∧ SameRegs (s.strm c) (t.strm c) ∧
      OnlyTower g s t ∧ OnlyStream .x t0 { t.tower g with tiles := t0.tiles, queues := t0.queues }) ∧
  (∀ c (tile q tag : BitVec 4) (s : State), c.stream = .x → WaitsAt (.tcfg c tile q tag) (s.strm c) →
    (s.woken c).Ready c false { a := false, x := true } →
    let g := c.slot.val
    let t0 := s.tower g
    q.toNat < 4 ∨ q = 6 ∨ q = 7 ∨ q = 15 → tagOk tag.toNat = true →
    t0.loads.any (fun l => l.shape ≠ .vector && l.tile = tile.toNat) = false →
    t0.stores.any (fun st => st.tile = tile.toNat) = false →
    t0.queueHolds (t0.tile tile.toNat).q = false → t0.queueHolds q.toNat = false →
    (∀ w, t0.a.run = .waiting → t0.a.wait = some w → waitQueue w.instr .a ≠ (t0.tile tile.toNat).q) →
    ∃ t, exec (.tcfgApply c.slot) s = .next t ∧
      (t.tower g).tile tile.toNat = { Tile.init with q := q.toNat, tag := tag.toNat } ∧
      (∀ j, j ≠ tile.toNat → (t.tower g).tile j = t0.tile j) ∧
      WentTo (nextPc c (s.pcOf c)) { s.strm c with run := .running } (t.strm c) ∧ SameRegs (s.strm c) (t.strm c) ∧
      OnlyTower g s t ∧ OnlyStream .x t0 { t.tower g with tiles := t0.tiles, queues := t0.queues }) ∧
  (∀ c (s : State), c.stream = .x → WaitsAt (.fenceCp c) (s.strm c) → (s.woken c).Ready c false Gate.none →
    let g := c.slot.val
    (s.tower g).settled .x = true → (s.strm c).postedFault = none →
    ∀ cp rest, (s.tower g).cps = cp :: rest → (s.tower g).balanced cp = true →
    ∃ t, exec (.checkpointRetire c.slot) s = .next t ∧ OnlyTower g s t ∧ (t.tower g).cps = rest ∧
      (t.tower g).x = { (s.tower g).x with
        run := .running, pc := nextPc c (s.pcOf c), icount := (s.tower g).x.icount + 1, step := (s.tower g).x.step + 1,
        wait := none, tagPassed := false } ∧
      (t.tower g).a = (s.tower g).a)

/-- Completes under the conditions stated (R145): QUEUE_WAIT_TIMEOUT. -/
def Obligations.WaitsTimeOut : Prop :=
  ∀ c ss (e : BitVec 14) w (s : State),
    let g := c.slot.val
    let r := s.strm c
    let ev := bits (s.reg (match c.stream with | .a => Reg.twrAEvec g | .x => Reg.twrXEvec g)) 15 2 * 4
    let area := match c.stream with | .a => 0x3_FF00 | .x => 0x3_FF20
    let limit := bits (s.reg (Reg.twrSexCtl g)) 7 0
    ∀ x ∈ [(Instr.tqPush c ss, 0x11, (match c.stream with | .a => 9 | .x => 10)), (Instr.imswap c e, 0x12, 0xFF),
      (Instr.fenceCp c, 0x13, 0xFF)],
    r.run = .waiting → r.wait = some w → w.instr = x.1 → w.fault = none → w.timed = true → limit ≠ 0 →
    w.bell + limit ≤ s.bellNum →
    (s.tower g).older c.stream = false → r.inHandler = false → ev ≠ 0 →
    ∃ t, exec (.queueWaitTimeout c.slot c.stream) s = .next t ∧
      (t.strm c).run = .running ∧ (t.strm c).pc = BitVec.ofNat 17 ev ∧ (t.strm c).inHandler = true ∧
      (t.strm c).epc = BitVec.ofNat 17 (ofBool (s.tower g).active * 65536 + (s.pcOf c).toNat % 65536) ∧
      SameRegs (s.strm c) (t.strm c) ∧ (t.strm c).icount = r.icount ∧
      (let d := (List.range 32).map (fun k => (t.tower g).sdmByte (area + k))
       field d 0 0 = 0x20 ∧ bit (field d 1 1) 7 = true ∧
       field d 3 2 = slotSpire g * 0x1000 + 0x800 + streamUnit c.stream * 32 + slotPhys g ∧
       field d 16 16 = x.2.1 ∧ field d 21 21 = x.2.2) ∧
      (∀ y, t.reg y = s.reg y) ∧ t.pending = s.pending ∧ t.descs = s.descs ∧
      (∀ h, h ≠ g → t.tower h = s.tower h)

/-- COUNT_BREAK, TAG_BREAK and TOWER_STOP (R158, R201 to R203); and a stream issues only while it runs (the model's reading,
DEDUCED, log 3). Completes under the conditions stated: TOWER_STOP, COUNT_BREAK, TAG_BREAK. -/
def Obligations.BreaksAndStops : Prop :=
  (∀ (slot : Fin 68) (st : Stream) (tag : BitVec 8) (byTag : Bool) (s : State),
    let g := slot.val
    let ctl := Reg.twrDbgCtl g
    let status := Reg.twrDbgStatus g
    let pend := Reg.carPendSet (slotSpire g) 0
    (s.tower g).breakReady st = true → (s.tower g).a.inHandler = false →
    (if byTag then s.tagBreakDue g st tag = true else s.countBreakDue g st = true) →
    ∃ t, exec (if byTag then .tagBreak slot st tag else .countBreak slot st) s = .next t ∧
      ((s.tower g).a.run ≠ .halted → (t.tower g).a.run = .stopped) ∧
      ((s.tower g).x.run ≠ .halted → (t.tower g).x.run = .stopped) ∧
      (bit (s.reg status) 31 = false → t.reg status = 1 <<< 31 +
        (((t.tower g).stream st).epc.toNat / 65536) <<< 30 + ((if byTag then 3 else 1) + streamUnit st) <<< 27 +
        (if byTag then tag.toNat else 0) <<< 16 + ((t.tower g).stream st).epc.toNat % 65536 / 4 * 4) ∧
      (bit (s.reg status) 31 = true → t.reg status = s.reg status) ∧
      t.reg pend = s.reg pend ||| 1 <<< (32 + slotPhys g) ∧
      (∀ i < 64, bit (t.reg ctl) i = (bit (s.reg ctl) i && (byTag || i != streamUnit st))) ∧
      (byTag = true → ((t.tower g).stream st).tagPassed = true) ∧
      (∀ x, x ≠ ctl → x ≠ status → x ≠ pend → t.reg x = s.reg x) ∧ (∀ h, h ≠ g → t.tower h = s.tower h) ∧
      t.pending = s.pending ∧ t.hbm = s.hbm ∧ t.tmem = s.tmem) ∧
  (∀ (slot : Fin 68) (s : State),
    let g := slot.val
    (∃ r ∈ s.stops, g ∈ r.left) → s.sealHolds g = false → (s.tower g).a.inHandler = false →
    (∀ r ∈ s.stops, ∃ h ∈ r.left, h ≠ g) →
    ∃ t, exec (.towerStop slot) s = .next t ∧
      ((s.tower g).a.run ≠ .halted → (t.tower g).a.run = .stopped) ∧
      ((s.tower g).x.run ≠ .halted → (t.tower g).x.run = .stopped) ∧
      t.stops = s.stops.map (fun r => { r with left := r.left.filter (· ≠ g) }) ∧
      (∀ x, t.reg x = s.reg x) ∧ (∀ h, h ≠ g → t.tower h = s.tower h) ∧ t.pending = s.pending ∧ t.hbm = s.hbm ∧
      t.tmem = s.tmem) ∧
  (∀ (c : Issue) s, (s.strm c).run ≠ .running →
    (∀ sd sa sb, exec (.add c sd sa sb) s = .next s) ∧ (∀ ss im sa, exec (.stD c ss im sa) s = .next s) ∧
    exec (.trap c) s = .next s ∧ exec (.halt c) s = .next s ∧ exec (.fence c) s = .next s ∧
    (∀ sd n, exec (.csrr c sd n) s = .next s) ∧ (∀ n ss, exec (.csrw c n ss) s = .next s) ∧
    (∀ q sh ss si, exec (.tld c q sh ss si) s = .next s) ∧ (∀ q sh ss si, exec (.tst c q sh ss si) s = .next s))

/-- The launch state (R129); a command break that held the LAUNCH stops its tasks before their first instruction (R203).
Completes under the conditions stated: TASK_START. -/
def Obligations.TaskStarts : Prop :=
  (∀ (slot : Fin 68) l rest (s : State),
    let g := slot.val
    let status := Reg.twrDbgStatus g
    let pend := Reg.carPendSet (slotSpire g) 0
    (s.tower g).launch = l :: rest → s.launchReady l.o = true → l.broken = true →
    ∃ t, exec (.taskStart slot) s = .next t ∧ (t.tower g).a.run = .stopped ∧ (t.tower g).x.run = .stopped ∧
      (t.tower g).task = some { o := l.o } ∧ (t.tower g).launch = rest ∧
      t.reg pend = s.reg pend ||| 1 <<< (32 + slotPhys g) ∧
      t.reg status = (if bit (s.reg status) 31 then s.reg status
        else 1 <<< 31 + (ofBool l.bank) <<< 30 + 5 <<< 27 + (l.o.tag.toNat % 256) <<< 16 + l.xEntry.toNat / 4 * 4) ∧
      (∀ h, h ≠ g → t.tower h = s.tower h) ∧ t.pending = s.pending ∧ t.hbm = s.hbm ∧ t.gallery = s.gallery) ∧
  ∀ (slot : Fin 68) l rest (s : State),
    let g := slot.val
    (s.tower g).launch = l :: rest → s.launchReady l.o = true → l.broken = false →
    ∃ t, exec (.taskStart slot) s = .next t ∧
      (∀ p ∈ [((t.tower g).a, l.aEntry), ((t.tower g).x, l.xEntry)],
        p.1.run = .running ∧ p.1.pc = p.2.setWidth 17 ∧ p.1.inHandler = false ∧ p.1.icount = 0 ∧ p.1.step = 0 ∧
        (∀ n, 1 ≤ n → n ≤ 8 → p.1.sreg n = l.args.getD (n - 1) 0) ∧ (∀ n, 9 ≤ n → p.1.sreg n = 0) ∧ p.1.sreg 0 = 0) ∧
      (∀ k, (t.tower g).tile k = Tile.init) ∧ (∀ q, (t.tower g).queue q = QueueCount.init) ∧
      (∀ v, (t.tower g).vreg v = 0) ∧ (∀ b, (t.tower g).bank b = Bank.init) ∧
      (t.tower g).cqa = [] ∧ (t.tower g).cqx = [] ∧ (t.tower g).ftq = [] ∧ (t.tower g).cps = [] ∧ (t.tower g).ops = [] ∧
      (t.tower g).loads = [] ∧ (t.tower g).active = l.bank ∧ (t.tower g).task = some { o := l.o } ∧
      (t.tower g).launch = rest ∧ (t.tower g).sdm = (s.tower g).sdm ∧ (t.tower g).imA = (s.tower g).imA ∧
      (t.tower g).imB = (s.tower g).imB ∧ (t.tower g).eps = (s.tower g).eps ∧
      t.reg (Reg.twrAEvec g) = 0 ∧ t.reg (Reg.twrXEvec g) = 0 ∧ t.reg (Reg.twrBankOn g) = l.on.toNat ∧
      t.reg (Reg.twrBankRet g) = l.ret.toNat ∧
      (∀ x, x ∉ [Reg.twrAEvec g, Reg.twrXEvec g, Reg.twrBankOn g, Reg.twrBankRet g] → t.reg x = s.reg x) ∧
      (∀ h, h ≠ g → t.tower h = s.tower h) ∧ t.pending = s.pending ∧ t.hbm = s.hbm ∧ t.gallery = s.gallery

/-- Complete under the conditions stated: IM_LOAD_COMPLETE, EP_BUILD_COPY, EP_BUILD_GENERATE, EP_BUILD_COMPLETE, SEQ_ARM,
SEQ_ABANDON. -/
def Obligations.ProgramLoadsAndSequencers : Prop :=
  (∀ (slot : Fin 68) l rest (s : State),
    let g := slot.val
    (s.tower g).imLoad = l :: rest → s.imRuns = [] →
    ∃ t, exec (.imLoadComplete slot) s = .next t ∧ OnlyTower g s t ∧
      (∀ k < l.bytes.length, SMap.get (fun _ => 0) (if l.bank then (t.tower g).imB else (t.tower g).imA) k = l.bytes.getD k 0) ∧
      (if l.bank then (t.tower g).validB else (t.tower g).validA) = (l.whole && rest.all (fun k => k.bank != l.bank)) ∧
      (if l.bank then (t.tower g).imA = (s.tower g).imA ∧ (t.tower g).validA = (s.tower g).validA
        else (t.tower g).imB = (s.tower g).imB ∧ (t.tower g).validB = (s.tower g).validB) ∧
      (t.tower g).imLoad = rest ∧ (t.tower g).a = (s.tower g).a ∧ (t.tower g).x = (s.tower g).x) ∧
  (∀ actor (slot : Fin 68) (prog gen : BitVec 4) (generate : Bool) (s : State),
    let g := slot.val
    let e := (s.tower g).ep prog.toNat
    s.power.rstLow = false → s.refuses actor (Reg.twrEpBuild g) true = false →
    ∃ t, exec (if generate then .epBuildGenerate actor slot prog gen else .epBuildCopy actor slot prog gen) s = .next t ∧
      (e.build = none → e.next = none → OnlyTower g s t ∧
        (t.tower g).ep prog.toNat = { e with
          build := some (if generate then .generate gen.toNat
            else .copy (bits (s.reg (Reg.twrEpBuildSrc g)) 24 8 * 256)),
          promoted := false } ∧
        (∀ n, n ≠ prog.toNat → (t.tower g).ep n = (s.tower g).ep n) ∧
        { t.tower g with eps := (s.tower g).eps } = s.tower g) ∧
      (e.build ≠ none ∨ e.next ≠ none → bit (t.reg (Reg.twrEpStatus g)) 30 = true ∧
        bits (t.reg (Reg.twrEpStatus g)) 27 24 = prog.toNat ∧ bits (t.reg (Reg.twrEpStatus g)) 23 16 = 1 ∧
        (∀ x, x ≠ Reg.twrEpStatus g → t.reg x = s.reg x) ∧ { t with ctl := s.ctl } = s)) ∧
  (∀ (slot : Fin 68) (prog : BitVec 4) b img (s : State),
    let g := slot.val
    let e := (s.tower g).ep prog.toNat
    e.build = some b → (∀ o l, b = .load o l → s.imRuns = []) → (s.tower g).epReads prog.toNat = false →
    (∀ o, b = .copy o → s.anyRising g o 1280 = false ∧ (s.tower g).scrub = none) →
    (s.epImage g prog.toNat b).2 = .ok img →
    ∃ t, exec (.epBuildComplete slot prog) s = .next t ∧
      (t.tower g).ep prog.toNat = { e with
        build := none, promoted := false, next := if epImageOk img then some img else none } ∧
      (∀ n, n ≠ prog.toNat → (t.tower g).ep n = (s.tower g).ep n) ∧
      bit (t.reg (Reg.twrEpStatus g)) 31 = true ∧ bits (t.reg (Reg.twrEpStatus g)) 27 24 = prog.toNat ∧
      bits (t.reg (Reg.twrEpStatus g)) 23 16 = (if epImageOk img then 0 else 2) ∧
      (∀ x, x ≠ Reg.twrEpStatus g → x ≠ Reg.twrMemCe g → t.reg x = s.reg x) ∧
      { t with ctl := s.ctl, towers := s.towers, free := s.free } = s ∧ (∀ h, h ≠ g → t.tower h = s.tower h)) ∧
  (∀ actor (slot : Fin 68) (k : Fin 4) b (s : State),
    let g := slot.val
    let h := s.reg (Reg.twrSeqHandle g k.val)
    let n := loaderNest (parseDesc b) (s.reg (Reg.twrSeqNest g k.val))
    let bound := boundOf (parseDesc b) n.ldim (bits (s.reg (Reg.twrSeqLen g k.val)) 23 0) (parseDesc b).aux1
    s.power.rstLow = false → s.refuses actor (Reg.twrSeqCtl g k.val) true = false →
    let r := s.fetchDesc (.loader g) (srcTower g 0) h
    r.2 = .ok b → n.valid (parseDesc b).rank false = true →
    ∃ t, exec (.seqArm actor slot k) s = .next t ∧ Fetched (.loader g) s r.1 ∧
      ((t.tower g).seq k.val).left = n.left bound ∧ ((t.tower g).seq k.val).pos = (n.nextPoint bound n.total 0).1 ∧
      ((t.tower g).seq k.val).handle = BitVec.ofNat 32 h ∧
      (∀ j, j ≠ k.val → (t.tower g).seq j = (s.tower g).seq j) ∧
      { t.tower g with seqs := (s.tower g).seqs } = r.1.tower g ∧
      (∀ x, x ≠ Reg.twrSeqSkip g → t.reg x = r.1.reg x) ∧ (∀ h, h ≠ g → t.tower h = r.1.tower h) ∧
      { t with ctl := r.1.ctl, towers := r.1.towers } = r.1) ∧
  (∀ actor (slot : Fin 68) (k : Fin 4) (s : State),
    let g := slot.val
    s.power.rstLow = false → s.refuses actor (Reg.twrSeqCtl g k.val) true = false →
    ∃ t, exec (.seqAbandon actor slot k) s = .next t ∧ OnlyTower g s t ∧
      (t.tower g).seq k.val = { (s.tower g).seq k.val with left := 0 } ∧
      (∀ j, j ≠ k.val → (t.tower g).seq j = (s.tower g).seq j) ∧
      { t.tower g with seqs := (s.tower g).seqs } = s.tower g)

/-- Complete under the conditions stated: BANK_POWER_TRANSITION_END, SCRUB, SCRUB_COMPLETE, TM_PATROL. -/
def Obligations.MemoryUpkeep : Prop :=
  (∀ (slot : Fin 68) (bank : Fin 64) (s : State), ∃ t, exec (.bankPowerTransitionEnd slot bank) s = .next t ∧
    t.tower slot.val = { s.tower slot.val with rising := (s.tower slot.val).rising.filter (· ≠ bank.val) } ∧
    (∀ h, h ≠ slot.val → t.tower h = s.tower h) ∧ (∀ x, x ≠ Reg.twrMemStall slot.val → t.reg x = s.reg x) ∧
    { t with ctl := s.ctl, towers := s.towers, free := s.free } = s) ∧
  (∀ actor unit banks lo hi s, actor ≠ .keystone → exec (.scrub actor unit banks lo hi) s = .next s) ∧
  (∀ (g : Fin 68) (banks : BitVec 64) lo hi (s : State),
    let on := Reg.twrBankOn g.val
    ∃ t, exec (.scrub .keystone (.tower g) banks lo hi) s = .next t ∧ (t.tower g.val).scrub = some ((s.tower g.val).scrub.getD 0 ||| banks) ∧
      (∀ n < 64, bit (t.reg on) n = (bit (s.reg on) n || (banks.getLsbD n && bit (s.reg (Reg.twrBankRet g.val)) n))) ∧
      (∀ x, x ≠ on → t.reg x = s.reg x) ∧
      { t.tower g.val with scrub := (s.tower g.val).scrub, rising := (s.tower g.val).rising } = s.tower g.val ∧
      (∀ h, h ≠ g.val → t.tower h = s.tower h) ∧ (∀ a, SMap.get (fun _ => 0) t.tmem a = SMap.get (fun _ => 0) s.tmem a)) ∧
  (∀ (sp : Fin 4) banks (lo hi : BitVec 32) (s : State), ∃ t, exec (.scrub .keystone (.gallery sp) banks lo hi) s = .next t ∧
    t.scrubs sp.val = s.scrubs sp.val ++ [(lo.toNat, hi.toNat)] ∧ (∀ k, k ≠ sp.val → t.scrubs k = s.scrubs k) ∧
    { t with galScrub := s.galScrub } = s) ∧
  (∀ (g : Fin 68) banks (s : State), (s.tower g.val).scrub = some banks →
    (s.tower g.val).rising.any (fun n => banks.getLsbD n) = false →
    ∃ t, exec (.scrubComplete (.tower g)) s = .next t ∧ (t.tower g.val).scrub = none ∧
      (∀ a, SMap.get (fun _ => 0) t.tmem a =
        if g.val * towerSize ≤ a ∧ a < (g.val + 1) * towerSize ∧
          banks.getLsbD ((a - g.val * towerSize) / 256 % 64) = true ∧
          s.bankState g.val ((a - g.val * towerSize) / 256 % 64) = .on then 0
        else SMap.get (fun _ => 0) s.tmem a) ∧
      { t.tower g.val with scrub := (s.tower g.val).scrub } = s.tower g.val ∧ (∀ h, h ≠ g.val → t.tower h = s.tower h) ∧
      { t with tmem := s.tmem, ramErr := s.ramErr, towers := s.towers } = s) ∧
  (∀ (sp : Fin 4) lo hi rest (s : State), s.scrubs sp.val = (lo, hi) :: rest →
    ∃ t, exec (.scrubComplete (.gallery sp)) s = .next t ∧ t.scrubs sp.val = rest ∧
      (∀ a, SMap.get (fun _ => 0) t.gallery a =
        if sp.val * gallerySize + lo ≤ a ∧ a < sp.val * gallerySize + lo + (hi - lo) then 0
        else SMap.get (fun _ => 0) s.gallery a) ∧
      { t with gallery := s.gallery, ramErr := s.ramErr, galScrub := s.galScrub } = s) ∧
  (∀ (g : Fin 68) (row : BitVec 20) (s : State),
    let o := 256 * row.toNat
    let lo := (g.val * towerSize + o) / 16
    o < towerSize → s.bankState g.val (row.toNat % 64) = .on → (s.tower g.val).scrub = none → s.ramCws 2 lo (lo + 16) = [] →
    ∃ t, exec (.tmPatrol (.tower g) row) s = .next t ∧
      t.reg (Reg.twrMemCe g.val) = (if s.ramCws 1 lo (lo + 16) = [] then s.reg (Reg.twrMemCe g.val)
        else min (s.reg (Reg.twrMemCe g.val) + (s.ramCws 1 lo (lo + 16)).length) (2 ^ 32 - 1)) ∧
      (∀ x, x ≠ Reg.twrMemCe g.val → t.reg x = s.reg x) ∧ t.ramCws 1 lo (lo + 16) = [] ∧
      (∀ k, k < lo ∨ lo + 16 ≤ k → SMap.get (fun _ => 0) t.ramErr k = SMap.get (fun _ => 0) s.ramErr k) ∧
      { t with ctl := s.ctl, ramErr := s.ramErr } = s) ∧
  (∀ (sp : Fin 4) (row : BitVec 20) (s : State),
    let o := 256 * row.toNat
    let lo := (68 * towerSize + sp.val * gallerySize + o) / 16
    let ce := Reg.sprGalCe sp.val
    o < gallerySize → s.scrubs sp.val = [] → s.ramCws 2 lo (lo + 16) = [] →
    ∃ t, exec (.tmPatrol (.gallery sp) row) s = .next t ∧
      t.reg ce = (if s.ramCws 1 lo (lo + 16) = [] then s.reg ce
        else min (s.reg ce + (s.ramCws 1 lo (lo + 16)).length) (2 ^ 32 - 1)) ∧
      (∀ x, x ≠ ce → t.reg x = s.reg x) ∧ t.ramCws 1 lo (lo + 16) = [] ∧
      (∀ k, k < lo ∨ lo + 16 ≤ k → SMap.get (fun _ => 0) t.ramErr k = SMap.get (fun _ => 0) s.ramErr k) ∧
      { t with ctl := s.ctl, ramErr := s.ramErr } = s)

/-- Complete under the conditions stated: REMOTE_WRITE_PACKET, CREDIT_REQUEST, REMOTE_WRITE_DONE. -/
def Obligations.RemoteWrites : Prop :=
  (∀ (dst : Dpa) (src : BitVec 4) (sender node gen : BitVec 16) data (u : MemUnit) ofs (s : State),
    let x := src.toNat
    let n := data.length
    let m := unitRegs u
    let pend := Reg.carPendSet m.spire 0
    let sd : Sender := { x := x, source := sender.toNat, node := node.toNat, gen := gen.toNat }
    let p : Packet := { ofs := ofs, data := data, sender := sender.toNat, port := portOf x }
    (match u with
      | .tower g => s.loc dst.toNat = .tower g.val ofs
      | .gallery sp => s.loc dst.toNat = .gallery sp.val ofs ∧ x ≠ sp.val ∧ x ≠ 13 ∧ x ≠ 14) →
    n ≠ 0 → dst.toNat % 256 + n ≤ 256 → x ≠ 15 → s.portForbids x = false →
    (s.creditMode m = false → s.windowRefusal m sd ofs n = none →
      exec (.remoteWritePacket dst src sender node gen data) s = .next (s.queuePacket u p)) ∧
    (∀ reason w, s.creditMode m = false → s.windowRefusal m sd ofs n = some (reason, w) →
      let f := windowFault m sd reason w ofs n
      ∃ t, exec (.remoteWritePacket dst src sender node gen data) s = .next t ∧
        t.reg m.winDrop = min (s.reg m.winDrop + 1) (2 ^ 32 - 1) ∧ t.reg pend = s.reg pend ||| 1 <<< 53 ∧
        (∀ y, y ≠ m.winDrop → y ≠ pend → t.reg y = s.reg y) ∧
        SMap.get (fun _ => []) t.faultsSpire m.spire = SMap.get (fun _ => []) s.faultsSpire m.spire ++ [s.record f 0] ∧
        t.sent = s.sent ++ (portOf x).toList.map (fun q => .ack q 0 (some f)) ∧
        { t with ctl := s.ctl, faultsSpire := s.faultsSpire, free := s.free, sent := s.sent, lostFrom := s.lostFrom } = s) ∧
    (s.creditMode m = true → s.reg m.credBase ≤ ofs → ofs + n ≤ s.reg m.credLimit → s.reg m.credLimit ≤ m.size →
      n ≤ s.reg (m.bal x) →
      exec (.remoteWritePacket dst src sender node gen data) s =
        .next ((s.setReg (m.bal x) (s.reg (m.bal x) - n)).queuePacket u p))) ∧
  (∀ (dst : Dpa) (src : BitVec 4) (sender node gen : BitVec 16) data (sp : Fin 4) ofs (s : State),
    let x := src.toNat
    s.loc dst.toNat = .gallery sp.val ofs → x = sp.val ∨ x = 13 ∨ x = 14 → data ≠ [] →
    dst.toNat % 256 + data.length ≤ 256 →
    exec (.remoteWritePacket dst src sender node gen data) s =
      .next (s.galleryWrite sp.val ofs data sender.toNat).1) ∧
  (∀ (unit : MemUnit) (src : BitVec 4) (units : BitVec 16) (s : State),
    let m := unitRegs unit
    let x := src.toNat
    let av := s.reg m.credAvail
    let bal := s.reg (m.bal x)
    let grant := min units.toNat (min av ((2 ^ 28 - 1 - bal) / 4096))
    s.creditMode m = true →
    ∃ t, exec (.creditRequest unit src units) s = .next t ∧ t.reg m.credAvail = av - grant ∧
      t.reg (m.bal x) = bal + 4096 * grant ∧ (∀ y, y ≠ m.credAvail → y ≠ m.bal x → t.reg y = s.reg y) ∧
      (if 4 ≤ x ∧ x < 12 then t.sent = s.sent ++ [.creditGrant (x - 4) grant none] ∧ t.reply = s.reply
        else t.sent = s.sent ∧ t.reply = leBytes 4 grant) ∧
      { t with ctl := s.ctl, sent := s.sent, reply := s.reply } = s) ∧
  (∀ (slot : Fin 68) p rest (s : State),
    let g := slot.val
    (s.tower g).packets = p :: rest → p.port = none → s.waitsForBank g = false →
    (∀ n < 64, bit (s.reg (Reg.twrBankOn g)) n = true) → s.ramErr = [] →
    ∃ t, exec (.remoteWriteDone (.tower slot)) s = .next t ∧ t.tower g = { s.tower g with packets := rest } ∧
      (∀ h, h ≠ g → t.tower h = s.tower h) ∧
      (∀ a, SMap.get (fun _ => 0) t.tmem a =
        if g * towerSize + p.ofs ≤ a ∧ a < g * towerSize + p.ofs + p.data.length then
          p.data.getD (a - (g * towerSize + p.ofs)) 0
        else SMap.get (fun _ => 0) s.tmem a) ∧
      { t with tmem := s.tmem, towers := s.towers } = s)

/-- The commands that any engine accepts (R321). Completes under the conditions stated: NOP, FENCE_COMMAND, SEM_POST,
SEM_WAIT, LIST, REGW. -/
def Obligations.RingCommands : Prop :=
  (∀ o s, s.Alone o → ∃ t, exec (.nop o) s = .next t ∧ Recorded o 0x00 [] s t) ∧
  (∀ o (scope : BitVec 8) s, s.Alone o → scope = 0 → (∀ e ∈ s.runs, e.1 = runKey o → e.2.running = []) →
    (∀ e ∈ s.rings, e.1 = runKey o → e.2.held = []) →
    ∃ t, exec (.fenceCommand o scope) s = .next t ∧ Recorded o 0x01 [] { s with starts := s.starts + 1 } t) ∧
  (∀ o (scope : BitVec 8) s, s.Alone o → scope.toNat ≤ 2 →
    (s.runq (runKey o)).running.any (fun r => sameCmd r.o o) = false →
    (∃ r ∈ (s.runq (runKey o)).running, r.order < s.starts) →
    ∃ t f, exec (.fenceCommand o scope) s = .next t ∧
      t.runq (runKey o) = { s.runq (runKey o) with running := (s.runq (runKey o)).running ++ [f] } ∧ f.o = o ∧
      f.fence = some scope.toNat ∧ f.order = s.starts ∧ (∀ k, k ≠ runKey o → t.runq k = s.runq k) ∧
      { t with runs := s.runs, starts := s.starts } = s) ∧
  (∀ o (target : BitVec 14) (count : BitVec 16) s, s.Alone o → count ≠ 0 →
    let sp := o.spire.val
    let n := target.toNat % 4096
    target.toNat / 4096 = sp → (s.sem sp n).count + count.toNat ≤ 65535 →
    ∃ u t, exec (.semPost o target count) s = .next t ∧ Recorded o 0x02 [] u t ∧
      u.sem sp n = { s.sem sp n with
        count := (s.sem sp n).count + count.toNat, lastBell := s.bellNum, lastSource := 4096 * sp, lastRemote := false } ∧
      (∀ sp' n', n' < 4096 → (sp', n') ≠ (sp, n) → u.sem sp' n' = s.sem sp' n') ∧ { u with sems := s.sems } = s) ∧
  (∀ o (target : BitVec 14) (count : BitVec 16) s, s.Alone o → count ≠ 0 →
    let sp := o.spire.val
    let sp' := target.toNat / 4096
    let n := target.toNat % 4096
    sp' ≠ sp → s.spireRetired sp' = false → (∃ w < 16, s.semWindowHas sp' w n = true ∧ s.semWindowSrc sp' w sp = true) →
    (s.sem sp' n).count + count.toNat ≤ 65535 →
    ∃ u t, exec (.semPost o target count) s = .next t ∧ Recorded o 0x02 [] u t ∧
      u.sem sp' n = { s.sem sp' n with
        count := (s.sem sp' n).count + count.toNat, lastBell := s.bellNum, lastSource := 4096 * sp, lastRemote := true } ∧
      (∀ q n', n' < 4096 → (q, n') ≠ (sp', n) → u.sem q n' = s.sem q n') ∧ { u with sems := s.sems } = s) ∧
  (∀ o (sem : BitVec 12) (count : BitVec 16) (timeout : BitVec 8) s, s.Alone o →
    let sp := o.spire.val
    let m := s.sem sp sem.toNat
    (m.waiters = [] → count.toNat ≤ m.count →
      ∃ u t, exec (.semWait o sem count timeout) s = .next t ∧
        Recorded o 0x03 (leBytes 2 (m.count - count.toNat) ++ leBytes 1 0) u t ∧
        u.sem sp sem.toNat = { m with count := m.count - count.toNat } ∧
        (∀ sp' n', n' < 4096 → (sp', n') ≠ (sp, sem.toNat) → u.sem sp' n' = s.sem sp' n') ∧ { u with sems := s.sems } = s) ∧
    (m.waiters ≠ [] ∨ m.count < count.toNat →
      ∃ t w, exec (.semWait o sem count timeout) s = .next t ∧
        t.sem sp sem.toNat = { m with waiters := m.waiters ++ [w] } ∧ w.who = .cmd o ∧ w.want = count.toNat ∧
        w.since = s.bellNum ∧ (timeout ≠ 0 → w.timeout = timeout.toNat) ∧
        (∀ sp' n', n' < 4096 → (sp', n') ≠ (sp, sem.toNat) → t.sem sp' n' = s.sem sp' n') ∧ { t with sems := s.sems } = s)) ∧
  (∀ o (dpa : Dpa) (count : BitVec 16) s u cs more, o.lidx = 0xFFFF → count ≠ 0 → count.toNat ≤ 4096 → dpa.toNat % 64 = 0 →
    s.readList o.spire.val o.cseq.toNat { left := count.toNat, idx := 0, addr := dpa.toNat } = (u, .ok (cs, more)) →
    ∃ t l, exec (.listCmd o dpa count) s = .next t ∧
      t.runq (runKey o) = { u.runq (runKey o) with
        queue := cs ++ (u.runq (runKey o)).queue, lists := (u.runq (runKey o)).lists ++ [l], more := more } ∧
      l.o = o ∧ l.left = count.toNat ∧ l.run = 0 ∧ cs ≠ [] ∧
      (match more with
        | none => cs.length = count.toNat
        | some m => cs.length + m.left = count.toNat ∧ m.idx = cs.length) ∧
      (∀ i < cs.length, ∃ c, cs[i]? = some c ∧ c.lidx = i ∧ c.cseq = o.cseq.toNat) ∧
      (∀ k, k ≠ runKey o → t.runq k = u.runq k) ∧ { t with runs := u.runs } = u) ∧
  (∀ o pairs s u n, s.regwRun 0 pairs = (u, n, false) → u.Alone o → ∃ t, exec (.regw o pairs) s = .next t ∧
    Recorded o 0x05 (leBytes 4 n) u t ∧ n = pairs.length) ∧
  (∀ o (a : BitVec 36) v s u, s.refuses .companion a.toNat true = false →
    exec (.registerWrite .companion a v) s = .next u → u.Alone o →
    ∃ t, exec (.regw o [(a.setWidth 64, v)]) s = .next t ∧ Recorded o 0x05 (leBytes 4 1) u t)

/-- Complete under the conditions stated: DESC_CREATE, DESC_FREE, DESC_FREE_COMPLETE, ACCEPT, REJECT, KV_LENGTH_APPLY. -/
def Obligations.Descriptors : Prop :=
  (∀ o (region : BitVec 16) desc i s, s.Alone o → s.ringEngine o = 1 →
    let sp := o.spire.val
    let b := (desc ++ List.replicate 64 0).take 64
    s.createFault sp (srcSde sp) region.toNat b = none → s.freeEntry sp = some i →
    ∃ u t, exec (.descCreate o region desc) s = .next t ∧
      Recorded o 0x15 (leBytes 4 (sp * 2 ^ 30 + (s.desc sp i).reuse * 2 ^ 14 + i)) u t ∧
      u.desc sp i = { s.desc sp i with live := true, freeing := none, kv := [] } ∧
      (∀ sp' j, j < 16384 → (sp', j) ≠ (sp, i) → u.desc sp' j = s.desc sp' j) ∧
      (∀ k, SMap.get (fun _ => 0) u.gallery k =
        if galKey sp (s.entryOfs sp i) ≤ k ∧ k < galKey sp (s.entryOfs sp i) + 64 then
          (createdDesc region.toNat b).getD (k - galKey sp (s.entryOfs sp i)) 0
        else SMap.get (fun _ => 0) s.gallery k) ∧
      { u with descs := s.descs, gallery := s.gallery, ramErr := s.ramErr } = s) ∧
  (∀ o (handle : BitVec 32) s, s.ringEngine o = 1 →
    let sp := o.spire.val
    let i := handle.toNat % 16384
    s.handleStale sp handle.toNat = none →
    ∃ t, exec (.descFree o handle) s = .next t ∧ t.desc sp i = { s.desc sp i with freeing := some o } ∧
      (∀ sp' j, j < 16384 → (sp', j) ≠ (sp, i) → t.desc sp' j = s.desc sp' j) ∧
      (∀ g, { t.tower g with dcache := (s.tower g).dcache } = s.tower g) ∧
      { t with descs := s.descs, towers := s.towers, sdeCache := s.sdeCache } = s) ∧
  (∀ (spire : Fin 4) (index : Fin 16384) o s, s.Alone o → (s.desc spire.val index.val).freeing = some o →
    s.descInUse spire.val index.val = false →
    ∃ u t, exec (.descFreeComplete spire index) s = .next t ∧ Recorded o 0x16 [] u t ∧
      u.desc spire.val index.val =
        { live := false, freeing := none, reuse := ((s.desc spire.val index.val).reuse + 1) % 1024, kv := [] } ∧
      (∀ sp' j, j < 16384 → (sp', j) ≠ (spire.val, index.val) → u.desc sp' j = s.desc sp' j) ∧
      (∀ g, { u.tower g with dcache := (s.tower g).dcache } = s.tower g) ∧
      { u with descs := s.descs, towers := s.towers, sdeCache := s.sdeCache } = s) ∧
  (∀ o (handle : BitVec 32) (n : BitVec 24) c t0 (accept waited : Bool) rest s, s.Alone o →
    s.ringEngine o = 1 →
    let sp := o.spire.val
    let i := handle.toNat % 16384
    let e := s.desc sp i
    let len := if accept then (c + n.toNat, t0) else (c, c)
    s.kvWriting sp i = false → s.lengths sp i = (c, t0) → (accept = true → c + n.toNat ≤ t0) →
    (if waited then e.kv = (if accept then some n.toNat else none, o) :: rest ∧ s.insts = [] ∧
        (s.fetchEntry (.sde sp) (srcSde sp) i).2 = .ok (s.entryBytes sp i)
      else e.kv = [] ∧ (s.kvRefused sp handle.toNat).2 = none) →
    ∃ u t, exec (if waited then .kvLengthApply o.spire (Fin.ofNat 16384 i) else if accept then .accept o handle n
        else .reject o handle) s = .next t ∧
      Recorded o (if accept then 0x17 else 0x18) (leBytes 3 len.1 ++ leBytes 3 len.2) u t ∧ u.lengths sp i = len ∧
      u.desc sp i = { e with kv := if waited then rest else [] } ∧
      (∀ sp' j, j < 16384 → (sp', j) ≠ (sp, i) → u.desc sp' j = s.desc sp' j) ∧
      (∀ k, k < galKey sp (s.entryOfs sp i) ∨ galKey sp (s.entryOfs sp i) + 64 ≤ k →
        SMap.get (fun _ => 0) u.gallery k = SMap.get (fun _ => 0) s.gallery k) ∧
      (∀ g, { u.tower g with dcache := (s.tower g).dcache } = s.tower g) ∧
      (∀ x, x ≠ Reg.sdeDcacheMiss sp → x ≠ Reg.sprGalCe sp → (∀ j < 16, x ≠ Reg.carPendSet sp j) → u.reg x = s.reg x) ∧
      { u with
        descs := s.descs, gallery := s.gallery, ramErr := s.ramErr, towers := s.towers, sdeCache := s.sdeCache, ctl := s.ctl,
        faultsSpire := s.faultsSpire, lostFrom := s.lostFrom, free := s.free } = s) ∧
  (∀ o (handle : BitVec 32) (n : BitVec 24) (accept : Bool) s, s.ringEngine o = 1 →
    let sp := o.spire.val
    let i := handle.toNat % 16384
    let r := s.kvRefused sp handle.toNat
    r.2 = none → s.kvWriting sp i = true ∨ (s.desc sp i).kv ≠ [] →
    ∃ t, exec (if accept then .accept o handle n else .reject o handle) s = .next t ∧ Fetched (.sde sp) s r.1 ∧
      t.desc sp i = { s.desc sp i with kv := (s.desc sp i).kv ++ [(if accept then some n.toNat else none, o)] } ∧
      (∀ sp' j, j < 16384 → (sp', j) ≠ (sp, i) → t.desc sp' j = s.desc sp' j) ∧ { t with descs := s.descs } = r.1)

/-- Complete under the conditions stated: SEQ_MOVE, STREAM_SEGMENT, GRID_POINT_COMPLETE, PREFETCH_CONFIRM, PREFETCH_DROP,
SPEC_GROUP_TIMEOUT, MOVE, PEER_MOVE. -/
def Obligations.StreamEngine : Prop :=
  (∀ o (src dst : Dpa) (len : BitVec 48) (port : Fin 8) (node gen : BitVec 16) ch (s : State), s.ringEngine o = 1 → len ≠ 0 →
    let sp := o.spire.val
    s.idleChannel sp = some ch →
    (s.rangeFault sp [(src.toNat, len.toNat), (dst.toNat, len.toNat)] = none →
      ∃ t c, exec (.move o src dst len) s = .next t ∧ t.channel sp ch = some c ∧ c.o = o ∧ c.cls = 0 ∧
        c.work = .move src.toNat dst.toNat len.toNat 0 ∧ c.bands = s.bandsOf sp ∧
        (∀ sp' k, k < 16 → (sp', k) ≠ (sp, ch) → t.channel sp' k = s.channel sp' k) ∧ { t with channels := s.channels } = s) ∧
    (s.rangeFault sp [(src.toNat, len.toNat)] = none →
      ∃ t c, exec (.peerMove o src port node dst gen len) s = .next t ∧ t.channel sp ch = some c ∧ c.o = o ∧
        c.work = .peer src.toNat port.val node.toNat dst.toNat gen.toNat len.toNat 0 0 0 s.bellNum ∧
        c.bands = s.bandsOf sp ∧
        (∀ sp' k, k < 16 → (sp', k) ≠ (sp, ch) → t.channel sp' k = s.channel sp' k) ∧ { t with channels := s.channels } = s)) ∧
  (∀ o (src dst : Dpa) (port : Fin 8) (node gen : BitVec 16) (s : State), s.ringEngine o = 1 → s.Alone o →
    (s.rangeFault o.spire.val [(src.toNat, 0), (dst.toNat, 0)] = none →
      ∃ t, exec (.move o src dst 0) s = .next t ∧ Recorded o 0x10 (moveResult 0) s t) ∧
    (s.rangeFault o.spire.val [(src.toNat, 0)] = none →
      ∃ t, exec (.peerMove o src port node dst gen 0) s = .next t ∧ Recorded o 0x11 [] s t)) ∧
  (∀ o nest (dst : BitVec 32) (nbuf : BitVec 4) (cls : BitVec 2) (group : BitVec 8) (semFull semEmpty : BitVec 16)
    (bstride : BitVec 32) ch h es r1 b db (s : State), s.ringEngine o = 1 → nest.length = 32 →
    let sp := o.spire.val
    let noList : PlWalk := { addr := 0, count := 0, got := [] }
    (if nestPl nest then s.readPl sp (field nest 3 0) else (s, .ok (field nest 3 0, noList))) = (r1, .ok (h, es)) →
    let r2 := r1.fetchDesc (.sde sp) (srcSde sp) h
    let r3 := r2.1.fetchDesc (.sde sp) (srcSde sp) dst.toNat
    let d := parseDesc b
    let dd := parseDesc db
    let k := semEmpty.toNat % 4096
    let w0 : SeqWalk := {
      nest := nest, desc := b, h := BitVec.ofNat 32 h, dst := dst, dstDesc := db, nbuf := nbuf.toNat + 1,
      bstride := bstride.toNat, semFull := semFull.toNat, semEmpty := semEmpty.toNat,
      pl := if nestPl nest then some es else none, len := 0, tentative := 0, pos := 0, begun := 0, done := 0,
      granted := false, waiting := false, cur := none, landed := [], withheld := [], failed := none }
    let n := streamNest nest d w0.plCount
    s.idleChannel sp = some ch → r2.2 = .ok b → r3.2 = .ok db →
    nestOk nest d n = true → cls ≠ 3 → bstride.toNat % 512 = 0 → (cls = 2 → group.toNat ≤ 63) →
    (s.region dd.region).1 ≤ dd.base → dd.base + (nbuf.toNat + 1) * bstride.toNat ≤ (s.region dd.region).2 →
    w0.maxSpan n ≤ bstride.toNat → w0.maxSpan n ≤ dd.extent.2 + 1 - dd.base →
    Fetched (.sde sp) r1 r2.1 ∧ Fetched (.sde sp) r2.1 r3.1 ∧
    (∀ r4 len, (if n.bound = 0 ∨ n.bound = 2 then (r3.1, .ok 0) else r3.1.readLen sp nest) = (r4, .ok len) →
      ∃ c, c.o = o ∧ c.cls = cls.toNat ∧ c.group = group.toNat ∧ c.verdict = none ∧ c.abandon = none ∧ c.note = none ∧
        c.bell = r3.1.bellNum ∧ c.work = .seq { w0 with len := len, tentative := d.aux1 } ∧
        exec (.seqMove o nest dst nbuf cls group semFull semEmpty bstride) s =
          .next ((r4.setChannel sp ch (some c)).seqAdvance sp ch)) ∧
    (nestPl nest = false → n.bound = 0 → 0 < n.total →
      ∃ t c w, exec (.seqMove o nest dst nbuf cls group semFull semEmpty bstride) s = .next t ∧ t.channel sp ch = some c ∧
        c.o = o ∧ c.cls = cls.toNat ∧ c.group = group.toNat ∧ c.work = .seq w ∧ w.desc = b ∧ w.dst = dst ∧ w.done = 0 ∧
        ((s.sem sp k).waiters = [] → 1 ≤ (s.sem sp k).count → w.begun = 1 ∧ w.pos = 1 ∧ w.waiting = false ∧
          t.sem sp k = { s.sem sp k with count := (s.sem sp k).count - 1 }) ∧
        ((s.sem sp k).waiters ≠ [] ∨ (s.sem sp k).count = 0 → w.begun = 0 ∧ w.waiting = true ∧
          ∃ x, t.sem sp k = { s.sem sp k with waiters := (s.sem sp k).waiters ++ [x] } ∧ x.who = .channel (Fin.ofNat 16 ch) ∧
            x.want = 1) ∧
        (∀ sp' j, j < 16 → (sp', j) ≠ (sp, ch) → t.channel sp' j = s.channel sp' j) ∧
        { t with sems := r3.1.sems, channels := r3.1.channels } = r3.1)) ∧
  (∀ (spire : Fin 4) (ch : Fin 16) c src dst len done a d (s : State),
    let sp := spire.val
    let m := s.segLen (src + done) (dst + done) (len - done)
    s.channel sp ch.val = some c → c.work = .move src dst len done → c.abandon = none → done + m < len →
    s.scrubs sp = [] → s.galQueue sp = [] → s.loc (src + done) = .gallery sp a → s.loc (dst + done) = .gallery sp d → s.ramErr = [] →
    ∃ t, exec (.streamSegment spire ch) s = .next t ∧
      t.channel sp ch.val = some { c with work := .move src dst len (done + m) } ∧
      (∀ k, SMap.get (fun _ => 0) t.gallery k = if galKey sp d ≤ k ∧ k < galKey sp d + (s.memGet sp (src + done) m).length
        then (s.memGet sp (src + done) m).getD (k - galKey sp d) 0 else SMap.get (fun _ => 0) s.gallery k) ∧
      (∀ sp' k, k < 16 → (sp', k) ≠ (sp, ch.val) → t.channel sp' k = s.channel sp' k) ∧
      (∀ x, x ≠ Reg.sdeSmallSeg sp → t.reg x = s.reg x) ∧
      { t with ctl := s.ctl, gallery := s.gallery, channels := s.channels } = s) ∧
  (∀ (spire : Fin 4) (ch : Fin 16) c src dst len done u r (s : State),
    let sp := spire.val
    let m := s.segLen (src + done) (dst + done) (len - done)
    s.channel sp ch.val = some c → c.work = .move src dst len done → c.abandon = none →
    s.segWaits (src + done) m = false → s.segWaits (dst + done) m = false →
    s.copySeg sp 0 c (src + done) (dst + done) m (fun s => s.readRange sp (srcSde sp) (src + done) m false)
      (fun k => [(dst + done, k)]) = (u, r) → r.fault = none →
    (done + m < len → exec (.streamSegment spire ch) s =
      .next (u.setChannel sp ch.val (some { c with work := .move src dst len (done + m) }))) ∧
    (len ≤ done + m → c.note = none → u.Alone c.o → ∃ t, exec (.streamSegment spire ch) s = .next t ∧
      Recorded c.o 0x10 (moveResult (done + r.got)) (u.setChannel sp ch.val none) t)) ∧
  (∀ (spire : Fin 4) (ch : Fin 16) c w n rest (s : State),
    let sp := spire.val
    let f := bits w.semFull 11 0
    s.channel sp ch.val = some c → c.work = .seq w → w.landed = n :: rest → w.cur ≠ none ∨ w.waiting = true →
    w.failed = none → c.abandon = none →
    (c.cls = 2 → c.verdict = none → ∃ t, exec (.gridPointComplete spire ch) s = .next t ∧
      t.channel sp ch.val = some { c with
        work := .seq { w with landed := rest, done := w.done + 1, withheld := w.withheld ++ [n] } } ∧
      (∀ sp' k, k < 16 → (sp', k) ≠ (sp, ch.val) → t.channel sp' k = s.channel sp' k) ∧ { t with channels := s.channels } = s) ∧
    (c.cls ≠ 2 ∨ c.verdict ≠ none → bits w.semFull 13 12 = sp → (s.sem sp f).count < 65535 →
      ∃ t, exec (.gridPointComplete spire ch) s = .next t ∧
        t.channel sp ch.val = some { c with work := .seq { w with landed := rest, done := w.done + 1 } } ∧
        (t.sem sp f).count = (s.sem sp f).count + 1 ∧ (t.sem sp f).waiters = (s.sem sp f).waiters ∧
        (∀ sp' k, k < 16 → (sp', k) ≠ (sp, ch.val) → t.channel sp' k = s.channel sp' k) ∧
        { t with channels := s.channels, sems := s.sems } = s) ∧
    (∀ u, c.cls ≠ 2 ∨ c.verdict ≠ none → s.postFull sp { w with landed := rest, done := w.done + 1 } = (u, none) →
      ∃ t, exec (.gridPointComplete spire ch) s = .next t ∧
        t.channel sp ch.val = some { c with work := .seq { w with landed := rest, done := w.done + 1 } } ∧
        { t with channels := u.channels } = u)) ∧
  (∀ o (g : Fin 64) ch c w s1 (s : State), s.Alone o → s.ringEngine o = 1 →
    let sp := o.spire.val
    s.channelsWith sp (fun c => c.ofGroup g.val false) = [] → s.channelsWith sp (fun c => c.ofGroup g.val true) = [ch] →
    s.channel sp ch = some c → c.work = .seq w → w.cur ≠ none ∨ w.waiting = true →
    w.failed = none → c.abandon = none → s.postTimes (fun t => t.postFull sp w) w.withheld.length = (s1, none) →
    ∃ u t, exec (.prefetchConfirm o (1 <<< g.val)) s = .next t ∧ Recorded o 0x19 [] u t ∧
      u.channel sp ch = some { c with verdict := some true, cls := 1, work := .seq { w with withheld := [] } } ∧
      (∀ sp' k, k < 16 → (sp', k) ≠ (sp, ch) → u.channel sp' k = s.channel sp' k) ∧
      { u with channels := s1.channels } = s1) ∧
  (∀ o (g : Fin 64) ch c w (s : State), s.ringEngine o = 1 →
    let sp := o.spire.val
    let bytes := (w.withheld ++ w.landed).foldl (· + ·) (match w.cur with | some p => p.wrote | none => 0)
    s.channelsWith sp (fun c => c.ofGroup g.val false) = [] → s.channelsWith sp (fun c => c.ofGroup g.val true) = [ch] →
    s.channel sp ch = some c → c.work = .seq w →
    ∀ i ∈ (if c.bell < s.bellNum then [Instr.prefetchDrop o (1 <<< g.val), .specGroupTimeout o.spire g]
      else [Instr.prefetchDrop o (1 <<< g.val)]),
    ∃ t, exec i s = .next t ∧ t.channel sp ch = none ∧
      (∀ sp' k, k < 16 → (sp', k) ≠ (sp, ch) → t.channel sp' k = s.channel sp' k) ∧
      t.reg (Reg.sdeSpecDrop sp) = min (s.reg (Reg.sdeSpecDrop sp) + bytes) (2 ^ 64 - 1))

/-- Complete under the conditions stated (R158, R324, R325): IM_LOAD, EP_LOAD, LAUNCH, STOP, RESUME. -/
def Obligations.LoadsAndLaunches : Prop :=
  (∀ o (towers : BitVec 16) bank (src : Dpa) (words : BitVec 16) (s : State), s.ringEngine o = 1 → words ≠ 0 →
    words.toNat ≤ 16384 →
    let sp := o.spire.val
    let slots := s.slotsOf sp towers
    let r := s.readRange sp (srcSde sp) src.toNat (4 * words.toNat) false
    slots.Nodup → slots ≠ [] → s.rangeFault sp [(src.toNat, 4 * words.toNat)] = none → r.fault = none → r.s.towers = s.towers →
    r.s.slotsOf sp towers = slots → (∀ g ∈ slots, (s.tower g).active ≠ bank ∧ (s.tower g).swapPend = none) →
    ∃ t, exec (.imLoad o towers bank src words) s = .next t ∧
      t.imRuns = r.s.imRuns ++ [{ o := o, opcode := 0x13, left := slots, good := 0, bad := 0, fault := none }] ∧
      (∀ g ∈ slots, (t.tower g).imLoad = (s.tower g).imLoad ++ [{ o := o, bank := bank, bytes := r.bytes, whole := true }] ∧
        (if bank then (t.tower g).validB else (t.tower g).validA) = false ∧ (t.tower g).a = (s.tower g).a ∧
        (t.tower g).x = (s.tower g).x) ∧
      (∀ g, g ∉ slots → t.tower g = s.tower g) ∧ { t with towers := s.towers, imRuns := r.s.imRuns } = r.s) ∧
  (∀ o (towers : BitVec 16) (prog : BitVec 4) (src : Dpa) (s : State), s.ringEngine o = 1 →
    let sp := o.spire.val
    let slots := s.slotsOf sp towers
    let r := s.readRange sp (srcSde sp) src.toNat 1280 false
    slots.Nodup → slots ≠ [] → s.rangeFault sp [(src.toNat, 1280)] = none → r.fault = none → r.s.towers = s.towers →
    r.s.slotsOf sp towers = slots →
    (∀ g ∈ slots, ((s.tower g).ep prog.toNat).build = none ∧ ((s.tower g).ep prog.toNat).next = none) →
    ∃ t, exec (.epLoad o towers prog src) s = .next t ∧
      (∀ g ∈ slots, ((t.tower g).ep prog.toNat).build = some (.load o r.bytes) ∧
        (∀ n, n ≠ prog.toNat → (t.tower g).ep n = (s.tower g).ep n)) ∧
      (∀ g, g ∉ slots → t.tower g = s.tower g) ∧ { t with towers := s.towers, imRuns := r.s.imRuns } = r.s) ∧
  (∀ o (towers aEntry xEntry : BitVec 16) bank on ret args (s : State), s.ringEngine o = 3 →
    let slots := s.slotsOf o.spire.val towers
    (slots.Nodup → slots ≠ [] →
      ∃ t l, exec (.launch o towers aEntry xEntry bank on ret args) s = .next t ∧
        t.launches = s.launches ++ [{ o := o, left := slots, halts := 0, faults := 0, first := none }] ∧
        l.o = o ∧ l.aEntry = aEntry ∧ l.xEntry = xEntry ∧ l.bank = bank ∧ l.on = on ∧ l.ret = ret ∧ l.args = args ∧
        (∀ g ∈ slots, t.tower g = { s.tower g with launch := (s.tower g).launch ++ [l] }) ∧
        (∀ g, g ∉ slots → t.tower g = s.tower g) ∧ { t with towers := s.towers, launches := s.launches } = s) ∧
    (slots ≠ [] → ∃ t, exec (.stop o towers) s = .next t ∧ t.stops = s.stops ++ [{ o := some o, left := slots }] ∧
      { t with stops := s.stops } = s) ∧
    (slots = [] → s.Alone o → (∃ t, exec (.launch o towers aEntry xEntry bank on ret args) s = .next t ∧
      Recorded o 0x20 (leBytes 12 0) s t) ∧ ∃ t, exec (.stop o towers) s = .next t ∧ Recorded o 0x21 [] s t) ∧
    (slots.Nodup → s.Alone o → ∃ u t, exec (.resume o towers) s = .next t ∧ Recorded o 0x22 [] u t ∧
      (∀ g ∈ slots, ∀ st : Stream, (u.tower g).stream st =
        if ((s.tower g).stream st).run = .stopped then { (s.tower g).stream st with
          run := .running, pc := BitVec.ofNat 17 (((s.tower g).stream st).epc.toNat % 65536) }
        else (s.tower g).stream st) ∧
      (∀ g ∈ slots, { u.tower g with a := (s.tower g).a, x := (s.tower g).x } = s.tower g) ∧
      (∀ g, g ∉ slots → u.tower g = s.tower g) ∧ { u with towers := s.towers } = s))

/-- Complete under the conditions stated: COLL_ALL_REDUCE, COLL_ALL_GATHER, COLL_REDUCE_SCATTER, COLL_STEP,
COLL_ABORT_RECEIVED, COLL_PARTNER_TIMEOUT. -/
def Obligations.Collectives : Prop :=
  (∀ o (g : CollArgs) k sb db bs (s u : State), s.ringEngine o = 4 → g.format.toNat ≤ 2 → g.combine.toNat ≤ 1 →
    let sp := o.spire.val
    let fmt := g.format.toNat
    let mask := g.dims.toNat
    let n := g.elements.toNat
    let r2 := s.fetchDesc (.sde sp) (srcSde sp) g.src.toNat
    let r3 := r2.1.fetchDesc (.sde sp) (srcSde sp) g.dst.toNat
    s.freeColl sp = some k → s.badTopology mask = none → n % 2 ^ (collDims mask).length = 0 →
    r2.2 = .ok sb → r3.2 = .ok db →
    (∀ d ∈ [parseDesc sb, parseDesc db], d.fmt = collFmt fmt ∧ collWords fmt * n ≤ d.total) →
    (∀ d ∈ collDims mask, s.portUp d = true) →
    r3.1.readCells sp (parseDesc sb) 0 (collWords fmt * n) = (u, bs, none) →
    Fetched (.sde sp) s r2.1 ∧ Fetched (.sde sp) r2.1 r3.1 ∧
    (∀ v n' i, mask = 0 → i ∈ [Instr.collAllReduce o g, .collAllGather o g, .collReduceScatter o g] →
      u.writeCells sp g.dst (parseDesc db) 0 (packVals fmt ((unpackVals fmt n bs).take n)) = (v, n', none) → v.Alone o →
      ∃ t, exec i s = .next t ∧ Recorded o 0x40 (leBytes 6 n) (v.setColl sp k none) t) ∧
    (∀ scatter : Bool, mask ≠ 0 → ∃ t c, exec (if scatter then .collReduceScatter o g else .collAllReduce o g) s = .next t ∧ t.coll sp k = some c ∧
        c.o = o ∧ c.steps = collSteps (if scatter then 2 else 0) mask ∧ c.vals = unpackVals fmt n bs ∧ c.lo = 0 ∧ c.len = n ∧
        c.delivered = 0 ∧ c.cmb = g.combine.toNat ∧
        (∀ sp' j, j < 16 → (sp', j) ≠ (sp, k) → t.coll sp' j = u.coll sp' j) ∧ t.sent = u.sent ++ c.gives u.node ∧
        { t with colls := u.colls, sent := u.sent } = u) ∧
    (∀ v n', mask ≠ 0 →
      let own := ownRange u.node n (collDims mask)
      u.writeCells sp g.dst (parseDesc db) (collWords fmt * own.1)
        (packVals fmt (((unpackVals fmt n bs).drop own.1).take own.2)) = (v, n', none) →
      ∃ t c, exec (.collAllGather o g) s = .next t ∧ t.coll sp k = some c ∧ c.o = o ∧ c.steps = collSteps 1 mask ∧
        c.lo = own.1 ∧ c.len = own.2 ∧ c.delivered = own.2 ∧ t.sent = v.sent ++ c.gives v.node ∧
        { t with colls := v.colls, sent := v.sent } = v)) ∧
  (∀ (spire : Fin 4) (op : Fin 16) c d rest data (s : State),
    let sp := spire.val
    let h := c.len / 2
    let hi := bit s.node d
    let keep := c.lo + (if hi then h else 0)
    let theirs := unpackVals c.fmt h data
    s.coll sp op.val = some c → c.steps = (d, false) :: rest → rest.any (fun e => !e.2) = true →
    data.length = collBytes c.fmt * h → c.lo + c.len ≤ c.vals.length →
    ∃ t c', exec (.collStep spire op data none) s = .next t ∧ t.coll sp op.val = some c' ∧ c'.o = c.o ∧ c'.lo = keep ∧
      c'.len = h ∧ c'.steps = rest ∧ c'.delivered = c.delivered ∧ c'.vals.length = c.vals.length ∧
      (∀ i < h, c'.vals.getD (keep + i) 0 =
        if hi then combine c.fmt c.cmb (s.seed (keep + i)) (theirs.getD i 0) (c.vals.getD (keep + i) 0)
        else combine c.fmt c.cmb (s.seed (keep + i)) (c.vals.getD (keep + i) 0) (theirs.getD i 0)) ∧
      (∀ i, i < keep ∨ keep + h ≤ i → c'.vals.getD i 0 = c.vals.getD i 0) ∧
      t.sent = s.sent ++ c'.gives s.node ∧
      (∀ sp' j, j < 16 → (sp', j) ≠ (sp, op.val) → t.coll sp' j = s.coll sp' j) ∧
      { t with colls := s.colls, sent := s.sent, free := s.free } = s) ∧
  (∀ (spire : Fin 4) (op : Fin 16) c d rest data n' (s u : State),
    let sp := spire.val
    let theirs := if bit s.node d then c.lo - c.len else c.lo + c.len
    let vals := patchVals c.vals theirs (unpackVals c.fmt c.len data)
    s.coll sp op.val = some c → c.steps = (d, true) :: rest → data.length = collBytes c.fmt * c.len →
    s.underBands sp c.bands (fun s => s.writeCells sp c.dst (parseDesc c.dstDesc) (collWords c.fmt * theirs)
      (packVals c.fmt ((vals.drop theirs).take c.len))) = (u, n', none) →
    (rest ≠ [] →
      ∃ t c', exec (.collStep spire op data none) s = .next t ∧ t.coll sp op.val = some c' ∧ c'.o = c.o ∧ c'.vals = vals ∧
        c'.lo = min c.lo theirs ∧ c'.len = 2 * c.len ∧ c'.steps = rest ∧ c'.delivered = c.delivered + c.len ∧
        t.sent = u.sent ++ c'.gives u.node ∧ { t with colls := u.colls, sent := u.sent } = u) ∧
    (rest = [] → u.Alone c.o → ∃ t, exec (.collStep spire op data none) s = .next t ∧
      Recorded c.o 0x40 (leBytes 6 (c.delivered + c.len)) (u.setColl sp op.val none) t)) ∧
  (∀ (spire : Fin 4) (op : Fin 16) c d rest data n' (s u : State),
    let sp := spire.val
    let h := c.len / 2
    let hi := bit s.node d
    let keep := c.lo + (if hi then h else 0)
    let theirs := unpackVals c.fmt h data
    let out := (List.range h).map (fun i =>
      let a := ((c.vals.drop keep).take h).getD i 0
      let b := theirs.getD i 0
      if hi then combine c.fmt c.cmb (s.seed (keep + i)) b a else combine c.fmt c.cmb (s.seed (keep + i)) a b)
    let vals := patchVals c.vals keep out
    s.coll sp op.val = some c → c.steps = (d, false) :: rest → rest.any (fun e => !e.2) = false →
    data.length = collBytes c.fmt * h →
    s.draw.underBands sp c.bands (fun s => s.writeCells sp c.dst (parseDesc c.dstDesc) (collWords c.fmt * keep)
      (packVals c.fmt ((vals.drop keep).take h))) = (u, n', none) →
    (let c' := { c with vals := vals, lo := keep, len := h, steps := rest, delivered := c.delivered + h }
     rest ≠ [] → ∃ t, exec (.collStep spire op data none) s = .next t ∧ t.coll sp op.val = some c' ∧
      t.sent = u.sent ++ c'.gives u.node ∧ { t with colls := u.colls, sent := u.sent } = u) ∧
    (rest = [] → u.Alone c.o → ∃ t, exec (.collStep spire op data none) s = .next t ∧
      Recorded c.o 0x40 (leBytes 6 (c.delivered + h)) (u.setColl sp op.val none) t)) ∧
  (∀ (spire : Fin 4) (op : Fin 16) (port : Fin 8) (code : Byte) data b c (s : State),
    let sp := spire.val
    s.coll sp op.val = some c → c.steps ≠ [] →
    (∃ t, exec (.collStep spire op data (some b)) s = .next t ∧ t.coll sp op.val = none ∧
      t.sent = s.sent ++ (collDims c.mask).map (fun d => .abort d F_CHECKSUM) ∧
      (∀ sp' j, j < 16 → (sp', j) ≠ (sp, op.val) → t.coll sp' j = s.coll sp' j)) ∧
    (bit c.mask port.val = true → ∃ t, exec (.collAbortReceived spire op port code) s = .next t ∧ t.coll sp op.val = none ∧
      t.sent = s.sent ++ ((collDims c.mask).filter (· ≠ port.val)).map (fun d => .abort d code.toNat) ∧
      (∀ sp' j, j < 16 → (sp', j) ≠ (sp, op.val) → t.coll sp' j = s.coll sp' j)) ∧
    (∃ t, exec (.collPartnerTimeout spire op) s = .next t ∧ t.coll sp op.val = none ∧ t.sent = s.sent ∧
      (∀ sp' j, j < 16 → (sp', j) ≠ (sp, op.val) → t.coll sp' j = s.coll sp' j)))

/-- Complete under the conditions stated: BTAB_LOAD, ENTRY_START, DEADLINE, ENTRY_END. -/
def Obligations.BellTable : Prop :=
  (∀ o (src : Dpa) (first count : BitVec 16) bs (s u : State), s.ringEngine o = 0 → count ≠ 0 →
    let sp := o.spire.val
    let i := first.toNat
    let n := count.toNat
    let base := 512 * (1 - bits (u.reg (Reg.belStatus sp)) 0 0)
    i + n ≤ 512 → s.seqRead sp (srcSpire sp 3 0) src.toNat (32 * n) = (u, .ok bs) → u.Alone o →
    (∀ j < n, entOk (i + j) ((bs.drop (32 * j)).take 32) = true) →
    ∃ t, exec (.btabLoad o src first count) s = .next t ∧
      ((∃ v, Recorded o 0x50 [] v t ∧ (∀ j < n, v.btab sp (base + i + j) = (bs.drop (32 * j)).take 32) ∧
        (∀ sp' e, e < 1024 → (sp', e / 512) ≠ (sp, base / 512) ∨ e % 512 < i ∨ i + n ≤ e % 512 →
          v.btab sp' e = u.btab sp' e) ∧
        { v with btabs := u.btabs, free := u.free } = u) ∨
      (∃ j, t.btabJobs = u.btabJobs ++ [j] ∧ j.o = o ∧
        j.entries = (List.range n).map (fun m => (base + (i + m), (bs.drop (32 * m)).take 32)) ∧
        { t with btabJobs := u.btabJobs, free := u.free } = u))) ∧
  (∀ (spire : Fin 4) (entry : Fin 1024) i rest (s : State),
    let sp := spire.val
    let e := entry.val
    let k := entKind i.bytes
    s.instances sp e = i :: rest → i.started = false → i.ending = false → i.abandoned = false → s.live = true →
    s.requireWaits sp e i = false →
    s.scrubHolds sp (BitVec.ofNat 16 (entTowers i.bytes)) = false → s.ringOn sp i.ring = true →
    s.namesRetired sp (entTowers i.bytes) = false →
    let j : Instance := { i with started := true, late := false, delay := 0, notRun := !s.requireOk sp e i }
    (k = 2 → i.late = true → s.bellMode sp = true → ∃ t d, exec (.entryStart spire entry) s = .next t ∧
      t.instances sp e = { j with late := true, delay := d } :: rest ∧
      t.reg (Reg.belLateCnt sp) = min (s.reg (Reg.belLateCnt sp) + 1) (2 ^ 32 - 1) ∧
      (∀ x, x ≠ Reg.belLateCnt sp → t.reg x = s.reg x) ∧
      { t with ctl := s.ctl, insts := s.insts, free := s.free } = s) ∧
    (i.late = false ∨ s.bellMode sp = false → k = 2 ∨ (k = 1 ∧ s.requireOk sp e i = false) →
      ∃ t, exec (.entryStart spire entry) s = .next t ∧ t.instances sp e = j :: rest ∧
      (∀ sp' e', e' < 1024 → (sp', e') ≠ (sp, e) → t.instances sp' e' = s.instances sp' e') ∧
      { t with insts := s.insts } = s) ∧
    (∀ u cs more, i.late = false ∨ s.bellMode sp = false → k = 1 → s.requireOk sp e i = true →
      (s.setInstances sp e (j :: rest)).readList sp (entCseq e i.bell)
        { left := entCount i.bytes, idx := 0, addr := entList i.bytes } = (u, .ok (cs, more)) →
      ∃ t, exec (.entryStart spire entry) s = .next t ∧
        t.runq (entryKey sp e) = { RunQ.init with queue := cs, more := more } ∧
        (match more with
          | none => cs.length = entCount i.bytes
          | some m => cs.length + m.left = entCount i.bytes) ∧ { t with runs := u.runs } = u) ∧
    (k = 3 → i.late = false ∨ s.bellMode sp = false → ∃ t j' rest', exec (.entryStart spire entry) s = .next t ∧ t.instances sp e = j' :: rest' ∧ j'.started = true ∧
      j'.bytes = i.bytes ∧ j'.bell = i.bell)) ∧
  (∀ (spire : Fin 4) (entry : Fin 1024) i rest (s : State),
    let sp := spire.val
    let e := entry.val
    s.instances sp e = i :: rest → i.bell = s.bellNum → i.past = false → i.ending = false →
    (s.bellMode sp = true → entKind i.bytes = 1 → entAbandon i.bytes = true → (s.runq (entryKey sp e)).running = [] →
      ∃ t m, exec (.deadline spire entry) s = .next t ∧
        t.instances sp e = { i with miss := some m, bad := true, past := true, abandoned := true } :: rest ∧
        field m 0 0 = 0x21 ∧ t.reg (Reg.belMissCnt sp) = min (s.reg (Reg.belMissCnt sp) + 1) (2 ^ 32 - 1) ∧
        t.runq (entryKey sp e) = { s.runq (entryKey sp e) with queue := [], pre := none, more := none } ∧
        SMap.get (fun _ => []) t.faultsSpire sp = SMap.get (fun _ => []) s.faultsSpire sp ++ [m]) ∧
    (s.bellMode sp = true → entKind i.bytes = 2 → i.started = true → s.windowBusy sp e = false →
      ∃ t, exec (.deadline spire entry) s = .next t ∧ t.instances sp e = { i with past := true } :: rest ∧
        { t with insts := s.insts } = s) ∧
    (s.bellMode sp = true → entKind i.bytes ≠ 2 ∨ i.started = false ∨ s.windowBusy sp e = true →
      entAbandon i.bytes = false →
      ∃ t m, exec (.deadline spire entry) s = .next t ∧
        t.instances sp e = { i with miss := some m, bad := true, past := true, abandoned := false } :: rest ∧
        field m 0 0 = 0x21 ∧ t.reg (Reg.belMissCnt sp) = min (s.reg (Reg.belMissCnt sp) + 1) (2 ^ 32 - 1) ∧
        SMap.get (fun _ => []) t.faultsSpire sp = SMap.get (fun _ => []) s.faultsSpire sp ++ [m] ∧
        (∀ sp' e', e' < 1024 → (sp', e') ≠ (sp, e) → t.instances sp' e' = s.instances sp' e') ∧
        { t with ctl := s.ctl, insts := s.insts, faultsSpire := s.faultsSpire } = s) ∧
    (s.bellMode sp = false → ∃ t, exec (.deadline spire entry) s = .next t ∧
      t.instances sp e = (if entKind i.bytes = 2 then { i with past := true } else i) :: rest ∧
      { t with insts := s.insts } = s)) ∧
  (∀ (spire : Fin 4) (entry : Fin 1024) i rest (s : State),
    let sp := spire.val
    let e := entry.val
    let n := (i.miss.toList ++ i.fault.toList).length + 1
    s.instances sp e = i :: rest → s.instanceDone sp e i = true →
    ∃ t, exec (.entryEnd spire entry) s = .next t ∧
      (s.compRoom sp i.ring n = true → t.instances sp e = rest.filter (fun x => x.bell ≠ i.bell) ∧
        SMap.get (fun _ => (0, false)) t.ended (1024 * sp + e) = (i.bell, !i.bad && !i.abandoned) ∧
        (t.ring sp i.ring).compPos = (s.ring sp i.ring).compPos + n) ∧
      (s.compRoom sp i.ring n = false → (t.ring sp i.ring).compPos = (s.ring sp i.ring).compPos ∧
        t.instances sp e = (i :: rest).map (fun x => if x.bell = i.bell then { x with ending := true } else x) ∧
        (∃ es, (t.ring sp i.ring).held = (s.ring sp i.ring).held ++
          [(s.starts, .entry e i.bell (!i.bad && !i.abandoned), es)] ∧ es.length = n) ∧ t.ended = s.ended) ∧
      (∀ sp' e', e' < 1024 → (sp', e') ≠ (sp, e) → t.instances sp' e' = s.instances sp' e') ∧
      t.reg (Reg.belAbandonCnt sp) = (if i.abandoned then min (s.reg (Reg.belAbandonCnt sp) + 1) (2 ^ 32 - 1)
        else s.reg (Reg.belAbandonCnt sp)) ∧
      t.towers = s.towers ∧ t.descs = s.descs ∧ t.sems = s.sems ∧ t.pending = s.pending)

/-- Complete under the conditions stated: SESS_OPEN, SESS_BIND, SESS_POLICY, SESS_CLOSE, SESS_QUERY, BIND_VERIFY_COMPLETE,
SESS_CLOSE_RELEASE. -/
def Obligations.Sessions : Prop :=
  (∀ o (index : BitVec 16) (pset : BitVec 8) auto (region floor : BitVec 16) (defer : BitVec 8) (scratch0 scratch1 : Dpa) key
    n (s : State), s.Alone o → s.ringEngine o = 9 →
    let i := index.toNat
    i < 16384 → ctxState (s.ctx i) = 0 → s.pkeAny = some n → firstStatus (edPointBad key) = 0 → pset.toNat < 32 →
    (s.pset o.spire.val pset.toNat).valid = true → outside (s.region region.toNat) scratch0.toNat 64 = none →
    outside (s.region region.toNat) scratch1.toNat 64 = none → s.fld Reg.fuseLifecycle 2 0 ≠ 3 →
    ∃ u t, exec (.sessOpen o index pset auto region floor defer scratch0 scratch1 key) s = .next t ∧ Recorded o 0x80 [] u t ∧
      ctxState (u.ctx i) = 1 ∧ ctxAuto (u.ctx i) = auto ∧ ctxPset (u.ctx i) = pset.toNat ∧ ctxRegion (u.ctx i) = region.toNat ∧
      ctxFloor (u.ctx i) = floor.toNat ∧ byteAt (u.ctx i) 6 = defer.toNat ∧
      ctxKey (u.ctx i) = (key ++ List.replicate 57 0).take 57 ∧ ctxScratch (u.ctx i) 0 = scratch0.toNat ∧
      ctxScratch (u.ctx i) 1 = scratch1.toNat ∧ ctxTouched (u.ctx i) = 0 ∧ ctxPages (u.ctx i) = 0 ∧
      (∀ j, j ≠ i → u.ctx j = s.ctx j) ∧
      bits (u.reg (Reg.pkeStatus n)) 23 8 = 0x9A ∧ u.reg (Reg.pkeOpcnt n) = min (s.reg (Reg.pkeOpcnt n) + 1) (2 ^ 32 - 1) ∧
      u.reg (Reg.carPendSet 4 0) = s.reg (Reg.carPendSet 4 0) ||| 1 <<< (1 + n) ∧
      (∀ x, x ≠ Reg.pkeStatus n → x ≠ Reg.pkeOpcnt n → x ≠ Reg.carPendSet 4 0 → (∀ j < 512, x ≠ Reg.pkeOpmem n j) →
        u.reg x = s.reg x) ∧
      { u with sess := s.sess, ctl := s.ctl, free := s.free } = s) ∧
  (∀ o (index : BitVec 16) (pset : BitVec 8) auto (region floor : BitVec 16) (defer : BitVec 8) (scratch0 scratch1 : Dpa) key
    (s : State), s.ringEngine o = 9 → index.toNat < 16384 → ctxState (s.ctx index.toNat) = 0 → s.pkeAny = none →
    exec (.sessOpen o index pset auto region floor defer scratch0 scratch1 key) s = .next s) ∧
  (∀ o (index floor : BitVec 16) auto (defer : BitVec 8) (s : State), s.Alone o → s.ringEngine o = 9 →
    let i := index.toNat
    let c := s.ctx i
    i < 16384 → ctxState c = 1 ∨ ctxState c = 2 →
    ∃ u t, exec (.sessPolicy o index floor auto defer) s = .next t ∧ Recorded o 0x82 [] u t ∧
      u.ctx i = patch (patch c 0 [BitVec.ofNat 8 (setBits (byteAt c 0) 2 2 (ofBool auto))]) 4
        (leBytes 2 floor.toNat ++ leBytes 1 defer.toNat) ∧
      ctxState (u.ctx i) = ctxState c ∧ ctxAuto (u.ctx i) = auto ∧
      (∀ j, j ≠ i → u.ctx j = s.ctx j) ∧ { u with sess := s.sess } = s) ∧
  (∀ o (index : BitVec 16) (dst : Dpa) (s u : State), s.ringEngine o = 9 → index.toNat < 16384 →
    s.keyPut o dst.toNat (s.ctx index.toNat) = (u, none) → u.Alone o →
    ∃ t, exec (.sessQuery o index dst) s = .next t ∧ Recorded o 0x84 [] u t ∧
      (∀ p, s.loc dst.toNat = .companion p →
        u = { s with companion := SMap.setRun (fun _ => 0) s.companion p (s.ctx index.toNat) })) ∧
  (∀ o (index : BitVec 16) (manifest : Dpa) (len : BitVec 32) (comp : Word) m n (s u : State), s.ringEngine o = 9 →
    let i := index.toNat
    i < 16384 → ctxState (s.ctx i) = 1 → s.pkeAny = some n → len.toNat ≤ 2 ^ 20 → s.keyGet o manifest.toNat len.toNat = (u, .ok m) →
    ∃ t, exec (.sessBind o index manifest len comp) s = .next t ∧
      (match manBad i (s.ctx i) (u.pset o.spire.val (ctxPset (s.ctx i))).cur m with
      | none => t.binds = u.binds ++ [{ o := o, index := i, manifest := m, comp := comp.toNat, engine := n }] ∧
        bits (t.reg (Reg.pkeStatus n)) 0 0 = 1 ∧ bits (t.reg (Reg.pkeStatus n)) 15 8 = 0x90 ∧
        (∀ x, x ≠ Reg.pkeStatus n → (∀ j < 512, x ≠ Reg.pkeOpmem n j) → t.reg x = u.reg x) ∧
        { t with binds := u.binds, ctl := u.ctl, free := u.free } = u
      | some _ => t.binds = u.binds ∧ t.sess = u.sess ∧ t.towers = u.towers ∧ t.descs = u.descs)) ∧
  (∀ (index : Fin 16384) (resmap : Dpa) b (s : State),
    let i := index.val
    let c := s.ctx i
    let m := b.manifest
    let n := m.length - 114
    let size := mapSize (manKeys m) (manSeeds m) (manPages m)
    let st := signatureStatus (ctxKey c) (m.take n) (m.drop n)
    let v := ((s.bindEnd b).opmemFree b.engine).pkeLatch b.engine st (st ≠ 0 && st ≠ P_SIG_INVALID)
    s.binds.find? (fun e => e.index = i) = some b → s.Alone b.o → ctxState c = 1 → b.engine < 3 →
    ∃ t, exec (.bindVerifyComplete index resmap) s = .next t ∧ t.binds = s.binds.erase b ∧
      (∀ j, j ≠ i → t.ctx j = s.ctx j) ∧ bits (t.reg (Reg.pkeStatus b.engine)) 0 0 = 0 ∧
      bits (t.reg (Reg.pkeStatus b.engine)) 23 16 = st % 256 ∧
      (if st = 0 ∧ outside (s.region (ctxRegion c)) resmap.toNat size = none ∧ v.firstUnmapped resmap.toNat size = none then
        ∃ u, Recorded b.o 0x81 ((m.drop 24).take 8) u t ∧ ctxState (u.ctx i) = 2 ∧
          { u with sess := v.sess } = v.memPut 0 resmap.toNat (mapBytes m b.comp)
      else t.sess = s.sess)) ∧
  (∀ o (index : BitVec 16) (s : State), s.ringEngine o = 9 →
    let i := index.toNat
    i < 16384 → ctxState (s.ctx i) = 1 ∨ ctxState (s.ctx i) = 2 → (s.binds.map (·.engine)).Nodup →
    ∃ t, exec (.sessClose o index) s = .next t ∧ ctxState (t.ctx i) = 3 ∧
      (∀ b, b ≠ 0 → byteAt (t.ctx i) b = byteAt (s.ctx i) b) ∧ (∀ j, j ≠ i → t.ctx j = s.ctx j) ∧
      t.binds = s.binds.filter (fun b => b.index ≠ i) ∧
      (∀ b ∈ s.binds, b.index = i → b.engine < 3 → bits (t.reg (Reg.pkeStatus b.engine)) 0 0 = 0 ∧
        bits (t.reg (Reg.pkeStatus b.engine)) 23 16 = P_ABORTED ∧ ∀ j < 512, t.reg (Reg.pkeOpmem b.engine j) = 0) ∧
      t.closes = s.closes ++ [{ o := some o, index := i, released := false, wait := [], active := [], areas := [] }] ∧
      (s.binds.all (fun b => b.index ≠ i) = true → s.sealsWith i = [] →
        { t with sess := s.sess, closes := s.closes } = s)) ∧
  (∀ (index : Fin 16384) j (s : State),
    let i := index.val
    s.closes.find? (fun e => e.index = i) = some j →
    (j.released = false →
      (s.sealsWith i).all (fun e => !(e.2.2.phase = .running) && e.2.2.pins.isNone) = true →
      s.keyJobs.all (fun e => e.index ≠ i) = true →
      ∃ t, exec (.sessCloseRelease index) s = .next t ∧ (∀ f p, t.frameUse f ≠ some (i, p)) ∧
        (∀ f, (∀ e ∈ s.frames, e.1 = f → ∀ p, e.2 ≠ some (i, p)) → t.frameUse f = s.frameUse f) ∧
        t.closes = s.closes.map (fun e => if e.index = i then { j with
          released := true, wait := s.touchedSlots (s.ctx i), areas := SMap.get (fun _ => []) s.sessAreas i } else e) ∧
        t.sess = s.sess ∧ t.keyJobs = s.keyJobs ∧ t.seals = s.seals) ∧
    (∀ sp lo hi rest, j.released = true → j.areas = (sp, lo, hi) :: rest → s.scrubs sp = [] →
      ∃ t, exec (.sessCloseRelease index) s = .next t ∧ t.scrubs sp = [(lo, hi)] ∧
        (∀ x, x ≠ sp → t.scrubs x = s.scrubs x) ∧
        t.closes = s.closes.map (fun e => if e.index = i then { j with areas := rest } else e) ∧
        { t with galScrub := s.galScrub, closes := s.closes } = s) ∧
    (∀ o, j.released = true → j.areas = [] → j.wait = [] → j.active.all (fun g => (s.tower g).scrub.isNone) = true →
      (SMap.get (fun _ => []) s.sessAreas i).all (fun a => (s.scrubs a.1).isEmpty) = true →
      j.o = some o → s.Alone o → s.compRoom o.spire.val o.ring.val 2 = true →
      ∃ t, exec (.sessCloseRelease index) s = .next t ∧ t.ctx i = List.replicate 256 0 ∧ (∀ k, k ≠ i → t.ctx k = s.ctx k) ∧
        SMap.get (fun _ => []) t.sessAreas i = [] ∧ t.closes = s.closes.filter (fun e => e.index ≠ i) ∧
        t.ring o.spire.val o.ring.val = { s.ring o.spire.val o.ring.val with
          compPos := (s.ring o.spire.val o.ring.val).compPos + 2 } ∧
        { t with ctl := s.ctl, companion := s.companion, rings := s.rings, runs := s.runs, sess := s.sess,
                 sessAreas := s.sessAreas, closes := s.closes } = s))

/-- Complete under the conditions stated: KEY_PAGE_IN, KEY_PAGE_OUT, PSET_LOAD, REGION_SET, BAND_CLASS, PSET_BUILD_COMPLETE,
KEY_PAGE_DIGEST_DONE, KEY_DEFER_TIMEOUT. -/
def Obligations.KeysSetsAndRegions : Prop :=
  (∀ o (index : BitVec 16) (page : BitVec 32) (s : State), s.ringEngine o = 9 →
    let i := index.toNat
    let p := page.toNat
    let r := s.mapRead o.spire.val (srcKey 8 0) (s.ctx i) [p]
    let v := r.1
    let m := v.resMap (s.ctx i)
    i < 16384 → ctxState (s.ctx i) = 2 → p < ctxPages (s.ctx i) → r.2 = none →
    (∀ w f, v.pageState m p ≠ 1 → v.pageState m p ≠ 2 → v.takeFrame = some (w, f) →
      (∀ f', v.freeFrame = some f' → w = v ∧ f = f') ∧
      ∃ t j, exec (.keyPageIn o index page) s = .next t ∧ t.keyJobs = w.keyJobs ++ [j] ∧ j.o = some o ∧ j.index = i ∧
        j.page = p ∧ j.frame = f ∧ j.spire = o.spire.val ∧ j.bands = t.bandsOf 0 ∧
        t.frameUse f = some (i, p) ∧ (∀ x, x ≠ f → t.frameUse x = w.frameUse x) ∧
        { t with frames := w.frames, keyJobs := w.keyJobs } = w.memPut 0 ((w.resMap (w.ctx i)).dir p + 72) [0x01]) ∧
    (v.pageState m p = 1 ∨ v.pageState m p = 2 → v.Alone o →
      ∃ t, exec (.keyPageIn o index page) s = .next t ∧ Recorded o 0x85 [] v t) ∧
    (v.pagePin m p = 0 → v.Alone o → ∃ u t, exec (.keyPageOut o index page) s = .next t ∧ Recorded o 0x86 [] u t ∧
      (let f := (v.pageFrame m p - v.reg Reg.sessFrameBase) / 0x20_0000
       if v.pageState m p = 2 then
        u.frameUse f = none ∧ (∀ x, x ≠ f → u.frameUse x = v.frameUse x) ∧
        { u with frames := v.frames } =
          (let w := v.memPut 0 (v.tagSlot f) (List.replicate 32 0)
           w.memPut 0 (m.dir p + 64) (List.replicate 9 0))
       else u = v))) ∧
  (∀ (index : Fin 16384) (page : BitVec 32) j (s : State),
    s.keyJobs.find? (fun e => e.index = index.val && e.page = page.toNat) = some j →
    (s.alxUp = false → exec (.keyPageDigestDone index page) s = .next s) ∧
    (s.alxUp = true →
    let v := if j.bands = s.bandsOf 0 then s else s.putBands 0 j.bands
    let u := { v with keyJobs := s.keyJobs.erase j }
    let m := u.resMap (u.ctx j.index)
    let d := u.dirEntry m j.page
    let image := SMap.getRun (fun _ => 0) u.companion (m.comp + 0x20_0000 * j.page) 0x20_0000
    let w := ((u.memPut 0 (u.frameAddr j.frame) image).memPut 0 (u.tagSlot j.frame) (d.take 32)).memPut 0 (m.dir j.page + 64)
      (leBytes 8 (u.frameAddr j.frame) ++ [0x02])
    ∃ t, exec (.keyPageDigestDone index page) s = .next t ∧ t.keyJobs = s.keyJobs.erase j ∧
      (if Crypto.shake256 image 32 = (d.drop 32).take 32 then
        (j.o = none → ctxState (s.ctx j.index) = 2 → { t with ctl := w.ctl } = w) ∧
        (∀ o, j.o = some o → ctxState (s.ctx j.index) = 2 → j.bands = s.bandsOf 0 → w.Alone o → Recorded o 0x85 [] w t)
      else
        t.frameUse j.frame = none ∧ (∀ x, x ≠ j.frame → t.frameUse x = s.frameUse x) ∧
        SMap.get (fun _ => []) t.digests (4096 * j.index + j.page) = Crypto.shake256 image 32))) ∧
  (∀ (spire : Fin 4) (op : Fin 16) c b limit i (s : State),
    let sp := spire.val
    s.seal sp op.val = some c → c.phase = .deferred → c.since = some (b, limit) → c.session = some i → c.ann = none →
    b + limit ≤ s.bellNum →
    ∃ t, exec (.keyDeferTimeout spire op) s = .next t ∧ t.seal sp op.val = none ∧
      (∀ sp' k, k < 16 → (sp', k) ≠ (sp, op.val) → t.seal sp' k = s.seal sp' k) ∧ t.sess = s.sess ∧ t.frames = s.frames ∧
      t.hbm = s.hbm ∧ t.gallery = s.gallery ∧ t.tmem = s.tmem) ∧
  (∀ (spire : Fin 4) (op : Fin 16) c a b limit i (s : State),
    let sp := spire.val
    s.seal sp op.val = some c → c.phase = .deferred → c.since = some (b, limit) → c.session = some i → c.ann = some a →
    a.failed = false → s.sealClosing c = false → b + limit ≤ s.bellNum →
    ∃ t n, exec (.keyDeferTimeout spire op) s = .next t ∧ t.seal sp op.val = some { c with
        phase := .waiting, pins := none, since := none, abandon := none,
        ann := some { a with next := n, failed := true, after := s.bellNum + 1 } } ∧
      (∀ sp' k, k < 16 → (sp', k) ≠ (sp, op.val) → t.seal sp' k = s.seal sp' k) ∧
      t.reg (Reg.sprAnnealRestart sp) = min (s.reg (Reg.sprAnnealRestart sp) + 1) (2 ^ 32 - 1) ∧ t.sess = s.sess ∧
      t.frames = s.frames ∧ t.hbm = s.hbm ∧ t.tmem = s.tmem) ∧
  (∀ o (src : Dpa) (slot : BitVec 8) (s : State), s.ringEngine o = 10 →
    let n := slot.toNat
    let r := s.readRange 0 (srcKey 0 0) src.toNat 512 false
    n < 32 → s.firstUnmapped src.toNat 512 = none → s.psetBuilding n = false → r.fault = none →
    ∃ t, exec (.psetLoad o src slot) s = .next t ∧
      (if psetBad r.bytes = none ∧ (r.s.psetNamed n = false ∨
          ∀ sp ∈ r.s.liveSpires, (r.s.pset sp n).valid = false ∨ psId (r.s.pset sp n).cur = psId r.bytes) then
        (∀ sp ∈ r.s.liveSpires, t.pset sp n = { r.s.pset sp n with next := r.bytes, code := 1, o := some o, src := src.toNat }) ∧
        (∀ sp k, k < 32 → k ≠ n ∨ sp ∉ r.s.liveSpires → t.pset sp k = r.s.pset sp k) ∧ { t with psets := r.s.psets } = r.s
      else t.psets = r.s.psets ∧ t.sess = r.s.sess ∧ t.towers = r.s.towers)) ∧
  (∀ (spire : Fin 4) (slot : Fin 32) o (s : State),
    let sp := spire.val
    let n := slot.val
    let p := s.pset sp n
    p.o = some o →
    (∃ t, exec (.psetBuildComplete spire slot true) s = .next t ∧
      t.pset sp n = (if p.code = 2 then
          { gen := (p.gen + 1) % 256, valid := true, cur := p.next, next := [], code := 0, o := none, src := p.src }
        else { p with code := 3, o := none }) ∧
      (∀ sp' k, k < 32 → (sp', k) ≠ (sp, n) → t.pset sp' k = s.pset sp' k) ∧ t.sess = s.sess ∧ t.towers = s.towers) ∧
    (s.Alone o → p.code = 1 → (∀ e ∈ (s.setPset sp n { p with code := 3, o := none }).psets, e.2.o ≠ some o) →
      ∃ u t, exec (.psetBuildComplete spire slot true) s = .next t ∧ Recorded o 0xA0 [] u t ∧
        { u with psets := s.psets, gallery := s.gallery, ramErr := s.ramErr, free := s.free } = s ∧
        (∀ g b, s.loc (s.reg (Reg.sprPsetBase sp)) = .gallery g b →
          let lo := galKey sp (b + n * 0x10_0000 + (p.gen + 1) % 2 * 0x8_0000)
          ∀ x, x < lo ∨ lo + 0x8_0000 ≤ x → SMap.get (fun _ => 0) u.gallery x = SMap.get (fun _ => 0) s.gallery x)) ∧
    ∃ t, exec (.psetBuildComplete spire slot false) s = .next t ∧ t.sess = s.sess ∧ t.towers = s.towers ∧ t.descs = s.descs) ∧
  (∀ o (index : BitVec 16) (base limit : Dpa) (s : State), s.Alone o → s.ringEngine o = 10 →
    let i := index.toNat
    let old := s.region i
    let less := old.1 < old.2 ∧ (limit = 0 ∨ old.1 < base.toNat ∨ limit.toNat < old.2)
    (¬ (less ∧ s.liveDescs.any (fun d => field d 11 10 = i) = true) → s.regionClash i base.toNat limit.toNat = false →
      ∃ u t, exec (.regionSet o index base limit) s = .next t ∧ Recorded o 0xA1 [] u t ∧
        u.region i = (if limit = 0 then (0, 0) else (base.toNat, limit.toNat)) ∧ (∀ j, j ≠ i → u.region j = s.region j) ∧
        { u with regions := s.regions } = s) ∧
    (less ∧ s.liveDescs.any (fun d => field d 11 10 = i) = true ∨ s.regionClash i base.toNat limit.toNat = true →
      ∃ t, exec (.regionSet o index base limit) s = .next t ∧ t.regions = s.regions)) ∧
  (∀ o (band cls : BitVec 8) (s : State), s.ringEngine o = 10 → band.toNat < 36 → cls.toNat ≤ 3 →
    s.bandUsed band.toNat = false →
    let b := band.toNat
    let a := fun sp => if b < 32 then Reg.hbmBandLo (8 * sp) else Reg.hbmBandHi (8 * sp)
    let p := 2 * (b % 32)
    ∃ t, exec (.bandClass o band cls) s = .next t ∧ t.bandCmds = s.bandCmds ++ [(o, b, cls.toNat)] ∧
      (∀ sp < 4, ∃ w : Word, t.stagedReg (a sp) = some w ∧ bits w.toNat (p + 1) p = cls.toNat ∧
        ∀ q < 64, q ≠ p → q ≠ p + 1 → w.getLsbD q = (match s.stagedReg (a sp) with
          | some v => v.getLsbD q
          | none => bit (s.reg (a sp) &&& (rwsMask (a sp)).toNat) q)) ∧
      (∀ x, (∀ sp < 4, x ≠ a sp) → t.stagedReg x = s.stagedReg x) ∧
      { t with staged := s.staged, bandCmds := s.bandCmds } = s)

/-- HADD to ANNEAL, SEAL_OP_START, SEAL_OP_COMPLETE, ANNEAL_SLICE_START, ANNEAL_SLICE_END, ANNEAL_SLICE_RESTART. Completes
under the conditions stated: HADD, HSUB, HNEG, PADD, CMUL, PMUL, HMUL, HMUL3, RELIN, RESCALE, ROTATE, CONJ, LEVELDOWN, NTT,
INTT, ANNEAL, SEAL_OP_START, SEAL_OP_COMPLETE, ANNEAL_SLICE_START, ANNEAL_SLICE_END, ANNEAL_SLICE_RESTART. -/
def Obligations.SealedOperations : Prop :=
  (∀ p ∈ ([(0x01, Instr.hadd), (0x02, .hsub), (0x03, .hneg), (0x04, .padd), (0x05, .cmul), (0x06, .pmul), (0x07, .hmul),
      (0x08, .hmul3), (0x09, .relin), (0x0A, .rescale), (0x0B, .rotate), (0x0C, .conj), (0x0D, .leveldown), (0x0E, .ntt),
      (0x0F, .intt), (0x10, .anneal)] : List (Nat × (Origin → SealArgs → Instr))),
    ∀ o (g : SealArgs) k is out (s u : State), s.ringEngine o = 2 →
    let sp := o.spire.val
    s.freeSeal sp = some k → s.readHeaders sp p.1 g = (u, .ok (is, out)) →
    ∃ t, exec (p.2 o g) s = .next t ∧ (∀ sp' j, j < 16 → (sp', j) ≠ (sp, k) → t.seal sp' j = u.seal sp' j) ∧
      (match u.sealCheck sp p.1 g is out false with
      | .refuse _ => t.seal sp k = none ∧ t.hbm = u.hbm ∧ t.gallery = u.gallery ∧ t.tmem = u.tmem
      | .level _ => t.hbm = u.hbm ∧ t.gallery = u.gallery ∧ t.tmem = u.tmem
      | .stall => ∃ c, t.seal sp k = some c ∧ c.o = o ∧ c.code = p.1 ∧ c.g = g ∧ c.phase = .waiting
      | .pass _ => ∃ c, t.seal sp k = some c ∧ c.o = o ∧ c.code = p.1 ∧ c.g = g ∧ c.phase = .waiting ∧
          c.session = sealSessionOf is ∧ c.queue = [] ∧ c.pins = none ∧ { t with seals := u.seals } = u)) ∧
  (∀ (spire : Fin 4) (op : Fin 16) c win (s : State),
    let sp := spire.val
    let k := op.val
    s.seal sp k = some c → s.sealRoom sp c.g.towers = some win → c.phase = .waiting → c.code ≠ 0x10 → c.queue = [] →
    (∀ u old, c.pins.isSome = true →
      (s.touch sp c.session c.g.towers).clearValid sp c.g.out.toNat
        (sealParam sp 0x01 3 (c.hdrs.headD []) c.g.out.toNat c.auto) = (u, .ok old) →
      (u.workBankOff sp c.g.towers ≠ none → ∃ t, exec (.sealOpStart spire op) s = .next t ∧ t.seal sp k = none) ∧
      (u.workBankOff sp c.g.towers = none → ∃ t, exec (.sealOpStart spire op) s = .next t ∧
        t.seal sp k = some { c with phase := .running, win := some win, old := old } ∧
        (∀ sp' j, j < 16 → (sp', j) ≠ (sp, k) → t.seal sp' j = u.seal sp' j) ∧ UsesBanks sp c.g.towers u t)) ∧
    (∀ u is out, c.pins = none → s.readHeaders sp c.code c.g = (u, .ok (is, out)) → kswOf c.code c.g.value.toNat = none →
      ∃ t, exec (.sealOpStart spire op) s = .next t ∧
        (match u.sealCheck sp c.code c.g is out c.auto with
        | .pass _ => match (u.touch sp (sealSessionOf is) c.g.towers).clearValid sp c.g.out.toNat
            (sealParam sp 0x01 3 ((is.map (·.h)).headD []) c.g.out.toNat c.auto) with
          | (v, .ok old) =>
            if v.workBankOff sp c.g.towers = none then
              ∃ d, t.seal sp k = some d ∧ d.phase = .running ∧ d.win = some win ∧ d.hdrs = is.map (·.h) ∧
                d.o = c.o ∧ d.g = c.g ∧ d.old = old ∧ UsesBanks sp c.g.towers v t
            else t.seal sp k = none
          | (_, .error _) => t.seal sp k = none
        | .refuse _ => t.seal sp k = none
        | .level _ => t.hbm = u.hbm ∧ t.gallery = u.gallery
        | .stall => t.seals = u.seals))) ∧
  (∀ (spire : Fin 4) (op : Fin 16) c bad (s : State),
    let sp := spire.val
    let k := op.val
    s.seal sp k = some c → c.phase = .running → c.ann = none →
    ∃ t, exec (.sealOpComplete spire op bad) s = .next t ∧ t.seal sp k = none ∧
      ∀ sp' j, j < 16 → (sp', j) ≠ (sp, k) → t.seal sp' j = s.seal sp' j) ∧
  (∀ (spire : Fin 4) (op : Fin 16) c a b ka kb ue0 ue1 ue2 (s s1 u v z w x : State),
    let sp := spire.val
    let k := op.val
    let o := c.result
    let h0 := c.hdrs.headD []
    let h1 := c.hdrs.getD 1 []
    let two := c.hdrs.length = 2
    let poison := hPoison h0 || (decide two && hPoison h1) || ue0 || ue1 || ue2
    let h := outHeader c.code c.pset h0 c.old o (storedScale c.code o.scale) poison
    let ls := c.outLimbs o
    s.seal sp k = some c → c.phase = .running → c.ann = none → c.abandon = none →
    s.tagCheck sp (s.slotsOf sp c.g.towers).length (kswOf c.code c.g.value.toNat) h0 c.pset (c.pins.getD []) = (s1, none) →
    s1.workBankOff sp c.g.towers = none → s1.readBody sp h0 (hL h0) = (u, a, ue0, none) →
    (if two then u.readBody sp h1 (hL h0) else (u, [], false, none)) = (v, b, ue1, none) →
    v.sealKey sp c = (z, ka, kb, ue2) →
    (if poison then (z.spoil sp ls, none) else z.putLimbs sp ls (fun i => Seal.packLimb
      ((sealValue c.code c.g.value.toNat c.pset (hL h0) (hNtt h0) a b ka kb).flatten.getD i []))) = (w, none) →
    w.sealPut sp c.g.out.toNat h = (x, none) → x.Alone c.o →
    ∃ y t, exec (.sealOpComplete spire op none) s = .next t ∧
      Recorded c.o 0x30 (sealResult c.g.out.toNat h c.bells) y t ∧ y.seal sp k = none ∧
      y.reg (Reg.sprSealPoison sp) = (if poison then min (x.reg (Reg.sprSealPoison sp) + 1) (2 ^ 32 - 1)
        else x.reg (Reg.sprSealPoison sp)) ∧
      (∀ i, c.session = some i → y.ctx i = ctxCount (ctxCount (x.ctx i) 156 8 1) 164 8 (ofBool (kswOf c.code 1).isSome)) ∧
      (∀ j, some j ≠ c.session → y.ctx j = x.ctx j) ∧
      (c.pins = none → { y with seals := x.seals, sess := x.sess, ctl := x.ctl } = x)) ∧
  (∀ (spire : Fin 4) (op : Fin 16) pages (ksws : BitVec 16) (lo hi : BitVec 32) c a win (s : State),
    let sp := spire.val
    let k := op.val
    s.seal sp k = some c → c.phase = .waiting → c.code = 0x10 ∨ c.queue ≠ [] → c.ann = some a → a.after ≤ s.bellNum →
    s.sealRoom sp c.g.towers = some win → c.pins.isSome = true → a.began = true → s.workBankOff sp c.g.towers = none →
    ∃ t, exec (.annealSliceStart spire op pages ksws lo hi) s = .next t ∧
      t.seal sp k = some { c with phase := .running, win := some win, ann := some { a with ksws := ksws.toNat } } ∧
      (∀ sp' j, j < 16 → (sp', j) ≠ (sp, k) → t.seal sp' j = s.seal sp' j) ∧
      UsesBanks sp c.g.towers s { t with sess := s.sess }) ∧
  (∀ (spire : Fin 4) (op : Fin 16) pages (ksws : BitVec 16) (lo hi : BitVec 32) c c1 c2 a win old (s u v x : State),
    let sp := spire.val
    let k := op.val
    let a1 : AnnealRun := { a with ksws := ksws.toNat }
    let i := c2.session.getD 0
    s.seal sp k = some c → c.phase = .waiting → c.code = 0x10 ∨ c.queue ≠ [] → c.ann = none → c.pins = none →
    s.sealRoom sp c.g.towers = some win → s.annealCheck sp c (lo.toNat, hi.toNat) = (u, .ok (c1, a)) →
    u.checkPages sp k { c1 with ann := some a1 } (pages.map (·.toNat)) = (v, some c2) →
    let w := v.touch sp c2.session c2.g.towers
    let w1 := if c2.queue.isEmpty then w else (w.count (Reg.sprSealAuto sp) 1).sessCount i 172 4 1
    let w2 : State := { w1 with
      sessAreas := SMap.set (fun _ => []) w1.sessAreas i (SMap.get (fun _ => []) w1.sessAreas i ++ [(sp, a.area.1, a.area.2)]) }
    (w2.galleryPut sp a.area.1 (List.replicate 128 0)).clearValid sp a.out
      (sealParam sp 0x01 3 (c2.hdrs.headD []) a.out !c2.queue.isEmpty) = (x, .ok old) →
    x.workBankOff sp c2.g.towers = none →
    ∃ t, exec (.annealSliceStart spire op pages ksws lo hi) s = .next t ∧
      t.seal sp k = some { c2 with
        phase := .running, win := some win, ann := some { a1 with began := true, old := old } } ∧
      (∀ sp' j, j < 16 → (sp', j) ≠ (sp, k) → t.seal sp' j = x.seal sp' j) ∧ UsesBanks sp c2.g.towers x t) ∧
  (∀ (spire : Fin 4) (op : Fin 16) (cts : List (BitVec 64)) c a (s u : State),
    let sp := spire.val
    let k := op.val
    s.seal sp k = some c → c.phase = .running → c.ann = some a → s.sliceTags sp c = (u, none) → s.sealClosing c = false →
    c.abandon = none → u.workBankOff sp c.g.towers = none →
    ∃ t, exec (.annealSliceEnd spire op cts) s = .next t ∧
      t.seal sp k = some { c with
        phase := .waiting, pins := none, since := none, ann := some { a with next := a.next + 1, failed := false } } ∧
      (∀ sp' j, j < 16 → (sp', j) ≠ (sp, k) → t.seal sp' j = s.seal sp' j) ∧
      (c.pins = none → t.hbm = s.hbm ∧ t.tmem = s.tmem ∧ ∀ x, x < galKey sp a.area.1 ∨
        galKey sp (max a.area.2 (a.area.1 + 128)) ≤ x → SMap.get (fun _ => 0) t.gallery x = SMap.get (fun _ => 0) s.gallery x)) ∧
  (∀ (spire : Fin 4) (op : Fin 16) b c a (s u : State),
    let sp := spire.val
    let k := op.val
    s.seal sp k = some c → c.phase = .running → c.ann = some a → s.sliceTags sp c = (u, none) → s.sealClosing c = false →
    (c.abandon.or (s.workBankOff sp c.g.towers) ≠ none → ∃ t, exec (.annealSliceRestart spire op none) s = .next t ∧
      (∀ sp' j, j < 16 → (sp', j) ≠ (sp, k) → t.seal sp' j = s.seal sp' j) ∧
      (if a.failed = true then t.seal sp k = none else ∃ n, t.seal sp k = some { c with
        phase := .waiting, pins := none, since := none, abandon := none,
        ann := some { a with next := n, failed := true, after := s.bellNum + 1 } })) ∧
    (∃ t, exec (.annealSliceRestart spire op (some b)) s = .next t ∧
      (∀ sp' j, j < 16 → (sp', j) ≠ (sp, k) → t.seal sp' j = s.seal sp' j) ∧
      (if a.failed = true ∨ b.site = 6 then t.seal sp k = none else ∃ n, t.seal sp k = some { c with
        phase := .waiting, pins := none, since := none, abandon := none,
        ann := some { a with next := n, failed := true, after := s.bellNum + 1 } })) ∧
    (c.abandon = none → s.workBankOff sp c.g.towers = none → s.stopAsked sp c.g.towers = true →
      ∃ t n, exec (.annealSliceRestart spire op none) s = .next t ∧ t.seal sp k = some { c with
        phase := .waiting, pins := none, since := none, abandon := none,
        ann := some { a with next := n, after := s.bellNum + 1 } } ∧
      ∀ sp' j, j < 16 → (sp', j) ≠ (sp, k) → t.seal sp' j = s.seal sp' j))

/-- Complete under the conditions stated: TAIL_LINE_INVALIDATE, RING_FETCH, COMMAND_START, COMPLETION_RING_ROOM,
RING_RESUME, SEM_WAIT_GRANT, SEM_WAIT_TIMEOUT, SEM_COUNT_WRITE, SEM_POST_WRITE, REMOTE_SEM_POST. -/
def Obligations.RingAndSemaphoreEvents : Prop :=
  (∀ (spire : Fin 4) (ring : Fin 16) (tail ccons : Word) (s : State),
    let sp := spire.val
    let r := ring.val
    let q := s.ring sp r
    let line := s.reg (Reg.sprRingTailLine sp r)
    let ahead := tail.toNat < q.tail ∨ s.ringSize sp r < tail.toNat - q.fetched
    2 ^ 47 ≤ line →
    (s.alxUp = false → exec (.tailLineInvalidate spire ring tail ccons) s =
      .next { s with companion := SMap.setRun (fun _ => 0) s.companion (line - 2 ^ 47) (leBytes 8 tail.toNat ++ leBytes 8 ccons.toNat) }) ∧
    (s.alxUp = true → ∃ t, exec (.tailLineInvalidate spire ring tail ccons) s = .next t ∧
      (∀ j, t.compByte j = if line - 2 ^ 47 ≤ j ∧ j < line - 2 ^ 47 + 16 then
        (leBytes 8 tail.toNat ++ leBytes 8 ccons.toNat).getD (j - (line - 2 ^ 47)) 0 else s.compByte j) ∧
      (∀ sp' r', r' < 16 → (sp', r') ≠ (sp, r) → t.ring sp' r' = s.ring sp' r') ∧
      (s.ringOn sp r = false → t.ring sp r = { q with ccons := ccons.toNat }) ∧
      (s.ringOn sp r = true → ¬ ahead → t.ring sp r = { q with ccons := ccons.toNat, tail := tail.toNat } ∧
        { t with companion := s.companion, rings := s.rings } = s) ∧
      (s.ringOn sp r = true → ahead → q.tailBad = false →
        t.ring sp r = { q with ccons := ccons.toNat, tailBad := true, stopped := true }) ∧
      (s.ringOn sp r = true → ahead → q.tailBad = true → t.ring sp r = { q with ccons := ccons.toNat }))) ∧
  (∀ (spire : Fin 4) (ring : Fin 16) (s : State),
    let sp := spire.val
    let r := ring.val
    let q := s.ring sp r
    let k := ringKey sp r
    let first := s.companionRead (s.reg (Reg.sprRingBase sp r) + 64 * (q.fetched % s.ringSize sp r)) 64
    s.fetchOpen = true → s.ringOn sp r = true → q.stopped = false →
    ((s.runq k).queue.filter (fun c => c.lidx = 0xFFFF)).length < 16 → s.inflight sp r < 32 →
    q.tail = q.fetched + 1 → cmdSlots (byteAt first 0) = 1 →
    ∃ t, exec (.ringFetch spire ring) s = .next t ∧
      t.runq k = { s.runq k with queue := (s.runq k).queue ++ [{ bytes := first, cseq := q.fetched % 2 ^ 32, lidx := 0xFFFF }] } ∧
      t.ring sp r = { q with fetched := q.fetched + 1 } ∧ (∀ k', k' ≠ k → t.runq k' = s.runq k') ∧
      (∀ sp' r', r' < 16 → (sp', r') ≠ (sp, r) → t.ring sp' r' = s.ring sp' r') ∧
      (let head := s.reg (Reg.sprRingHeadLine sp r)
       2 ^ 47 ≤ head → ∀ j, t.compByte j = if head - 2 ^ 47 ≤ j ∧ j < head - 2 ^ 47 + 64 then
        (leBytes 8 (q.fetched + 1) ++ List.replicate 56 0).getD (j - (head - 2 ^ 47)) 0 else s.compByte j) ∧
      { t with runs := s.runs, rings := s.rings, companion := s.companion } = s) ∧
  (∀ (spire : Fin 4) (ring : Fin 16) cs n (s : State),
    let sp := spire.val
    let r := ring.val
    let q := s.ring sp r
    let k := ringKey sp r
    s.fetchOpen = true → s.ringOn sp r = true → q.stopped = false →
    ((s.runq k).queue.filter (fun c => c.lidx = 0xFFFF)).length < 16 → q.fetched < q.tail →
    s.fetchGroup sp r q.tail 16 q.fetched (s.inflight sp r) = (cs, n) →
    ∃ t, exec (.ringFetch spire ring) s = .next t ∧ (cs = [] → t = s) ∧
      (cs ≠ [] → t.runq k = { s.runq k with queue := (s.runq k).queue ++ cs } ∧ t.ring sp r = { q with fetched := n } ∧
        (∀ k', k' ≠ k → t.runq k' = s.runq k') ∧
        (∀ sp' r', r' < 16 → (sp', r') ≠ (sp, r) → t.ring sp' r' = s.ring sp' r') ∧
        { t with runs := s.runs, rings := s.rings, companion := s.companion } = s)) ∧
  (∀ (spire : Fin 4) (ring : Fin 16) (entry : Option (Fin 1024)) c rest (s : State),
    let x : Runner := { sp := spire.val, r := ring.val, entry := entry }
    let k := x.key
    let o := originOf spire.val ring.val entry c
    (s.runq k).queue = c :: rest → s.serving = true → s.ringHolds x = false → s.refusalOf x c = none →
    s.fenceFlagOk x c = true → preOn c = false ∨ (s.runq k).pre = some true →
    entry.isSome = true ∨ (s.ring spire.val ring.val).brkPassed = true ∨ (s.runq k).pre.isSome = true ∨
      s.breakFires spire.val ring.val c = none →
    s.cmdRetired x c.bytes = false → s.noPlace x c.bytes = false →
    entry.isSome = true ∨ s.turn spire.val ring.val (s.engineFor x (byteAt c.bytes 0)) = true →
    ∃ (u t : State) (f : Running), exec (.commandStart spire ring entry) s = .next t ∧
      (let w := if c.lidx = 0xFFFF then u else u.fetchMore x c.cseq
       ∀ v, runCmd o c.bytes { w with starts := w.starts + 1 } = .next v → t = v) ∧
      u.runq k = { s.runq k with queue := rest, running := (s.runq k).running ++ [f], pre := none } ∧ f.o = o ∧
      f.opcode = byteAt c.bytes 0 ∧ f.order = s.starts ∧ f.fence = none ∧
      (∀ k', k' ≠ k → u.runq k' = s.runq k') ∧
      (∀ sp' r', { u.ring sp' r' with brkPassed := (s.ring sp' r').brkPassed } = s.ring sp' r') ∧
      { u with runs := s.runs, rings := s.rings, lastRing := s.lastRing } = s) ∧
  (∀ (spire : Fin 4) (ring : Fin 16) ord fin es rest (s : State),
    let sp := spire.val
    let r := ring.val
    let q := s.ring sp r
    let n := s.compEntries sp r
    q.held = (ord, fin, es) :: rest → (s.alxUp = false → exec (.completionRingRoom spire ring) s = .next s) ∧
    (s.alxUp = true → q.compPos + es.length ≤ n + q.ccons → s.fences = 0 →
    ∃ t, exec (.completionRingRoom spire ring) s = .next t ∧
      t.ring sp r = { q with held := rest, compPos := q.compPos + es.length, stopped := q.stopped || fin = .stop } ∧
      (∀ sp' r', r' < 16 → (sp', r') ≠ (sp, r) → t.ring sp' r' = s.ring sp' r') ∧
      (∀ rec, es = [rec] → 2 ^ 47 ≤ s.reg (Reg.sprRingCompBase sp r) →
        let at_ := s.reg (Reg.sprRingCompBase sp r) + 32 * (q.compPos % n) - 2 ^ 47
        let b := patch rec 1 (leBytes 1 (byteAt rec 1 + ((q.compPos / n + 1) % 2) * 32))
        ∀ j, t.compByte j = if at_ ≤ j ∧ j < at_ + b.length then b.getD (j - at_) 0 else s.compByte j) ∧
      (match fin with
      | .entry e bell ok => t.instances sp e = (s.instances sp e).filter (fun i => i.bell ≠ bell) ∧
          { t with ctl := s.ctl, companion := s.companion, rings := s.rings, insts := s.insts, ended := s.ended } = s
      | _ => { t with ctl := s.ctl, companion := s.companion, rings := s.rings } = s))) ∧
  (∀ actor (spire : Fin 4) (ring : Fin 16) (s : State),
    let sp := spire.val
    let r := ring.val
    let q := s.ring sp r
    let line := s.companionRead (s.reg (Reg.sprRingTailLine sp r)) 16
    s.power.rstLow = false → s.refuses actor (Reg.sprRingCtl sp r) true = false →
    (q.stopped = false → exec (.ringResume actor spire ring) s = .next s) ∧
    (s.alxUp = false → q.stopped = true →
      ∃ t, exec (.ringResume actor spire ring) s = .next t ∧
        t.ring sp r = { q with stopped := false, brk := false, brkPassed := q.brk || q.brkPassed, tailBad := false } ∧
        (∀ sp' r', r' < 16 → (sp', r') ≠ (sp, r) → t.ring sp' r' = s.ring sp' r') ∧ { t with rings := s.rings } = s) ∧
    (s.alxUp = true → q.stopped = true → s.ringOn sp r = true → q.tail ≤ field line 7 0 → field line 7 0 - q.fetched ≤ s.ringSize sp r →
      ∃ t, exec (.ringResume actor spire ring) s = .next t ∧
        t.ring sp r = { q with stopped := false, brk := false, brkPassed := q.brk || q.brkPassed, tailBad := false,
                               tail := field line 7 0, ccons := field line 15 8 } ∧
        (∀ sp' r', r' < 16 → (sp', r') ≠ (sp, r) → t.ring sp' r' = s.ring sp' r') ∧ { t with rings := s.rings } = s) ∧
    (s.alxUp = true → q.stopped = true → s.ringOn sp r = false →
      ∃ t, exec (.ringResume actor spire ring) s = .next t ∧
        t.ring sp r = { q with stopped := false, brk := false, brkPassed := q.brk || q.brkPassed, tailBad := false,
                               ccons := field line 15 8 } ∧
        (∀ sp' r', r' < 16 → (sp', r') ≠ (sp, r) → t.ring sp' r' = s.ring sp' r') ∧ { t with rings := s.rings } = s) ∧
    (s.alxUp = true → q.stopped = true → s.ringOn sp r = true → field line 7 0 < q.tail ∨ s.ringSize sp r < field line 7 0 - q.fetched →
      ∃ t, exec (.ringResume actor spire ring) s = .next t ∧
        t.ring sp r = { q with stopped := true, brk := false, brkPassed := q.brk || q.brkPassed, tailBad := true,
                               ccons := field line 15 8 } ∧
        (∀ sp' r', r' < 16 → (sp', r') ≠ (sp, r) → t.ring sp' r' = s.ring sp' r'))) ∧
  (∀ (spire : Fin 4) (sem : BitVec 12) w rest (s : State),
    let sp := spire.val
    let n := sem.toNat
    let m := s.sem sp n
    m.waiters = w :: rest →
    (m.count < w.want → exec (.semWaitGrant spire sem) s = .next s) ∧
    (∀ o, w.want ≤ m.count → w.who = .cmd o → s.Alone o →
      ∃ u t, exec (.semWaitGrant spire sem) s = .next t ∧
        Recorded o 0x03 (leBytes 2 (m.count - w.want) ++ leBytes 1 (min (s.bellNum - w.since) 255)) u t ∧
        u.sem sp n = { m with count := m.count - w.want, waiters := rest } ∧
        (∀ sp' n', n' < 4096 → (sp', n') ≠ (sp, n) → u.sem sp' n' = s.sem sp' n') ∧ { u with sems := s.sems } = s) ∧
    (w.want ≤ m.count →
      ∃ u t : State, exec (.semWaitGrant spire sem) s = .next t ∧
        u.sem sp n = { m with count := m.count - w.want, waiters := rest } ∧
        (∀ sp' n', n' < 4096 → (sp', n') ≠ (sp, n) → u.sem sp' n' = s.sem sp' n') ∧ { u with sems := s.sems } = s ∧
        (∀ r, w.who = .pre r → t.runq (ringKey sp r.val) = { s.runq (ringKey sp r.val) with pre := some true } ∧
          (∀ k, k ≠ ringKey sp r.val → t.runq k = s.runq k) ∧ { t with runs := u.runs } = u) ∧
        (∀ e, w.who = .preEntry e → t.runq (entryKey sp e.val) = { s.runq (entryKey sp e.val) with pre := some true } ∧
          (∀ k, k ≠ entryKey sp e.val → t.runq k = s.runq k) ∧ { t with runs := u.runs } = u) ∧
        (∀ g st, w.who = .stream g st → t = u.semServed g.val st) ∧
        (∀ ch, w.who = .channel ch → t = u.channelServed sp ch.val))) ∧
  (∀ (spire : Fin 4) (sem : BitVec 12) w o (s : State),
    let sp := spire.val
    let n := sem.toNat
    let m := s.sem sp n
    let cnt := Reg.semTimeoutCnt sp
    s.sems.filter (fun e => e.1 = 4096 * sp + n) = [(4096 * sp + n, m)] → m.waiters = [w] → m.count < w.want → w.who = .cmd o → s.Alone o →
    w.since + w.timeout ≤ s.bellNum →
    ∃ t, exec (.semWaitTimeout spire sem) s = .next t ∧ t.sem sp n = { m with waiters := [] } ∧
      (∀ sp' n', n' < 4096 → (sp', n') ≠ (sp, n) → t.sem sp' n' = s.sem sp' n') ∧
      t.reg cnt = min (s.reg cnt + 1) (2 ^ 32 - 1)) ∧
  (∀ actor (spire : Fin 4) (sem : BitVec 12) (v : BitVec 16) (s : State),
    let sp := spire.val
    let n := sem.toNat
    let m := s.sem sp n
    s.power.rstLow = false →
    (s.refuses actor (Reg.semCount sp n) true = false →
      ∃ t, exec (.semCountWrite actor spire sem v) s = .next t ∧ t.sem sp n = { m with count := v.toNat } ∧
        (∀ sp' n', n' < 4096 → (sp', n') ≠ (sp, n) → t.sem sp' n' = s.sem sp' n') ∧ { t with sems := s.sems } = s) ∧
    (s.refuses actor (Reg.semPost sp n) true = false → v ≠ 0 → m.count + v.toNat ≤ 65535 →
      actor = .keystone ∨ actor = .management ∨ actor = .spire spire →
      ∃ t, exec (.semPostWrite actor spire sem v) s = .next t ∧
        t.sem sp n = { m with count := m.count + v.toNat, lastBell := s.bellNum, lastSource := actorSource actor, lastRemote := false } ∧
        (∀ sp' n', n' < 4096 → (sp', n') ≠ (sp, n) → t.sem sp' n' = s.sem sp' n') ∧ { t with sems := s.sems } = s) ∧
    (∀ x, s.refuses actor (Reg.semPost sp n) true = false →
      actor = .companion ∧ x = 12 ∨ (∃ y : Fin 4, y ≠ spire ∧ actor = .spire y ∧ x = y.val) → s.spireRetired sp = false →
      ((∃ i < 16, s.semWindowHas sp i n = true ∧ s.semWindowSrc sp i x = true) → v ≠ 0 → m.count + v.toNat ≤ 65535 →
        ∃ t, exec (.semPostWrite actor spire sem v) s = .next t ∧
          t.sem sp n = { m with count := m.count + v.toNat, lastBell := s.bellNum, lastSource := actorSource actor, lastRemote := true } ∧
          (∀ sp' n', n' < 4096 → (sp', n') ≠ (sp, n) → t.sem sp' n' = s.sem sp' n') ∧ { t with sems := s.sems } = s) ∧
      ((∀ i < 16, s.semWindowHas sp i n = false ∨ s.semWindowSrc sp i x = false) →
        ∃ t, exec (.semPostWrite actor spire sem v) s = .next t ∧ t.sems = s.sems ∧
          t.reg (Reg.semWinDrop sp) = min (s.reg (Reg.semWinDrop sp) + 1) (2 ^ 32 - 1)))) ∧
  (∀ (spire : Fin 4) (src : BitVec 4) (sender node : BitVec 16) (sem : BitVec 12) (v : BitVec 16) (s : State),
    let sp := spire.val
    let n := sem.toNat
    let x := src.toNat
    let m := s.sem sp n
    (s.portForbids x = false → s.spireRetired sp = false →
      (∃ i < 16, s.semWindowHas sp i n = true ∧ s.semWindowSrc sp i x = true) → v ≠ 0 → m.count + v.toNat ≤ 65535 →
      ∃ t, exec (.remoteSemPost spire src sender node sem v) s = .next t ∧
        t.sem sp n = { m with count := m.count + v.toNat, lastBell := s.bellNum, lastSource := sender.toNat, lastRemote := true } ∧
        (∀ sp' n', n' < 4096 → (sp', n') ≠ (sp, n) → t.sem sp' n' = s.sem sp' n') ∧
        t.sent = s.sent ++ (match portOf x with | some p => [.ack p 0 none] | none => []) ∧
        { t with sems := s.sems, sent := s.sent } = s) ∧
    (s.portForbids x = true →
      ∃ t, exec (.remoteSemPost spire src sender node sem v) s = .next t ∧ t.sems = s.sems ∧
        t.reg (Reg.butPolicyDrop (x - 4)) = min (s.reg (Reg.butPolicyDrop (x - 4)) + 1) (2 ^ 32 - 1)))

/-- Complete under the conditions stated: BELL, BELL_SYNC_EDGE, BELL_FRAME, HOLDOVER, BEL_JOIN, HBM_PATROL_ROW,
WCB_AGE_WRITEOUT. -/
def Obligations.BellEvents : Prop :=
  (∀ bad (s : State), s.live = true → s.bellDue = true →
    ∃ t, exec (.bell bad) s = .next t ∧ t.bellNum = s.gen.join.getD (s.bellNum + 1) ∧ t.pending = s.pending ∧
      t.regions = s.regions ∧ t.fuses = s.fuses ∧ t.fuseJob = s.fuseJob ∧ t.secret = s.secret ∧ t.carStacks = s.carStacks ∧
      t.opened = s.opened) ∧
  (∀ bad (s : State), s.live = false ∨ s.bellDue = false → exec (.bell bad) s = .next s) ∧
  (∀ (s : State), s.bellSrc = 1 →
    ∃ t, exec .bellSyncEdge s = .next t ∧ t.gen = (if s.clk < 50000 then s.gen else { s.gen with due := true, holdover := false }) ∧
      t.free = s.free + 1 ∧ { t with gen := s.gen, free := s.free } = s) ∧
  (∀ (port : Fin 8) (frame : Frame) (s : State), s.bellSrc = 2 → s.fld (Reg.belGen 0) 4 2 = port.val →
    let n := frame.number.toNat
    ∃ t, exec (.bellFrame port frame) s = .next t ∧
      (t.reg (Reg.belSkew 0) = s.reg (Reg.belSkew 0) ∨
        -50 ≤ toSigned 32 (t.reg (Reg.belSkew 0)) ∧ toSigned 32 (t.reg (Reg.belSkew 0)) ≤ 50) ∧
      (∃ lead, t.sent = s.sent ++ (if frame.hops.toNat < 8 then
        s.framePorts.map (fun p => .frame p { frame with hops := frame.hops + 1, lead := lead }) else [])) ∧
      (s.gen.joining = true → bit (t.reg (Reg.belStatus 0)) 28 = true ∧ t.gen = { s.gen with
        framePeriod := frame.period.toNat, due := true, holdover := false, joining := false, join := some n }) ∧
      (s.gen.joining = false → bit (s.reg (Reg.belStatus 0)) 28 = true → n = s.gen.join.getD (s.bellNum + 1) →
        t.gen = { s.gen with framePeriod := frame.period.toNat, due := true, holdover := false }) ∧
      (s.gen.joining = false → bit (s.reg (Reg.belStatus 0)) 28 = true → n ≠ s.gen.join.getD (s.bellNum + 1) →
        t.gen = s.gen ∧ bit (t.reg (Reg.belStatus 0)) 30 = true ∧ bit (t.reg (Reg.belStatus 0)) 28 = false) ∧
      (s.gen.joining = false → bit (s.reg (Reg.belStatus 0)) 28 = false → t.gen = s.gen ∧ t.ctl = s.ctl) ∧
      { t with ctl := s.ctl, gen := s.gen, sent := s.sent, free := s.free } = s) ∧
  (∀ (s : State), s.bellSrc = 1 ∨ s.bellSrc = 2 → s.gen.due = false → s.gen.holdover = false →
    ∃ t, exec .holdover s = .next t ∧ t.gen = { s.gen with holdover := true } ∧ bit (t.reg (Reg.belStatus 0)) 31 = true ∧
      t.carPending 4 0 = true ∧ { t with ctl := s.ctl, gen := s.gen } = s) ∧
  (∀ actor (spire : Fin 4) (s : State), s.power.rstLow = false → s.refuses actor (Reg.belJoin spire.val) true = false →
    (spire = 0 ∧ s.bellSrc = 2 → exec (.belJoin actor spire) s = .next { s with gen := { s.gen with joining := true } }) ∧
    (¬ (spire = 0 ∧ s.bellSrc = 2) → exec (.belJoin actor spire) s = .next s)) ∧
  (∀ (stack : Fin 32) (s : State),
    let h := stack.val
    let a := Reg.hbmPatrolPos h
    let u := s.fld a 19 0
    bit (s.reg (Reg.hbmCtl h)) 0 = true → s.trained h = true → bit (s.reg (Reg.hbmStatus h)) 1 = false →
    (∀ e ∈ s.hbmErr, inSpan (e.1 / 36) (hbmKey h (u * 0x1_0000) / 32) 2048 = false) →
    ∃ t, exec (.hbmPatrolRow stack) s = .next t ∧ (∀ x, x ≠ a → t.reg x = s.reg x) ∧
      (if u + 1 < 589824 then t.fld a 19 0 = u + 1 ∧ t.fld a 31 20 = s.fld a 31 20 ∧ { t with ctl := s.ctl } = s
      else t.fld a 19 0 = 0 ∧ t.fld a 31 20 = (s.fld a 31 20 + 1) % 4096 ∧
        (∀ k, SMap.get (fun _ => 0) t.pinCounts k = if 72 * 32 * h ≤ k ∧ k < 72 * 32 * h + 72 * 32 then 0
          else SMap.get (fun _ => 0) s.pinCounts k) ∧
        { t with ctl := s.ctl, pinCounts := s.pinCounts, pinsOver := s.pinsOver } = s)) ∧
  (∀ (stack : Fin 32) (s : State),
    let h := stack.val
    let a := Reg.hbmPatrolPos h
    let u := s.fld a 19 0
    bit (s.reg (Reg.hbmCtl h)) 0 = true → s.trained h = true → bit (s.reg (Reg.hbmStatus h)) 1 = false →
    ∃ t, exec (.hbmPatrolRow stack) s = .next t ∧ t.fld a 19 0 = (if u + 1 < 589824 then u + 1 else 0) ∧
      t.fld a 31 20 = (if u + 1 < 589824 then s.fld a 31 20 else (s.fld a 31 20 + 1) % 4096)) ∧
  (∀ (spire : Fin 4) l rest (s : State),
    let sp := spire.val
    let k := hbmKey l.stack l.addr
    s.lines sp = l :: rest → l.stack / 8 = sp → l.addr % 64 = 0 → l.mask ≠ BitVec.allOnes 64 → s.trained l.stack = true →
    (∀ e ∈ s.hbmErr, inSpan (e.1 / 36) (k / 32) 2 = false) →
    ∃ t, exec (.wcbAgeWriteout spire) s = .next t ∧
      t.lines sp = (s.lines sp).filter (fun x => !(x.stack = l.stack && x.addr = l.addr)) ∧
      (∀ j, SMap.get (fun _ => 0) t.hbm j =
        if k ≤ j ∧ j < k + 64 ∧ l.mask.getLsbD (j - k) = true then SMap.get (fun _ => 0) l.bytes (j - k)
        else SMap.get (fun _ => 0) s.hbm j) ∧
      (∀ x, t.reg x = if x = Reg.hbmRmwCnt l.stack then min (s.reg x + 1) (2 ^ 32 - 1) else s.reg x) ∧
      { t with hbm := s.hbm, hbmErr := s.hbmErr, wcb := s.wcb, ctl := s.ctl } = s) ∧
  (∀ (spire : Fin 4) l rest (s : State),
    let sp := spire.val
    let k := hbmKey l.stack l.addr
    s.lines sp = l :: rest → l.stack / 8 = sp → l.mask = BitVec.allOnes 64 →
    ∃ t, exec (.wcbAgeWriteout spire) s = .next t ∧
      t.lines sp = (s.lines sp).filter (fun x => !(x.stack = l.stack && x.addr = l.addr / 64 * 64)) ∧
      (∀ j, SMap.get (fun _ => 0) t.hbm j =
        if k ≤ j ∧ j < k + 64 then SMap.get (fun _ => 0) l.bytes (j - k) else SMap.get (fun _ => 0) s.hbm j) ∧
      { t with hbm := s.hbm, hbmErr := s.hbmErr, wcb := s.wcb } = s)

/-- Complete under the conditions stated: CARILLON_SOURCE_EVENT, CAR_PEND_SET, CAR_PEND_CLR, CAR_CLAIM, CAR_COMPLETE,
HOLDOFF_EXPIRY, CAR_MESSAGE. -/
def Obligations.CarillonEvents : Prop :=
  (∀ (car : Option (Fin 4)) (src : BitVec 10) (s : State),
    (hardSource (carNum car) src.toNat = true →
      ∃ t, exec (.carillonSourceEvent car src) s = .next t ∧ { t with ctl := s.ctl } = s ∧
        ∀ a, t.reg a = if a = Reg.carPendSet (carNum car) (src.toNat / 64) then s.reg a ||| 1 <<< (src.toNat % 64) else s.reg a) ∧
    (hardSource (carNum car) src.toNat = false → exec (.carillonSourceEvent car src) s = .next s)) ∧
  (∀ actor (car : Option (Fin 4)) (w : Fin 16) (b : Word) (s : State), s.power.rstLow = false →
    let p := Reg.carPendSet (carNum car) w.val
    (s.refuses actor p true = false →
      ∃ t, exec (.carPendSet actor car w b) s = .next t ∧ { t with ctl := s.ctl } = s ∧
        ∀ a, t.reg a = if a = p then s.reg a ||| b.toNat else s.reg a) ∧
    (s.refuses actor (Reg.carPendClr (carNum car) w.val) true = false →
      ∃ t, exec (.carPendClr actor car w b) s = .next t ∧ { t with ctl := s.ctl } = s ∧
        ∀ a, t.reg a = if a = p then (BitVec.ofNat 64 (s.reg a) &&& ~~~b).toNat else s.reg a)) ∧
  (∀ actor (car : Option (Fin 4)) (target : Fin 3) (s : State),
    let c := carNum car
    let g := target.val
    s.refuses actor (Reg.carTClaim c g) false = false →
    (s.bestSource c g = none →
      ∃ t, exec (.carClaim actor car target) s = .next t ∧ t.reply = leBytes 4 (2 ^ 31) ∧ t.carStacks = s.carStacks ∧
        (∀ a, a ≠ Reg.carMsgStatus c → t.reg a = s.reg a) ∧ { t with ctl := s.ctl, reply := s.reply } = s) ∧
    (∀ n p, s.bestSource c g = some (n, p) →
      ∃ t, exec (.carClaim actor car target) s = .next t ∧ t.reply = leBytes 4 (p * 2 ^ 16 + n) ∧
        t.carPending c n = false ∧ t.carActive c n = true ∧ t.carStack c g = (n, p) :: s.carStack c g ∧
        (∀ c' g', g' < 3 → (c', g') ≠ (c, g) → t.carStack c' g' = s.carStack c' g') ∧
        (t.held c (n / 16) = (s.held c (n / 16) || decide (s.fld (Reg.carHold c (n / 16)) 15 0 ≠ 0))) ∧
        (∀ a, a ≠ Reg.carMsgStatus c → a ≠ Reg.carPendSet c (n / 64) → a ≠ Reg.carActive c (n / 64) → t.reg a = s.reg a) ∧
        { t with ctl := s.ctl, carStacks := s.carStacks, holds := s.holds, reply := s.reply } = s)) ∧
  (∀ actor (car : Option (Fin 4)) (target : Fin 3) (src : BitVec 10) (s : State),
    let c := carNum car
    let g := target.val
    let n := src.toNat
    s.power.rstLow = false → s.refuses actor (Reg.carTComplete c g) true = false →
    (((s.carStack c g).head?.map Prod.fst) ≠ some n →
      ∃ t, exec (.carComplete actor car target src) s = .next t ∧ t.carStacks = s.carStacks ∧
        t.carPending c (ownSource c) = true ∧
        { t with ctl := s.ctl, carLost := s.carLost, lostFrom := s.lostFrom, free := s.free } = s)) ∧
  (∀ (car : Option (Fin 4)) (group : Fin 64) (s : State),
    ∃ t, exec (.holdoffExpiry car group) s = .next t ∧ t.held (carNum car) group.val = false ∧
      (∀ c g, g < 64 → (c, g) ≠ (carNum car, group.val) → t.held c g = s.held c g) ∧ { t with holds := s.holds } = s) ∧
  (∀ (car : Option (Fin 4)) n p (s : State),
    let c := carNum car
    let to_ := s.reg (Reg.carMsgAddr c)
    s.bestSource c 2 = some (n, p) → bit (s.reg (Reg.carMsgStatus c)) 0 = false → s.alxUp = true → 2 ^ 47 ≤ to_ →
    ∃ t, exec (.carMessage car) s = .next t ∧
      (∀ j, t.compByte j = if to_ - 2 ^ 47 ≤ j ∧ j < to_ - 2 ^ 47 + 4 then
        (leBytes 4 (s.fld (Reg.carMsgData c) 31 4 * 16 + p)).getD (j - (to_ - 2 ^ 47)) 0 else s.compByte j) ∧
      (∀ a, t.reg a = if a = Reg.carMsgStatus c then 1 else s.reg a) ∧ { t with ctl := s.ctl, companion := s.companion } = s)

/-- CAR_COMPLETE of the source on top (R390). Completes under the conditions stated: CAR_COMPLETE. -/
def Obligations.CompletesTopSource : Prop :=
  ∀ actor (car : Option (Fin 4)) (target : Fin 3) (src : BitVec 10) p rest (s : State),
    let c := carNum car
    let g := target.val
    let n := src.toNat
    s.power.rstLow = false → s.refuses actor (Reg.carTComplete c g) true = false → s.carStack c g = (n, p) :: rest →
    ∃ t, exec (.carComplete actor car target src) s = .next t ∧ t.carStack c g = rest ∧ t.carActive c n = false ∧
      (∀ m, m ≠ n → m / 64 = n / 64 → t.carActive c m = s.carActive c m) ∧
      (∀ c' g', g' < 3 → (c', g') ≠ (c, g) → t.carStack c' g' = s.carStack c' g') ∧
      (∀ a, a ≠ Reg.carActive c (n / 64) → t.reg a = s.reg a) ∧ { t with ctl := s.ctl, carStacks := s.carStacks } = s

/-- Complete under the conditions stated: ALX_FLIT_CRC_FAIL, ALX_LANE_FAIL, ALX_RETRAIN, ALX_RETRAIN_DONE,
ALX_RECOVERY_TIMEOUT, ALX_AUTH_FAIL, KEY_EXHAUSTED, APERTURE_READ, APERTURE_WRITE. -/
def Obligations.AlxisEvents : Prop :=
  (∀ (again : Bool) (s : State), s.alxUp = true →
    let n := if again then SMap.get (fun _ => 0) s.replays 8 + 1 else 1
    ∃ t, exec (.alxFlitCrcFail again) s = .next t ∧ t.reg Reg.alxReplayCnt = min (s.reg Reg.alxReplayCnt + 1) (2 ^ 32 - 1) ∧
      (n < 8 → t.alxUp = true ∧ SMap.get (fun _ => 0) t.replays 8 = n ∧ { t with ctl := s.ctl, replays := s.replays } = s) ∧
      (8 ≤ n → t.alxUp = false ∧ t.isTraining 8 = true ∧ SMap.get (fun _ => 0) t.replays 8 = 0 ∧ t.towers = s.towers)) ∧
  (∀ (width : BitVec 6) (s : State), s.alxUp = true →
    (8 ≤ width.toNat → ∃ t, exec (.alxLaneFail width) s = .next t ∧ t.alxUp = true ∧ t.isTraining 8 = true ∧
      t.fld Reg.alxStatus 7 6 = alxCode width.toNat ∧ (∀ p, p ≠ 8 → t.isTraining p = s.isTraining p) ∧
      { t with ctl := s.ctl, training := s.training } = s) ∧
    (width.toNat < 8 → ∃ t, exec (.alxLaneFail width) s = .next t ∧ t.alxUp = false ∧ t.isTraining 8 = true)) ∧
  (∀ actor (s : State), s.power.rstLow = false → s.refuses actor Reg.alxCtl true = false →
    ∃ t, exec (.alxRetrain actor) s = .next t ∧ (∀ a, t.reg a = if a = Reg.alxCtl then 1 else s.reg a) ∧ t.isTraining 8 = true ∧
      (∀ p, p ≠ 8 → t.isTraining p = s.isTraining p) ∧ { t with ctl := s.ctl, training := s.training } = s) ∧
  (∀ (width : BitVec 6) (s : State), s.isTraining 8 = true → 8 ≤ width.toNat →
    ∃ t, exec (.alxRetrainDone width) s = .next t ∧ t.alxUp = true ∧ t.isTraining 8 = false ∧ t.reg Reg.alxCtl = 0 ∧
      t.fld Reg.alxStatus 7 6 = (if s.alxUp = true ∧ bit (s.reg Reg.alxCtl) 0 = false then
        max (s.fld Reg.alxStatus 7 6) (alxCode width.toNat) else alxCode width.toNat) ∧
      (s.alxUp = false → t.keyJobs = []) ∧ (s.alxUp = true → t.keyJobs = s.keyJobs ∧ t.frames = s.frames) ∧
      (∀ sp k c, sp < 4 → k < 16 → s.channel sp k = some c → c.abandon = none → t.channel sp k = some c) ∧
      (s.alxUp = true → (∀ sp k, sp < 4 → k < 16 → ∀ c, s.channel sp k = some c → c.abandon = none) →
        { t with ctl := s.ctl, training := s.training } = s)) ∧
  (∀ (s : State), s.alxUp = false →
    ∃ t, exec .alxRecoveryTimeout s = .next t ∧ t.isTraining 8 = false ∧ (∀ p, p ≠ 8 → t.isTraining p = s.isTraining p) ∧
      { t with training := s.training } = s) ∧
  (∀ (dir : Bool) (s : State), s.alxUp = true → bit (s.reg Reg.alxCryptCtl) 31 = true →
    (∃ t, exec .alxAuthFail s = .next t ∧ t.reg Reg.alxAuthFail = min (s.reg Reg.alxAuthFail + 1) (2 ^ 32 - 1) ∧
      t.carPending 4 10 = true ∧ t.alxUp = false ∧ t.isTraining 8 = true ∧ t.alxGroups = s.alxGroups ∧ t.towers = s.towers) ∧
    (∃ t, exec (.keyExhausted dir) s = .next t ∧ SMap.get (fun _ => 0) t.alxGroups (ofBool dir) = 2 ^ 48 ∧
      SMap.get (fun _ => 0) t.alxGroups (ofBool !dir) = SMap.get (fun _ => 0) s.alxGroups (ofBool !dir) ∧ t.alxUp = false ∧
      t.isTraining 8 = true ∧ t.towers = s.towers)) ∧
  (∀ (offset : Dpa) (len : BitVec 7) (s : State), s.alxUp = true →
    let a := offset.toNat
    let n := len.toNat
    let r := s.readRange 0 0x4600 a n true
    (s.apertureOk a n = true → r.fault = none →
      ∃ t, exec (.apertureRead offset len) s = .next t ∧ t.reply = (r.bytes ++ List.replicate n 0).take n ∧
        { t with reply := r.s.reply } = r.s) ∧
    (∀ f, s.apertureOk a n = true → r.fault = some f →
      ∃ t, exec (.apertureRead offset len) s = .next t ∧ t.reply = (r.bytes ++ List.replicate n 0).take n ∧
        ((∀ g o, s.loc a ≠ .tower g o) → { t with reply := r.s.reply } = r.s) ∧
        (∀ g o, s.loc a = .tower g o → { t with reply := r.s.reply } = r.s.faultToSpire (slotSpire g) f)) ∧
    (s.apertureOk a n = false →
      ∃ t, exec (.apertureRead offset len) s = .next t ∧ t.reply = List.replicate n 0 ∧
        { t with ctl := s.ctl, reply := s.reply } = s)) ∧
  (∀ (offset : Dpa) data (s : State), s.alxUp = true →
    let a := offset.toNat
    let n := data.length
    let sd : Sender := { x := 12, source := 0x4600, node := 0xFFFF, gen := 0 }
    (s.apertureOk a n = false →
      ∃ t, exec (.apertureWrite offset data) s = .next t ∧ { t with ctl := s.ctl } = s) ∧
    (∀ (g : Fin 68) o u f, s.apertureOk a n = true → s.loc a = .tower g.val o →
      s.packetCheck (unitRegs (.tower g)) sd o n = (u, some f) → exec (.apertureWrite offset data) s = .next u) ∧
    (∀ (sp : Fin 4) o u f, s.apertureOk a n = true → s.loc a = .gallery sp.val o →
      s.packetCheck (unitRegs (.gallery sp)) sd o n = (u, some f) → exec (.apertureWrite offset data) s = .next u) ∧
    (∀ (g : Fin 68) o u, s.apertureOk a n = true → s.loc a = .tower g.val o →
      s.packetCheck (unitRegs (.tower g)) sd o n = (u, none) →
      ∃ t p, exec (.apertureWrite offset data) s = .next t ∧
        t.tower g.val = { u.tower g.val with packets := (u.tower g.val).packets ++ [p] } ∧ p.ofs = o ∧ p.data = data ∧
        (∀ h, h ≠ g.val → t.tower h = u.tower h) ∧ { t with towers := u.towers } = u) ∧
    (∀ (sp : Fin 4) o u, s.apertureOk a n = true → s.loc a = .gallery sp.val o →
      s.packetCheck (unitRegs (.gallery sp)) sd o n = (u, none) →
      ∃ t p, exec (.apertureWrite offset data) s = .next t ∧
        SMap.get (fun _ => []) t.galPackets sp.val = SMap.get (fun _ => []) u.galPackets sp.val ++ [p] ∧ p.ofs = o ∧
        p.data = data ∧ { t with galPackets := u.galPackets } = u) ∧
    (s.apertureOk a n = true →
    (∀ g : Fin 68, ∀ o, s.loc a = .tower g.val o → s.creditMode (unitRegs (.tower g)) = false →
      s.windowRefusal (unitRegs (.tower g)) sd o n = none →
      ∃ t p, exec (.apertureWrite offset data) s = .next t ∧
        t.tower g.val = { s.tower g.val with packets := (s.tower g.val).packets ++ [p] } ∧ p.ofs = o ∧ p.data = data ∧
        (∀ h, h ≠ g.val → t.tower h = s.tower h) ∧ { t with towers := s.towers } = s) ∧
    (∀ sp : Fin 4, ∀ o, s.loc a = .gallery sp.val o → s.creditMode (unitRegs (.gallery sp)) = false →
      s.windowRefusal (unitRegs (.gallery sp)) sd o n = none →
      ∃ t p, exec (.apertureWrite offset data) s = .next t ∧
        SMap.get (fun _ => []) t.galPackets sp.val = SMap.get (fun _ => []) s.galPackets sp.val ++ [p] ∧ p.ofs = o ∧
        p.data = data ∧ { t with galPackets := s.galPackets } = s) ∧
    (s.loc a = .hbm →
      (∀ u f k, s.hbmWindowHas a n = true → s.putRange 0 sd false a data = (u, k, f) →
        exec (.apertureWrite offset data) s = .next u) ∧
      (s.hbmWindowHas a n = false →
        ∃ t, exec (.apertureWrite offset data) s = .next t ∧ { t with ctl := s.ctl } = s ∧
          ∀ x, t.reg x = if x = Reg.alxWrDrop then min (s.reg x + 1) (2 ^ 32 - 1) else s.reg x))))

/-- Complete under the conditions stated: BUT_FLIT_CRC_FAIL, PACKET_FORWARD, WRITE_ACK, CREDIT_GRANT, CREDIT_RETRY,
CREDIT_TIMEOUT, LINK_DELAY_ECHO, BUT_LANE_FAIL, BUT_PORT_DOWN, BUT_PORT_UP, BUT_LOSS_OF_LOCK. -/
def Obligations.ButtressEvents : Prop :=
  (∀ (port : Fin 8) (dst src : BitVec 14) ours (s : State),
    let q := s.route port.val dst.toNat
    (dst.toNat ≠ s.node → q < 8 → s.portUp q = true →
      ∃ t, exec (.packetForward port dst src ours) s = .next t ∧ t.sent = s.sent ++ [.transit q dst.toNat src.toNat] ∧
        { t with sent := s.sent } = s) ∧
    (dst.toNat = s.node ∨ q = 8 → exec (.packetForward port dst src ours) s = .next s) ∧
    (dst.toNat ≠ s.node → q ≠ 8 → ¬ (q < 8 ∧ s.portUp q = true) →
      (ours = none → exec (.packetForward port dst src ours) s = .next s) ∧
      (∀ sp ch c a p node d gen len sent acked granted asked, ours = some (sp, ch) → s.channel sp.val ch.val = some c →
        c.work = .peer a p node d gen len sent acked granted asked →
        ∃ t, exec (.packetForward port dst src ours) s = .next t ∧ t.channel sp.val ch.val = none ∧
          (∀ sp' k, k < 16 → (sp', k) ≠ (sp.val, ch.val) → t.channel sp' k = s.channel sp' k) ∧ t.towers = s.towers ∧
          t.sent = s.sent))) ∧
  (∀ (port : Fin 8) (bytes : BitVec 48) (units : BitVec 16) fault (s : State),
    (s.peersOn port.val (fun sent acked _ _ => acked < sent) = [] → exec (.writeAck port bytes fault) s = .next s) ∧
    (s.peersOn port.val (fun sent _ len _ => sent < len) = [] → exec (.creditGrant port units) s = .next s ∧
      exec (.creditRetry port) s = .next s ∧ exec (.creditTimeout port) s = .next s)) ∧
  (∀ (port : Fin 8) (bytes : BitVec 48) sp ch c rest src p node dst gen len sent acked granted asked (s : State),
    s.peersOn port.val (fun sent acked _ _ => acked < sent) = (sp, ch, c) :: rest → ch < 16 →
    c.work = .peer src p node dst gen len sent acked granted asked →
    let a := min sent (acked + bytes.toNat)
    (a ≠ len → a = sent → c.abandon.isSome = true →
      ∃ t, exec (.writeAck port bytes none) s = .next t ∧ t.channel sp ch = none ∧
        (∀ sp' k, k < 16 → (sp', k) ≠ (sp, ch) → t.channel sp' k = s.channel sp' k) ∧ t.towers = s.towers ∧ t.sent = s.sent) ∧
    (a ≠ len → c.abandon = none ∨ a ≠ sent →
      ∃ t, exec (.writeAck port bytes none) s = .next t ∧
        t.channel sp ch = some { c with work := .peer src p node dst gen len sent a granted asked } ∧
        (∀ sp' k, k < 16 → (sp', k) ≠ (sp, ch) → t.channel sp' k = s.channel sp' k) ∧ { t with channels := s.channels } = s) ∧
    (a = len → ∃ t, exec (.writeAck port bytes none) s = .next t ∧ t.channel sp ch = none ∧
      (∀ sp' k, k < 16 → (sp', k) ≠ (sp, ch) → t.channel sp' k = s.channel sp' k) ∧ t.towers = s.towers ∧ t.sent = s.sent) ∧
    (∀ r, ∃ t, exec (.writeAck port bytes (some r)) s = .next t ∧ t.channel sp ch = none ∧
      (∀ sp' k, k < 16 → (sp', k) ≠ (sp, ch) → t.channel sp' k = s.channel sp' k) ∧ t.towers = s.towers ∧ t.sent = s.sent)) ∧
  (∀ (port : Fin 8) (units : BitVec 16) sp ch c rest src p node dst gen len sent acked granted asked (s : State),
    s.peersOn port.val (fun sent _ len _ => sent < len) = (sp, ch, c) :: rest → ch < 16 → s.channel sp ch = some c →
    c.work = .peer src p node dst gen len sent acked granted asked →
    let m := min (4096 * units.toNat) (len - sent)
    let s1 := s.setChannel sp ch (some { c with
      work := .peer src p node dst gen len sent acked (granted + 4096 * units.toNat) s.bellNum })
    (units = 0 → exec (.creditGrant port units) s = .next s) ∧
    (∃ t ws, exec (.creditGrant port units) s = .next t ∧ t.sent = s.sent ++ ws ∧
      (ws.map (fun w => match w with | .write _ _ _ _ bs => bs.length | _ => 0)).sum ≤ 4096 * units.toNat) ∧
    (∀ bs, units ≠ 0 → s.portUp p = true → c.abandon = none → s1.segWaits (src + sent) m = false →
      m ≤ s1.segLen (src + sent) (src + sent) (len - sent) →
      s1.underBands sp c.bands (fun w =>
        let r := w.readRange sp (srcSde sp) (src + sent) m false
        (r.s, r.bytes, r.fault)) = (s1, bs, none) →
      bs.length = m →
      ∃ t, exec (.creditGrant port units) s = .next t ∧ t.channel sp ch = some { c with
          work := .peer src p node dst gen len (sent + m) acked (granted + 4096 * units.toNat) s.bellNum } ∧
        t.sent = s.sent ++ [.write p node (dst + sent) gen bs] ++
          (if sent + m < len then [.creditAsk p node ((len - (sent + m) + 4095) / 4096)] else []) ∧
        (∀ sp' k, k < 16 → (sp', k) ≠ (sp, ch) → t.channel sp' k = s.channel sp' k) ∧
        { t with ctl := s.ctl, channels := s.channels, sent := s.sent } = s) ∧
    (∃ t, exec (.creditRetry port) s = .next t ∧ t.sent = s.sent ++ (if sent < len then
      [.creditAsk p node ((len - sent + 4095) / 4096)] else []) ∧ { t with sent := s.sent } = s) ∧
    (asked + 2 ≤ s.bellNum → ∃ t, exec (.creditTimeout port) s = .next t ∧ t.channel sp ch = none ∧
      (∀ sp' k, k < 16 → (sp', k) ≠ (sp, ch) → t.channel sp' k = s.channel sp' k) ∧ t.towers = s.towers ∧ t.sent = s.sent)) ∧
  (∀ (port : Fin 8) (delay : BitVec 32) (s : State),
    ∃ t, exec (.linkDelayEcho port delay) s = .next t ∧ { t with ctl := s.ctl } = s ∧
      ∀ a, t.reg a = if a = Reg.butDelay port.val then delay.toNat else s.reg a) ∧
  (∀ (port : Fin 8) (again : Bool) (s : State),
    let p := port.val
    let n := if again then SMap.get (fun _ => 0) s.replays p + 1 else 1
    ∃ t, exec (.butFlitCrcFail port again) s = .next t ∧
      t.reg (Reg.butReplayCnt p) = min (s.reg (Reg.butReplayCnt p) + 1) (2 ^ 32 - 1) ∧
      (n < 8 → SMap.get (fun _ => 0) t.replays p = n ∧ t.portUp p = s.portUp p ∧ { t with ctl := s.ctl, replays := s.replays } = s) ∧
      (8 ≤ n → t.portUp p = false)) ∧
  (∀ (port : Fin 8) (lane : BitVec 6) (s : State),
    let p := port.val
    let n := s.portLanes p - 1
    (16 ≤ n → s.spareLanes p ≠ 0 →
      ∃ t, exec (.butLaneFail port lane) s = .next t ∧ t.portLanes p = n ∧ t.portUp p = s.portUp p ∧
        t.spareLanes p + 1 = s.spareLanes p ∧ { t with ctl := s.ctl } = s) ∧
    (16 ≤ n → s.spareLanes p = 0 → bit (s.reg (Reg.butStatus p)) 1 = false →
      ∃ t, exec (.butLaneFail port lane) s = .next t ∧ t.portLanes p = n ∧ bit (t.reg (Reg.butStatus p)) 1 = true ∧
        t.isTraining p = true ∧ (∀ x, x ≠ p → t.isTraining x = s.isTraining x) ∧
        { t with ctl := s.ctl, training := s.training } = s) ∧
    (n < 16 → ∃ t, exec (.butLaneFail port lane) s = .next t ∧ t.portUp p = false)) ∧
  (∀ (port : Fin 8) (s : State), s.portUp port.val = true →
    let p := port.val
    ∃ t, exec (.butPortDown port) s = .next t ∧ t.portUp p = false ∧ t.isTraining p = false ∧ t.carPending (p / 2) (80 + 8 * (p % 2)) = true ∧
      t.carPending (p / 2) (84 + 8 * (p % 2)) = true ∧ (∀ x, x ≠ p → x < 8 → t.portUp x = s.portUp x) ∧ t.towers = s.towers ∧
      (s.peersOn p (fun sent acked _ _ => acked < sent) = [] → s.colls = [] →
        { t with ctl := s.ctl, replays := s.replays, training := s.training, faultsSpire := s.faultsSpire,
                 lostFrom := s.lostFrom, free := s.free } = s)) ∧
  (∀ (port : Fin 8) (s : State), s.portUp port.val = false → exec (.butPortDown port) s = .next s) ∧
  (∀ (port : Fin 8) (node : BitVec 14) (lanes : BitVec 6) (s : State),
    let p := port.val
    ∃ t, exec (.butPortUp port node lanes) s = .next t ∧ t.portUp p = true ∧ t.portLanes p = lanes.toNat ∧
      t.reg (Reg.butPeer p) = node.toNat ∧ t.isTraining p = false ∧
      (s.portUp p = false → t.carPending (p / 2) (80 + 8 * (p % 2)) = true) ∧
      (lanes.toNat < 32 → bit (s.reg (Reg.butStatus p)) 1 = false → t.carPending (p / 2) (82 + 8 * (p % 2)) = true) ∧
      (∀ x, x ≠ p → t.isTraining x = s.isTraining x) ∧ (∀ x, x ≠ p → x < 8 → t.portUp x = s.portUp x) ∧
      { t with ctl := s.ctl, replays := s.replays, training := s.training } = s) ∧
  (∀ (port : Fin 8) (s : State),
    ∃ t, exec (.butLossOfLock port) s = .next t ∧ t.isTraining port.val = true ∧
      (∀ x, x ≠ port.val → t.isTraining x = s.isTraining x) ∧ { t with training := s.training } = s)

/-- The PKE commands, PKE_VALIDATION_END, PKE_COMPLETE, PKE_ABORT, PKE_OPMEM_CLR, BOOT_ROM, ENTROPY_HEALTH_FAIL,
HASHER_JOB_COMPLETE, SPI_FLASH_OP_COMPLETE, I3C_MANAGEMENT_TRANSACTION, JTAG_TAP_ACCESS. Completes under the conditions
stated: BOOT_ROM, ED448_VERIFY, ED448_SIGN, X448_KEYGEN, X448, P384_KEYGEN, P384_SIGN, P384_VERIFY, RSA_VERIFY, KEY_CLEAR,
ATTEST, VALIDATE, MEASURE_EXTEND, PKE_VALIDATION_END, PKE_COMPLETE, PKE_ABORT, PKE_OPMEM_CLR, ENTROPY_HEALTH_FAIL,
HASHER_JOB_COMPLETE, SPI_FLASH_OP_COMPLETE, I3C_MANAGEMENT_TRANSACTION, JTAG_TAP_ACCESS. -/
def Obligations.KeystoneCommandsAndBoot : Prop :=
  (∀ e ∈ ([(0x90, Instr.ed448Verify), (0x91, .ed448Sign), (0x92, .x448Keygen), (0x93, .x448), (0x94, .p384Keygen),
      (0x95, .p384Sign), (0x96, .p384Verify), (0x97, .rsaVerify), (0x98, .keyClear), (0x99, .attest), (0x9A, .validate),
      (0x9B, .measureExtend)] : List (Nat × (Origin → PkeArgs → Instr))),
    (∀ o (p : PkeArgs) (s : State), s.ringEngine o = 8 →
      (s.pkeInactive p.engine.toNat = false → s.pkeFor p = none → exec (e.2 o p) s = .next s) ∧
      (s.pkeInactive p.engine.toNat = true → ∃ t, exec (e.2 o p) s = .next t ∧ t.pkes = s.pkes ∧ t.keySlots = s.keySlots ∧
        t.hbm = s.hbm ∧ t.gallery = s.gallery ∧ t.tmem = s.tmem) ∧
      (∀ n a, s.pkeFor p = some n → s.pkeUnmapped e.1 p = some a →
        ∃ t, exec (e.2 o p) s = .next t ∧ t.pkes = s.pkes ∧ t.keySlots = s.keySlots)) ∧
    ∀ o (p : PkeArgs) n inp msg (s u v : State), s.ringEngine o = 8 → s.pkeFor p = some n → s.pkeUnmapped e.1 p = none →
    s.pkeGet o n p.inp.toNat (pkeInLen e.1 p.sub.toNat) = (u, none, inp) →
    u.pkeGet o n p.msg.toNat (pkeMsgLen e.1 p) = (v, none, msg) →
    ∃ t c, exec (e.2 o p) s = .next t ∧ t.pke n = some c ∧ c.o = o ∧ c.opcode = e.1 ∧ c.p = p ∧ c.inp = inp ∧ c.msg = msg ∧
      c.valid = false ∧ bit (t.reg (Reg.pkeStatus n)) 0 = true ∧ t.fld (Reg.pkeStatus n) 15 8 = e.1 ∧
      (let k := p.slot.toNat
       if (e.1 = 0x92 ∨ e.1 = 0x94) ∧ 1 ≤ k ∧ k ≤ 15 ∧ (v.keySlot k).ty = 0 then
        t.keySlot k = { ty := 4, key := [] } ∧ ∀ j, j ≠ k → t.keySlot j = v.keySlot j
       else t.keySlots = v.keySlots) ∧
      (∀ m, m ≠ n → t.pke m = v.pke m) ∧ { t with ctl := v.ctl, pkes := v.pkes, keySlots := v.keySlots, free := v.free } = v) ∧
  (∀ (engine : Fin 3) c (s : State),
    let n := engine.val
    let status := firstStatus (s.pkeBad c)
    s.pke n = some c → c.valid = false →
    ∃ t, exec (.pkeValidationEnd engine) s = .next t ∧ (∀ m, m ≠ n → t.pke m = s.pke m) ∧
      (if status ≠ 0 then t.pke n = none else if s.entropyBad = true ∧ usesPrivate c.opcode = true then t.pke n = none
      else t.pke n = some { c with valid := true } ∧ { t with ctl := s.ctl, pkes := s.pkes } = s)) ∧
  (∀ (engine : Fin 3) c (s : State),
    let n := engine.val
    s.pke n = some c → c.valid = true → c.opcode = 0x98 ∧ s.slotInUse n c.p.slot.toNat = true ∨
      (∃ t, exec (.pkeComplete engine false) s = .next t ∧ t.pke n = none ∧ (∀ m, m ≠ n → t.pke m = s.pke m) ∧
        (s.Alone c.o → c.opcode = 0x90 ∨ c.opcode = 0x96 ∨ c.opcode = 0x98 ∨ c.opcode = 0x9A ∨ c.opcode = 0x9B →
          ∃ x, Recorded c.o c.opcode (pkeResult (s.draw.pkeCompute c).2.1 n (s.pkeTime c)) x t ∧
            x.carPending 4 (1 + n) = true ∧ x.keySlots = (s.draw.pkeCompute c).1.keySlots ∧
            x.fld (Reg.pkeStatus n) 23 16 = (s.draw.pkeCompute c).2.1 % 256) ∧
        (∀ w, ((s.draw.pkeCompute c).1.opmemFree n).pkePut c.o n c.p.out.toNat (s.draw.pkeCompute c).2.2 = (w, none) →
          w.Alone c.o →
          ∃ x, Recorded c.o c.opcode (pkeResult (s.draw.pkeCompute c).2.1 n (s.pkeTime c)) x t ∧
            x.carPending 4 (1 + n) = true ∧ { x with ctl := w.ctl, pkes := w.pkes } = w) ∧
        (c.opcode = 0x98 → t.keySlot c.p.slot.toNat = KeySlot.init)) ∧
      (usesPrivate c.opcode = true → ∃ t, exec (.pkeComplete engine true) s = .next t ∧ t.pke n = none ∧
        (∀ m, m ≠ n → t.pke m = s.pke m))) ∧
  (∀ actor (engine : Fin 3) (s : State), s.power.rstLow = false → s.refuses actor (Reg.pkeCtl engine.val) true = false →
    let n := engine.val
    (∀ c, s.pke n = some c → exec (.pkeOpmemClr actor engine) s = .next s ∧
      ∃ t, exec (.pkeAbort actor engine) s = .next t ∧ t.pke n = none ∧ (∀ m, m ≠ n → t.pke m = s.pke m) ∧
        t.fld (Reg.pkeStatus n) 23 16 = P_ABORTED ∧ ∀ i < 512, t.reg (Reg.pkeOpmem n i) = 0) ∧
    (∀ b, s.pke n = none → s.binds.find? (fun b => b.engine = n) = some b →
      exec (.pkeOpmemClr actor engine) s = .next s ∧
      ∃ t, exec (.pkeAbort actor engine) s = .next t ∧ t.binds = s.binds.erase b ∧ t.pkes = s.pkes ∧
        t.fld (Reg.pkeStatus n) 23 16 = P_ABORTED ∧ bit (t.reg (Reg.pkeStatus n)) 0 = false ∧
        ∀ i < 512, t.reg (Reg.pkeOpmem n i) = 0) ∧
    (s.pke n = none → s.pkeBinds n = false → exec (.pkeAbort actor engine) s = .next s ∧
      ∃ t, exec (.pkeOpmemClr actor engine) s = .next t ∧ (∀ i < 512, t.reg (Reg.pkeOpmem n i) = 0) ∧
        (∀ a, (∀ i < 512, a ≠ Reg.pkeOpmem n i) → t.reg a = s.reg a) ∧ { t with ctl := s.ctl } = s)) ∧
  (∀ (spiErr : BitVec 4) (s : State),
    let b := Reg.keyBootStatus
    let ra := s.imageReason 0 (spiErr.getLsbD 0) (spiErr.getLsbD 1)
    let rb := s.imageReason 1 (spiErr.getLsbD 2) (spiErr.getLsbD 3)
    s.live = true → s.reg b = 0 →
    (s.lifecycle = lcRaw → ∃ t, exec (.bootRom spiErr) s = .next t ∧ t.fld b 15 8 = bootLife ∧ t.fld b 31 30 = 0 ∧
      (∀ a, a ≠ b → t.reg a = s.reg a) ∧ { t with ctl := s.ctl } = s) ∧
    (s.lifecycle = lcScrap → ∃ t, exec (.bootRom spiErr) s = .next t ∧ t.fld b 15 8 = bootLife ∧ t.fld b 31 30 = 0 ∧
      t.alerting alertBoot = true ∧ { t with ctl := s.ctl } = s) ∧
    (s.lifecycle ≠ lcRaw → s.lifecycle ≠ lcScrap →
      ∃ t, exec (.bootRom spiErr) s = .next t ∧
        (if ra = bootOk then t.idOpen = false ∧ (t.fld b 31 30 = 1 ∨ t.fld b 31 30 = 2) ∧ bit (t.reg b) 29 = false
        else if rb = bootOk then
          t.idOpen = false ∧ (t.fld b 31 30 = 1 ∨ t.fld b 31 30 = 2) ∧ bit (t.reg b) 29 = true
        else t.idOpen = s.idOpen ∧ t.fld b 31 30 = 0 ∧ t.fld b 23 16 = rb ∧ t.alerting alertBoot = true) ∧
        (s.idOpen = true → s.lifecycle = lcTest ∨ s.lifecycle = lcProd → ra = bootOk ∨ rb = bootOk → (t.keySlot 0).ty = 1) ∧
        t.fld b 15 8 = ra ∧ t.fuses = s.fuses ∧ t.flash = s.flash) ∧
    (s.lifecycle = lcRma → s.power.train = none →
      ∃ t, exec (.bootRom spiErr) s = .next t ∧
        (if ra = bootOk then t.idOpen = false ∧ (t.fld b 31 30 = 1 ∨ t.fld b 31 30 = 2) ∧ bit (t.reg b) 29 = false
        else if rb = bootOk then
          t.idOpen = false ∧ (t.fld b 31 30 = 1 ∨ t.fld b 31 30 = 2) ∧ bit (t.reg b) 29 = true
        else t.idOpen = s.idOpen ∧ t.fld b 31 30 = 0 ∧ t.fld b 23 16 = rb ∧ t.alerting alertBoot = true) ∧
        t.fld b 15 8 = ra ∧ t.keySlots = s.keySlots ∧ t.fuses = s.fuses ∧ t.flash = s.flash)) ∧
  (∀ (s : State), exec .entropyHealthFail s = .next { s with entropyBad := true } ∧
    (∃ t, exec .hasherJobComplete s = .next t ∧ { t with ctl := s.ctl } = s ∧
      ∀ a, t.reg a = if a = Reg.carPendSet 4 0 then s.reg a ||| 1 <<< 4 else s.reg a) ∧
    ∃ t, exec .spiFlashOpComplete s = .next t ∧ { t with ctl := s.ctl } = s ∧
      ∀ a, t.reg a = if a = Reg.carPendSet 4 0 then s.reg a ||| 1 <<< 13 else s.reg a) ∧
  (∀ (addr : BitVec 36) (s : State), s.power.rstLow = false →
    (∀ v u, exec (.registerWrite .management addr v) s = .next u →
      exec (.i3cManagementTransaction addr (some v)) s = .next (u.raise 4 12)) ∧
    (s.refuses .management addr.toNat false = false →
      ∃ t, exec (.i3cManagementTransaction addr none) s = .next t ∧ t.reply = leBytes 8 (s.readReg addr.toNat) ∧
        t.carPending 4 12 = true ∧ (∀ a, a ≠ Reg.carPendSet 4 0 → t.reg a = s.reg a) ∧
        { t with ctl := s.ctl, reply := s.reply } = s)) ∧
  (∀ (ir : JtagIr) (s : State),
    exec (.jtagTapAccess ir) s = .next { s with reply := [if (ir = .bypass ∨ ir = .idcode) ∨
        (ir = .boundaryScan ∧ s.lifecycle ≠ lcScrap ∧ (s.lifecycle = lcProd → bit (s.reg Reg.fusePolicy) 9 = true)) ∨
        (ir = .other ∧ s.lifecycle ≠ lcScrap ∧ s.lifecycle ≠ lcProd) then 1 else 0] })

/-- Complete under the conditions stated: LOCKSTEP_MISMATCH, TOWER_REPLACE, TM_ROW_REPAIR, GALLERY_BANK_REPAIR,
EXPANDER_REPAIR, PKE_SPARE, SPIRE_RETIRE, WEAR_SAMPLE. -/
def Obligations.Repairs : Prop :=
  (∀ (slot : Fin 68) tw (s : State),
    let g := slot.val
    let sp := slotSpire g
    let spare := s.reg (Reg.sprTwrSpare sp)
    s.logicalOf g = some tw → s.live = true → s.sealHolds g = false → s.spireRetired sp = false →
    s.replaces.any (fun e => slotSpire e.1 = sp) = false →
    (spare < 17 → ∃ t, exec (.towerReplace slot) s = .next t ∧ t.replaces = s.replaces ++ [(g, 17 * sp + spare)] ∧
      t.cullets = s.cullets ++ [{ spire := sp, tower := some tw, slot := spare }, { spire := sp, tower := none, slot := 0x1F }] ∧
      (∀ h, h ≠ g → t.tower h = s.tower h) ∧ ((s.tower g).x.run ≠ .halted → (t.tower g).x.run = .stopped) ∧
      { t with towers := s.towers, sems := s.sems, replaces := s.replaces, cullets := s.cullets, flash := s.flash } = s) ∧
    (17 ≤ spare → ∃ t, exec (.towerReplace slot) s = .next t ∧
      t.reg Reg.keyCulletRetired = s.reg Reg.keyCulletRetired ||| 1 <<< (16 * sp + tw) ∧ t.alerting alertRetired = true ∧
      { t with ctl := s.ctl } = s)) ∧
  (∀ (slot : Fin 68) (s : State), s.logicalOf slot.val = none ∨ s.sealHolds slot.val = true ∨
    s.replaces.any (fun e => slotSpire e.1 = slotSpire slot.val) = true → exec (.towerReplace slot) s = .next s) ∧
  (∀ (slot : Fin 68) (row : BitVec 17) (s : State),
    let g := slot.val
    let bank := bits row.toNat 16 11
    let r := bits row.toNat 10 0
    let lo := tmCw g (256 * (64 * r + bank))
    s.live = true → r < 1536 →
    (((s.tower g).spareRows.filter (fun x => x.1 = bank)).length < 16 →
      ∃ t, exec (.tmRowRepair slot row) s = .next t ∧
        t.tower g = { s.tower g with spareRows := (s.tower g).spareRows ++ [(bank, r)] } ∧
        (∀ h, h ≠ g → t.tower h = s.tower h) ∧
        t.ramErr = s.ramErr.filter (fun e => !(e.2 = 1 && inSpan e.1 lo 16)) ∧
        { t with ctl := s.ctl, towers := s.towers, ramErr := s.ramErr, flash := s.flash } = s) ∧
    (16 ≤ ((s.tower g).spareRows.filter (fun x => x.1 = bank)).length → exec (.tmRowRepair slot row) s = .next s)) ∧
  (∀ (spire : Fin 4) (bank : BitVec 6) (s : State),
    let sp := spire.val
    s.live = true → s.spireRetired sp = false → s.galFix.contains (sp, bank.toNat) = false →
    (s.galFix.filter (fun e => e.1 = sp)).length < s.fld Reg.keyCulletPool (16 * sp + 13) (16 * sp + 12) →
    ∃ t, exec (.galleryBankRepair spire bank) s = .next t ∧ t.galFix = s.galFix ++ [(sp, bank.toNat)] ∧
      { t with galFix := s.galFix, flash := s.flash } = s) ∧
  (∀ (spire : Fin 4) (bank : BitVec 6) (s : State),
    let sp := spire.val
    s.live = true → s.spireRetired sp = false → s.galFix.contains (sp, bank.toNat) = false →
    s.fld Reg.keyCulletPool (16 * sp + 13) (16 * sp + 12) ≤ (s.galFix.filter (fun e => e.1 = sp)).length →
    ∃ t, exec (.galleryBankRepair spire bank) s = .next t ∧ t.spireRetired sp = true ∧ t.galFix = s.galFix) ∧
  (∀ (spire : Fin 4) (expander : BitVec 5) (s : State),
    let sp := spire.val
    let x := expander.toNat
    let down := fun (t : State) k => SMap.get (fun _ => 0) t.expDown k
    s.live = true → x ≤ 16 →
    (bit (s.reg Reg.keyCulletPool) (16 * sp + 14) = true →
      ∃ t, exec (.expanderRepair spire expander) s = .next t ∧ bit (t.reg Reg.keyCulletPool) (16 * sp + 14) = false ∧
        (∀ u < 16, s.expander sp u = x → down t (16 * sp + u) = 1) ∧
        (∀ k, (∀ u < 16, s.expander sp u = x → k ≠ 16 * sp + u) → down t k = down s k) ∧
        (∀ a, a ≠ Reg.keyCulletPool → t.reg a = s.reg a) ∧
        { t with ctl := s.ctl, staged := s.staged, expDown := s.expDown, flash := s.flash } = s) ∧
    (bit (s.reg Reg.keyCulletPool) (16 * sp + 14) = false → s.usersOf sp x ≠ [] →
      ∃ t, exec (.expanderRepair spire expander) s = .next t ∧ t.alerting alertRetired = true ∧
        (∀ u < 16, s.expander sp u = x → down t (16 * sp + u) = 2) ∧
        (∀ k, (∀ u < 16, s.expander sp u = x → k ≠ 16 * sp + u) → down t k = down s k) ∧
        { t with ctl := s.ctl, expDown := s.expDown } = s)) ∧
  (∀ (engine : Fin 3) m (s : State),
    let n := engine.val
    s.live = true → s.pkeActive n = false → m < 3 → m ≠ n → s.pkeActive m = false →
    (∀ k < m, k ≠ n → s.pkeActive k = true) →
    (bit (s.reg Reg.keyCulletPool2) 0 = true →
      ∃ t, exec (.pkeSpare engine) s = .next t ∧ t.pkeActive m = true ∧ t.pkeActive n = false ∧
        bit (t.reg Reg.keyCulletPool2) 0 = false ∧
        (∀ a, a ≠ Reg.pkeStatus m → a ≠ Reg.keyCulletPool2 → t.reg a = s.reg a) ∧
        { t with ctl := s.ctl, flash := s.flash } = s) ∧
    (bit (s.reg Reg.keyCulletPool2) 0 = false →
      ∃ t, exec (.pkeSpare engine) s = .next t ∧ t.alerting alertRetired = true ∧ t.pkeActive m = false ∧
        { t with ctl := s.ctl } = s)) ∧
  (∀ (spire : Fin 4) (s : State), s.live = true → s.spireRetired spire.val = false →
    ∃ t, exec (.spireRetire spire) s = .next t ∧ t.spireRetired spire.val = true ∧
      (∀ x, x ≠ spire.val → x < 4 → t.spireRetired x = s.spireRetired x) ∧
      bit (t.reg (Reg.belCtl spire.val)) 0 = false ∧ t.alerting alertRetired = true) ∧
  (∀ (spire : Fin 4) (s : State), s.spireRetired spire.val = true → exec (.spireRetire spire) s = .next s) ∧
  (∀ (spire : Fin 4) (s : State), s.live = true → s.spireRetired spire.val = false → s.runs = [] → s.seals = [] →
    s.launches = [] → s.insts = [] →
    let sp := spire.val
    ∃ t, exec (.spireRetire spire) s = .next t ∧ t.spireRetired sp = true ∧ (∀ x, x ≠ sp → x < 4 → t.spireRetired x = s.spireRetired x) ∧
      t.reg Reg.keyCulletRetired = (s.reg Reg.keyCulletRetired ||| 0xFFFF <<< (16 * sp)) % 2 ^ 64 ∧
      bit (t.reg (Reg.belCtl sp)) 0 = false ∧ (∀ r < 16, t.ring sp r = { s.ring sp r with stopped := true }) ∧
      (∀ x r, r < 16 → x ≠ sp → t.ring x r = s.ring x r) ∧ t.pending = s.pending ∧ t.hbm = s.hbm ∧ t.gallery = s.gallery ∧
      t.tmem = s.tmem ∧ t.regions = s.regions ∧ t.power = s.power) ∧
  (∀ (spire : Fin 4) (group : Fin 3) (margins : Word) (s : State), s.power.rstLow = false →
    ∃ t, exec (.wearSample spire group margins) s = .next t ∧ { t with ctl := s.ctl } = s ∧
      ∀ a, t.reg a = if a = Reg.pwrWear spire.val group.val then
        (if group = 2 then margins.toNat % 2 ^ 40 else margins.toNat) else s.reg a) ∧
  (∀ (s : State), s.power.rstLow = false → s.runs = [] → s.seals = [] → s.launches = [] →
    ∃ t, exec .lockstepMismatch s = .next t ∧ t.reg Reg.keyBootStatus = 0 ∧ t.alerting alertLockstep = true ∧
      t.reg Reg.keyLockstepCnt = min (s.reg Reg.keyLockstepCnt + 1) (2 ^ 32 - 1) ∧ (∀ sp k, t.channel sp k = none) ∧
      (∀ sp k, t.coll sp k = none) ∧ (∀ n, t.pke n = none) ∧ t.binds = [] ∧ t.hbm = s.hbm ∧ t.gallery = s.gallery ∧
      t.tmem = s.tmem ∧ t.rings = s.rings ∧ t.sess = s.sess ∧ t.power = s.power)

/-- Complete under the conditions stated: IDLE_STATE_ENTRY, UNIT_WAKE, POWER_SAMPLE, THROTTLE_STEP, THROTTLE_RECOVERY_STEP,
THERMAL_TRIP, FLOW_OK_FALL, FLOW_OK_RISE, RAIL_LOSS, RESET_ASSERT, RESET_RELEASE, PWR_OK_FALL, REFCLK_LOSS. -/
def Obligations.PowerAndResets : Prop :=
  (∀ (g : Fin 68) (s : State), s.live = true → s.towerIdle g.val = true → (s.tower g.val).power = .on →
    let k := s.towerState g.val s.nextEvent
    ∃ t, exec (.idleStateEntry (.tower g)) s = .next t ∧ (∀ h, h ≠ g.val → t.tower h = s.tower h) ∧ t.free = s.free + 1 ∧
      (k = 0 → { t with free := s.free } = s) ∧
      (k = 1 → t.tower g.val = { s.tower g.val with power := .gate } ∧ { t with towers := s.towers, free := s.free } = s) ∧
      (k = 2 → t.tower g.val = (s.tower g.val).park ∧ { t with towers := s.towers, free := s.free } = s) ∧
      (3 ≤ k → (t.tower g.val).power = .off ∧ (t.tower g.val).sdm = [] ∧
        (∀ j, SMap.get (fun _ => 0) t.tmem j = if tmKey g.val 0 ≤ j ∧ j < tmKey g.val 0 + towerSize then 0
          else SMap.get (fun _ => 0) s.tmem j) ∧
        { t with towers := s.towers, free := s.free, tmem := s.tmem, ramErr := s.ramErr } = s)) ∧
  (∀ (h : Fin 32) (s : State), s.live = true → bit (s.reg Reg.pwrIdleCtl) 6 = true →
    bit (s.reg (Reg.hbmStatus h.val)) 1 = false →
    ∃ t, exec (.idleStateEntry (.stack h)) s = .next t ∧ t.tmem = s.tmem ∧ t.gallery = s.gallery ∧ t.towers = s.towers ∧
      (s.lines (h.val / 8) = [] → t.free = s.free + 1 ∧ { t with ctl := s.ctl, free := s.free } = s ∧
        ∀ a, a ≠ Reg.hbmStatus h.val → t.reg a = s.reg a) ∧
      (bit (t.reg (Reg.hbmStatus h.val)) 1 = (s.trained h.val &&
        (match sooner s.nextEvent (s.nextPatrol h.val) with
        | some x => idleFits x 1000 2000 300000
        | none => true)))) ∧
  (∀ (sp : Fin 4) (s : State), s.live = true → bit (s.reg Reg.pwrIdleCtl) 5 = true → s.spireIdle sp.val = true →
    s.supply sp.val = .on →
    ∃ t, exec (.idleStateEntry (.spire sp)) s = .next t ∧
      (if s.nextEvent.any (fun x => idleFits x 40000 60000 1000000) = true then
        t.supply sp.val = .ret ∧ ∀ k < 17, t.tower (17 * sp.val + k) = (s.tower (17 * sp.val + k)).park
      else { t with free := s.free } = s) ∧
      (∀ x, x ≠ sp.val → t.supply x = s.supply x) ∧ (∀ h, slotSpire h ≠ sp.val → t.tower h = s.tower h) ∧
      t.gallery = s.gallery ∧ t.tmem = s.tmem ∧
      ((∀ l ∈ s.lines sp.val, l.stack / 8 = sp.val ∧ l.addr % 64 = 0) →
        s.nextEvent.any (fun x => idleFits x 40000 60000 1000000) = true → t.lines sp.val = []) ∧
      (s.lines sp.val = [] → { t with towers := s.towers, power := s.power, free := s.free } = s)) ∧
  (∀ (s : State), s.live = true → (∀ sp < 4, s.supply sp ≠ .on) →
    exec (.idleStateEntry .device) s = .next { s with power := { s.power with stby := true } }) ∧
  (∀ (g : Fin 68) (h : Fin 32) (sp : Fin 4) (s : State), s.live = true → s.power.flowStop = false →
    (∃ t, exec (.unitWake (.tower g)) s = .next t ∧ t.tower g.val = { s.tower g.val with power := .on } ∧
      (∀ x, x ≠ g.val → t.tower x = s.tower x) ∧ { t with towers := s.towers } = s) ∧
    (∃ t, exec (.unitWake (.stack h)) s = .next t ∧ bit (t.reg (Reg.hbmStatus h.val)) 1 = false ∧
      (∀ a, a ≠ Reg.hbmStatus h.val → t.reg a = s.reg a) ∧ { t with ctl := s.ctl } = s) ∧
    (s.supply sp.val = .ret → ∃ t, exec (.unitWake (.spire sp)) s = .next t ∧ t.supply sp.val = .on ∧
      (∀ k < 17, t.tower (17 * sp.val + k) = { s.tower (17 * sp.val + k) with power := .on }) ∧
      (∀ x, slotSpire x ≠ sp.val → t.tower x = s.tower x) ∧ { t with towers := s.towers, power := s.power } = s) ∧
    exec (.unitWake .device) s = .next { s with power := { s.power with stby := false } }) ∧
  (∀ (avg1s avg10ms : BitVec 16) (s : State), s.power.rstLow = false →
    ∃ t, exec (.powerSample avg1s avg10ms) s = .next t ∧ t.reg Reg.pwrPower = avg1s.toNat * 2 ^ 16 + avg10ms.toNat ∧
      (s.power.capWait = none → t.power.capWait = if 3600 < avg1s.toNat ∨ 4200 < avg10ms.toNat then some 0 else none) ∧
      (∀ n, s.power.capWait = some n → t.power.capWait = if n + 1 < 100 then some (n + 1) else none) ∧
      t.power.lowFor = (if avg1s.toNat < 3400 then min (s.power.lowFor + 1) 10000 else 0) ∧
      t.power.throttle = s.power.throttle ∧ { t with ctl := s.ctl, power := s.power } = s) ∧
  (∀ (spire : Fin 4) (temp : BitVec 8) (s : State),
    let sp := spire.val
    s.live = true →
    (100 ≤ temp.toNat → ∃ t, exec (.throttleStep spire temp) s = .next t ∧
      SMap.get (fun _ => 0) t.power.throttle sp = min 3 (s.point sp + 1) ∧
      SMap.get (fun _ => false) t.power.rise sp = false ∧ SMap.get (fun _ => 0) t.power.temps sp = temp.toNat ∧
      bit (t.reg Reg.pwrStatus) 1 = true ∧ t.alerting alertThrottle = true ∧
      (SMap.get (fun _ => 0) s.power.cap sp ≤ 3 → min 3 (s.point sp + 1) ≤ t.point sp) ∧
      (∀ x, x ≠ sp → SMap.get (fun _ => 0) t.power.throttle x = SMap.get (fun _ => 0) s.power.throttle x) ∧
      { t with ctl := s.ctl, power := s.power } = s) ∧
    (temp.toNat < 95 → SMap.get (fun _ => 0) s.power.throttle sp ≠ 0 →
      ∃ t, exec (.throttleRecoveryStep spire temp) s = .next t ∧ SMap.get (fun _ => false) t.power.rise sp = true ∧
        (∀ x, x ≠ sp → SMap.get (fun _ => false) t.power.rise x = SMap.get (fun _ => false) s.power.rise x) ∧
        (∀ a, a ≠ Reg.pwrStatus → t.reg a = s.reg a) ∧ { t with ctl := s.ctl, power := s.power } = s)) ∧
  (∀ (s : State), s.power.rstLow = false →
    (∃ t, exec .thermalTrip s = .next t ∧ t.power = { s.power with tripPin := true } ∧ bit (t.reg Reg.pwrStatus) 3 = true ∧
      115 ≤ t.fld Reg.pwrStatus 47 40 ∧ (∀ a, a ≠ Reg.pwrStatus → t.reg a = s.reg a) ∧ t.runs = [] ∧ t.launches = [] ∧
      t.insts = [] ∧ (∀ g < 68, (t.tower g).task = none) ∧ t.hbm = s.hbm ∧ t.gallery = s.gallery ∧ t.tmem = s.tmem ∧
      t.rings = s.rings) ∧
    (∃ t, exec (.refclkLoss .ref156) s = .next t ∧ ∀ p < 8, t.portUp p = false) ∧
    (∃ t, exec (.refclkLoss .ref100) s = .next t ∧ t.alerting alertRail = true ∧ t.runs = [] ∧ t.launches = [] ∧ t.insts = [] ∧
      (∀ sp r, sp < 4 → r < 16 → (t.ring sp r).stopped = true) ∧ t.power = s.power ∧ t.hbm = s.hbm ∧ t.gallery = s.gallery ∧
      t.tmem = s.tmem) ∧
    (∀ sp : Fin 4, ∃ t, exec (.railLoss sp) s = .next t ∧ t.supply sp.val = .lost ∧ (∀ x, x ≠ sp.val → t.supply x = s.supply x) ∧
      t.alerting alertRail = true ∧ (∀ x r, x < 4 → r < 16 → (t.ring x r).stopped = true) ∧
      (∀ k, SMap.get (fun _ => 0) t.gallery k = if galKey sp.val 0 ≤ k ∧ k < galKey sp.val 0 + gallerySize then 0
        else SMap.get (fun _ => 0) s.gallery k) ∧
      (∀ k, SMap.get (fun _ => 0) t.hbm k = if hbmKey (8 * sp.val) 0 ≤ k ∧ k < hbmKey (8 * sp.val) 0 + 8 * stackSize then 0
        else SMap.get (fun _ => 0) s.hbm k) ∧
      (∀ k, SMap.get (fun _ => 0) t.tmem k = if tmKey (17 * sp.val) 0 ≤ k ∧ k < tmKey (17 * sp.val) 0 + 17 * towerSize then 0
        else SMap.get (fun _ => 0) s.tmem k) ∧
      (∀ g, slotSpire g ≠ sp.val → t.tower g = s.tower g)) ∧
    (s.power.pwrOk = true → s.wcb = [] →
      ∃ t, exec .pwrOkFall s = .next t ∧ t.power = { s.power with pwrOk := false, alertPin := true } ∧ t.runs = [] ∧
        t.launches = [] ∧ t.insts = [] ∧ (∀ h < 32, s.trained h = true → bit (t.reg (Reg.hbmStatus h)) 1 = true) ∧
        t.hbm = s.hbm ∧ t.gallery = s.gallery ∧ t.tmem = s.tmem ∧ t.rings = s.rings)) ∧
  (∀ (s : State), bit (s.reg Reg.pwrStatus) 0 = true → s.power.rstLow = false → s.fld Reg.keyBootStatus 31 30 = 2 →
    s.launches = [] → s.seals = [] → s.wcb = [] →
    ∃ t, exec .flowOkFall s = .next t ∧ t.power.flowStop = true ∧ bit (t.reg Reg.pwrStatus) 0 = false ∧
      (∀ sp < 4, t.supply sp = .ret ∧ bit (t.reg (Reg.belCtl sp)) 0 = false) ∧
      (∀ h < 32, s.trained h = true → bit (t.reg (Reg.hbmStatus h)) 1 = true) ∧ t.alerting alertFlow = true ∧
      t.carPending 4 7 = true ∧ { t with ctl := s.ctl, towers := s.towers, sems := s.sems, power := s.power } = s) ∧
  (∀ (s : State), s.power.rstLow = false →
    ∃ t, exec .flowOkRise s = .next t ∧ bit (t.reg Reg.pwrStatus) 0 = true ∧ t.alerting alertFlow = false ∧
      t.fld Reg.keyBootStatus 31 30 = (if s.fld Reg.keyBootStatus 31 30 = 1 ∧ (List.range 32).all s.trained = true then 2
        else s.fld Reg.keyBootStatus 31 30) ∧
      (∀ a, a ≠ Reg.pwrStatus → a ≠ Reg.keyBootStatus → t.reg a = s.reg a) ∧ { t with ctl := s.ctl } = s) ∧
  (∀ (s : State),
    ∃ t, exec .resetAssert s = .next t ∧ t.power.rstLow = true ∧ t.power.pwrOk = s.power.pwrOk ∧ t.fuseJob = none ∧
      (s.fuseJob = none → t.fuses = s.fuses) ∧ t.reg Reg.keyLockstepCnt = s.reg Reg.keyLockstepCnt ∧
      bit (t.reg Reg.pwrStatus) 0 = bit (s.reg Reg.pwrStatus) 0 ∧
      { t with ctl := State.reset.ctl, free := State.reset.free, fuses := State.reset.fuses, power := State.reset.power } =
        { State.reset with
          pending := s.pending, flash := s.flash, companion := s.companion, sent := s.sent, gallery := s.gallery,
          ramErr := s.galErr }) ∧
  (∀ (trained : BitVec 32) (s : State), s.power.rstLow = true →
    ∃ t, exec (.resetRelease trained) s = .next t ∧ t.power = { s.power with rstLow := false, pwrOk := true, train := some trained } ∧
      t.secret = s.fuses.secret ∧ t.reg Reg.fuseLifecycle = lcSense s.fuses.lifecycle.toNat ∧
      t.reg Reg.fuseSerial = s.fuses.serial.toNat ∧ t.fuses = s.fuses ∧ t.fuseJob = s.fuseJob ∧ t.flash = s.flash ∧
      t.companion = s.companion ∧ t.hbm = s.hbm ∧ t.gallery = [])
end

