-- ==== Sys2Proof/Laws/Table.lean ====
section
/-!
SUPPORT. Sparse tables: what a read returns after a write, and that every operation keeps the canonical form.
-/
namespace Sys2Proof.SMap

variable {α : Type} {d : Nat → α}

@[simp] theorem get_nil (k : Nat) : get d [] k = d k := rfl

theorem get_cons (k' : Nat) (v : α) (m : SMap α) (k : Nat) :
    get d ((k', v) :: m) k = if k = k' then v else get d m k := rfl

/-- A table whose keys all satisfy `p` reads as the default at a key that does not. -/
theorem get_of_keys {p : Nat → Prop} {m : SMap α} (h : ∀ e ∈ m, p e.1) {k : Nat} (hk : ¬p k) : get d m k = d k := by
  induction m with
  | nil => rfl
  | cons e m ih =>
    have h1 := h e (by simp)
    have hne : k ≠ e.1 := fun hc => hk (hc ▸ h1)
    rw [get_cons, if_neg hne]
    exact ih (fun x hx => h x (by simp [hx]))

/-- Filtering by a condition on keys that `k` meets does not change the read at `k`. -/
theorem get_filter_key (p : Nat → Bool) (m : SMap α) {k : Nat} (hk : p k = true) :
    get d (m.filter (fun e => p e.1)) k = get d m k := by
  induction m with
  | nil => rfl
  | cons e m ih =>
    rw [List.filter_cons, get_cons]
    by_cases he : k = e.1
    · subst he
      rw [if_pos hk, get_cons]
      simp
    · rw [if_neg he]
      split
      · rw [get_cons, if_neg he, ih]
      · exact ih

theorem get_append_of_keys {p : Nat → Prop} {m m' : SMap α} (h : ∀ e ∈ m, p e.1) {k : Nat} (hk : ¬p k) :
    get d (m ++ m') k = get d m' k := by
  induction m with
  | nil => rfl
  | cons e m ih =>
    have hne : k ≠ e.1 := fun hc => hk (hc ▸ h e (by simp))
    rw [List.cons_append, get_cons, if_neg hne]
    exact ih (fun x hx => h x (by simp [hx]))

theorem get_append_default (m m' : SMap α) {k : Nat} (h : get d m' k = d k) : get d (m ++ m') k = get d m k := by
  induction m with
  | nil => simpa using h
  | cons e m ih => rw [List.cons_append, get_cons, get_cons, ih]

theorem get_insert_self (m : SMap α) (k : Nat) (v : α) : get d (insert m k v) k = v := by
  induction m with
  | nil => simp [insert, get_cons]
  | cons e m ih =>
    unfold insert
    split
    · simp [get_cons]
    · split
      · simp [get_cons]
      · rename_i h
        rw [get_cons, if_neg h, ih]

theorem get_insert_ne (m : SMap α) {k j : Nat} (v : α) (h : j ≠ k) : get d (insert m k v) j = get d m j := by
  induction m with
  | nil => simp [insert, get_cons, h]
  | cons e m ih =>
    unfold insert
    split
    · rw [get_cons, if_neg h]
    · split
      · rename_i hk
        rw [get_cons, if_neg h, get_cons, if_neg (hk ▸ h)]
      · rw [get_cons, get_cons, ih]

theorem get_erase_self (m : SMap α) (k : Nat) : get d (erase m k) k = d k :=
  get_of_keys (p := fun x => x ≠ k) (fun e he => by simpa [erase] using (List.mem_filter.mp he).2) (by simp)

theorem get_erase_ne (m : SMap α) {k j : Nat} (h : j ≠ k) : get d (erase m k) j = get d m j :=
  get_filter_key (fun x => decide (x ≠ k)) m (by simpa using h)

theorem wf_nil : WF d ([] : SMap α) := ⟨List.Pairwise.nil, by simp⟩

theorem wf_filter (p : Nat × α → Bool) {m : SMap α} (h : WF d m) : WF d (m.filter p) :=
  ⟨h.1.filter _, fun e he => h.2 e (List.mem_filter.mp he).1⟩

theorem wf_erase {m : SMap α} (k : Nat) (h : WF d m) : WF d (erase m k) := wf_filter _ h

theorem mem_insert {m : SMap α} {k : Nat} {v : α} {e : Nat × α} (h : e ∈ insert m k v) : e = (k, v) ∨ e ∈ m := by
  induction m with
  | nil => simpa [insert] using h
  | cons x m ih =>
    unfold insert at h
    split at h
    · simpa using h
    · split at h
      · rcases List.mem_cons.mp h with h | h
        · exact .inl h
        · exact .inr (by simp [h])
      · rcases List.mem_cons.mp h with h | h
        · exact .inr (by simp [h])
        · rcases ih h with h | h
          · exact .inl h
          · exact .inr (by simp [h])

theorem wf_insert {m : SMap α} {k : Nat} {v : α} (h : WF d m) (hv : v ≠ d k) : WF d (insert m k v) := by
  refine ⟨?_, fun e he => ?_⟩
  · obtain ⟨h1, -⟩ := h
    induction m with
    | nil => simp [insert]
    | cons x m ih =>
      obtain ⟨hx, hm⟩ := List.pairwise_cons.mp h1
      unfold insert
      split
      · rename_i hk
        refine List.pairwise_cons.mpr ⟨fun e he => ?_, h1⟩
        rcases List.mem_cons.mp he with rfl | he
        · exact hk
        · exact Nat.lt_trans hk (hx e he)
      · split
        · rename_i hk
          exact List.pairwise_cons.mpr ⟨fun e he => by have := hx e he; simp_all, hm⟩
        · refine List.pairwise_cons.mpr ⟨fun e he => ?_, ih hm⟩
          rcases mem_insert he with rfl | he
          · simp only
            omega
          · exact hx e he
  · rcases mem_insert he with rfl | he
    · exact hv
    · exact h.2 e he

variable [DecidableEq α]

/-- Reading the key just written. -/
@[simp] theorem get_set_self (m : SMap α) (k : Nat) (v : α) : get d (set d m k v) k = v := by
  unfold set
  split
  · rename_i h
    rw [get_erase_self, h]
  · exact get_insert_self m k v

/-- Reading another key. -/
@[simp] theorem get_set_ne (m : SMap α) {k j : Nat} (v : α) (h : j ≠ k) : get d (set d m k v) j = get d m j := by
  unfold set
  split
  · exact get_erase_ne m h
  · exact get_insert_ne m v h

theorem get_set (m : SMap α) (k j : Nat) (v : α) : get d (set d m k v) j = if j = k then v else get d m j := by
  split
  · rename_i h
    rw [h, get_set_self]
  · rename_i h
    exact get_set_ne m v h

theorem run_keys (k : Nat) (vs : List α) : ∀ e ∈ run d k vs, k ≤ e.1 ∧ e.1 < k + vs.length := by
  induction vs generalizing k with
  | nil => intro e he; cases he
  | cons v vs ih =>
    intro e he
    unfold run at he
    split at he
    · have := ih (k + 1) e he
      simp only [List.length_cons]
      omega
    · rcases List.mem_cons.mp he with rfl | he
      · simp
      · have := ih (k + 1) e he
        simp only [List.length_cons]
        omega

theorem get_run (k : Nat) (vs : List α) {j : Nat} (hj : j < vs.length) : get d (run d k vs) (k + j) = vs[j] := by
  induction vs generalizing k j with
  | nil => cases hj
  | cons v vs ih =>
    unfold run
    cases j with
    | zero =>
      split
      · rename_i h
        rw [get_of_keys (p := fun x => k + 1 ≤ x) (fun e he => (run_keys (k + 1) vs e he).1) (by omega)]
        simpa using h.symm
      · simp [get_cons]
    | succ j =>
      have hj' : j < vs.length := by simpa using hj
      have e := ih (k + 1) hj'
      rw [show k + (j + 1) = k + 1 + j by omega]
      split
      · simpa using e
      · rw [get_cons, if_neg (by omega)]
        simpa using e

/-- Reading inside the run just written. -/
theorem get_setRun_in (m : SMap α) (k : Nat) (vs : List α) {j : Nat} (hj : j < vs.length) :
    get d (setRun d m k vs) (k + j) = vs[j] := by
  unfold setRun
  rw [get_append_of_keys (p := fun x => x < k) (fun e he => by simpa using (List.mem_filter.mp he).2) (by omega)]
  rw [get_append_default, get_run k vs hj]
  exact get_of_keys (p := fun x => k + vs.length ≤ x) (fun e he => by simpa using (List.mem_filter.mp he).2) (by omega)

/-- Reading outside the run just written. -/
theorem get_setRun_out (m : SMap α) (k : Nat) (vs : List α) {j : Nat} (hj : j < k ∨ k + vs.length ≤ j) :
    get d (setRun d m k vs) j = get d m j := by
  unfold setRun
  rcases hj with hj | hj
  · rw [get_append_default, get_filter_key (fun x => decide (x < k)) m (by simpa using hj)]
    rw [get_append_of_keys (p := fun x => k ≤ x) (fun e he => (run_keys k vs e he).1) (by omega)]
    exact get_of_keys (p := fun x => k + vs.length ≤ x) (fun e he => by simpa using (List.mem_filter.mp he).2) (by omega)
  · rw [get_append_of_keys (p := fun x => x < k) (fun e he => by simpa using (List.mem_filter.mp he).2) (by omega),
      get_append_of_keys (p := fun x => x < k + vs.length) (fun e he => (run_keys k vs e he).2) (by omega)]
    exact get_filter_key (fun x => decide (k + vs.length ≤ x)) m (by simpa using hj)

/-! ### The canonical form -/

/-- A write keeps the canonical form. -/
theorem wf_set {m : SMap α} (k : Nat) (v : α) (h : WF d m) : WF d (set d m k v) := by
  unfold set
  split
  · exact wf_erase k h
  · rename_i hv
    exact wf_insert h hv

theorem run_wf (k : Nat) (vs : List α) : WF d (run d k vs) := by
  induction vs generalizing k with
  | nil => exact wf_nil
  | cons v vs ih =>
    unfold run
    split
    · exact ih (k + 1)
    · rename_i hv
      refine ⟨List.pairwise_cons.mpr ⟨fun e he => ?_, (ih (k + 1)).1⟩, fun e he => ?_⟩
      · have := (run_keys (k + 1) vs e he).1
        simp only
        omega
      · rcases List.mem_cons.mp he with rfl | he
        · exact hv
        · exact (ih (k + 1)).2 e he

/-- A write of a run of values keeps the canonical form. -/
theorem wf_setRun {m : SMap α} (k : Nat) (vs : List α) (h : WF d m) : WF d (setRun d m k vs) := by
  unfold setRun
  refine ⟨?_, fun e he => ?_⟩
  · refine List.pairwise_append.mpr ⟨h.1.filter _, ?_, fun a ha b hb => ?_⟩
    · refine List.pairwise_append.mpr ⟨(run_wf k vs).1, h.1.filter _, fun a ha b hb => ?_⟩
      have h1 := (run_keys k vs a ha).2
      have h2 : k + vs.length ≤ b.1 := by simpa using (List.mem_filter.mp hb).2
      omega
    · have h1 : a.1 < k := by simpa using (List.mem_filter.mp ha).2
      rcases List.mem_append.mp hb with hb | hb
      · have := (run_keys k vs b hb).1
        omega
      · have h2 : k + vs.length ≤ b.1 := by simpa using (List.mem_filter.mp hb).2
        omega
  · rcases List.mem_append.mp he with he | he
    · exact h.2 e (List.mem_filter.mp he).1
    · rcases List.mem_append.mp he with he | he
      · exact (run_wf k vs).2 e he
      · exact h.2 e (List.mem_filter.mp he).1

/-- Changing the listed values keeps the canonical form. -/
theorem wf_each (f : Nat → α → α) {m : SMap α} (h : WF d m) : WF d (each d f m) := by
  unfold each
  refine ⟨List.Pairwise.filter _ (List.pairwise_map.mpr h.1), fun e he => ?_⟩
  simpa using (List.mem_filter.mp he).2

theorem wf_foldl_set (f : Nat × α → Nat) (l : List (Nat × α)) {m : SMap α} (h : WF d m) :
    WF d (l.foldl (fun t e => set d t (f e) e.2) m) := by
  induction l generalizing m with
  | nil => exact h
  | cons e l ih => exact ih (wf_set _ _ h)

/-- Moving a range of keys keeps the canonical form. -/
theorem wf_move (lo hi n : Nat) {m : SMap α} (h : WF d m) : WF d (move d m lo hi n) :=
  wf_foldl_set _ _ (wf_filter _ h)

end Sys2Proof.SMap
end

