-- ==== Sys2Proof/Laws/State.lean ====
section
/-!
SUPPORT. What each shared update of a state leaves alone, one lemma per field, and what each accessor reads after it.
-/
namespace Sys2Proof.Machine
variable (s : State)


/-! ### setReg -/

@[simp] theorem State.setReg_pending (a v : Nat) : (s.setReg a v).pending = s.pending := rfl
@[simp] theorem State.setReg_free (a v : Nat) : (s.setReg a v).free = s.free := rfl
@[simp] theorem State.setReg_opened (a v : Nat) : (s.setReg a v).opened = s.opened := rfl
@[simp] theorem State.setReg_staged (a v : Nat) : (s.setReg a v).staged = s.staged := rfl
@[simp] theorem State.setReg_hbm (a v : Nat) : (s.setReg a v).hbm = s.hbm := rfl
@[simp] theorem State.setReg_gallery (a v : Nat) : (s.setReg a v).gallery = s.gallery := rfl
@[simp] theorem State.setReg_tmem (a v : Nat) : (s.setReg a v).tmem = s.tmem := rfl
@[simp] theorem State.setReg_companion (a v : Nat) : (s.setReg a v).companion = s.companion := rfl
@[simp] theorem State.setReg_flash (a v : Nat) : (s.setReg a v).flash = s.flash := rfl
@[simp] theorem State.setReg_hbmErr (a v : Nat) : (s.setReg a v).hbmErr = s.hbmErr := rfl
@[simp] theorem State.setReg_ramErr (a v : Nat) : (s.setReg a v).ramErr = s.ramErr := rfl
@[simp] theorem State.setReg_pinCounts (a v : Nat) : (s.setReg a v).pinCounts = s.pinCounts := rfl
@[simp] theorem State.setReg_towers (a v : Nat) : (s.setReg a v).towers = s.towers := rfl
@[simp] theorem State.setReg_descs (a v : Nat) : (s.setReg a v).descs = s.descs := rfl
@[simp] theorem State.setReg_sdeCache (a v : Nat) : (s.setReg a v).sdeCache = s.sdeCache := rfl
@[simp] theorem State.setReg_regions (a v : Nat) : (s.setReg a v).regions = s.regions := rfl
@[simp] theorem State.setReg_rings (a v : Nat) : (s.setReg a v).rings = s.rings := rfl
@[simp] theorem State.setReg_runs (a v : Nat) : (s.setReg a v).runs = s.runs := rfl
@[simp] theorem State.setReg_lastRing (a v : Nat) : (s.setReg a v).lastRing = s.lastRing := rfl
@[simp] theorem State.setReg_channels (a v : Nat) : (s.setReg a v).channels = s.channels := rfl
@[simp] theorem State.setReg_btabs (a v : Nat) : (s.setReg a v).btabs = s.btabs := rfl
@[simp] theorem State.setReg_insts (a v : Nat) : (s.setReg a v).insts = s.insts := rfl
@[simp] theorem State.setReg_ended (a v : Nat) : (s.setReg a v).ended = s.ended := rfl
@[simp] theorem State.setReg_sems (a v : Nat) : (s.setReg a v).sems = s.sems := rfl
@[simp] theorem State.setReg_wcb (a v : Nat) : (s.setReg a v).wcb = s.wcb := rfl
@[simp] theorem State.setReg_faultsSpire (a v : Nat) : (s.setReg a v).faultsSpire = s.faultsSpire := rfl
@[simp] theorem State.setReg_faultsKey (a v : Nat) : (s.setReg a v).faultsKey = s.faultsKey := rfl
@[simp] theorem State.setReg_holds (a v : Nat) : (s.setReg a v).holds = s.holds := rfl
@[simp] theorem State.setReg_carStacks (a v : Nat) : (s.setReg a v).carStacks = s.carStacks := rfl
@[simp] theorem State.setReg_carLost (a v : Nat) : (s.setReg a v).carLost = s.carLost := rfl
@[simp] theorem State.setReg_reply (a v : Nat) : (s.setReg a v).reply = s.reply := rfl
@[simp] theorem State.setReg_launches (a v : Nat) : (s.setReg a v).launches = s.launches := rfl
@[simp] theorem State.setReg_imRuns (a v : Nat) : (s.setReg a v).imRuns = s.imRuns := rfl
@[simp] theorem State.setReg_colls (a v : Nat) : (s.setReg a v).colls = s.colls := rfl
@[simp] theorem State.setReg_stops (a v : Nat) : (s.setReg a v).stops = s.stops := rfl
@[simp] theorem State.setReg_galPackets (a v : Nat) : (s.setReg a v).galPackets = s.galPackets := rfl
@[simp] theorem State.setReg_galScrub (a v : Nat) : (s.setReg a v).galScrub = s.galScrub := rfl
@[simp] theorem State.setReg_sent (a v : Nat) : (s.setReg a v).sent = s.sent := rfl
@[simp] theorem State.setReg_replays (a v : Nat) : (s.setReg a v).replays = s.replays := rfl
@[simp] theorem State.setReg_training (a v : Nat) : (s.setReg a v).training = s.training := rfl
@[simp] theorem State.setReg_alxGroups (a v : Nat) : (s.setReg a v).alxGroups = s.alxGroups := rfl
@[simp] theorem State.setReg_psets (a v : Nat) : (s.setReg a v).psets = s.psets := rfl
@[simp] theorem State.setReg_sess (a v : Nat) : (s.setReg a v).sess = s.sess := rfl
@[simp] theorem State.setReg_sessAreas (a v : Nat) : (s.setReg a v).sessAreas = s.sessAreas := rfl
@[simp] theorem State.setReg_frames (a v : Nat) : (s.setReg a v).frames = s.frames := rfl
@[simp] theorem State.setReg_digests (a v : Nat) : (s.setReg a v).digests = s.digests := rfl
@[simp] theorem State.setReg_keyJobs (a v : Nat) : (s.setReg a v).keyJobs = s.keyJobs := rfl
@[simp] theorem State.setReg_binds (a v : Nat) : (s.setReg a v).binds = s.binds := rfl
@[simp] theorem State.setReg_closes (a v : Nat) : (s.setReg a v).closes = s.closes := rfl
@[simp] theorem State.setReg_seals (a v : Nat) : (s.setReg a v).seals = s.seals := rfl
@[simp] theorem State.setReg_keySlots (a v : Nat) : (s.setReg a v).keySlots = s.keySlots := rfl
@[simp] theorem State.setReg_pkes (a v : Nat) : (s.setReg a v).pkes = s.pkes := rfl
@[simp] theorem State.setReg_fuses (a v : Nat) : (s.setReg a v).fuses = s.fuses := rfl
@[simp] theorem State.setReg_secret (a v : Nat) : (s.setReg a v).secret = s.secret := rfl
@[simp] theorem State.setReg_fuseJob (a v : Nat) : (s.setReg a v).fuseJob = s.fuseJob := rfl
@[simp] theorem State.setReg_idOpen (a v : Nat) : (s.setReg a v).idOpen = s.idOpen := rfl
@[simp] theorem State.setReg_entropyBad (a v : Nat) : (s.setReg a v).entropyBad = s.entropyBad := rfl
@[simp] theorem State.setReg_alxPending (a v : Nat) : (s.setReg a v).alxPending = s.alxPending := rfl
@[simp] theorem State.setReg_alxKeys (a v : Nat) : (s.setReg a v).alxKeys = s.alxKeys := rfl
@[simp] theorem State.setReg_gen (a v : Nat) : (s.setReg a v).gen = s.gen := rfl
@[simp] theorem State.setReg_cullets (a v : Nat) : (s.setReg a v).cullets = s.cullets := rfl
@[simp] theorem State.setReg_replaces (a v : Nat) : (s.setReg a v).replaces = s.replaces := rfl
@[simp] theorem State.setReg_galFix (a v : Nat) : (s.setReg a v).galFix = s.galFix := rfl
@[simp] theorem State.setReg_expDown (a v : Nat) : (s.setReg a v).expDown = s.expDown := rfl
@[simp] theorem State.setReg_gone (a v : Nat) : (s.setReg a v).gone = s.gone := rfl
@[simp] theorem State.setReg_bandCmds (a v : Nat) : (s.setReg a v).bandCmds = s.bandCmds := rfl
@[simp] theorem State.setReg_lostFrom (a v : Nat) : (s.setReg a v).lostFrom = s.lostFrom := rfl
@[simp] theorem State.setReg_pinsOver (a v : Nat) : (s.setReg a v).pinsOver = s.pinsOver := rfl
@[simp] theorem State.setReg_btabJobs (a v : Nat) : (s.setReg a v).btabJobs = s.btabJobs := rfl
@[simp] theorem State.setReg_seqBad (a v : Nat) : (s.setReg a v).seqBad = s.seqBad := rfl
@[simp] theorem State.setReg_power (a v : Nat) : (s.setReg a v).power = s.power := rfl
@[simp] theorem State.setReg_starts (a v : Nat) : (s.setReg a v).starts = s.starts := rfl
@[simp] theorem State.setReg_bellNum (a v : Nat) : (s.setReg a v).bellNum = s.bellNum := rfl
@[simp] theorem State.setReg_stagedReg' (a v : Nat) (x : Nat) : (s.setReg a v).stagedReg x = s.stagedReg x := rfl
@[simp] theorem State.setReg_tower' (a v : Nat) (x : Nat) : (s.setReg a v).tower x = s.tower x := rfl
@[simp] theorem State.setReg_ring' (a v : Nat) (x y : Nat) : (s.setReg a v).ring x y = s.ring x y := rfl
@[simp] theorem State.setReg_runq' (a v : Nat) (x : Nat) : (s.setReg a v).runq x = s.runq x := rfl
@[simp] theorem State.setReg_instances' (a v : Nat) (x y : Nat) : (s.setReg a v).instances x y = s.instances x y := rfl
@[simp] theorem State.setReg_sem' (a v : Nat) (x y : Nat) : (s.setReg a v).sem x y = s.sem x y := rfl
@[simp] theorem State.setReg_desc' (a v : Nat) (x y : Nat) : (s.setReg a v).desc x y = s.desc x y := rfl
@[simp] theorem State.setReg_seal' (a v : Nat) (x y : Nat) : (s.setReg a v).seal x y = s.seal x y := rfl
@[simp] theorem State.setReg_channel' (a v : Nat) (x y : Nat) : (s.setReg a v).channel x y = s.channel x y := rfl

/-! ### stage -/

@[simp] theorem State.stage_pending (a : Nat) (v : Option Word) : (s.stage a v).pending = s.pending := rfl
@[simp] theorem State.stage_free (a : Nat) (v : Option Word) : (s.stage a v).free = s.free := rfl
@[simp] theorem State.stage_opened (a : Nat) (v : Option Word) : (s.stage a v).opened = s.opened := rfl
@[simp] theorem State.stage_ctl (a : Nat) (v : Option Word) : (s.stage a v).ctl = s.ctl := rfl
@[simp] theorem State.stage_hbm (a : Nat) (v : Option Word) : (s.stage a v).hbm = s.hbm := rfl
@[simp] theorem State.stage_gallery (a : Nat) (v : Option Word) : (s.stage a v).gallery = s.gallery := rfl
@[simp] theorem State.stage_tmem (a : Nat) (v : Option Word) : (s.stage a v).tmem = s.tmem := rfl
@[simp] theorem State.stage_companion (a : Nat) (v : Option Word) : (s.stage a v).companion = s.companion := rfl
@[simp] theorem State.stage_flash (a : Nat) (v : Option Word) : (s.stage a v).flash = s.flash := rfl
@[simp] theorem State.stage_hbmErr (a : Nat) (v : Option Word) : (s.stage a v).hbmErr = s.hbmErr := rfl
@[simp] theorem State.stage_ramErr (a : Nat) (v : Option Word) : (s.stage a v).ramErr = s.ramErr := rfl
@[simp] theorem State.stage_pinCounts (a : Nat) (v : Option Word) : (s.stage a v).pinCounts = s.pinCounts := rfl
@[simp] theorem State.stage_towers (a : Nat) (v : Option Word) : (s.stage a v).towers = s.towers := rfl
@[simp] theorem State.stage_descs (a : Nat) (v : Option Word) : (s.stage a v).descs = s.descs := rfl
@[simp] theorem State.stage_sdeCache (a : Nat) (v : Option Word) : (s.stage a v).sdeCache = s.sdeCache := rfl
@[simp] theorem State.stage_regions (a : Nat) (v : Option Word) : (s.stage a v).regions = s.regions := rfl
@[simp] theorem State.stage_rings (a : Nat) (v : Option Word) : (s.stage a v).rings = s.rings := rfl
@[simp] theorem State.stage_runs (a : Nat) (v : Option Word) : (s.stage a v).runs = s.runs := rfl
@[simp] theorem State.stage_lastRing (a : Nat) (v : Option Word) : (s.stage a v).lastRing = s.lastRing := rfl
@[simp] theorem State.stage_channels (a : Nat) (v : Option Word) : (s.stage a v).channels = s.channels := rfl
@[simp] theorem State.stage_btabs (a : Nat) (v : Option Word) : (s.stage a v).btabs = s.btabs := rfl
@[simp] theorem State.stage_insts (a : Nat) (v : Option Word) : (s.stage a v).insts = s.insts := rfl
@[simp] theorem State.stage_ended (a : Nat) (v : Option Word) : (s.stage a v).ended = s.ended := rfl
@[simp] theorem State.stage_sems (a : Nat) (v : Option Word) : (s.stage a v).sems = s.sems := rfl
@[simp] theorem State.stage_wcb (a : Nat) (v : Option Word) : (s.stage a v).wcb = s.wcb := rfl
@[simp] theorem State.stage_faultsSpire (a : Nat) (v : Option Word) : (s.stage a v).faultsSpire = s.faultsSpire := rfl
@[simp] theorem State.stage_faultsKey (a : Nat) (v : Option Word) : (s.stage a v).faultsKey = s.faultsKey := rfl
@[simp] theorem State.stage_holds (a : Nat) (v : Option Word) : (s.stage a v).holds = s.holds := rfl
@[simp] theorem State.stage_carStacks (a : Nat) (v : Option Word) : (s.stage a v).carStacks = s.carStacks := rfl
@[simp] theorem State.stage_carLost (a : Nat) (v : Option Word) : (s.stage a v).carLost = s.carLost := rfl
@[simp] theorem State.stage_reply (a : Nat) (v : Option Word) : (s.stage a v).reply = s.reply := rfl
@[simp] theorem State.stage_launches (a : Nat) (v : Option Word) : (s.stage a v).launches = s.launches := rfl
@[simp] theorem State.stage_imRuns (a : Nat) (v : Option Word) : (s.stage a v).imRuns = s.imRuns := rfl
@[simp] theorem State.stage_colls (a : Nat) (v : Option Word) : (s.stage a v).colls = s.colls := rfl
@[simp] theorem State.stage_stops (a : Nat) (v : Option Word) : (s.stage a v).stops = s.stops := rfl
@[simp] theorem State.stage_galPackets (a : Nat) (v : Option Word) : (s.stage a v).galPackets = s.galPackets := rfl
@[simp] theorem State.stage_galScrub (a : Nat) (v : Option Word) : (s.stage a v).galScrub = s.galScrub := rfl
@[simp] theorem State.stage_sent (a : Nat) (v : Option Word) : (s.stage a v).sent = s.sent := rfl
@[simp] theorem State.stage_replays (a : Nat) (v : Option Word) : (s.stage a v).replays = s.replays := rfl
@[simp] theorem State.stage_training (a : Nat) (v : Option Word) : (s.stage a v).training = s.training := rfl
@[simp] theorem State.stage_alxGroups (a : Nat) (v : Option Word) : (s.stage a v).alxGroups = s.alxGroups := rfl
@[simp] theorem State.stage_psets (a : Nat) (v : Option Word) : (s.stage a v).psets = s.psets := rfl
@[simp] theorem State.stage_sess (a : Nat) (v : Option Word) : (s.stage a v).sess = s.sess := rfl
@[simp] theorem State.stage_sessAreas (a : Nat) (v : Option Word) : (s.stage a v).sessAreas = s.sessAreas := rfl
@[simp] theorem State.stage_frames (a : Nat) (v : Option Word) : (s.stage a v).frames = s.frames := rfl
@[simp] theorem State.stage_digests (a : Nat) (v : Option Word) : (s.stage a v).digests = s.digests := rfl
@[simp] theorem State.stage_keyJobs (a : Nat) (v : Option Word) : (s.stage a v).keyJobs = s.keyJobs := rfl
@[simp] theorem State.stage_binds (a : Nat) (v : Option Word) : (s.stage a v).binds = s.binds := rfl
@[simp] theorem State.stage_closes (a : Nat) (v : Option Word) : (s.stage a v).closes = s.closes := rfl
@[simp] theorem State.stage_seals (a : Nat) (v : Option Word) : (s.stage a v).seals = s.seals := rfl
@[simp] theorem State.stage_keySlots (a : Nat) (v : Option Word) : (s.stage a v).keySlots = s.keySlots := rfl
@[simp] theorem State.stage_pkes (a : Nat) (v : Option Word) : (s.stage a v).pkes = s.pkes := rfl
@[simp] theorem State.stage_fuses (a : Nat) (v : Option Word) : (s.stage a v).fuses = s.fuses := rfl
@[simp] theorem State.stage_secret (a : Nat) (v : Option Word) : (s.stage a v).secret = s.secret := rfl
@[simp] theorem State.stage_fuseJob (a : Nat) (v : Option Word) : (s.stage a v).fuseJob = s.fuseJob := rfl
@[simp] theorem State.stage_idOpen (a : Nat) (v : Option Word) : (s.stage a v).idOpen = s.idOpen := rfl
@[simp] theorem State.stage_entropyBad (a : Nat) (v : Option Word) : (s.stage a v).entropyBad = s.entropyBad := rfl
@[simp] theorem State.stage_alxPending (a : Nat) (v : Option Word) : (s.stage a v).alxPending = s.alxPending := rfl
@[simp] theorem State.stage_alxKeys (a : Nat) (v : Option Word) : (s.stage a v).alxKeys = s.alxKeys := rfl
@[simp] theorem State.stage_gen (a : Nat) (v : Option Word) : (s.stage a v).gen = s.gen := rfl
@[simp] theorem State.stage_cullets (a : Nat) (v : Option Word) : (s.stage a v).cullets = s.cullets := rfl
@[simp] theorem State.stage_replaces (a : Nat) (v : Option Word) : (s.stage a v).replaces = s.replaces := rfl
@[simp] theorem State.stage_galFix (a : Nat) (v : Option Word) : (s.stage a v).galFix = s.galFix := rfl
@[simp] theorem State.stage_expDown (a : Nat) (v : Option Word) : (s.stage a v).expDown = s.expDown := rfl
@[simp] theorem State.stage_gone (a : Nat) (v : Option Word) : (s.stage a v).gone = s.gone := rfl
@[simp] theorem State.stage_bandCmds (a : Nat) (v : Option Word) : (s.stage a v).bandCmds = s.bandCmds := rfl
@[simp] theorem State.stage_lostFrom (a : Nat) (v : Option Word) : (s.stage a v).lostFrom = s.lostFrom := rfl
@[simp] theorem State.stage_pinsOver (a : Nat) (v : Option Word) : (s.stage a v).pinsOver = s.pinsOver := rfl
@[simp] theorem State.stage_btabJobs (a : Nat) (v : Option Word) : (s.stage a v).btabJobs = s.btabJobs := rfl
@[simp] theorem State.stage_seqBad (a : Nat) (v : Option Word) : (s.stage a v).seqBad = s.seqBad := rfl
@[simp] theorem State.stage_power (a : Nat) (v : Option Word) : (s.stage a v).power = s.power := rfl
@[simp] theorem State.stage_starts (a : Nat) (v : Option Word) : (s.stage a v).starts = s.starts := rfl
@[simp] theorem State.stage_bellNum (a : Nat) (v : Option Word) : (s.stage a v).bellNum = s.bellNum := rfl
@[simp] theorem State.stage_reg' (a : Nat) (v : Option Word) (x : Nat) : (s.stage a v).reg x = s.reg x := rfl
@[simp] theorem State.stage_tower' (a : Nat) (v : Option Word) (x : Nat) : (s.stage a v).tower x = s.tower x := rfl
@[simp] theorem State.stage_ring' (a : Nat) (v : Option Word) (x y : Nat) : (s.stage a v).ring x y = s.ring x y := rfl
@[simp] theorem State.stage_runq' (a : Nat) (v : Option Word) (x : Nat) : (s.stage a v).runq x = s.runq x := rfl
@[simp] theorem State.stage_instances' (a : Nat) (v : Option Word) (x y : Nat) : (s.stage a v).instances x y = s.instances x y := rfl
@[simp] theorem State.stage_sem' (a : Nat) (v : Option Word) (x y : Nat) : (s.stage a v).sem x y = s.sem x y := rfl
@[simp] theorem State.stage_desc' (a : Nat) (v : Option Word) (x y : Nat) : (s.stage a v).desc x y = s.desc x y := rfl
@[simp] theorem State.stage_seal' (a : Nat) (v : Option Word) (x y : Nat) : (s.stage a v).seal x y = s.seal x y := rfl
@[simp] theorem State.stage_channel' (a : Nat) (v : Option Word) (x y : Nat) : (s.stage a v).channel x y = s.channel x y := rfl

/-! ### draw -/

@[simp] theorem State.draw_pending : (s.draw).pending = s.pending := rfl
@[simp] theorem State.draw_opened : (s.draw).opened = s.opened := rfl
@[simp] theorem State.draw_ctl : (s.draw).ctl = s.ctl := rfl
@[simp] theorem State.draw_staged : (s.draw).staged = s.staged := rfl
@[simp] theorem State.draw_hbm : (s.draw).hbm = s.hbm := rfl
@[simp] theorem State.draw_gallery : (s.draw).gallery = s.gallery := rfl
@[simp] theorem State.draw_tmem : (s.draw).tmem = s.tmem := rfl
@[simp] theorem State.draw_companion : (s.draw).companion = s.companion := rfl
@[simp] theorem State.draw_flash : (s.draw).flash = s.flash := rfl
@[simp] theorem State.draw_hbmErr : (s.draw).hbmErr = s.hbmErr := rfl
@[simp] theorem State.draw_ramErr : (s.draw).ramErr = s.ramErr := rfl
@[simp] theorem State.draw_pinCounts : (s.draw).pinCounts = s.pinCounts := rfl
@[simp] theorem State.draw_towers : (s.draw).towers = s.towers := rfl
@[simp] theorem State.draw_descs : (s.draw).descs = s.descs := rfl
@[simp] theorem State.draw_sdeCache : (s.draw).sdeCache = s.sdeCache := rfl
@[simp] theorem State.draw_regions : (s.draw).regions = s.regions := rfl
@[simp] theorem State.draw_rings : (s.draw).rings = s.rings := rfl
@[simp] theorem State.draw_runs : (s.draw).runs = s.runs := rfl
@[simp] theorem State.draw_lastRing : (s.draw).lastRing = s.lastRing := rfl
@[simp] theorem State.draw_channels : (s.draw).channels = s.channels := rfl
@[simp] theorem State.draw_btabs : (s.draw).btabs = s.btabs := rfl
@[simp] theorem State.draw_insts : (s.draw).insts = s.insts := rfl
@[simp] theorem State.draw_ended : (s.draw).ended = s.ended := rfl
@[simp] theorem State.draw_sems : (s.draw).sems = s.sems := rfl
@[simp] theorem State.draw_wcb : (s.draw).wcb = s.wcb := rfl
@[simp] theorem State.draw_faultsSpire : (s.draw).faultsSpire = s.faultsSpire := rfl
@[simp] theorem State.draw_faultsKey : (s.draw).faultsKey = s.faultsKey := rfl
@[simp] theorem State.draw_holds : (s.draw).holds = s.holds := rfl
@[simp] theorem State.draw_carStacks : (s.draw).carStacks = s.carStacks := rfl
@[simp] theorem State.draw_carLost : (s.draw).carLost = s.carLost := rfl
@[simp] theorem State.draw_reply : (s.draw).reply = s.reply := rfl
@[simp] theorem State.draw_launches : (s.draw).launches = s.launches := rfl
@[simp] theorem State.draw_imRuns : (s.draw).imRuns = s.imRuns := rfl
@[simp] theorem State.draw_colls : (s.draw).colls = s.colls := rfl
@[simp] theorem State.draw_stops : (s.draw).stops = s.stops := rfl
@[simp] theorem State.draw_galPackets : (s.draw).galPackets = s.galPackets := rfl
@[simp] theorem State.draw_galScrub : (s.draw).galScrub = s.galScrub := rfl
@[simp] theorem State.draw_sent : (s.draw).sent = s.sent := rfl
@[simp] theorem State.draw_replays : (s.draw).replays = s.replays := rfl
@[simp] theorem State.draw_training : (s.draw).training = s.training := rfl
@[simp] theorem State.draw_alxGroups : (s.draw).alxGroups = s.alxGroups := rfl
@[simp] theorem State.draw_psets : (s.draw).psets = s.psets := rfl
@[simp] theorem State.draw_sess : (s.draw).sess = s.sess := rfl
@[simp] theorem State.draw_sessAreas : (s.draw).sessAreas = s.sessAreas := rfl
@[simp] theorem State.draw_frames : (s.draw).frames = s.frames := rfl
@[simp] theorem State.draw_digests : (s.draw).digests = s.digests := rfl
@[simp] theorem State.draw_keyJobs : (s.draw).keyJobs = s.keyJobs := rfl
@[simp] theorem State.draw_binds : (s.draw).binds = s.binds := rfl
@[simp] theorem State.draw_closes : (s.draw).closes = s.closes := rfl
@[simp] theorem State.draw_seals : (s.draw).seals = s.seals := rfl
@[simp] theorem State.draw_keySlots : (s.draw).keySlots = s.keySlots := rfl
@[simp] theorem State.draw_pkes : (s.draw).pkes = s.pkes := rfl
@[simp] theorem State.draw_fuses : (s.draw).fuses = s.fuses := rfl
@[simp] theorem State.draw_secret : (s.draw).secret = s.secret := rfl
@[simp] theorem State.draw_fuseJob : (s.draw).fuseJob = s.fuseJob := rfl
@[simp] theorem State.draw_idOpen : (s.draw).idOpen = s.idOpen := rfl
@[simp] theorem State.draw_entropyBad : (s.draw).entropyBad = s.entropyBad := rfl
@[simp] theorem State.draw_alxPending : (s.draw).alxPending = s.alxPending := rfl
@[simp] theorem State.draw_alxKeys : (s.draw).alxKeys = s.alxKeys := rfl
@[simp] theorem State.draw_gen : (s.draw).gen = s.gen := rfl
@[simp] theorem State.draw_cullets : (s.draw).cullets = s.cullets := rfl
@[simp] theorem State.draw_replaces : (s.draw).replaces = s.replaces := rfl
@[simp] theorem State.draw_galFix : (s.draw).galFix = s.galFix := rfl
@[simp] theorem State.draw_expDown : (s.draw).expDown = s.expDown := rfl
@[simp] theorem State.draw_gone : (s.draw).gone = s.gone := rfl
@[simp] theorem State.draw_bandCmds : (s.draw).bandCmds = s.bandCmds := rfl
@[simp] theorem State.draw_lostFrom : (s.draw).lostFrom = s.lostFrom := rfl
@[simp] theorem State.draw_pinsOver : (s.draw).pinsOver = s.pinsOver := rfl
@[simp] theorem State.draw_btabJobs : (s.draw).btabJobs = s.btabJobs := rfl
@[simp] theorem State.draw_seqBad : (s.draw).seqBad = s.seqBad := rfl
@[simp] theorem State.draw_power : (s.draw).power = s.power := rfl
@[simp] theorem State.draw_starts : (s.draw).starts = s.starts := rfl
@[simp] theorem State.draw_bellNum : (s.draw).bellNum = s.bellNum := rfl
@[simp] theorem State.draw_reg' (x : Nat) : (s.draw).reg x = s.reg x := rfl
@[simp] theorem State.draw_stagedReg' (x : Nat) : (s.draw).stagedReg x = s.stagedReg x := rfl
@[simp] theorem State.draw_tower' (x : Nat) : (s.draw).tower x = s.tower x := rfl
@[simp] theorem State.draw_ring' (x y : Nat) : (s.draw).ring x y = s.ring x y := rfl
@[simp] theorem State.draw_runq' (x : Nat) : (s.draw).runq x = s.runq x := rfl
@[simp] theorem State.draw_instances' (x y : Nat) : (s.draw).instances x y = s.instances x y := rfl
@[simp] theorem State.draw_sem' (x y : Nat) : (s.draw).sem x y = s.sem x y := rfl
@[simp] theorem State.draw_desc' (x y : Nat) : (s.draw).desc x y = s.desc x y := rfl
@[simp] theorem State.draw_seal' (x y : Nat) : (s.draw).seal x y = s.seal x y := rfl
@[simp] theorem State.draw_channel' (x y : Nat) : (s.draw).channel x y = s.channel x y := rfl

/-! ### setTower -/

@[simp] theorem State.setTower_pending (g : Nat) (u : Tower) : (s.setTower g u).pending = s.pending := rfl
@[simp] theorem State.setTower_free (g : Nat) (u : Tower) : (s.setTower g u).free = s.free := rfl
@[simp] theorem State.setTower_opened (g : Nat) (u : Tower) : (s.setTower g u).opened = s.opened := rfl
@[simp] theorem State.setTower_ctl (g : Nat) (u : Tower) : (s.setTower g u).ctl = s.ctl := rfl
@[simp] theorem State.setTower_staged (g : Nat) (u : Tower) : (s.setTower g u).staged = s.staged := rfl
@[simp] theorem State.setTower_hbm (g : Nat) (u : Tower) : (s.setTower g u).hbm = s.hbm := rfl
@[simp] theorem State.setTower_gallery (g : Nat) (u : Tower) : (s.setTower g u).gallery = s.gallery := rfl
@[simp] theorem State.setTower_tmem (g : Nat) (u : Tower) : (s.setTower g u).tmem = s.tmem := rfl
@[simp] theorem State.setTower_companion (g : Nat) (u : Tower) : (s.setTower g u).companion = s.companion := rfl
@[simp] theorem State.setTower_flash (g : Nat) (u : Tower) : (s.setTower g u).flash = s.flash := rfl
@[simp] theorem State.setTower_hbmErr (g : Nat) (u : Tower) : (s.setTower g u).hbmErr = s.hbmErr := rfl
@[simp] theorem State.setTower_ramErr (g : Nat) (u : Tower) : (s.setTower g u).ramErr = s.ramErr := rfl
@[simp] theorem State.setTower_pinCounts (g : Nat) (u : Tower) : (s.setTower g u).pinCounts = s.pinCounts := rfl
@[simp] theorem State.setTower_descs (g : Nat) (u : Tower) : (s.setTower g u).descs = s.descs := rfl
@[simp] theorem State.setTower_sdeCache (g : Nat) (u : Tower) : (s.setTower g u).sdeCache = s.sdeCache := rfl
@[simp] theorem State.setTower_regions (g : Nat) (u : Tower) : (s.setTower g u).regions = s.regions := rfl
@[simp] theorem State.setTower_rings (g : Nat) (u : Tower) : (s.setTower g u).rings = s.rings := rfl
@[simp] theorem State.setTower_runs (g : Nat) (u : Tower) : (s.setTower g u).runs = s.runs := rfl
@[simp] theorem State.setTower_lastRing (g : Nat) (u : Tower) : (s.setTower g u).lastRing = s.lastRing := rfl
@[simp] theorem State.setTower_channels (g : Nat) (u : Tower) : (s.setTower g u).channels = s.channels := rfl
@[simp] theorem State.setTower_btabs (g : Nat) (u : Tower) : (s.setTower g u).btabs = s.btabs := rfl
@[simp] theorem State.setTower_insts (g : Nat) (u : Tower) : (s.setTower g u).insts = s.insts := rfl
@[simp] theorem State.setTower_ended (g : Nat) (u : Tower) : (s.setTower g u).ended = s.ended := rfl
@[simp] theorem State.setTower_sems (g : Nat) (u : Tower) : (s.setTower g u).sems = s.sems := rfl
@[simp] theorem State.setTower_wcb (g : Nat) (u : Tower) : (s.setTower g u).wcb = s.wcb := rfl
@[simp] theorem State.setTower_faultsSpire (g : Nat) (u : Tower) : (s.setTower g u).faultsSpire = s.faultsSpire := rfl
@[simp] theorem State.setTower_faultsKey (g : Nat) (u : Tower) : (s.setTower g u).faultsKey = s.faultsKey := rfl
@[simp] theorem State.setTower_holds (g : Nat) (u : Tower) : (s.setTower g u).holds = s.holds := rfl
@[simp] theorem State.setTower_carStacks (g : Nat) (u : Tower) : (s.setTower g u).carStacks = s.carStacks := rfl
@[simp] theorem State.setTower_carLost (g : Nat) (u : Tower) : (s.setTower g u).carLost = s.carLost := rfl
@[simp] theorem State.setTower_reply (g : Nat) (u : Tower) : (s.setTower g u).reply = s.reply := rfl
@[simp] theorem State.setTower_launches (g : Nat) (u : Tower) : (s.setTower g u).launches = s.launches := rfl
@[simp] theorem State.setTower_imRuns (g : Nat) (u : Tower) : (s.setTower g u).imRuns = s.imRuns := rfl
@[simp] theorem State.setTower_colls (g : Nat) (u : Tower) : (s.setTower g u).colls = s.colls := rfl
@[simp] theorem State.setTower_stops (g : Nat) (u : Tower) : (s.setTower g u).stops = s.stops := rfl
@[simp] theorem State.setTower_galPackets (g : Nat) (u : Tower) : (s.setTower g u).galPackets = s.galPackets := rfl
@[simp] theorem State.setTower_galScrub (g : Nat) (u : Tower) : (s.setTower g u).galScrub = s.galScrub := rfl
@[simp] theorem State.setTower_sent (g : Nat) (u : Tower) : (s.setTower g u).sent = s.sent := rfl
@[simp] theorem State.setTower_replays (g : Nat) (u : Tower) : (s.setTower g u).replays = s.replays := rfl
@[simp] theorem State.setTower_training (g : Nat) (u : Tower) : (s.setTower g u).training = s.training := rfl
@[simp] theorem State.setTower_alxGroups (g : Nat) (u : Tower) : (s.setTower g u).alxGroups = s.alxGroups := rfl
@[simp] theorem State.setTower_psets (g : Nat) (u : Tower) : (s.setTower g u).psets = s.psets := rfl
@[simp] theorem State.setTower_sess (g : Nat) (u : Tower) : (s.setTower g u).sess = s.sess := rfl
@[simp] theorem State.setTower_sessAreas (g : Nat) (u : Tower) : (s.setTower g u).sessAreas = s.sessAreas := rfl
@[simp] theorem State.setTower_frames (g : Nat) (u : Tower) : (s.setTower g u).frames = s.frames := rfl
@[simp] theorem State.setTower_digests (g : Nat) (u : Tower) : (s.setTower g u).digests = s.digests := rfl
@[simp] theorem State.setTower_keyJobs (g : Nat) (u : Tower) : (s.setTower g u).keyJobs = s.keyJobs := rfl
@[simp] theorem State.setTower_binds (g : Nat) (u : Tower) : (s.setTower g u).binds = s.binds := rfl
@[simp] theorem State.setTower_closes (g : Nat) (u : Tower) : (s.setTower g u).closes = s.closes := rfl
@[simp] theorem State.setTower_seals (g : Nat) (u : Tower) : (s.setTower g u).seals = s.seals := rfl
@[simp] theorem State.setTower_keySlots (g : Nat) (u : Tower) : (s.setTower g u).keySlots = s.keySlots := rfl
@[simp] theorem State.setTower_pkes (g : Nat) (u : Tower) : (s.setTower g u).pkes = s.pkes := rfl
@[simp] theorem State.setTower_fuses (g : Nat) (u : Tower) : (s.setTower g u).fuses = s.fuses := rfl
@[simp] theorem State.setTower_secret (g : Nat) (u : Tower) : (s.setTower g u).secret = s.secret := rfl
@[simp] theorem State.setTower_fuseJob (g : Nat) (u : Tower) : (s.setTower g u).fuseJob = s.fuseJob := rfl
@[simp] theorem State.setTower_idOpen (g : Nat) (u : Tower) : (s.setTower g u).idOpen = s.idOpen := rfl
@[simp] theorem State.setTower_entropyBad (g : Nat) (u : Tower) : (s.setTower g u).entropyBad = s.entropyBad := rfl
@[simp] theorem State.setTower_alxPending (g : Nat) (u : Tower) : (s.setTower g u).alxPending = s.alxPending := rfl
@[simp] theorem State.setTower_alxKeys (g : Nat) (u : Tower) : (s.setTower g u).alxKeys = s.alxKeys := rfl
@[simp] theorem State.setTower_gen (g : Nat) (u : Tower) : (s.setTower g u).gen = s.gen := rfl
@[simp] theorem State.setTower_cullets (g : Nat) (u : Tower) : (s.setTower g u).cullets = s.cullets := rfl
@[simp] theorem State.setTower_replaces (g : Nat) (u : Tower) : (s.setTower g u).replaces = s.replaces := rfl
@[simp] theorem State.setTower_galFix (g : Nat) (u : Tower) : (s.setTower g u).galFix = s.galFix := rfl
@[simp] theorem State.setTower_expDown (g : Nat) (u : Tower) : (s.setTower g u).expDown = s.expDown := rfl
@[simp] theorem State.setTower_gone (g : Nat) (u : Tower) : (s.setTower g u).gone = s.gone := rfl
@[simp] theorem State.setTower_bandCmds (g : Nat) (u : Tower) : (s.setTower g u).bandCmds = s.bandCmds := rfl
@[simp] theorem State.setTower_lostFrom (g : Nat) (u : Tower) : (s.setTower g u).lostFrom = s.lostFrom := rfl
@[simp] theorem State.setTower_pinsOver (g : Nat) (u : Tower) : (s.setTower g u).pinsOver = s.pinsOver := rfl
@[simp] theorem State.setTower_btabJobs (g : Nat) (u : Tower) : (s.setTower g u).btabJobs = s.btabJobs := rfl
@[simp] theorem State.setTower_seqBad (g : Nat) (u : Tower) : (s.setTower g u).seqBad = s.seqBad := rfl
@[simp] theorem State.setTower_power (g : Nat) (u : Tower) : (s.setTower g u).power = s.power := rfl
@[simp] theorem State.setTower_starts (g : Nat) (u : Tower) : (s.setTower g u).starts = s.starts := rfl
@[simp] theorem State.setTower_bellNum (g : Nat) (u : Tower) : (s.setTower g u).bellNum = s.bellNum := rfl
@[simp] theorem State.setTower_reg' (g : Nat) (u : Tower) (x : Nat) : (s.setTower g u).reg x = s.reg x := rfl
@[simp] theorem State.setTower_stagedReg' (g : Nat) (u : Tower) (x : Nat) : (s.setTower g u).stagedReg x = s.stagedReg x := rfl
@[simp] theorem State.setTower_ring' (g : Nat) (u : Tower) (x y : Nat) : (s.setTower g u).ring x y = s.ring x y := rfl
@[simp] theorem State.setTower_runq' (g : Nat) (u : Tower) (x : Nat) : (s.setTower g u).runq x = s.runq x := rfl
@[simp] theorem State.setTower_instances' (g : Nat) (u : Tower) (x y : Nat) : (s.setTower g u).instances x y = s.instances x y := rfl
@[simp] theorem State.setTower_sem' (g : Nat) (u : Tower) (x y : Nat) : (s.setTower g u).sem x y = s.sem x y := rfl
@[simp] theorem State.setTower_desc' (g : Nat) (u : Tower) (x y : Nat) : (s.setTower g u).desc x y = s.desc x y := rfl
@[simp] theorem State.setTower_seal' (g : Nat) (u : Tower) (x y : Nat) : (s.setTower g u).seal x y = s.seal x y := rfl
@[simp] theorem State.setTower_channel' (g : Nat) (u : Tower) (x y : Nat) : (s.setTower g u).channel x y = s.channel x y := rfl

/-! ### setRing -/

@[simp] theorem State.setRing_pending (sp r : Nat) (q : Ring) : (s.setRing sp r q).pending = s.pending := rfl
@[simp] theorem State.setRing_free (sp r : Nat) (q : Ring) : (s.setRing sp r q).free = s.free := rfl
@[simp] theorem State.setRing_opened (sp r : Nat) (q : Ring) : (s.setRing sp r q).opened = s.opened := rfl
@[simp] theorem State.setRing_ctl (sp r : Nat) (q : Ring) : (s.setRing sp r q).ctl = s.ctl := rfl
@[simp] theorem State.setRing_staged (sp r : Nat) (q : Ring) : (s.setRing sp r q).staged = s.staged := rfl
@[simp] theorem State.setRing_hbm (sp r : Nat) (q : Ring) : (s.setRing sp r q).hbm = s.hbm := rfl
@[simp] theorem State.setRing_gallery (sp r : Nat) (q : Ring) : (s.setRing sp r q).gallery = s.gallery := rfl
@[simp] theorem State.setRing_tmem (sp r : Nat) (q : Ring) : (s.setRing sp r q).tmem = s.tmem := rfl
@[simp] theorem State.setRing_companion (sp r : Nat) (q : Ring) : (s.setRing sp r q).companion = s.companion := rfl
@[simp] theorem State.setRing_flash (sp r : Nat) (q : Ring) : (s.setRing sp r q).flash = s.flash := rfl
@[simp] theorem State.setRing_hbmErr (sp r : Nat) (q : Ring) : (s.setRing sp r q).hbmErr = s.hbmErr := rfl
@[simp] theorem State.setRing_ramErr (sp r : Nat) (q : Ring) : (s.setRing sp r q).ramErr = s.ramErr := rfl
@[simp] theorem State.setRing_pinCounts (sp r : Nat) (q : Ring) : (s.setRing sp r q).pinCounts = s.pinCounts := rfl
@[simp] theorem State.setRing_towers (sp r : Nat) (q : Ring) : (s.setRing sp r q).towers = s.towers := rfl
@[simp] theorem State.setRing_descs (sp r : Nat) (q : Ring) : (s.setRing sp r q).descs = s.descs := rfl
@[simp] theorem State.setRing_sdeCache (sp r : Nat) (q : Ring) : (s.setRing sp r q).sdeCache = s.sdeCache := rfl
@[simp] theorem State.setRing_regions (sp r : Nat) (q : Ring) : (s.setRing sp r q).regions = s.regions := rfl
@[simp] theorem State.setRing_runs (sp r : Nat) (q : Ring) : (s.setRing sp r q).runs = s.runs := rfl
@[simp] theorem State.setRing_lastRing (sp r : Nat) (q : Ring) : (s.setRing sp r q).lastRing = s.lastRing := rfl
@[simp] theorem State.setRing_channels (sp r : Nat) (q : Ring) : (s.setRing sp r q).channels = s.channels := rfl
@[simp] theorem State.setRing_btabs (sp r : Nat) (q : Ring) : (s.setRing sp r q).btabs = s.btabs := rfl
@[simp] theorem State.setRing_insts (sp r : Nat) (q : Ring) : (s.setRing sp r q).insts = s.insts := rfl
@[simp] theorem State.setRing_ended (sp r : Nat) (q : Ring) : (s.setRing sp r q).ended = s.ended := rfl
@[simp] theorem State.setRing_sems (sp r : Nat) (q : Ring) : (s.setRing sp r q).sems = s.sems := rfl
@[simp] theorem State.setRing_wcb (sp r : Nat) (q : Ring) : (s.setRing sp r q).wcb = s.wcb := rfl
@[simp] theorem State.setRing_faultsSpire (sp r : Nat) (q : Ring) : (s.setRing sp r q).faultsSpire = s.faultsSpire := rfl
@[simp] theorem State.setRing_faultsKey (sp r : Nat) (q : Ring) : (s.setRing sp r q).faultsKey = s.faultsKey := rfl
@[simp] theorem State.setRing_holds (sp r : Nat) (q : Ring) : (s.setRing sp r q).holds = s.holds := rfl
@[simp] theorem State.setRing_carStacks (sp r : Nat) (q : Ring) : (s.setRing sp r q).carStacks = s.carStacks := rfl
@[simp] theorem State.setRing_carLost (sp r : Nat) (q : Ring) : (s.setRing sp r q).carLost = s.carLost := rfl
@[simp] theorem State.setRing_reply (sp r : Nat) (q : Ring) : (s.setRing sp r q).reply = s.reply := rfl
@[simp] theorem State.setRing_launches (sp r : Nat) (q : Ring) : (s.setRing sp r q).launches = s.launches := rfl
@[simp] theorem State.setRing_imRuns (sp r : Nat) (q : Ring) : (s.setRing sp r q).imRuns = s.imRuns := rfl
@[simp] theorem State.setRing_colls (sp r : Nat) (q : Ring) : (s.setRing sp r q).colls = s.colls := rfl
@[simp] theorem State.setRing_stops (sp r : Nat) (q : Ring) : (s.setRing sp r q).stops = s.stops := rfl
@[simp] theorem State.setRing_galPackets (sp r : Nat) (q : Ring) : (s.setRing sp r q).galPackets = s.galPackets := rfl
@[simp] theorem State.setRing_galScrub (sp r : Nat) (q : Ring) : (s.setRing sp r q).galScrub = s.galScrub := rfl
@[simp] theorem State.setRing_sent (sp r : Nat) (q : Ring) : (s.setRing sp r q).sent = s.sent := rfl
@[simp] theorem State.setRing_replays (sp r : Nat) (q : Ring) : (s.setRing sp r q).replays = s.replays := rfl
@[simp] theorem State.setRing_training (sp r : Nat) (q : Ring) : (s.setRing sp r q).training = s.training := rfl
@[simp] theorem State.setRing_alxGroups (sp r : Nat) (q : Ring) : (s.setRing sp r q).alxGroups = s.alxGroups := rfl
@[simp] theorem State.setRing_psets (sp r : Nat) (q : Ring) : (s.setRing sp r q).psets = s.psets := rfl
@[simp] theorem State.setRing_sess (sp r : Nat) (q : Ring) : (s.setRing sp r q).sess = s.sess := rfl
@[simp] theorem State.setRing_sessAreas (sp r : Nat) (q : Ring) : (s.setRing sp r q).sessAreas = s.sessAreas := rfl
@[simp] theorem State.setRing_frames (sp r : Nat) (q : Ring) : (s.setRing sp r q).frames = s.frames := rfl
@[simp] theorem State.setRing_digests (sp r : Nat) (q : Ring) : (s.setRing sp r q).digests = s.digests := rfl
@[simp] theorem State.setRing_keyJobs (sp r : Nat) (q : Ring) : (s.setRing sp r q).keyJobs = s.keyJobs := rfl
@[simp] theorem State.setRing_binds (sp r : Nat) (q : Ring) : (s.setRing sp r q).binds = s.binds := rfl
@[simp] theorem State.setRing_closes (sp r : Nat) (q : Ring) : (s.setRing sp r q).closes = s.closes := rfl
@[simp] theorem State.setRing_seals (sp r : Nat) (q : Ring) : (s.setRing sp r q).seals = s.seals := rfl
@[simp] theorem State.setRing_keySlots (sp r : Nat) (q : Ring) : (s.setRing sp r q).keySlots = s.keySlots := rfl
@[simp] theorem State.setRing_pkes (sp r : Nat) (q : Ring) : (s.setRing sp r q).pkes = s.pkes := rfl
@[simp] theorem State.setRing_fuses (sp r : Nat) (q : Ring) : (s.setRing sp r q).fuses = s.fuses := rfl
@[simp] theorem State.setRing_secret (sp r : Nat) (q : Ring) : (s.setRing sp r q).secret = s.secret := rfl
@[simp] theorem State.setRing_fuseJob (sp r : Nat) (q : Ring) : (s.setRing sp r q).fuseJob = s.fuseJob := rfl
@[simp] theorem State.setRing_idOpen (sp r : Nat) (q : Ring) : (s.setRing sp r q).idOpen = s.idOpen := rfl
@[simp] theorem State.setRing_entropyBad (sp r : Nat) (q : Ring) : (s.setRing sp r q).entropyBad = s.entropyBad := rfl
@[simp] theorem State.setRing_alxPending (sp r : Nat) (q : Ring) : (s.setRing sp r q).alxPending = s.alxPending := rfl
@[simp] theorem State.setRing_alxKeys (sp r : Nat) (q : Ring) : (s.setRing sp r q).alxKeys = s.alxKeys := rfl
@[simp] theorem State.setRing_gen (sp r : Nat) (q : Ring) : (s.setRing sp r q).gen = s.gen := rfl
@[simp] theorem State.setRing_cullets (sp r : Nat) (q : Ring) : (s.setRing sp r q).cullets = s.cullets := rfl
@[simp] theorem State.setRing_replaces (sp r : Nat) (q : Ring) : (s.setRing sp r q).replaces = s.replaces := rfl
@[simp] theorem State.setRing_galFix (sp r : Nat) (q : Ring) : (s.setRing sp r q).galFix = s.galFix := rfl
@[simp] theorem State.setRing_expDown (sp r : Nat) (q : Ring) : (s.setRing sp r q).expDown = s.expDown := rfl
@[simp] theorem State.setRing_gone (sp r : Nat) (q : Ring) : (s.setRing sp r q).gone = s.gone := rfl
@[simp] theorem State.setRing_bandCmds (sp r : Nat) (q : Ring) : (s.setRing sp r q).bandCmds = s.bandCmds := rfl
@[simp] theorem State.setRing_lostFrom (sp r : Nat) (q : Ring) : (s.setRing sp r q).lostFrom = s.lostFrom := rfl
@[simp] theorem State.setRing_pinsOver (sp r : Nat) (q : Ring) : (s.setRing sp r q).pinsOver = s.pinsOver := rfl
@[simp] theorem State.setRing_btabJobs (sp r : Nat) (q : Ring) : (s.setRing sp r q).btabJobs = s.btabJobs := rfl
@[simp] theorem State.setRing_seqBad (sp r : Nat) (q : Ring) : (s.setRing sp r q).seqBad = s.seqBad := rfl
@[simp] theorem State.setRing_power (sp r : Nat) (q : Ring) : (s.setRing sp r q).power = s.power := rfl
@[simp] theorem State.setRing_starts (sp r : Nat) (q : Ring) : (s.setRing sp r q).starts = s.starts := rfl
@[simp] theorem State.setRing_bellNum (sp r : Nat) (q : Ring) : (s.setRing sp r q).bellNum = s.bellNum := rfl
@[simp] theorem State.setRing_reg' (sp r : Nat) (q : Ring) (x : Nat) : (s.setRing sp r q).reg x = s.reg x := rfl
@[simp] theorem State.setRing_stagedReg' (sp r : Nat) (q : Ring) (x : Nat) : (s.setRing sp r q).stagedReg x = s.stagedReg x := rfl
@[simp] theorem State.setRing_tower' (sp r : Nat) (q : Ring) (x : Nat) : (s.setRing sp r q).tower x = s.tower x := rfl
@[simp] theorem State.setRing_runq' (sp r : Nat) (q : Ring) (x : Nat) : (s.setRing sp r q).runq x = s.runq x := rfl
@[simp] theorem State.setRing_instances' (sp r : Nat) (q : Ring) (x y : Nat) : (s.setRing sp r q).instances x y = s.instances x y := rfl
@[simp] theorem State.setRing_sem' (sp r : Nat) (q : Ring) (x y : Nat) : (s.setRing sp r q).sem x y = s.sem x y := rfl
@[simp] theorem State.setRing_desc' (sp r : Nat) (q : Ring) (x y : Nat) : (s.setRing sp r q).desc x y = s.desc x y := rfl
@[simp] theorem State.setRing_seal' (sp r : Nat) (q : Ring) (x y : Nat) : (s.setRing sp r q).seal x y = s.seal x y := rfl
@[simp] theorem State.setRing_channel' (sp r : Nat) (q : Ring) (x y : Nat) : (s.setRing sp r q).channel x y = s.channel x y := rfl

/-! ### setRunq -/

@[simp] theorem State.setRunq_pending (k : Nat) (q : RunQ) : (s.setRunq k q).pending = s.pending := rfl
@[simp] theorem State.setRunq_free (k : Nat) (q : RunQ) : (s.setRunq k q).free = s.free := rfl
@[simp] theorem State.setRunq_opened (k : Nat) (q : RunQ) : (s.setRunq k q).opened = s.opened := rfl
@[simp] theorem State.setRunq_ctl (k : Nat) (q : RunQ) : (s.setRunq k q).ctl = s.ctl := rfl
@[simp] theorem State.setRunq_staged (k : Nat) (q : RunQ) : (s.setRunq k q).staged = s.staged := rfl
@[simp] theorem State.setRunq_hbm (k : Nat) (q : RunQ) : (s.setRunq k q).hbm = s.hbm := rfl
@[simp] theorem State.setRunq_gallery (k : Nat) (q : RunQ) : (s.setRunq k q).gallery = s.gallery := rfl
@[simp] theorem State.setRunq_tmem (k : Nat) (q : RunQ) : (s.setRunq k q).tmem = s.tmem := rfl
@[simp] theorem State.setRunq_companion (k : Nat) (q : RunQ) : (s.setRunq k q).companion = s.companion := rfl
@[simp] theorem State.setRunq_flash (k : Nat) (q : RunQ) : (s.setRunq k q).flash = s.flash := rfl
@[simp] theorem State.setRunq_hbmErr (k : Nat) (q : RunQ) : (s.setRunq k q).hbmErr = s.hbmErr := rfl
@[simp] theorem State.setRunq_ramErr (k : Nat) (q : RunQ) : (s.setRunq k q).ramErr = s.ramErr := rfl
@[simp] theorem State.setRunq_pinCounts (k : Nat) (q : RunQ) : (s.setRunq k q).pinCounts = s.pinCounts := rfl
@[simp] theorem State.setRunq_towers (k : Nat) (q : RunQ) : (s.setRunq k q).towers = s.towers := rfl
@[simp] theorem State.setRunq_descs (k : Nat) (q : RunQ) : (s.setRunq k q).descs = s.descs := rfl
@[simp] theorem State.setRunq_sdeCache (k : Nat) (q : RunQ) : (s.setRunq k q).sdeCache = s.sdeCache := rfl
@[simp] theorem State.setRunq_regions (k : Nat) (q : RunQ) : (s.setRunq k q).regions = s.regions := rfl
@[simp] theorem State.setRunq_rings (k : Nat) (q : RunQ) : (s.setRunq k q).rings = s.rings := rfl
@[simp] theorem State.setRunq_lastRing (k : Nat) (q : RunQ) : (s.setRunq k q).lastRing = s.lastRing := rfl
@[simp] theorem State.setRunq_channels (k : Nat) (q : RunQ) : (s.setRunq k q).channels = s.channels := rfl
@[simp] theorem State.setRunq_btabs (k : Nat) (q : RunQ) : (s.setRunq k q).btabs = s.btabs := rfl
@[simp] theorem State.setRunq_insts (k : Nat) (q : RunQ) : (s.setRunq k q).insts = s.insts := rfl
@[simp] theorem State.setRunq_ended (k : Nat) (q : RunQ) : (s.setRunq k q).ended = s.ended := rfl
@[simp] theorem State.setRunq_sems (k : Nat) (q : RunQ) : (s.setRunq k q).sems = s.sems := rfl
@[simp] theorem State.setRunq_wcb (k : Nat) (q : RunQ) : (s.setRunq k q).wcb = s.wcb := rfl
@[simp] theorem State.setRunq_faultsSpire (k : Nat) (q : RunQ) : (s.setRunq k q).faultsSpire = s.faultsSpire := rfl
@[simp] theorem State.setRunq_faultsKey (k : Nat) (q : RunQ) : (s.setRunq k q).faultsKey = s.faultsKey := rfl
@[simp] theorem State.setRunq_holds (k : Nat) (q : RunQ) : (s.setRunq k q).holds = s.holds := rfl
@[simp] theorem State.setRunq_carStacks (k : Nat) (q : RunQ) : (s.setRunq k q).carStacks = s.carStacks := rfl
@[simp] theorem State.setRunq_carLost (k : Nat) (q : RunQ) : (s.setRunq k q).carLost = s.carLost := rfl
@[simp] theorem State.setRunq_reply (k : Nat) (q : RunQ) : (s.setRunq k q).reply = s.reply := rfl
@[simp] theorem State.setRunq_launches (k : Nat) (q : RunQ) : (s.setRunq k q).launches = s.launches := rfl
@[simp] theorem State.setRunq_imRuns (k : Nat) (q : RunQ) : (s.setRunq k q).imRuns = s.imRuns := rfl
@[simp] theorem State.setRunq_colls (k : Nat) (q : RunQ) : (s.setRunq k q).colls = s.colls := rfl
@[simp] theorem State.setRunq_stops (k : Nat) (q : RunQ) : (s.setRunq k q).stops = s.stops := rfl
@[simp] theorem State.setRunq_galPackets (k : Nat) (q : RunQ) : (s.setRunq k q).galPackets = s.galPackets := rfl
@[simp] theorem State.setRunq_galScrub (k : Nat) (q : RunQ) : (s.setRunq k q).galScrub = s.galScrub := rfl
@[simp] theorem State.setRunq_sent (k : Nat) (q : RunQ) : (s.setRunq k q).sent = s.sent := rfl
@[simp] theorem State.setRunq_replays (k : Nat) (q : RunQ) : (s.setRunq k q).replays = s.replays := rfl
@[simp] theorem State.setRunq_training (k : Nat) (q : RunQ) : (s.setRunq k q).training = s.training := rfl
@[simp] theorem State.setRunq_alxGroups (k : Nat) (q : RunQ) : (s.setRunq k q).alxGroups = s.alxGroups := rfl
@[simp] theorem State.setRunq_psets (k : Nat) (q : RunQ) : (s.setRunq k q).psets = s.psets := rfl
@[simp] theorem State.setRunq_sess (k : Nat) (q : RunQ) : (s.setRunq k q).sess = s.sess := rfl
@[simp] theorem State.setRunq_sessAreas (k : Nat) (q : RunQ) : (s.setRunq k q).sessAreas = s.sessAreas := rfl
@[simp] theorem State.setRunq_frames (k : Nat) (q : RunQ) : (s.setRunq k q).frames = s.frames := rfl
@[simp] theorem State.setRunq_digests (k : Nat) (q : RunQ) : (s.setRunq k q).digests = s.digests := rfl
@[simp] theorem State.setRunq_keyJobs (k : Nat) (q : RunQ) : (s.setRunq k q).keyJobs = s.keyJobs := rfl
@[simp] theorem State.setRunq_binds (k : Nat) (q : RunQ) : (s.setRunq k q).binds = s.binds := rfl
@[simp] theorem State.setRunq_closes (k : Nat) (q : RunQ) : (s.setRunq k q).closes = s.closes := rfl
@[simp] theorem State.setRunq_seals (k : Nat) (q : RunQ) : (s.setRunq k q).seals = s.seals := rfl
@[simp] theorem State.setRunq_keySlots (k : Nat) (q : RunQ) : (s.setRunq k q).keySlots = s.keySlots := rfl
@[simp] theorem State.setRunq_pkes (k : Nat) (q : RunQ) : (s.setRunq k q).pkes = s.pkes := rfl
@[simp] theorem State.setRunq_fuses (k : Nat) (q : RunQ) : (s.setRunq k q).fuses = s.fuses := rfl
@[simp] theorem State.setRunq_secret (k : Nat) (q : RunQ) : (s.setRunq k q).secret = s.secret := rfl
@[simp] theorem State.setRunq_fuseJob (k : Nat) (q : RunQ) : (s.setRunq k q).fuseJob = s.fuseJob := rfl
@[simp] theorem State.setRunq_idOpen (k : Nat) (q : RunQ) : (s.setRunq k q).idOpen = s.idOpen := rfl
@[simp] theorem State.setRunq_entropyBad (k : Nat) (q : RunQ) : (s.setRunq k q).entropyBad = s.entropyBad := rfl
@[simp] theorem State.setRunq_alxPending (k : Nat) (q : RunQ) : (s.setRunq k q).alxPending = s.alxPending := rfl
@[simp] theorem State.setRunq_alxKeys (k : Nat) (q : RunQ) : (s.setRunq k q).alxKeys = s.alxKeys := rfl
@[simp] theorem State.setRunq_gen (k : Nat) (q : RunQ) : (s.setRunq k q).gen = s.gen := rfl
@[simp] theorem State.setRunq_cullets (k : Nat) (q : RunQ) : (s.setRunq k q).cullets = s.cullets := rfl
@[simp] theorem State.setRunq_replaces (k : Nat) (q : RunQ) : (s.setRunq k q).replaces = s.replaces := rfl
@[simp] theorem State.setRunq_galFix (k : Nat) (q : RunQ) : (s.setRunq k q).galFix = s.galFix := rfl
@[simp] theorem State.setRunq_expDown (k : Nat) (q : RunQ) : (s.setRunq k q).expDown = s.expDown := rfl
@[simp] theorem State.setRunq_gone (k : Nat) (q : RunQ) : (s.setRunq k q).gone = s.gone := rfl
@[simp] theorem State.setRunq_bandCmds (k : Nat) (q : RunQ) : (s.setRunq k q).bandCmds = s.bandCmds := rfl
@[simp] theorem State.setRunq_lostFrom (k : Nat) (q : RunQ) : (s.setRunq k q).lostFrom = s.lostFrom := rfl
@[simp] theorem State.setRunq_pinsOver (k : Nat) (q : RunQ) : (s.setRunq k q).pinsOver = s.pinsOver := rfl
@[simp] theorem State.setRunq_btabJobs (k : Nat) (q : RunQ) : (s.setRunq k q).btabJobs = s.btabJobs := rfl
@[simp] theorem State.setRunq_seqBad (k : Nat) (q : RunQ) : (s.setRunq k q).seqBad = s.seqBad := rfl
@[simp] theorem State.setRunq_power (k : Nat) (q : RunQ) : (s.setRunq k q).power = s.power := rfl
@[simp] theorem State.setRunq_starts (k : Nat) (q : RunQ) : (s.setRunq k q).starts = s.starts := rfl
@[simp] theorem State.setRunq_bellNum (k : Nat) (q : RunQ) : (s.setRunq k q).bellNum = s.bellNum := rfl
@[simp] theorem State.setRunq_reg' (k : Nat) (q : RunQ) (x : Nat) : (s.setRunq k q).reg x = s.reg x := rfl
@[simp] theorem State.setRunq_stagedReg' (k : Nat) (q : RunQ) (x : Nat) : (s.setRunq k q).stagedReg x = s.stagedReg x := rfl
@[simp] theorem State.setRunq_tower' (k : Nat) (q : RunQ) (x : Nat) : (s.setRunq k q).tower x = s.tower x := rfl
@[simp] theorem State.setRunq_ring' (k : Nat) (q : RunQ) (x y : Nat) : (s.setRunq k q).ring x y = s.ring x y := rfl
@[simp] theorem State.setRunq_instances' (k : Nat) (q : RunQ) (x y : Nat) : (s.setRunq k q).instances x y = s.instances x y := rfl
@[simp] theorem State.setRunq_sem' (k : Nat) (q : RunQ) (x y : Nat) : (s.setRunq k q).sem x y = s.sem x y := rfl
@[simp] theorem State.setRunq_desc' (k : Nat) (q : RunQ) (x y : Nat) : (s.setRunq k q).desc x y = s.desc x y := rfl
@[simp] theorem State.setRunq_seal' (k : Nat) (q : RunQ) (x y : Nat) : (s.setRunq k q).seal x y = s.seal x y := rfl
@[simp] theorem State.setRunq_channel' (k : Nat) (q : RunQ) (x y : Nat) : (s.setRunq k q).channel x y = s.channel x y := rfl

/-! ### setInstances -/

@[simp] theorem State.setInstances_pending (sp e : Nat) (l : List Instance) : (s.setInstances sp e l).pending = s.pending := rfl
@[simp] theorem State.setInstances_free (sp e : Nat) (l : List Instance) : (s.setInstances sp e l).free = s.free := rfl
@[simp] theorem State.setInstances_opened (sp e : Nat) (l : List Instance) : (s.setInstances sp e l).opened = s.opened := rfl
@[simp] theorem State.setInstances_ctl (sp e : Nat) (l : List Instance) : (s.setInstances sp e l).ctl = s.ctl := rfl
@[simp] theorem State.setInstances_staged (sp e : Nat) (l : List Instance) : (s.setInstances sp e l).staged = s.staged := rfl
@[simp] theorem State.setInstances_hbm (sp e : Nat) (l : List Instance) : (s.setInstances sp e l).hbm = s.hbm := rfl
@[simp] theorem State.setInstances_gallery (sp e : Nat) (l : List Instance) : (s.setInstances sp e l).gallery = s.gallery := rfl
@[simp] theorem State.setInstances_tmem (sp e : Nat) (l : List Instance) : (s.setInstances sp e l).tmem = s.tmem := rfl
@[simp] theorem State.setInstances_companion (sp e : Nat) (l : List Instance) : (s.setInstances sp e l).companion = s.companion := rfl
@[simp] theorem State.setInstances_flash (sp e : Nat) (l : List Instance) : (s.setInstances sp e l).flash = s.flash := rfl
@[simp] theorem State.setInstances_hbmErr (sp e : Nat) (l : List Instance) : (s.setInstances sp e l).hbmErr = s.hbmErr := rfl
@[simp] theorem State.setInstances_ramErr (sp e : Nat) (l : List Instance) : (s.setInstances sp e l).ramErr = s.ramErr := rfl
@[simp] theorem State.setInstances_pinCounts (sp e : Nat) (l : List Instance) : (s.setInstances sp e l).pinCounts = s.pinCounts := rfl
@[simp] theorem State.setInstances_towers (sp e : Nat) (l : List Instance) : (s.setInstances sp e l).towers = s.towers := rfl
@[simp] theorem State.setInstances_descs (sp e : Nat) (l : List Instance) : (s.setInstances sp e l).descs = s.descs := rfl
@[simp] theorem State.setInstances_sdeCache (sp e : Nat) (l : List Instance) : (s.setInstances sp e l).sdeCache = s.sdeCache := rfl
@[simp] theorem State.setInstances_regions (sp e : Nat) (l : List Instance) : (s.setInstances sp e l).regions = s.regions := rfl
@[simp] theorem State.setInstances_rings (sp e : Nat) (l : List Instance) : (s.setInstances sp e l).rings = s.rings := rfl
@[simp] theorem State.setInstances_runs (sp e : Nat) (l : List Instance) : (s.setInstances sp e l).runs = s.runs := rfl
@[simp] theorem State.setInstances_lastRing (sp e : Nat) (l : List Instance) : (s.setInstances sp e l).lastRing = s.lastRing := rfl
@[simp] theorem State.setInstances_channels (sp e : Nat) (l : List Instance) : (s.setInstances sp e l).channels = s.channels := rfl
@[simp] theorem State.setInstances_btabs (sp e : Nat) (l : List Instance) : (s.setInstances sp e l).btabs = s.btabs := rfl
@[simp] theorem State.setInstances_ended (sp e : Nat) (l : List Instance) : (s.setInstances sp e l).ended = s.ended := rfl
@[simp] theorem State.setInstances_sems (sp e : Nat) (l : List Instance) : (s.setInstances sp e l).sems = s.sems := rfl
@[simp] theorem State.setInstances_wcb (sp e : Nat) (l : List Instance) : (s.setInstances sp e l).wcb = s.wcb := rfl
@[simp] theorem State.setInstances_faultsSpire (sp e : Nat) (l : List Instance) : (s.setInstances sp e l).faultsSpire = s.faultsSpire := rfl
@[simp] theorem State.setInstances_faultsKey (sp e : Nat) (l : List Instance) : (s.setInstances sp e l).faultsKey = s.faultsKey := rfl
@[simp] theorem State.setInstances_holds (sp e : Nat) (l : List Instance) : (s.setInstances sp e l).holds = s.holds := rfl
@[simp] theorem State.setInstances_carStacks (sp e : Nat) (l : List Instance) : (s.setInstances sp e l).carStacks = s.carStacks := rfl
@[simp] theorem State.setInstances_carLost (sp e : Nat) (l : List Instance) : (s.setInstances sp e l).carLost = s.carLost := rfl
@[simp] theorem State.setInstances_reply (sp e : Nat) (l : List Instance) : (s.setInstances sp e l).reply = s.reply := rfl
@[simp] theorem State.setInstances_launches (sp e : Nat) (l : List Instance) : (s.setInstances sp e l).launches = s.launches := rfl
@[simp] theorem State.setInstances_imRuns (sp e : Nat) (l : List Instance) : (s.setInstances sp e l).imRuns = s.imRuns := rfl
@[simp] theorem State.setInstances_colls (sp e : Nat) (l : List Instance) : (s.setInstances sp e l).colls = s.colls := rfl
@[simp] theorem State.setInstances_stops (sp e : Nat) (l : List Instance) : (s.setInstances sp e l).stops = s.stops := rfl
@[simp] theorem State.setInstances_galPackets (sp e : Nat) (l : List Instance) : (s.setInstances sp e l).galPackets = s.galPackets := rfl
@[simp] theorem State.setInstances_galScrub (sp e : Nat) (l : List Instance) : (s.setInstances sp e l).galScrub = s.galScrub := rfl
@[simp] theorem State.setInstances_sent (sp e : Nat) (l : List Instance) : (s.setInstances sp e l).sent = s.sent := rfl
@[simp] theorem State.setInstances_replays (sp e : Nat) (l : List Instance) : (s.setInstances sp e l).replays = s.replays := rfl
@[simp] theorem State.setInstances_training (sp e : Nat) (l : List Instance) : (s.setInstances sp e l).training = s.training := rfl
@[simp] theorem State.setInstances_alxGroups (sp e : Nat) (l : List Instance) : (s.setInstances sp e l).alxGroups = s.alxGroups := rfl
@[simp] theorem State.setInstances_psets (sp e : Nat) (l : List Instance) : (s.setInstances sp e l).psets = s.psets := rfl
@[simp] theorem State.setInstances_sess (sp e : Nat) (l : List Instance) : (s.setInstances sp e l).sess = s.sess := rfl
@[simp] theorem State.setInstances_sessAreas (sp e : Nat) (l : List Instance) : (s.setInstances sp e l).sessAreas = s.sessAreas := rfl
@[simp] theorem State.setInstances_frames (sp e : Nat) (l : List Instance) : (s.setInstances sp e l).frames = s.frames := rfl
@[simp] theorem State.setInstances_digests (sp e : Nat) (l : List Instance) : (s.setInstances sp e l).digests = s.digests := rfl
@[simp] theorem State.setInstances_keyJobs (sp e : Nat) (l : List Instance) : (s.setInstances sp e l).keyJobs = s.keyJobs := rfl
@[simp] theorem State.setInstances_binds (sp e : Nat) (l : List Instance) : (s.setInstances sp e l).binds = s.binds := rfl
@[simp] theorem State.setInstances_closes (sp e : Nat) (l : List Instance) : (s.setInstances sp e l).closes = s.closes := rfl
@[simp] theorem State.setInstances_seals (sp e : Nat) (l : List Instance) : (s.setInstances sp e l).seals = s.seals := rfl
@[simp] theorem State.setInstances_keySlots (sp e : Nat) (l : List Instance) : (s.setInstances sp e l).keySlots = s.keySlots := rfl
@[simp] theorem State.setInstances_pkes (sp e : Nat) (l : List Instance) : (s.setInstances sp e l).pkes = s.pkes := rfl
@[simp] theorem State.setInstances_fuses (sp e : Nat) (l : List Instance) : (s.setInstances sp e l).fuses = s.fuses := rfl
@[simp] theorem State.setInstances_secret (sp e : Nat) (l : List Instance) : (s.setInstances sp e l).secret = s.secret := rfl
@[simp] theorem State.setInstances_fuseJob (sp e : Nat) (l : List Instance) : (s.setInstances sp e l).fuseJob = s.fuseJob := rfl
@[simp] theorem State.setInstances_idOpen (sp e : Nat) (l : List Instance) : (s.setInstances sp e l).idOpen = s.idOpen := rfl
@[simp] theorem State.setInstances_entropyBad (sp e : Nat) (l : List Instance) : (s.setInstances sp e l).entropyBad = s.entropyBad := rfl
@[simp] theorem State.setInstances_alxPending (sp e : Nat) (l : List Instance) : (s.setInstances sp e l).alxPending = s.alxPending := rfl
@[simp] theorem State.setInstances_alxKeys (sp e : Nat) (l : List Instance) : (s.setInstances sp e l).alxKeys = s.alxKeys := rfl
@[simp] theorem State.setInstances_gen (sp e : Nat) (l : List Instance) : (s.setInstances sp e l).gen = s.gen := rfl
@[simp] theorem State.setInstances_cullets (sp e : Nat) (l : List Instance) : (s.setInstances sp e l).cullets = s.cullets := rfl
@[simp] theorem State.setInstances_replaces (sp e : Nat) (l : List Instance) : (s.setInstances sp e l).replaces = s.replaces := rfl
@[simp] theorem State.setInstances_galFix (sp e : Nat) (l : List Instance) : (s.setInstances sp e l).galFix = s.galFix := rfl
@[simp] theorem State.setInstances_expDown (sp e : Nat) (l : List Instance) : (s.setInstances sp e l).expDown = s.expDown := rfl
@[simp] theorem State.setInstances_gone (sp e : Nat) (l : List Instance) : (s.setInstances sp e l).gone = s.gone := rfl
@[simp] theorem State.setInstances_bandCmds (sp e : Nat) (l : List Instance) : (s.setInstances sp e l).bandCmds = s.bandCmds := rfl
@[simp] theorem State.setInstances_lostFrom (sp e : Nat) (l : List Instance) : (s.setInstances sp e l).lostFrom = s.lostFrom := rfl
@[simp] theorem State.setInstances_pinsOver (sp e : Nat) (l : List Instance) : (s.setInstances sp e l).pinsOver = s.pinsOver := rfl
@[simp] theorem State.setInstances_btabJobs (sp e : Nat) (l : List Instance) : (s.setInstances sp e l).btabJobs = s.btabJobs := rfl
@[simp] theorem State.setInstances_seqBad (sp e : Nat) (l : List Instance) : (s.setInstances sp e l).seqBad = s.seqBad := rfl
@[simp] theorem State.setInstances_power (sp e : Nat) (l : List Instance) : (s.setInstances sp e l).power = s.power := rfl
@[simp] theorem State.setInstances_starts (sp e : Nat) (l : List Instance) : (s.setInstances sp e l).starts = s.starts := rfl
@[simp] theorem State.setInstances_bellNum (sp e : Nat) (l : List Instance) : (s.setInstances sp e l).bellNum = s.bellNum := rfl
@[simp] theorem State.setInstances_reg' (sp e : Nat) (l : List Instance) (x : Nat) : (s.setInstances sp e l).reg x = s.reg x := rfl
@[simp] theorem State.setInstances_stagedReg' (sp e : Nat) (l : List Instance) (x : Nat) : (s.setInstances sp e l).stagedReg x = s.stagedReg x := rfl
@[simp] theorem State.setInstances_tower' (sp e : Nat) (l : List Instance) (x : Nat) : (s.setInstances sp e l).tower x = s.tower x := rfl
@[simp] theorem State.setInstances_ring' (sp e : Nat) (l : List Instance) (x y : Nat) : (s.setInstances sp e l).ring x y = s.ring x y := rfl
@[simp] theorem State.setInstances_runq' (sp e : Nat) (l : List Instance) (x : Nat) : (s.setInstances sp e l).runq x = s.runq x := rfl
@[simp] theorem State.setInstances_sem' (sp e : Nat) (l : List Instance) (x y : Nat) : (s.setInstances sp e l).sem x y = s.sem x y := rfl
@[simp] theorem State.setInstances_desc' (sp e : Nat) (l : List Instance) (x y : Nat) : (s.setInstances sp e l).desc x y = s.desc x y := rfl
@[simp] theorem State.setInstances_seal' (sp e : Nat) (l : List Instance) (x y : Nat) : (s.setInstances sp e l).seal x y = s.seal x y := rfl
@[simp] theorem State.setInstances_channel' (sp e : Nat) (l : List Instance) (x y : Nat) : (s.setInstances sp e l).channel x y = s.channel x y := rfl

/-! ### setSem -/

@[simp] theorem State.setSem_pending (sp n : Nat) (m : Sem) : (s.setSem sp n m).pending = s.pending := rfl
@[simp] theorem State.setSem_free (sp n : Nat) (m : Sem) : (s.setSem sp n m).free = s.free := rfl
@[simp] theorem State.setSem_opened (sp n : Nat) (m : Sem) : (s.setSem sp n m).opened = s.opened := rfl
@[simp] theorem State.setSem_ctl (sp n : Nat) (m : Sem) : (s.setSem sp n m).ctl = s.ctl := rfl
@[simp] theorem State.setSem_staged (sp n : Nat) (m : Sem) : (s.setSem sp n m).staged = s.staged := rfl
@[simp] theorem State.setSem_hbm (sp n : Nat) (m : Sem) : (s.setSem sp n m).hbm = s.hbm := rfl
@[simp] theorem State.setSem_gallery (sp n : Nat) (m : Sem) : (s.setSem sp n m).gallery = s.gallery := rfl
@[simp] theorem State.setSem_tmem (sp n : Nat) (m : Sem) : (s.setSem sp n m).tmem = s.tmem := rfl
@[simp] theorem State.setSem_companion (sp n : Nat) (m : Sem) : (s.setSem sp n m).companion = s.companion := rfl
@[simp] theorem State.setSem_flash (sp n : Nat) (m : Sem) : (s.setSem sp n m).flash = s.flash := rfl
@[simp] theorem State.setSem_hbmErr (sp n : Nat) (m : Sem) : (s.setSem sp n m).hbmErr = s.hbmErr := rfl
@[simp] theorem State.setSem_ramErr (sp n : Nat) (m : Sem) : (s.setSem sp n m).ramErr = s.ramErr := rfl
@[simp] theorem State.setSem_pinCounts (sp n : Nat) (m : Sem) : (s.setSem sp n m).pinCounts = s.pinCounts := rfl
@[simp] theorem State.setSem_towers (sp n : Nat) (m : Sem) : (s.setSem sp n m).towers = s.towers := rfl
@[simp] theorem State.setSem_descs (sp n : Nat) (m : Sem) : (s.setSem sp n m).descs = s.descs := rfl
@[simp] theorem State.setSem_sdeCache (sp n : Nat) (m : Sem) : (s.setSem sp n m).sdeCache = s.sdeCache := rfl
@[simp] theorem State.setSem_regions (sp n : Nat) (m : Sem) : (s.setSem sp n m).regions = s.regions := rfl
@[simp] theorem State.setSem_rings (sp n : Nat) (m : Sem) : (s.setSem sp n m).rings = s.rings := rfl
@[simp] theorem State.setSem_runs (sp n : Nat) (m : Sem) : (s.setSem sp n m).runs = s.runs := rfl
@[simp] theorem State.setSem_lastRing (sp n : Nat) (m : Sem) : (s.setSem sp n m).lastRing = s.lastRing := rfl
@[simp] theorem State.setSem_channels (sp n : Nat) (m : Sem) : (s.setSem sp n m).channels = s.channels := rfl
@[simp] theorem State.setSem_btabs (sp n : Nat) (m : Sem) : (s.setSem sp n m).btabs = s.btabs := rfl
@[simp] theorem State.setSem_insts (sp n : Nat) (m : Sem) : (s.setSem sp n m).insts = s.insts := rfl
@[simp] theorem State.setSem_ended (sp n : Nat) (m : Sem) : (s.setSem sp n m).ended = s.ended := rfl
@[simp] theorem State.setSem_wcb (sp n : Nat) (m : Sem) : (s.setSem sp n m).wcb = s.wcb := rfl
@[simp] theorem State.setSem_faultsSpire (sp n : Nat) (m : Sem) : (s.setSem sp n m).faultsSpire = s.faultsSpire := rfl
@[simp] theorem State.setSem_faultsKey (sp n : Nat) (m : Sem) : (s.setSem sp n m).faultsKey = s.faultsKey := rfl
@[simp] theorem State.setSem_holds (sp n : Nat) (m : Sem) : (s.setSem sp n m).holds = s.holds := rfl
@[simp] theorem State.setSem_carStacks (sp n : Nat) (m : Sem) : (s.setSem sp n m).carStacks = s.carStacks := rfl
@[simp] theorem State.setSem_carLost (sp n : Nat) (m : Sem) : (s.setSem sp n m).carLost = s.carLost := rfl
@[simp] theorem State.setSem_reply (sp n : Nat) (m : Sem) : (s.setSem sp n m).reply = s.reply := rfl
@[simp] theorem State.setSem_launches (sp n : Nat) (m : Sem) : (s.setSem sp n m).launches = s.launches := rfl
@[simp] theorem State.setSem_imRuns (sp n : Nat) (m : Sem) : (s.setSem sp n m).imRuns = s.imRuns := rfl
@[simp] theorem State.setSem_colls (sp n : Nat) (m : Sem) : (s.setSem sp n m).colls = s.colls := rfl
@[simp] theorem State.setSem_stops (sp n : Nat) (m : Sem) : (s.setSem sp n m).stops = s.stops := rfl
@[simp] theorem State.setSem_galPackets (sp n : Nat) (m : Sem) : (s.setSem sp n m).galPackets = s.galPackets := rfl
@[simp] theorem State.setSem_galScrub (sp n : Nat) (m : Sem) : (s.setSem sp n m).galScrub = s.galScrub := rfl
@[simp] theorem State.setSem_sent (sp n : Nat) (m : Sem) : (s.setSem sp n m).sent = s.sent := rfl
@[simp] theorem State.setSem_replays (sp n : Nat) (m : Sem) : (s.setSem sp n m).replays = s.replays := rfl
@[simp] theorem State.setSem_training (sp n : Nat) (m : Sem) : (s.setSem sp n m).training = s.training := rfl
@[simp] theorem State.setSem_alxGroups (sp n : Nat) (m : Sem) : (s.setSem sp n m).alxGroups = s.alxGroups := rfl
@[simp] theorem State.setSem_psets (sp n : Nat) (m : Sem) : (s.setSem sp n m).psets = s.psets := rfl
@[simp] theorem State.setSem_sess (sp n : Nat) (m : Sem) : (s.setSem sp n m).sess = s.sess := rfl
@[simp] theorem State.setSem_sessAreas (sp n : Nat) (m : Sem) : (s.setSem sp n m).sessAreas = s.sessAreas := rfl
@[simp] theorem State.setSem_frames (sp n : Nat) (m : Sem) : (s.setSem sp n m).frames = s.frames := rfl
@[simp] theorem State.setSem_digests (sp n : Nat) (m : Sem) : (s.setSem sp n m).digests = s.digests := rfl
@[simp] theorem State.setSem_keyJobs (sp n : Nat) (m : Sem) : (s.setSem sp n m).keyJobs = s.keyJobs := rfl
@[simp] theorem State.setSem_binds (sp n : Nat) (m : Sem) : (s.setSem sp n m).binds = s.binds := rfl
@[simp] theorem State.setSem_closes (sp n : Nat) (m : Sem) : (s.setSem sp n m).closes = s.closes := rfl
@[simp] theorem State.setSem_seals (sp n : Nat) (m : Sem) : (s.setSem sp n m).seals = s.seals := rfl
@[simp] theorem State.setSem_keySlots (sp n : Nat) (m : Sem) : (s.setSem sp n m).keySlots = s.keySlots := rfl
@[simp] theorem State.setSem_pkes (sp n : Nat) (m : Sem) : (s.setSem sp n m).pkes = s.pkes := rfl
@[simp] theorem State.setSem_fuses (sp n : Nat) (m : Sem) : (s.setSem sp n m).fuses = s.fuses := rfl
@[simp] theorem State.setSem_secret (sp n : Nat) (m : Sem) : (s.setSem sp n m).secret = s.secret := rfl
@[simp] theorem State.setSem_fuseJob (sp n : Nat) (m : Sem) : (s.setSem sp n m).fuseJob = s.fuseJob := rfl
@[simp] theorem State.setSem_idOpen (sp n : Nat) (m : Sem) : (s.setSem sp n m).idOpen = s.idOpen := rfl
@[simp] theorem State.setSem_entropyBad (sp n : Nat) (m : Sem) : (s.setSem sp n m).entropyBad = s.entropyBad := rfl
@[simp] theorem State.setSem_alxPending (sp n : Nat) (m : Sem) : (s.setSem sp n m).alxPending = s.alxPending := rfl
@[simp] theorem State.setSem_alxKeys (sp n : Nat) (m : Sem) : (s.setSem sp n m).alxKeys = s.alxKeys := rfl
@[simp] theorem State.setSem_gen (sp n : Nat) (m : Sem) : (s.setSem sp n m).gen = s.gen := rfl
@[simp] theorem State.setSem_cullets (sp n : Nat) (m : Sem) : (s.setSem sp n m).cullets = s.cullets := rfl
@[simp] theorem State.setSem_replaces (sp n : Nat) (m : Sem) : (s.setSem sp n m).replaces = s.replaces := rfl
@[simp] theorem State.setSem_galFix (sp n : Nat) (m : Sem) : (s.setSem sp n m).galFix = s.galFix := rfl
@[simp] theorem State.setSem_expDown (sp n : Nat) (m : Sem) : (s.setSem sp n m).expDown = s.expDown := rfl
@[simp] theorem State.setSem_gone (sp n : Nat) (m : Sem) : (s.setSem sp n m).gone = s.gone := rfl
@[simp] theorem State.setSem_bandCmds (sp n : Nat) (m : Sem) : (s.setSem sp n m).bandCmds = s.bandCmds := rfl
@[simp] theorem State.setSem_lostFrom (sp n : Nat) (m : Sem) : (s.setSem sp n m).lostFrom = s.lostFrom := rfl
@[simp] theorem State.setSem_pinsOver (sp n : Nat) (m : Sem) : (s.setSem sp n m).pinsOver = s.pinsOver := rfl
@[simp] theorem State.setSem_btabJobs (sp n : Nat) (m : Sem) : (s.setSem sp n m).btabJobs = s.btabJobs := rfl
@[simp] theorem State.setSem_seqBad (sp n : Nat) (m : Sem) : (s.setSem sp n m).seqBad = s.seqBad := rfl
@[simp] theorem State.setSem_power (sp n : Nat) (m : Sem) : (s.setSem sp n m).power = s.power := rfl
@[simp] theorem State.setSem_starts (sp n : Nat) (m : Sem) : (s.setSem sp n m).starts = s.starts := rfl
@[simp] theorem State.setSem_bellNum (sp n : Nat) (m : Sem) : (s.setSem sp n m).bellNum = s.bellNum := rfl
@[simp] theorem State.setSem_reg' (sp n : Nat) (m : Sem) (x : Nat) : (s.setSem sp n m).reg x = s.reg x := rfl
@[simp] theorem State.setSem_stagedReg' (sp n : Nat) (m : Sem) (x : Nat) : (s.setSem sp n m).stagedReg x = s.stagedReg x := rfl
@[simp] theorem State.setSem_tower' (sp n : Nat) (m : Sem) (x : Nat) : (s.setSem sp n m).tower x = s.tower x := rfl
@[simp] theorem State.setSem_ring' (sp n : Nat) (m : Sem) (x y : Nat) : (s.setSem sp n m).ring x y = s.ring x y := rfl
@[simp] theorem State.setSem_runq' (sp n : Nat) (m : Sem) (x : Nat) : (s.setSem sp n m).runq x = s.runq x := rfl
@[simp] theorem State.setSem_instances' (sp n : Nat) (m : Sem) (x y : Nat) : (s.setSem sp n m).instances x y = s.instances x y := rfl
@[simp] theorem State.setSem_desc' (sp n : Nat) (m : Sem) (x y : Nat) : (s.setSem sp n m).desc x y = s.desc x y := rfl
@[simp] theorem State.setSem_seal' (sp n : Nat) (m : Sem) (x y : Nat) : (s.setSem sp n m).seal x y = s.seal x y := rfl
@[simp] theorem State.setSem_channel' (sp n : Nat) (m : Sem) (x y : Nat) : (s.setSem sp n m).channel x y = s.channel x y := rfl

/-! ### setDesc -/

@[simp] theorem State.setDesc_pending (sp i : Nat) (e : DescEntry) : (s.setDesc sp i e).pending = s.pending := rfl
@[simp] theorem State.setDesc_free (sp i : Nat) (e : DescEntry) : (s.setDesc sp i e).free = s.free := rfl
@[simp] theorem State.setDesc_opened (sp i : Nat) (e : DescEntry) : (s.setDesc sp i e).opened = s.opened := rfl
@[simp] theorem State.setDesc_ctl (sp i : Nat) (e : DescEntry) : (s.setDesc sp i e).ctl = s.ctl := rfl
@[simp] theorem State.setDesc_staged (sp i : Nat) (e : DescEntry) : (s.setDesc sp i e).staged = s.staged := rfl
@[simp] theorem State.setDesc_hbm (sp i : Nat) (e : DescEntry) : (s.setDesc sp i e).hbm = s.hbm := rfl
@[simp] theorem State.setDesc_gallery (sp i : Nat) (e : DescEntry) : (s.setDesc sp i e).gallery = s.gallery := rfl
@[simp] theorem State.setDesc_tmem (sp i : Nat) (e : DescEntry) : (s.setDesc sp i e).tmem = s.tmem := rfl
@[simp] theorem State.setDesc_companion (sp i : Nat) (e : DescEntry) : (s.setDesc sp i e).companion = s.companion := rfl
@[simp] theorem State.setDesc_flash (sp i : Nat) (e : DescEntry) : (s.setDesc sp i e).flash = s.flash := rfl
@[simp] theorem State.setDesc_hbmErr (sp i : Nat) (e : DescEntry) : (s.setDesc sp i e).hbmErr = s.hbmErr := rfl
@[simp] theorem State.setDesc_ramErr (sp i : Nat) (e : DescEntry) : (s.setDesc sp i e).ramErr = s.ramErr := rfl
@[simp] theorem State.setDesc_pinCounts (sp i : Nat) (e : DescEntry) : (s.setDesc sp i e).pinCounts = s.pinCounts := rfl
@[simp] theorem State.setDesc_towers (sp i : Nat) (e : DescEntry) : (s.setDesc sp i e).towers = s.towers := rfl
@[simp] theorem State.setDesc_sdeCache (sp i : Nat) (e : DescEntry) : (s.setDesc sp i e).sdeCache = s.sdeCache := rfl
@[simp] theorem State.setDesc_regions (sp i : Nat) (e : DescEntry) : (s.setDesc sp i e).regions = s.regions := rfl
@[simp] theorem State.setDesc_rings (sp i : Nat) (e : DescEntry) : (s.setDesc sp i e).rings = s.rings := rfl
@[simp] theorem State.setDesc_runs (sp i : Nat) (e : DescEntry) : (s.setDesc sp i e).runs = s.runs := rfl
@[simp] theorem State.setDesc_lastRing (sp i : Nat) (e : DescEntry) : (s.setDesc sp i e).lastRing = s.lastRing := rfl
@[simp] theorem State.setDesc_channels (sp i : Nat) (e : DescEntry) : (s.setDesc sp i e).channels = s.channels := rfl
@[simp] theorem State.setDesc_btabs (sp i : Nat) (e : DescEntry) : (s.setDesc sp i e).btabs = s.btabs := rfl
@[simp] theorem State.setDesc_insts (sp i : Nat) (e : DescEntry) : (s.setDesc sp i e).insts = s.insts := rfl
@[simp] theorem State.setDesc_ended (sp i : Nat) (e : DescEntry) : (s.setDesc sp i e).ended = s.ended := rfl
@[simp] theorem State.setDesc_sems (sp i : Nat) (e : DescEntry) : (s.setDesc sp i e).sems = s.sems := rfl
@[simp] theorem State.setDesc_wcb (sp i : Nat) (e : DescEntry) : (s.setDesc sp i e).wcb = s.wcb := rfl
@[simp] theorem State.setDesc_faultsSpire (sp i : Nat) (e : DescEntry) : (s.setDesc sp i e).faultsSpire = s.faultsSpire := rfl
@[simp] theorem State.setDesc_faultsKey (sp i : Nat) (e : DescEntry) : (s.setDesc sp i e).faultsKey = s.faultsKey := rfl
@[simp] theorem State.setDesc_holds (sp i : Nat) (e : DescEntry) : (s.setDesc sp i e).holds = s.holds := rfl
@[simp] theorem State.setDesc_carStacks (sp i : Nat) (e : DescEntry) : (s.setDesc sp i e).carStacks = s.carStacks := rfl
@[simp] theorem State.setDesc_carLost (sp i : Nat) (e : DescEntry) : (s.setDesc sp i e).carLost = s.carLost := rfl
@[simp] theorem State.setDesc_reply (sp i : Nat) (e : DescEntry) : (s.setDesc sp i e).reply = s.reply := rfl
@[simp] theorem State.setDesc_launches (sp i : Nat) (e : DescEntry) : (s.setDesc sp i e).launches = s.launches := rfl
@[simp] theorem State.setDesc_imRuns (sp i : Nat) (e : DescEntry) : (s.setDesc sp i e).imRuns = s.imRuns := rfl
@[simp] theorem State.setDesc_colls (sp i : Nat) (e : DescEntry) : (s.setDesc sp i e).colls = s.colls := rfl
@[simp] theorem State.setDesc_stops (sp i : Nat) (e : DescEntry) : (s.setDesc sp i e).stops = s.stops := rfl
@[simp] theorem State.setDesc_galPackets (sp i : Nat) (e : DescEntry) : (s.setDesc sp i e).galPackets = s.galPackets := rfl
@[simp] theorem State.setDesc_galScrub (sp i : Nat) (e : DescEntry) : (s.setDesc sp i e).galScrub = s.galScrub := rfl
@[simp] theorem State.setDesc_sent (sp i : Nat) (e : DescEntry) : (s.setDesc sp i e).sent = s.sent := rfl
@[simp] theorem State.setDesc_replays (sp i : Nat) (e : DescEntry) : (s.setDesc sp i e).replays = s.replays := rfl
@[simp] theorem State.setDesc_training (sp i : Nat) (e : DescEntry) : (s.setDesc sp i e).training = s.training := rfl
@[simp] theorem State.setDesc_alxGroups (sp i : Nat) (e : DescEntry) : (s.setDesc sp i e).alxGroups = s.alxGroups := rfl
@[simp] theorem State.setDesc_psets (sp i : Nat) (e : DescEntry) : (s.setDesc sp i e).psets = s.psets := rfl
@[simp] theorem State.setDesc_sess (sp i : Nat) (e : DescEntry) : (s.setDesc sp i e).sess = s.sess := rfl
@[simp] theorem State.setDesc_sessAreas (sp i : Nat) (e : DescEntry) : (s.setDesc sp i e).sessAreas = s.sessAreas := rfl
@[simp] theorem State.setDesc_frames (sp i : Nat) (e : DescEntry) : (s.setDesc sp i e).frames = s.frames := rfl
@[simp] theorem State.setDesc_digests (sp i : Nat) (e : DescEntry) : (s.setDesc sp i e).digests = s.digests := rfl
@[simp] theorem State.setDesc_keyJobs (sp i : Nat) (e : DescEntry) : (s.setDesc sp i e).keyJobs = s.keyJobs := rfl
@[simp] theorem State.setDesc_binds (sp i : Nat) (e : DescEntry) : (s.setDesc sp i e).binds = s.binds := rfl
@[simp] theorem State.setDesc_closes (sp i : Nat) (e : DescEntry) : (s.setDesc sp i e).closes = s.closes := rfl
@[simp] theorem State.setDesc_seals (sp i : Nat) (e : DescEntry) : (s.setDesc sp i e).seals = s.seals := rfl
@[simp] theorem State.setDesc_keySlots (sp i : Nat) (e : DescEntry) : (s.setDesc sp i e).keySlots = s.keySlots := rfl
@[simp] theorem State.setDesc_pkes (sp i : Nat) (e : DescEntry) : (s.setDesc sp i e).pkes = s.pkes := rfl
@[simp] theorem State.setDesc_fuses (sp i : Nat) (e : DescEntry) : (s.setDesc sp i e).fuses = s.fuses := rfl
@[simp] theorem State.setDesc_secret (sp i : Nat) (e : DescEntry) : (s.setDesc sp i e).secret = s.secret := rfl
@[simp] theorem State.setDesc_fuseJob (sp i : Nat) (e : DescEntry) : (s.setDesc sp i e).fuseJob = s.fuseJob := rfl
@[simp] theorem State.setDesc_idOpen (sp i : Nat) (e : DescEntry) : (s.setDesc sp i e).idOpen = s.idOpen := rfl
@[simp] theorem State.setDesc_entropyBad (sp i : Nat) (e : DescEntry) : (s.setDesc sp i e).entropyBad = s.entropyBad := rfl
@[simp] theorem State.setDesc_alxPending (sp i : Nat) (e : DescEntry) : (s.setDesc sp i e).alxPending = s.alxPending := rfl
@[simp] theorem State.setDesc_alxKeys (sp i : Nat) (e : DescEntry) : (s.setDesc sp i e).alxKeys = s.alxKeys := rfl
@[simp] theorem State.setDesc_gen (sp i : Nat) (e : DescEntry) : (s.setDesc sp i e).gen = s.gen := rfl
@[simp] theorem State.setDesc_cullets (sp i : Nat) (e : DescEntry) : (s.setDesc sp i e).cullets = s.cullets := rfl
@[simp] theorem State.setDesc_replaces (sp i : Nat) (e : DescEntry) : (s.setDesc sp i e).replaces = s.replaces := rfl
@[simp] theorem State.setDesc_galFix (sp i : Nat) (e : DescEntry) : (s.setDesc sp i e).galFix = s.galFix := rfl
@[simp] theorem State.setDesc_expDown (sp i : Nat) (e : DescEntry) : (s.setDesc sp i e).expDown = s.expDown := rfl
@[simp] theorem State.setDesc_gone (sp i : Nat) (e : DescEntry) : (s.setDesc sp i e).gone = s.gone := rfl
@[simp] theorem State.setDesc_bandCmds (sp i : Nat) (e : DescEntry) : (s.setDesc sp i e).bandCmds = s.bandCmds := rfl
@[simp] theorem State.setDesc_lostFrom (sp i : Nat) (e : DescEntry) : (s.setDesc sp i e).lostFrom = s.lostFrom := rfl
@[simp] theorem State.setDesc_pinsOver (sp i : Nat) (e : DescEntry) : (s.setDesc sp i e).pinsOver = s.pinsOver := rfl
@[simp] theorem State.setDesc_btabJobs (sp i : Nat) (e : DescEntry) : (s.setDesc sp i e).btabJobs = s.btabJobs := rfl
@[simp] theorem State.setDesc_seqBad (sp i : Nat) (e : DescEntry) : (s.setDesc sp i e).seqBad = s.seqBad := rfl
@[simp] theorem State.setDesc_power (sp i : Nat) (e : DescEntry) : (s.setDesc sp i e).power = s.power := rfl
@[simp] theorem State.setDesc_starts (sp i : Nat) (e : DescEntry) : (s.setDesc sp i e).starts = s.starts := rfl
@[simp] theorem State.setDesc_bellNum (sp i : Nat) (e : DescEntry) : (s.setDesc sp i e).bellNum = s.bellNum := rfl
@[simp] theorem State.setDesc_reg' (sp i : Nat) (e : DescEntry) (x : Nat) : (s.setDesc sp i e).reg x = s.reg x := rfl
@[simp] theorem State.setDesc_stagedReg' (sp i : Nat) (e : DescEntry) (x : Nat) : (s.setDesc sp i e).stagedReg x = s.stagedReg x := rfl
@[simp] theorem State.setDesc_tower' (sp i : Nat) (e : DescEntry) (x : Nat) : (s.setDesc sp i e).tower x = s.tower x := rfl
@[simp] theorem State.setDesc_ring' (sp i : Nat) (e : DescEntry) (x y : Nat) : (s.setDesc sp i e).ring x y = s.ring x y := rfl
@[simp] theorem State.setDesc_runq' (sp i : Nat) (e : DescEntry) (x : Nat) : (s.setDesc sp i e).runq x = s.runq x := rfl
@[simp] theorem State.setDesc_instances' (sp i : Nat) (e : DescEntry) (x y : Nat) : (s.setDesc sp i e).instances x y = s.instances x y := rfl
@[simp] theorem State.setDesc_sem' (sp i : Nat) (e : DescEntry) (x y : Nat) : (s.setDesc sp i e).sem x y = s.sem x y := rfl
@[simp] theorem State.setDesc_seal' (sp i : Nat) (e : DescEntry) (x y : Nat) : (s.setDesc sp i e).seal x y = s.seal x y := rfl
@[simp] theorem State.setDesc_channel' (sp i : Nat) (e : DescEntry) (x y : Nat) : (s.setDesc sp i e).channel x y = s.channel x y := rfl

/-! ### setSeal -/

@[simp] theorem State.setSeal_pending (sp k : Nat) (c : Option SealOp) : (s.setSeal sp k c).pending = s.pending := rfl
@[simp] theorem State.setSeal_free (sp k : Nat) (c : Option SealOp) : (s.setSeal sp k c).free = s.free := rfl
@[simp] theorem State.setSeal_opened (sp k : Nat) (c : Option SealOp) : (s.setSeal sp k c).opened = s.opened := rfl
@[simp] theorem State.setSeal_ctl (sp k : Nat) (c : Option SealOp) : (s.setSeal sp k c).ctl = s.ctl := rfl
@[simp] theorem State.setSeal_staged (sp k : Nat) (c : Option SealOp) : (s.setSeal sp k c).staged = s.staged := rfl
@[simp] theorem State.setSeal_hbm (sp k : Nat) (c : Option SealOp) : (s.setSeal sp k c).hbm = s.hbm := rfl
@[simp] theorem State.setSeal_gallery (sp k : Nat) (c : Option SealOp) : (s.setSeal sp k c).gallery = s.gallery := rfl
@[simp] theorem State.setSeal_tmem (sp k : Nat) (c : Option SealOp) : (s.setSeal sp k c).tmem = s.tmem := rfl
@[simp] theorem State.setSeal_companion (sp k : Nat) (c : Option SealOp) : (s.setSeal sp k c).companion = s.companion := rfl
@[simp] theorem State.setSeal_flash (sp k : Nat) (c : Option SealOp) : (s.setSeal sp k c).flash = s.flash := rfl
@[simp] theorem State.setSeal_hbmErr (sp k : Nat) (c : Option SealOp) : (s.setSeal sp k c).hbmErr = s.hbmErr := rfl
@[simp] theorem State.setSeal_ramErr (sp k : Nat) (c : Option SealOp) : (s.setSeal sp k c).ramErr = s.ramErr := rfl
@[simp] theorem State.setSeal_pinCounts (sp k : Nat) (c : Option SealOp) : (s.setSeal sp k c).pinCounts = s.pinCounts := rfl
@[simp] theorem State.setSeal_towers (sp k : Nat) (c : Option SealOp) : (s.setSeal sp k c).towers = s.towers := rfl
@[simp] theorem State.setSeal_descs (sp k : Nat) (c : Option SealOp) : (s.setSeal sp k c).descs = s.descs := rfl
@[simp] theorem State.setSeal_sdeCache (sp k : Nat) (c : Option SealOp) : (s.setSeal sp k c).sdeCache = s.sdeCache := rfl
@[simp] theorem State.setSeal_regions (sp k : Nat) (c : Option SealOp) : (s.setSeal sp k c).regions = s.regions := rfl
@[simp] theorem State.setSeal_rings (sp k : Nat) (c : Option SealOp) : (s.setSeal sp k c).rings = s.rings := rfl
@[simp] theorem State.setSeal_runs (sp k : Nat) (c : Option SealOp) : (s.setSeal sp k c).runs = s.runs := rfl
@[simp] theorem State.setSeal_lastRing (sp k : Nat) (c : Option SealOp) : (s.setSeal sp k c).lastRing = s.lastRing := rfl
@[simp] theorem State.setSeal_channels (sp k : Nat) (c : Option SealOp) : (s.setSeal sp k c).channels = s.channels := rfl
@[simp] theorem State.setSeal_btabs (sp k : Nat) (c : Option SealOp) : (s.setSeal sp k c).btabs = s.btabs := rfl
@[simp] theorem State.setSeal_insts (sp k : Nat) (c : Option SealOp) : (s.setSeal sp k c).insts = s.insts := rfl
@[simp] theorem State.setSeal_ended (sp k : Nat) (c : Option SealOp) : (s.setSeal sp k c).ended = s.ended := rfl
@[simp] theorem State.setSeal_sems (sp k : Nat) (c : Option SealOp) : (s.setSeal sp k c).sems = s.sems := rfl
@[simp] theorem State.setSeal_wcb (sp k : Nat) (c : Option SealOp) : (s.setSeal sp k c).wcb = s.wcb := rfl
@[simp] theorem State.setSeal_faultsSpire (sp k : Nat) (c : Option SealOp) : (s.setSeal sp k c).faultsSpire = s.faultsSpire := rfl
@[simp] theorem State.setSeal_faultsKey (sp k : Nat) (c : Option SealOp) : (s.setSeal sp k c).faultsKey = s.faultsKey := rfl
@[simp] theorem State.setSeal_holds (sp k : Nat) (c : Option SealOp) : (s.setSeal sp k c).holds = s.holds := rfl
@[simp] theorem State.setSeal_carStacks (sp k : Nat) (c : Option SealOp) : (s.setSeal sp k c).carStacks = s.carStacks := rfl
@[simp] theorem State.setSeal_carLost (sp k : Nat) (c : Option SealOp) : (s.setSeal sp k c).carLost = s.carLost := rfl
@[simp] theorem State.setSeal_reply (sp k : Nat) (c : Option SealOp) : (s.setSeal sp k c).reply = s.reply := rfl
@[simp] theorem State.setSeal_launches (sp k : Nat) (c : Option SealOp) : (s.setSeal sp k c).launches = s.launches := rfl
@[simp] theorem State.setSeal_imRuns (sp k : Nat) (c : Option SealOp) : (s.setSeal sp k c).imRuns = s.imRuns := rfl
@[simp] theorem State.setSeal_colls (sp k : Nat) (c : Option SealOp) : (s.setSeal sp k c).colls = s.colls := rfl
@[simp] theorem State.setSeal_stops (sp k : Nat) (c : Option SealOp) : (s.setSeal sp k c).stops = s.stops := rfl
@[simp] theorem State.setSeal_galPackets (sp k : Nat) (c : Option SealOp) : (s.setSeal sp k c).galPackets = s.galPackets := rfl
@[simp] theorem State.setSeal_galScrub (sp k : Nat) (c : Option SealOp) : (s.setSeal sp k c).galScrub = s.galScrub := rfl
@[simp] theorem State.setSeal_sent (sp k : Nat) (c : Option SealOp) : (s.setSeal sp k c).sent = s.sent := rfl
@[simp] theorem State.setSeal_replays (sp k : Nat) (c : Option SealOp) : (s.setSeal sp k c).replays = s.replays := rfl
@[simp] theorem State.setSeal_training (sp k : Nat) (c : Option SealOp) : (s.setSeal sp k c).training = s.training := rfl
@[simp] theorem State.setSeal_alxGroups (sp k : Nat) (c : Option SealOp) : (s.setSeal sp k c).alxGroups = s.alxGroups := rfl
@[simp] theorem State.setSeal_psets (sp k : Nat) (c : Option SealOp) : (s.setSeal sp k c).psets = s.psets := rfl
@[simp] theorem State.setSeal_sess (sp k : Nat) (c : Option SealOp) : (s.setSeal sp k c).sess = s.sess := rfl
@[simp] theorem State.setSeal_sessAreas (sp k : Nat) (c : Option SealOp) : (s.setSeal sp k c).sessAreas = s.sessAreas := rfl
@[simp] theorem State.setSeal_frames (sp k : Nat) (c : Option SealOp) : (s.setSeal sp k c).frames = s.frames := rfl
@[simp] theorem State.setSeal_digests (sp k : Nat) (c : Option SealOp) : (s.setSeal sp k c).digests = s.digests := rfl
@[simp] theorem State.setSeal_keyJobs (sp k : Nat) (c : Option SealOp) : (s.setSeal sp k c).keyJobs = s.keyJobs := rfl
@[simp] theorem State.setSeal_binds (sp k : Nat) (c : Option SealOp) : (s.setSeal sp k c).binds = s.binds := rfl
@[simp] theorem State.setSeal_closes (sp k : Nat) (c : Option SealOp) : (s.setSeal sp k c).closes = s.closes := rfl
@[simp] theorem State.setSeal_keySlots (sp k : Nat) (c : Option SealOp) : (s.setSeal sp k c).keySlots = s.keySlots := rfl
@[simp] theorem State.setSeal_pkes (sp k : Nat) (c : Option SealOp) : (s.setSeal sp k c).pkes = s.pkes := rfl
@[simp] theorem State.setSeal_fuses (sp k : Nat) (c : Option SealOp) : (s.setSeal sp k c).fuses = s.fuses := rfl
@[simp] theorem State.setSeal_secret (sp k : Nat) (c : Option SealOp) : (s.setSeal sp k c).secret = s.secret := rfl
@[simp] theorem State.setSeal_fuseJob (sp k : Nat) (c : Option SealOp) : (s.setSeal sp k c).fuseJob = s.fuseJob := rfl
@[simp] theorem State.setSeal_idOpen (sp k : Nat) (c : Option SealOp) : (s.setSeal sp k c).idOpen = s.idOpen := rfl
@[simp] theorem State.setSeal_entropyBad (sp k : Nat) (c : Option SealOp) : (s.setSeal sp k c).entropyBad = s.entropyBad := rfl
@[simp] theorem State.setSeal_alxPending (sp k : Nat) (c : Option SealOp) : (s.setSeal sp k c).alxPending = s.alxPending := rfl
@[simp] theorem State.setSeal_alxKeys (sp k : Nat) (c : Option SealOp) : (s.setSeal sp k c).alxKeys = s.alxKeys := rfl
@[simp] theorem State.setSeal_gen (sp k : Nat) (c : Option SealOp) : (s.setSeal sp k c).gen = s.gen := rfl
@[simp] theorem State.setSeal_cullets (sp k : Nat) (c : Option SealOp) : (s.setSeal sp k c).cullets = s.cullets := rfl
@[simp] theorem State.setSeal_replaces (sp k : Nat) (c : Option SealOp) : (s.setSeal sp k c).replaces = s.replaces := rfl
@[simp] theorem State.setSeal_galFix (sp k : Nat) (c : Option SealOp) : (s.setSeal sp k c).galFix = s.galFix := rfl
@[simp] theorem State.setSeal_expDown (sp k : Nat) (c : Option SealOp) : (s.setSeal sp k c).expDown = s.expDown := rfl
@[simp] theorem State.setSeal_gone (sp k : Nat) (c : Option SealOp) : (s.setSeal sp k c).gone = s.gone := rfl
@[simp] theorem State.setSeal_bandCmds (sp k : Nat) (c : Option SealOp) : (s.setSeal sp k c).bandCmds = s.bandCmds := rfl
@[simp] theorem State.setSeal_lostFrom (sp k : Nat) (c : Option SealOp) : (s.setSeal sp k c).lostFrom = s.lostFrom := rfl
@[simp] theorem State.setSeal_pinsOver (sp k : Nat) (c : Option SealOp) : (s.setSeal sp k c).pinsOver = s.pinsOver := rfl
@[simp] theorem State.setSeal_btabJobs (sp k : Nat) (c : Option SealOp) : (s.setSeal sp k c).btabJobs = s.btabJobs := rfl
@[simp] theorem State.setSeal_seqBad (sp k : Nat) (c : Option SealOp) : (s.setSeal sp k c).seqBad = s.seqBad := rfl
@[simp] theorem State.setSeal_power (sp k : Nat) (c : Option SealOp) : (s.setSeal sp k c).power = s.power := rfl
@[simp] theorem State.setSeal_starts (sp k : Nat) (c : Option SealOp) : (s.setSeal sp k c).starts = s.starts := rfl
@[simp] theorem State.setSeal_bellNum (sp k : Nat) (c : Option SealOp) : (s.setSeal sp k c).bellNum = s.bellNum := rfl
@[simp] theorem State.setSeal_reg' (sp k : Nat) (c : Option SealOp) (x : Nat) : (s.setSeal sp k c).reg x = s.reg x := rfl
@[simp] theorem State.setSeal_stagedReg' (sp k : Nat) (c : Option SealOp) (x : Nat) : (s.setSeal sp k c).stagedReg x = s.stagedReg x := rfl
@[simp] theorem State.setSeal_tower' (sp k : Nat) (c : Option SealOp) (x : Nat) : (s.setSeal sp k c).tower x = s.tower x := rfl
@[simp] theorem State.setSeal_ring' (sp k : Nat) (c : Option SealOp) (x y : Nat) : (s.setSeal sp k c).ring x y = s.ring x y := rfl
@[simp] theorem State.setSeal_runq' (sp k : Nat) (c : Option SealOp) (x : Nat) : (s.setSeal sp k c).runq x = s.runq x := rfl
@[simp] theorem State.setSeal_instances' (sp k : Nat) (c : Option SealOp) (x y : Nat) : (s.setSeal sp k c).instances x y = s.instances x y := rfl
@[simp] theorem State.setSeal_sem' (sp k : Nat) (c : Option SealOp) (x y : Nat) : (s.setSeal sp k c).sem x y = s.sem x y := rfl
@[simp] theorem State.setSeal_desc' (sp k : Nat) (c : Option SealOp) (x y : Nat) : (s.setSeal sp k c).desc x y = s.desc x y := rfl
@[simp] theorem State.setSeal_channel' (sp k : Nat) (c : Option SealOp) (x y : Nat) : (s.setSeal sp k c).channel x y = s.channel x y := rfl

/-! ### setChannel -/

@[simp] theorem State.setChannel_pending (sp k : Nat) (c : Option Channel) : (s.setChannel sp k c).pending = s.pending := rfl
@[simp] theorem State.setChannel_free (sp k : Nat) (c : Option Channel) : (s.setChannel sp k c).free = s.free := rfl
@[simp] theorem State.setChannel_opened (sp k : Nat) (c : Option Channel) : (s.setChannel sp k c).opened = s.opened := rfl
@[simp] theorem State.setChannel_ctl (sp k : Nat) (c : Option Channel) : (s.setChannel sp k c).ctl = s.ctl := rfl
@[simp] theorem State.setChannel_staged (sp k : Nat) (c : Option Channel) : (s.setChannel sp k c).staged = s.staged := rfl
@[simp] theorem State.setChannel_hbm (sp k : Nat) (c : Option Channel) : (s.setChannel sp k c).hbm = s.hbm := rfl
@[simp] theorem State.setChannel_gallery (sp k : Nat) (c : Option Channel) : (s.setChannel sp k c).gallery = s.gallery := rfl
@[simp] theorem State.setChannel_tmem (sp k : Nat) (c : Option Channel) : (s.setChannel sp k c).tmem = s.tmem := rfl
@[simp] theorem State.setChannel_companion (sp k : Nat) (c : Option Channel) : (s.setChannel sp k c).companion = s.companion := rfl
@[simp] theorem State.setChannel_flash (sp k : Nat) (c : Option Channel) : (s.setChannel sp k c).flash = s.flash := rfl
@[simp] theorem State.setChannel_hbmErr (sp k : Nat) (c : Option Channel) : (s.setChannel sp k c).hbmErr = s.hbmErr := rfl
@[simp] theorem State.setChannel_ramErr (sp k : Nat) (c : Option Channel) : (s.setChannel sp k c).ramErr = s.ramErr := rfl
@[simp] theorem State.setChannel_pinCounts (sp k : Nat) (c : Option Channel) : (s.setChannel sp k c).pinCounts = s.pinCounts := rfl
@[simp] theorem State.setChannel_towers (sp k : Nat) (c : Option Channel) : (s.setChannel sp k c).towers = s.towers := rfl
@[simp] theorem State.setChannel_descs (sp k : Nat) (c : Option Channel) : (s.setChannel sp k c).descs = s.descs := rfl
@[simp] theorem State.setChannel_sdeCache (sp k : Nat) (c : Option Channel) : (s.setChannel sp k c).sdeCache = s.sdeCache := rfl
@[simp] theorem State.setChannel_regions (sp k : Nat) (c : Option Channel) : (s.setChannel sp k c).regions = s.regions := rfl
@[simp] theorem State.setChannel_rings (sp k : Nat) (c : Option Channel) : (s.setChannel sp k c).rings = s.rings := rfl
@[simp] theorem State.setChannel_runs (sp k : Nat) (c : Option Channel) : (s.setChannel sp k c).runs = s.runs := rfl
@[simp] theorem State.setChannel_lastRing (sp k : Nat) (c : Option Channel) : (s.setChannel sp k c).lastRing = s.lastRing := rfl
@[simp] theorem State.setChannel_btabs (sp k : Nat) (c : Option Channel) : (s.setChannel sp k c).btabs = s.btabs := rfl
@[simp] theorem State.setChannel_insts (sp k : Nat) (c : Option Channel) : (s.setChannel sp k c).insts = s.insts := rfl
@[simp] theorem State.setChannel_ended (sp k : Nat) (c : Option Channel) : (s.setChannel sp k c).ended = s.ended := rfl
@[simp] theorem State.setChannel_sems (sp k : Nat) (c : Option Channel) : (s.setChannel sp k c).sems = s.sems := rfl
@[simp] theorem State.setChannel_wcb (sp k : Nat) (c : Option Channel) : (s.setChannel sp k c).wcb = s.wcb := rfl
@[simp] theorem State.setChannel_faultsSpire (sp k : Nat) (c : Option Channel) : (s.setChannel sp k c).faultsSpire = s.faultsSpire := rfl
@[simp] theorem State.setChannel_faultsKey (sp k : Nat) (c : Option Channel) : (s.setChannel sp k c).faultsKey = s.faultsKey := rfl
@[simp] theorem State.setChannel_holds (sp k : Nat) (c : Option Channel) : (s.setChannel sp k c).holds = s.holds := rfl
@[simp] theorem State.setChannel_carStacks (sp k : Nat) (c : Option Channel) : (s.setChannel sp k c).carStacks = s.carStacks := rfl
@[simp] theorem State.setChannel_carLost (sp k : Nat) (c : Option Channel) : (s.setChannel sp k c).carLost = s.carLost := rfl
@[simp] theorem State.setChannel_reply (sp k : Nat) (c : Option Channel) : (s.setChannel sp k c).reply = s.reply := rfl
@[simp] theorem State.setChannel_launches (sp k : Nat) (c : Option Channel) : (s.setChannel sp k c).launches = s.launches := rfl
@[simp] theorem State.setChannel_imRuns (sp k : Nat) (c : Option Channel) : (s.setChannel sp k c).imRuns = s.imRuns := rfl
@[simp] theorem State.setChannel_colls (sp k : Nat) (c : Option Channel) : (s.setChannel sp k c).colls = s.colls := rfl
@[simp] theorem State.setChannel_stops (sp k : Nat) (c : Option Channel) : (s.setChannel sp k c).stops = s.stops := rfl
@[simp] theorem State.setChannel_galPackets (sp k : Nat) (c : Option Channel) : (s.setChannel sp k c).galPackets = s.galPackets := rfl
@[simp] theorem State.setChannel_galScrub (sp k : Nat) (c : Option Channel) : (s.setChannel sp k c).galScrub = s.galScrub := rfl
@[simp] theorem State.setChannel_sent (sp k : Nat) (c : Option Channel) : (s.setChannel sp k c).sent = s.sent := rfl
@[simp] theorem State.setChannel_replays (sp k : Nat) (c : Option Channel) : (s.setChannel sp k c).replays = s.replays := rfl
@[simp] theorem State.setChannel_training (sp k : Nat) (c : Option Channel) : (s.setChannel sp k c).training = s.training := rfl
@[simp] theorem State.setChannel_alxGroups (sp k : Nat) (c : Option Channel) : (s.setChannel sp k c).alxGroups = s.alxGroups := rfl
@[simp] theorem State.setChannel_psets (sp k : Nat) (c : Option Channel) : (s.setChannel sp k c).psets = s.psets := rfl
@[simp] theorem State.setChannel_sess (sp k : Nat) (c : Option Channel) : (s.setChannel sp k c).sess = s.sess := rfl
@[simp] theorem State.setChannel_sessAreas (sp k : Nat) (c : Option Channel) : (s.setChannel sp k c).sessAreas = s.sessAreas := rfl
@[simp] theorem State.setChannel_frames (sp k : Nat) (c : Option Channel) : (s.setChannel sp k c).frames = s.frames := rfl
@[simp] theorem State.setChannel_digests (sp k : Nat) (c : Option Channel) : (s.setChannel sp k c).digests = s.digests := rfl
@[simp] theorem State.setChannel_keyJobs (sp k : Nat) (c : Option Channel) : (s.setChannel sp k c).keyJobs = s.keyJobs := rfl
@[simp] theorem State.setChannel_binds (sp k : Nat) (c : Option Channel) : (s.setChannel sp k c).binds = s.binds := rfl
@[simp] theorem State.setChannel_closes (sp k : Nat) (c : Option Channel) : (s.setChannel sp k c).closes = s.closes := rfl
@[simp] theorem State.setChannel_seals (sp k : Nat) (c : Option Channel) : (s.setChannel sp k c).seals = s.seals := rfl
@[simp] theorem State.setChannel_keySlots (sp k : Nat) (c : Option Channel) : (s.setChannel sp k c).keySlots = s.keySlots := rfl
@[simp] theorem State.setChannel_pkes (sp k : Nat) (c : Option Channel) : (s.setChannel sp k c).pkes = s.pkes := rfl
@[simp] theorem State.setChannel_fuses (sp k : Nat) (c : Option Channel) : (s.setChannel sp k c).fuses = s.fuses := rfl
@[simp] theorem State.setChannel_secret (sp k : Nat) (c : Option Channel) : (s.setChannel sp k c).secret = s.secret := rfl
@[simp] theorem State.setChannel_fuseJob (sp k : Nat) (c : Option Channel) : (s.setChannel sp k c).fuseJob = s.fuseJob := rfl
@[simp] theorem State.setChannel_idOpen (sp k : Nat) (c : Option Channel) : (s.setChannel sp k c).idOpen = s.idOpen := rfl
@[simp] theorem State.setChannel_entropyBad (sp k : Nat) (c : Option Channel) : (s.setChannel sp k c).entropyBad = s.entropyBad := rfl
@[simp] theorem State.setChannel_alxPending (sp k : Nat) (c : Option Channel) : (s.setChannel sp k c).alxPending = s.alxPending := rfl
@[simp] theorem State.setChannel_alxKeys (sp k : Nat) (c : Option Channel) : (s.setChannel sp k c).alxKeys = s.alxKeys := rfl
@[simp] theorem State.setChannel_gen (sp k : Nat) (c : Option Channel) : (s.setChannel sp k c).gen = s.gen := rfl
@[simp] theorem State.setChannel_cullets (sp k : Nat) (c : Option Channel) : (s.setChannel sp k c).cullets = s.cullets := rfl
@[simp] theorem State.setChannel_replaces (sp k : Nat) (c : Option Channel) : (s.setChannel sp k c).replaces = s.replaces := rfl
@[simp] theorem State.setChannel_galFix (sp k : Nat) (c : Option Channel) : (s.setChannel sp k c).galFix = s.galFix := rfl
@[simp] theorem State.setChannel_expDown (sp k : Nat) (c : Option Channel) : (s.setChannel sp k c).expDown = s.expDown := rfl
@[simp] theorem State.setChannel_gone (sp k : Nat) (c : Option Channel) : (s.setChannel sp k c).gone = s.gone := rfl
@[simp] theorem State.setChannel_bandCmds (sp k : Nat) (c : Option Channel) : (s.setChannel sp k c).bandCmds = s.bandCmds := rfl
@[simp] theorem State.setChannel_lostFrom (sp k : Nat) (c : Option Channel) : (s.setChannel sp k c).lostFrom = s.lostFrom := rfl
@[simp] theorem State.setChannel_pinsOver (sp k : Nat) (c : Option Channel) : (s.setChannel sp k c).pinsOver = s.pinsOver := rfl
@[simp] theorem State.setChannel_btabJobs (sp k : Nat) (c : Option Channel) : (s.setChannel sp k c).btabJobs = s.btabJobs := rfl
@[simp] theorem State.setChannel_seqBad (sp k : Nat) (c : Option Channel) : (s.setChannel sp k c).seqBad = s.seqBad := rfl
@[simp] theorem State.setChannel_power (sp k : Nat) (c : Option Channel) : (s.setChannel sp k c).power = s.power := rfl
@[simp] theorem State.setChannel_starts (sp k : Nat) (c : Option Channel) : (s.setChannel sp k c).starts = s.starts := rfl
@[simp] theorem State.setChannel_bellNum (sp k : Nat) (c : Option Channel) : (s.setChannel sp k c).bellNum = s.bellNum := rfl
@[simp] theorem State.setChannel_reg' (sp k : Nat) (c : Option Channel) (x : Nat) : (s.setChannel sp k c).reg x = s.reg x := rfl
@[simp] theorem State.setChannel_stagedReg' (sp k : Nat) (c : Option Channel) (x : Nat) : (s.setChannel sp k c).stagedReg x = s.stagedReg x := rfl
@[simp] theorem State.setChannel_tower' (sp k : Nat) (c : Option Channel) (x : Nat) : (s.setChannel sp k c).tower x = s.tower x := rfl
@[simp] theorem State.setChannel_ring' (sp k : Nat) (c : Option Channel) (x y : Nat) : (s.setChannel sp k c).ring x y = s.ring x y := rfl
@[simp] theorem State.setChannel_runq' (sp k : Nat) (c : Option Channel) (x : Nat) : (s.setChannel sp k c).runq x = s.runq x := rfl
@[simp] theorem State.setChannel_instances' (sp k : Nat) (c : Option Channel) (x y : Nat) : (s.setChannel sp k c).instances x y = s.instances x y := rfl
@[simp] theorem State.setChannel_sem' (sp k : Nat) (c : Option Channel) (x y : Nat) : (s.setChannel sp k c).sem x y = s.sem x y := rfl
@[simp] theorem State.setChannel_desc' (sp k : Nat) (c : Option Channel) (x y : Nat) : (s.setChannel sp k c).desc x y = s.desc x y := rfl
@[simp] theorem State.setChannel_seal' (sp k : Nat) (c : Option Channel) (x y : Nat) : (s.setChannel sp k c).seal x y = s.seal x y := rfl

/-! ### Reading what an update wrote -/

theorem State.modTower_eq (g : Nat) (f : Tower → Tower) : s.modTower g f = s.setTower g (f (s.tower g)) := rfl

theorem State.modStream_eq (g : Nat) (st : Stream) (f : StreamState → StreamState) :
    s.modStream g st f = s.setTower g ((s.tower g).setStream st (f ((s.tower g).stream st))) := rfl

theorem State.reg_setReg (a v x : Nat) : (s.setReg a v).reg x = if x = a then v % 2 ^ 64 else s.reg x := by
  unfold State.reg State.setReg
  simp only [SMap.get_set]
  split <;> simp

@[simp] theorem State.reg_setReg_self (a v : Nat) : (s.setReg a v).reg a = v % 2 ^ 64 := by simp [State.reg_setReg]

theorem State.reg_setReg_ne {a x : Nat} (v : Nat) (h : x ≠ a) : (s.setReg a v).reg x = s.reg x := by
  simp [State.reg_setReg, h]

theorem State.reg_lt (x : Nat) : s.reg x < 2 ^ 64 := BitVec.isLt _

theorem State.tower_setTower (g : Nat) (u : Tower) (x : Nat) : (s.setTower g u).tower x = if x = g then u else s.tower x :=
  SMap.get_set _ _ _ _

@[simp] theorem State.tower_setTower_self (g : Nat) (u : Tower) : (s.setTower g u).tower g = u := by
  simp [State.tower_setTower]

theorem State.tower_setTower_ne {g x : Nat} (u : Tower) (h : x ≠ g) : (s.setTower g u).tower x = s.tower x := by
  simp [State.tower_setTower, h]

@[simp] theorem State.tower_modTower_self (g : Nat) (f : Tower → Tower) : (s.modTower g f).tower g = f (s.tower g) :=
  State.tower_setTower_self _ _ _

theorem State.tower_modTower_ne {g x : Nat} (f : Tower → Tower) (h : x ≠ g) : (s.modTower g f).tower x = s.tower x :=
  State.tower_setTower_ne _ _ h

@[simp] theorem State.tower_modStream_self (g : Nat) (st : Stream) (f : StreamState → StreamState) :
    (s.modStream g st f).tower g = (s.tower g).setStream st (f ((s.tower g).stream st)) :=
  State.tower_setTower_self _ _ _

theorem State.tower_modStream_ne {g x : Nat} (st : Stream) (f : StreamState → StreamState) (h : x ≠ g) :
    (s.modStream g st f).tower x = s.tower x := State.tower_setTower_ne _ _ h

@[simp] theorem Tower.stream_setStream_self (t : Tower) (st : Stream) (r : StreamState) :
    (t.setStream st r).stream st = r := by cases st <;> rfl

@[simp] theorem Tower.setStream_setStream (t : Tower) (st : Stream) (r r' : StreamState) :
    (t.setStream st r).setStream st r' = t.setStream st r' := by cases st <;> rfl

/-- A write to scalar register `n` (R128): s0 stays zero, the others read back. -/
theorem StreamState.sreg_setSreg (r : StreamState) (n : Nat) (v : Word) (m : Nat) :
    (r.setSreg n v).sreg m = if m = n then (if n = 0 then 0 else v) else r.sreg m := by
  unfold StreamState.setSreg StreamState.sreg
  by_cases hn : n = 0
  · subst hn; by_cases hm : m = 0 <;> simp [hm]
  · by_cases hm : m = n
    · simp [hn, hm]
    · simp [hn, hm, SMap.get_set_ne]

theorem State.sem_setSem (sp n : Nat) (m : Sem) : (s.setSem sp n m).sem sp n = m := SMap.get_set_self _ _ _
theorem State.desc_setDesc (sp i : Nat) (e : DescEntry) : (s.setDesc sp i e).desc sp i = e := SMap.get_set_self _ _ _
theorem State.ring_setRing (sp r : Nat) (q : Ring) : (s.setRing sp r q).ring sp r = q := SMap.get_set_self _ _ _
theorem State.runq_setRunq (k : Nat) (q : RunQ) : (s.setRunq k q).runq k = q := SMap.get_set_self _ _ _
theorem State.channel_setChannel (sp k : Nat) (c : Option Channel) : (s.setChannel sp k c).channel sp k = c :=
  SMap.get_set_self _ _ _
theorem State.seal_setSeal (sp k : Nat) (c : Option SealOp) : (s.setSeal sp k c).seal sp k = c := SMap.get_set_self _ _ _

end Sys2Proof.Machine
end

