-- ==== Sys2Proof/Laws/Complete.lean ====
section
/-!
SUPPORT. What the completion of a command does when its record is all there is to it (R319, R327).
-/
namespace Sys2Proof.Machine

/-- Taking commands out of a runner leaves no FENCE in progress where there was none. -/
theorem fences_zero {s : State} (h : s.fences = 0) : ∀ e ∈ s.runs, ∀ r ∈ e.2.running, r.fence = none := by
  have key : ∀ (l : SMap RunQ) (n : Nat),
      l.foldl (fun n e => n + (e.2.running.filter (fun r => r.fence.isSome)).length) n = 0 →
      ∀ e ∈ l, ∀ r ∈ e.2.running, r.fence = none := by
    intro l
    induction l with
    | nil => simp
    | cons a l ih =>
      intro n hn
      rw [List.foldl_cons] at hn
      have h0 : n + (a.2.running.filter (fun r => r.fence.isSome)).length = 0 := by
        have mono : ∀ (l : SMap RunQ) (m : Nat),
            m ≤ l.foldl (fun n e => n + (e.2.running.filter (fun r => r.fence.isSome)).length) m := by
          intro l
          induction l with
          | nil => simp
          | cons b l ih => intro m; exact Nat.le_trans (Nat.le_add_right _ _) (ih _)
        exact Nat.le_zero.mp (hn ▸ mono l _)
      intro e he r hr
      rcases List.mem_cons.mp he with rfl | he
      · have : (e.2.running.filter (fun r => r.fence.isSome)) = [] := by
          apply List.eq_nil_of_length_eq_zero; omega
        have := List.filter_eq_nil_iff.mp this r hr
        simpa using this
      · exact ih _ hn e he r hr
  exact key s.runs 0 h

/-- After a command has left its runner no FENCE is in progress where there was none. -/
theorem fences_after {s t : State} (k : Nat) (p : Running → Bool) (h : s.fences = 0)
    (hr : t.runs = SMap.set (fun _ => RunQ.init) s.runs k { s.runq k with running := (s.runq k).running.filter p }) :
    t.fences = 0 := by
  have none_of : ∀ e ∈ t.runs, ∀ r ∈ e.2.running, r.fence = none := by
    intro e he r hm
    have z := fences_zero h
    rw [hr] at he
    unfold SMap.set at he
    split at he
    · exact z e (List.mem_filter.mp he).1 r hm
    · rcases SMap.mem_insert he with rfl | he
      · have hm : r ∈ (s.runq k).running := (List.mem_filter.mp hm).1
        have : ∀ (m : SMap RunQ), (∀ e ∈ m, ∀ r ∈ e.2.running, r.fence = none) →
            ∀ r ∈ (SMap.get (fun _ => RunQ.init) m k).running, r.fence = none := by
          intro m
          induction m with
          | nil => intro _ r hr; simp [SMap.get, RunQ.init] at hr
          | cons a m ih =>
            intro hm r hr
            obtain ⟨k', q⟩ := a
            unfold SMap.get at hr
            split at hr
            · exact hm _ List.mem_cons_self r hr
            · exact ih (fun e he => hm e (List.mem_cons_of_mem _ he)) r hr
        exact this s.runs z r hm
      · exact z e he r hm
  have : ∀ (l : SMap RunQ), (∀ e ∈ l, ∀ r ∈ e.2.running, r.fence = none) →
      l.foldl (fun n e => n + (e.2.running.filter (fun r => r.fence.isSome)).length) 0 = 0 := by
    intro l
    induction l with
    | nil => intro _; rfl
    | cons a l ih =>
      intro hl
      rw [List.foldl_cons]
      have : a.2.running.filter (fun r => r.fence.isSome) = [] :=
        List.filter_eq_nil_iff.mpr (fun r hr => by simp [hl a List.mem_cons_self r hr])
      rw [this]
      exact ih (fun e he => hl e (List.mem_cons_of_mem _ he))
  exact this t.runs none_of

/-- One record written to a completion ring in companion memory. -/
theorem writeEntries_one (u : State) (sp r : Nat) (x : List Byte) (hb : 2 ^ 47 ≤ u.reg (Reg.sprRingCompBase sp r)) :
    u.writeEntries sp r [x] =
      (let q := u.ring sp r
       let n := u.compEntries sp r
       let v : State := { u with
        companion := SMap.setRun (fun _ => 0) u.companion (u.reg (Reg.sprRingCompBase sp r) + 32 * (q.compPos % n) - 2 ^ 47)
          (patch x 1 (leBytes 1 (byteAt x 1 + ((q.compPos / n + 1) % 2) * 32))),
        rings := SMap.set (fun _ => Ring.init) u.rings (16 * sp + r) { q with compPos := q.compPos + 1 } }
       if bit (byteAt x 1) 4 then v.raise sp r else v) := by
  have h : 2 ^ 47 ≤ u.reg (Reg.sprRingCompBase sp r) + 32 * ((u.ring sp r).compPos % u.compEntries sp r) := by omega
  unfold State.writeEntries State.companionWrite
  simp only [List.dropLast_singleton, List.zipIdx_nil, List.foldl_nil, List.getLastD_cons, List.getLastD_nil, if_pos h,
    List.length_cons, List.length_nil, Nat.zero_add]
  rfl

/-- Everything that the completion of a command does when its record is all there is to it. -/
theorem completeOk_recorded {s : State} {o : Origin} (opcode : Nat) (result : List Byte) (h : s.Alone o) :
    Recorded o opcode result s (s.completeOk o opcode result) := by
  obtain ⟨he, hl, hp, hn, hf, hroom, hbase⟩ := h
  obtain ⟨q, hq⟩ : ∃ q : RunQ, q = { s.runq (runKey o) with
    running := (s.runq (runKey o)).running.filter (fun e => !sameCmd e.o o) } := ⟨_, rfl⟩
  obtain ⟨x, hx⟩ : ∃ x, x = completionRecord o opcode 0 s.bellNum false 0 result := ⟨_, rfl⟩
  have step : s.completeStep o opcode result none [] =
      (s.setRunq (runKey o) q).writeEntries o.spire.val o.ring.val [x] := by
    have hroom' : (s.setRunq (runKey o) q).compRoom o.spire.val o.ring.val 1 = true := hroom
    subst hq hx
    unfold State.completeStep State.completeOne
    simp only [hp, he, hn, hl, Option.toList_none, List.nil_append, Bool.false_and, Bool.false_eq_true, if_false,
      Option.isSome_none, List.length_nil, State.putEntries, List.length_cons, if_true, decide_true,
      Bool.or_false, hroom', Nat.zero_add]
    rfl
  have hb : 2 ^ 47 ≤ (s.setRunq (runKey o) q).reg (Reg.sprRingCompBase o.spire.val o.ring.val) := hbase
  have hc : s.completeOk o opcode result = s.completeStep o opcode result none [] := by
    unfold State.completeOk State.complete
    have : (s.completeStep o opcode result none []).fences = 0 := by
      refine fences_after (s := s) (runKey o) (fun e => !sameCmd e.o o) hf ?_
      rw [step, writeEntries_one _ _ _ _ hb]
      subst hq
      simp only []
      split <;> rfl
    simp only [this]
    rfl
  rw [hc, step, writeEntries_one _ _ _ _ hb]
  clear hc step
  have hbit : bit (byteAt x 1) 4 = o.intr := by
    subst hx
    cases h : o.intr <;> simp [completionRecord, byteAt, leBytes, ofBool, bit, h] <;> decide
  have hpatch : patch x 1 (leBytes 1 (byteAt x 1 + ((s.ring o.spire.val o.ring.val).compPos /
      s.compEntries o.spire.val o.ring.val + 1) % 2 * 32)) = s.plainRecord o opcode result := by
    subst hx
    unfold State.plainRecord patch completionRecord
    dsimp only
    generalize ((s.ring o.spire.val o.ring.val).compPos / s.compEntries o.spire.val o.ring.val + 1) % 2 = p
    simp [leBytes, byteAt]
    cases o.intr <;> simp [ofBool] <;> congr 1 <;> omega
  have hlen : (s.plainRecord o opcode result).length = 32 := by
    simp [State.plainRecord, leBytes]
  have hr : ∀ (u : State), (if bit (byteAt x 1) 4 then u.raise o.spire.val o.ring.val else u) =
      { u with ctl := (if o.intr then u.raise o.spire.val o.ring.val else u).ctl } := by
    intro u
    rw [hbit]
    cases o.intr <;> rfl
  simp only []
  rw [hr]
  simp only [State.setRunq_ring', show ∀ a, (s.setRunq (runKey o) q).reg a = s.reg a from fun _ => rfl,
    show (s.setRunq (runKey o) q).compEntries o.spire.val o.ring.val = s.compEntries o.spire.val o.ring.val from rfl, hpatch]
  refine ⟨?_, ?_, ?_, ?_, ?_, ?_, ?_⟩
  · intro j
    simp only [State.compByte]
    split
    · rename_i hj
      obtain ⟨i, rfl⟩ := Nat.exists_eq_add_of_le hj.1
      rw [SMap.get_setRun_in _ _ _ (by omega)]
      simp [List.getD_eq_getElem?_getD, List.getElem?_eq_getElem (show i < (s.plainRecord o opcode result).length by omega)]
    · rename_i hj
      exact SMap.get_setRun_out _ _ _ (by omega)
  · exact SMap.get_set_self _ _ _
  · intro sp' r' h h'
    refine SMap.get_set_ne _ _ ?_
    intro e
    apply h'
    have := o.ring.isLt
    exact Prod.ext (by simp only; omega) (by simp only; omega)
  · subst hq
    exact SMap.get_set_self _ _ _
  · intro k hk
    exact SMap.get_set_ne _ _ hk
  · intro a
    cases o.intr with
    | false => rfl
    | true =>
      have hsrc : o.ring.val / 64 = 0 := by have := o.ring.isLt; omega
      have hm : o.ring.val % 64 = o.ring.val := by have := o.ring.isLt; omega
      have e : ∀ u : State, (∀ b, u.reg b = s.reg b) →
          (u.raise o.spire.val o.ring.val).reg a = if a = Reg.carPendSet o.spire.val 0 then s.reg a ||| 1 <<< o.ring.val
            else s.reg a := by
        intro u hu
        unfold State.raise
        simp only [hsrc, hm, State.reg_setReg]
        split
        · rename_i h
          subst h
          rw [hu]
          apply Nat.mod_eq_of_lt
          apply Nat.or_lt_two_pow
          · exact (s.ctl.get regReset _).isLt
          · have := o.ring.isLt
            exact Nat.shiftLeft_lt (by decide) |>.trans_le (Nat.pow_le_pow_right (by decide) (by omega : 1 + o.ring.val ≤ 64))
        · exact hu a
      simp only [true_and]
      exact e { s with
        companion := SMap.setRun (fun _ => 0) s.companion
          (s.reg (Reg.sprRingCompBase o.spire.val o.ring.val) +
            32 * ((s.ring o.spire.val o.ring.val).compPos % s.compEntries o.spire.val o.ring.val) - 2 ^ 47)
          (s.plainRecord o opcode result),
        rings := SMap.set (fun _ => Ring.init) s.rings (16 * o.spire.val + o.ring.val)
          { s.ring o.spire.val o.ring.val with compPos := (s.ring o.spire.val o.ring.val).compPos + 1 },
        runs := (s.setRunq (runKey o) q).runs } (fun _ => rfl)
  · rfl

end Sys2Proof.Machine
end

