-- ==== Sys2Proof/Laws/Kept.lean ====
section
/-!
SUPPORT. What the shared operations leave unchanged (first part): the queue, the opened blocks, the fuse bank and its
request in progress, DEVICE_SECRET and its path, the priority stacks, the bell number, the region table and the state of
the noise sources. One lemma per operation.
-/
set_option linter.all false
set_option maxRecDepth 4000
namespace Sys2Proof.Machine

/-- The fields that only few commands write. -/
structure Kept where
  pending : List Instr
  opened : List Block
  fuses : FuseBank
  fuseJob : Option FuseBank
  secret : BitVec 256
  idOpen : Bool
  carStacks : SMap (List (Nat × Nat))
  bellNum : Nat
  regions : SMap (Nat × Nat)
  entropyBad : Bool

/-- Those fields of a state. -/
def State.kept (s : State) : Kept :=
  { pending := s.pending, opened := s.opened, fuses := s.fuses, fuseJob := s.fuseJob, secret := s.secret, idOpen := s.idOpen, carStacks := s.carStacks, bellNum := s.bellNum, regions := s.regions, entropyBad := s.entropyBad }

theorem foldl_kept {β : Type} (f : State → β → State) (h : ∀ t x, (f t x).kept = t.kept) (l : List β) (s : State) :
    (l.foldl f s).kept = s.kept := by
  induction l generalizing s with
  | nil => rfl
  | cons x l ih => exact (ih (f s x)).trans (h s x)

theorem foldl_kept1 {β γ : Type} (f : State × γ → β → State × γ) (h : ∀ p x, (f p x).1.kept = p.1.kept) (l : List β)
    (p : State × γ) : (l.foldl f p).1.kept = p.1.kept := by
  induction l generalizing p with
  | nil => rfl
  | cons x l ih => exact (ih (f p x)).trans (h p x)

theorem foldl_keptP {α β : Type} (p : α → State) (f : α → β → α) (h : ∀ a x, (p (f a x)).kept = (p a).kept) (l : List β)
    (a : α) : (p (l.foldl f a)).kept = (p a).kept := by
  induction l generalizing a with
  | nil => rfl
  | cons x l ih => exact (ih (f a x)).trans (h a x)

/-- What an issue result leaves. -/
def ResKept (s : State) : Res → Prop
  | .done t => t.kept = s.kept
  | .jump t _ => t.kept = s.kept
  | .stay t => t.kept = s.kept
  | .wait t _ => t.kept = s.kept
  | .fault _ _ => True
  | .faultAt t _ => t.kept = s.kept

/-- What an outcome leaves. -/
def OutKept (s : State) (o : Host.Outcome State Fault Refusal) : Prop := ∀ t, o = .next t → t.kept = s.kept

theorem OutKept.next {s t : State} (h : t.kept = s.kept) : OutKept s (.next t) := by
  intro u hu
  cases hu
  exact h

theorem OutKept.of {s t : State} {o : Host.Outcome State Fault Refusal} (h : t.kept = s.kept) (ho : OutKept t o) :
    OutKept s o := fun u hu => (ho u hu).trans h

theorem of_pair {α : Type} {p : State × α} {t s : State} {a : α} (k : p.1.kept = s.kept) (h : p = (t, a)) :
    t.kept = s.kept := by
  subst h
  exact k

theorem ResKept.of {s t : State} {r : Res} (h : t.kept = s.kept) (k : ResKept t r) : ResKept s r := by
  cases r
  all_goals first
    | trivial
    | exact Eq.trans k h

theorem ResKept.done {s t u : State} {r : Res} (h : t.kept = s.kept) (k : ResKept t r) (hr : r = .done u) :
    u.kept = s.kept := by
  subst hr
  exact Eq.trans k h

theorem kept_free (s : State) (v) : ({ s with free := v } : State).kept = s.kept := rfl
theorem kept_ctl (s : State) (v) : ({ s with ctl := v } : State).kept = s.kept := rfl
theorem kept_staged (s : State) (v) : ({ s with staged := v } : State).kept = s.kept := rfl
theorem kept_hbm (s : State) (v) : ({ s with hbm := v } : State).kept = s.kept := rfl
theorem kept_gallery (s : State) (v) : ({ s with gallery := v } : State).kept = s.kept := rfl
theorem kept_tmem (s : State) (v) : ({ s with tmem := v } : State).kept = s.kept := rfl
theorem kept_companion (s : State) (v) : ({ s with companion := v } : State).kept = s.kept := rfl
theorem kept_flash (s : State) (v) : ({ s with flash := v } : State).kept = s.kept := rfl
theorem kept_hbmErr (s : State) (v) : ({ s with hbmErr := v } : State).kept = s.kept := rfl
theorem kept_ramErr (s : State) (v) : ({ s with ramErr := v } : State).kept = s.kept := rfl
theorem kept_pinCounts (s : State) (v) : ({ s with pinCounts := v } : State).kept = s.kept := rfl
theorem kept_towers (s : State) (v) : ({ s with towers := v } : State).kept = s.kept := rfl
theorem kept_descs (s : State) (v) : ({ s with descs := v } : State).kept = s.kept := rfl
theorem kept_sdeCache (s : State) (v) : ({ s with sdeCache := v } : State).kept = s.kept := rfl
theorem kept_rings (s : State) (v) : ({ s with rings := v } : State).kept = s.kept := rfl
theorem kept_runs (s : State) (v) : ({ s with runs := v } : State).kept = s.kept := rfl
theorem kept_lastRing (s : State) (v) : ({ s with lastRing := v } : State).kept = s.kept := rfl
theorem kept_channels (s : State) (v) : ({ s with channels := v } : State).kept = s.kept := rfl
theorem kept_btabs (s : State) (v) : ({ s with btabs := v } : State).kept = s.kept := rfl
theorem kept_insts (s : State) (v) : ({ s with insts := v } : State).kept = s.kept := rfl
theorem kept_ended (s : State) (v) : ({ s with ended := v } : State).kept = s.kept := rfl
theorem kept_sems (s : State) (v) : ({ s with sems := v } : State).kept = s.kept := rfl
theorem kept_wcb (s : State) (v) : ({ s with wcb := v } : State).kept = s.kept := rfl
theorem kept_faultsSpire (s : State) (v) : ({ s with faultsSpire := v } : State).kept = s.kept := rfl
theorem kept_faultsKey (s : State) (v) : ({ s with faultsKey := v } : State).kept = s.kept := rfl
theorem kept_holds (s : State) (v) : ({ s with holds := v } : State).kept = s.kept := rfl
theorem kept_carLost (s : State) (v) : ({ s with carLost := v } : State).kept = s.kept := rfl
theorem kept_reply (s : State) (v) : ({ s with reply := v } : State).kept = s.kept := rfl
theorem kept_launches (s : State) (v) : ({ s with launches := v } : State).kept = s.kept := rfl
theorem kept_imRuns (s : State) (v) : ({ s with imRuns := v } : State).kept = s.kept := rfl
theorem kept_colls (s : State) (v) : ({ s with colls := v } : State).kept = s.kept := rfl
theorem kept_stops (s : State) (v) : ({ s with stops := v } : State).kept = s.kept := rfl
theorem kept_galPackets (s : State) (v) : ({ s with galPackets := v } : State).kept = s.kept := rfl
theorem kept_galScrub (s : State) (v) : ({ s with galScrub := v } : State).kept = s.kept := rfl
theorem kept_sent (s : State) (v) : ({ s with sent := v } : State).kept = s.kept := rfl
theorem kept_replays (s : State) (v) : ({ s with replays := v } : State).kept = s.kept := rfl
theorem kept_training (s : State) (v) : ({ s with training := v } : State).kept = s.kept := rfl
theorem kept_alxGroups (s : State) (v) : ({ s with alxGroups := v } : State).kept = s.kept := rfl
theorem kept_psets (s : State) (v) : ({ s with psets := v } : State).kept = s.kept := rfl
theorem kept_sess (s : State) (v) : ({ s with sess := v } : State).kept = s.kept := rfl
theorem kept_sessAreas (s : State) (v) : ({ s with sessAreas := v } : State).kept = s.kept := rfl
theorem kept_frames (s : State) (v) : ({ s with frames := v } : State).kept = s.kept := rfl
theorem kept_digests (s : State) (v) : ({ s with digests := v } : State).kept = s.kept := rfl
theorem kept_keyJobs (s : State) (v) : ({ s with keyJobs := v } : State).kept = s.kept := rfl
theorem kept_binds (s : State) (v) : ({ s with binds := v } : State).kept = s.kept := rfl
theorem kept_closes (s : State) (v) : ({ s with closes := v } : State).kept = s.kept := rfl
theorem kept_seals (s : State) (v) : ({ s with seals := v } : State).kept = s.kept := rfl
theorem kept_keySlots (s : State) (v) : ({ s with keySlots := v } : State).kept = s.kept := rfl
theorem kept_pkes (s : State) (v) : ({ s with pkes := v } : State).kept = s.kept := rfl
theorem kept_alxPending (s : State) (v) : ({ s with alxPending := v } : State).kept = s.kept := rfl
theorem kept_alxKeys (s : State) (v) : ({ s with alxKeys := v } : State).kept = s.kept := rfl
theorem kept_gen (s : State) (v) : ({ s with gen := v } : State).kept = s.kept := rfl
theorem kept_cullets (s : State) (v) : ({ s with cullets := v } : State).kept = s.kept := rfl
theorem kept_replaces (s : State) (v) : ({ s with replaces := v } : State).kept = s.kept := rfl
theorem kept_galFix (s : State) (v) : ({ s with galFix := v } : State).kept = s.kept := rfl
theorem kept_expDown (s : State) (v) : ({ s with expDown := v } : State).kept = s.kept := rfl
theorem kept_gone (s : State) (v) : ({ s with gone := v } : State).kept = s.kept := rfl
theorem kept_bandCmds (s : State) (v) : ({ s with bandCmds := v } : State).kept = s.kept := rfl
theorem kept_btabJobs (s : State) (v) : ({ s with btabJobs := v } : State).kept = s.kept := rfl
theorem kept_pinsOver (s : State) (v) : ({ s with pinsOver := v } : State).kept = s.kept := rfl
theorem kept_lostFrom (s : State) (v) : ({ s with lostFrom := v } : State).kept = s.kept := rfl
theorem kept_seqBad (s : State) (v) : ({ s with seqBad := v } : State).kept = s.kept := rfl
theorem kept_power (s : State) (v) : ({ s with power := v } : State).kept = s.kept := rfl
theorem kept_starts (s : State) (v) : ({ s with starts := v } : State).kept = s.kept := rfl
theorem kept_pins (s : State) (a b) : ({ s with pinCounts := a, pinsOver := b } : State).kept = s.kept := rfl
theorem kept_mems (s : State) (a b c d) : ({ s with ramErr := a, gallery := b, tmem := c, hbm := d } : State).kept = s.kept := rfl


theorem State.stage_kept (s : State) (x1) (x2) : (State.stage s x1 x2).kept = s.kept := Eq.trans rfl rfl

theorem State.setReg_kept (s : State) (x1) (x2) : (State.setReg s x1 x2).kept = s.kept := Eq.trans rfl rfl

theorem State.writeFields_kept (s : State) (x1) (x2) (x3) : (State.writeFields s x1 x2 x3).kept = s.kept := by
  unfold State.writeFields
  grind [State.kept, State.setReg_kept, State.stage_kept]

theorem State.setTower_kept (s : State) (x1) (x2) : (State.setTower s x1 x2).kept = s.kept := Eq.trans rfl rfl

theorem State.modTower_kept (s : State) (x1) (x2) : (State.modTower s x1 x2).kept = s.kept := Eq.trans rfl rfl

theorem State.abandonSeq_kept (s : State) (x1) (x2) : (State.abandonSeq s x1 x2).kept = s.kept := Eq.trans rfl rfl

theorem State.count_kept (s : State) (x1) (x2) : (State.count s x1 x2).kept = s.kept := Eq.trans rfl rfl

theorem State.raise_kept (s : State) (x1) (x2) : (State.raise s x1 x2).kept = s.kept := Eq.trans rfl rfl

theorem State.toSpire_kept (s : State) (x1) (x2) : (State.toSpire s x1 x2).kept = s.kept := by
  unfold State.toSpire
  grind [State.kept, State.raise_kept]

theorem State.setLost_kept (s : State) (x1) (x2) : (State.setLost s x1 x2).kept = s.kept := Eq.trans rfl rfl

theorem State.draw_kept (s : State) : (State.draw s).kept = s.kept := Eq.trans rfl rfl

theorem State.wrote_kept (s : State) (x1) : (State.wrote s x1).kept = s.kept := by
  unfold State.wrote
  grind [State.kept, State.draw_kept, State.setLost_kept]

theorem State.faultToSpire_kept (s : State) (x1) (x2) : (State.faultToSpire s x1 x2).kept = s.kept := by
  unfold State.faultToSpire
  grind [State.kept, State.wrote_kept, State.toSpire_kept]

theorem State.galleryRead_kept (s : State) (x1) (x2) (x3) (x4) : (State.galleryRead s x1 x2 x3 x4).kept = s.kept := by
  unfold State.galleryRead
  refine (foldl_kept _ (fun t x => ?_) _ _).trans ?_
  all_goals first | rfl | (simp only [foldl_kept, apply_ite State.kept, ite_self, State.count_kept, State.faultToSpire_kept, State.raise_kept]; done) | grind [State.kept, State.count_kept, State.faultToSpire_kept, State.raise_kept]

theorem State.setCache_kept (s : State) (x1) (x2) : (State.setCache s x1 x2).kept = s.kept := by
  unfold State.setCache
  grind [State.kept, State.modTower_kept]

theorem State.touchGroup_kept (s : State) (x1) (x2) (x3) : (State.touchGroup s x1 x2 x3).kept = s.kept := by
  unfold State.touchGroup
  grind [State.kept, State.setCache_kept, State.galleryRead_kept, State.count_kept]

theorem State.fetchEntry_kept (s : State) (x1) (x2) (x3) : (State.fetchEntry s x1 x2 x3).1.kept = s.kept := by
  unfold State.fetchEntry
  grind [State.kept, State.touchGroup_kept]

theorem State.fetchDesc_kept (s : State) (x1) (x2) (x3) : (State.fetchDesc s x1 x2 x3).1.kept = s.kept := by
  unfold State.fetchDesc
  grind [State.kept, State.fetchEntry_kept]

theorem State.armSeq_kept (s : State) (x1) (x2) : (State.armSeq s x1 x2).1.kept = s.kept := by
  unfold State.armSeq
  grind [State.kept, State.fetchDesc_kept, State.modTower_kept, State.count_kept]

theorem State.epStatus_kept (s : State) (x1) (x2) (x3) (x4) : (State.epStatus s x1 x2 x3 x4).kept = s.kept := by
  unfold State.epStatus
  grind [State.kept, State.setReg_kept]

theorem State.epBegin_kept (s : State) (x1) (x2) (x3) : (State.epBegin s x1 x2 x3).1.kept = s.kept := by
  unfold State.epBegin
  grind [State.kept, State.epStatus_kept, State.modTower_kept]

theorem State.epBuildWrite_kept (s : State) (x1) (x2) : (State.epBuildWrite s x1 x2).kept = s.kept := by
  unfold State.epBuildWrite
  grind [State.kept, State.epBegin_kept]

theorem State.keyCommit_kept (s : State) (s1 : State) (x2) : (State.keyCommit s s1 x2).kept = s.kept := by
  unfold State.keyCommit
  grind [State.kept]

theorem State.setRing_kept (s : State) (x1) (x2) (x3) : (State.setRing s x1 x2 x3).kept = s.kept := Eq.trans rfl rfl

theorem State.ringsChanged_kept (s : State) (s1 : State) (x2) : (State.ringsChanged s s1 x2).kept = s.kept := by
  simp [State.ringsChanged, foldl_kept, apply_ite State.kept, State.setRing_kept]

theorem State.windowGens_kept (s : State) (s1 : State) (x2) (x3) (x4) (x5) (x6) : (State.windowGens s s1 x2 x3 x4 x5 x6).kept = s.kept := by
  simp [State.windowGens, foldl_kept, apply_ite State.kept, State.setReg_kept]

theorem State.modeChanged_kept (s : State) (s1 : State) (x2) (x3) : (State.modeChanged s s1 x2 x3).kept = s.kept := by
  simp [State.modeChanged, foldl_kept, apply_ite State.kept, State.setReg_kept]

theorem State.loseBank_kept (s : State) (x1) (x2) : (State.loseBank s x1 x2).kept = s.kept := Eq.trans rfl rfl

theorem State.banksChanged_kept (s : State) (s1 : State) (x2) : (State.banksChanged s s1 x2).kept = s.kept := by
  simp [State.banksChanged, foldl_kept, apply_ite State.kept, State.loseBank_kept, State.modTower_kept]

theorem State.afterCommit_kept (s : State) (s1 : State) (x2) (x3) : (State.afterCommit s s1 x2 x3).kept = s.kept := by
  unfold State.afterCommit
  grind [State.kept, State.banksChanged_kept, State.modeChanged_kept, State.windowGens_kept, State.ringsChanged_kept, State.keyCommit_kept]

theorem State.decodeErr_kept (s : State) (x1) (x2) (x3) (x4) : (State.decodeErr s x1 x2 x3 x4).kept = s.kept := by
  unfold State.decodeErr
  grind [State.kept, State.setReg_kept, State.raise_kept]

theorem State.activate_kept (s : State) (x1) (x2) : (State.activate s x1 x2).kept = s.kept := Eq.trans rfl rfl

theorem State.commitAll_kept (s : State) (x1) (x2) : (State.commitAll s x1 x2).kept = s.kept := by
  unfold State.commitAll
  first | rfl | grind [State.kept, foldl_kept, State.activate_kept, State.decodeErr_kept, State.afterCommit_kept]

theorem State.commitBlock_kept (s : State) (x1) : (State.commitBlock s x1).kept = s.kept := by
  unfold State.commitBlock
  grind [State.kept, State.commitAll_kept]

theorem State.csrWrite_kept (s : State) (x1) (x2) (x3) : (State.csrWrite s x1 x2 x3).1.kept = s.kept := by
  unfold State.csrWrite
  grind [State.kept, State.commitBlock_kept, State.epBuildWrite_kept, State.armSeq_kept, State.abandonSeq_kept, State.writeFields_kept]

theorem State.modStream_kept (s : State) (x1) (x2) (x3) : (State.modStream s x1 x2 x3).kept = s.kept := Eq.trans rfl rfl

theorem State.excReturn_kept (s : State) (x1) (x2) (x3) : (State.excReturn s x1 x2 x3).kept = s.kept := Eq.trans rfl rfl

theorem excRetBody_kept (x0) (x1) (s : State) : ResKept s (excRetBody x0 x1 s) := by
  unfold excRetBody
  grind [State.kept, ResKept, State.excReturn_kept, State.modStream_kept]

theorem tqPushBody_kept (x0) (x1) (s : State) : ResKept s (tqPushBody x0 x1 s) := by
  unfold tqPushBody
  grind [State.kept, ResKept, State.modTower_kept]

theorem csrwBody_kept (x0) (x1) (x2) (s : State) : ResKept s (csrwBody x0 x1 x2 s) := by
  unfold csrwBody
  grind [State.kept, ResKept, tqPushBody_kept, excRetBody_kept, State.csrWrite_kept]

theorem State.copyToSpire_kept (s : State) (x1) (x2) (x3) : (State.copyToSpire s x1 x2 x3).kept = s.kept := by
  unfold State.copyToSpire
  grind [State.kept, State.toSpire_kept]

theorem State.setSem_kept (s : State) (x1) (x2) (x3) : (State.setSem s x1 x2 x3).kept = s.kept := Eq.trans rfl rfl

theorem State.dropWaiter_kept (s : State) (x1) (x2) : (State.dropWaiter s x1 x2).kept = s.kept := by
  unfold State.dropWaiter
  grind [State.kept, State.setSem_kept]

theorem State.stopTower_kept (s : State) (x1) : (State.stopTower s x1).kept = s.kept := by
  unfold State.stopTower
  grind [State.kept, State.dropWaiter_kept, State.modTower_kept]

theorem State.setRunq_kept (s : State) (x1) (x2) : (State.setRunq s x1 x2).kept = s.kept := Eq.trans rfl rfl

theorem State.setInstances_kept (s : State) (x1) (x2) (x3) : (State.setInstances s x1 x2 x3).kept = s.kept := Eq.trans rfl rfl

theorem State.modInstance_kept (s : State) (x1) (x2) (x3) : (State.modInstance s x1 x2 x3).kept = s.kept := by
  unfold State.modInstance
  grind [State.kept, State.setInstances_kept]

theorem State.dropInstance_kept (s : State) (x1) (x2) (x3) (x4) : (State.dropInstance s x1 x2 x3 x4).kept = s.kept := Eq.trans rfl rfl

theorem State.stopRing_kept (s : State) (x1) (x2) : (State.stopRing s x1 x2).kept = s.kept := Eq.trans rfl rfl

theorem State.companionWrite_kept (s : State) (x1) (x2) : (State.companionWrite s x1 x2).kept = s.kept := by
  unfold State.companionWrite
  grind [State.kept]

theorem State.writeEntries_kept (s : State) (x1) (x2) (x3) : (State.writeEntries s x1 x2 x3).kept = s.kept := by
  simp [State.writeEntries, foldl_kept, apply_ite State.kept, State.companionWrite_kept, State.setRing_kept, State.raise_kept]

theorem State.writeRecord_kept (s : State) (x1) (x2) (x3) (x4) : (State.writeRecord s x1 x2 x3 x4).kept = s.kept := by
  unfold State.writeRecord
  grind [State.kept, State.writeEntries_kept, State.stopRing_kept, State.dropInstance_kept]

theorem State.putEntries_kept (s : State) (x1) (x2) (x3) (x4) (x5) : (State.putEntries s x1 x2 x3 x4 x5).kept = s.kept := by
  unfold State.putEntries
  grind [State.kept, State.writeRecord_kept, State.setRing_kept]

theorem State.postSem_kept (s : State) (x1) (x2) (x3) (x4) (x5) : (State.postSem s x1 x2 x3 x4 x5).1.kept = s.kept := by
  unfold State.postSem
  grind [State.kept, State.count_kept, State.setSem_kept]

theorem State.postRemote_kept (s : State) (x1) (x2) (x3) (x4) (x5) (x6) : (State.postRemote s x1 x2 x3 x4 x5 x6).1.kept = s.kept := by
  unfold State.postRemote
  grind [State.kept, State.postSem_kept, State.faultToSpire_kept, State.count_kept]

theorem State.postFrom_kept (s : State) (x1) (x2) (x3) (x4) (x5) : (State.postFrom s x1 x2 x3 x4 x5).1.kept = s.kept := by
  unfold State.postFrom
  grind [State.kept, State.postSem_kept, State.postRemote_kept]

theorem State.completeOne_kept (s : State) (x1) (x2) (x3) (x4) (x5) : (State.completeOne s x1 x2 x3 x4 x5).kept = s.kept := by
  unfold State.completeOne
  grind [State.kept, State.postFrom_kept, State.wrote_kept, State.setRunq_kept, State.putEntries_kept, State.modInstance_kept]

theorem State.completeList_kept (s : State) (x1) : (State.completeList s x1).kept = s.kept := by
  unfold State.completeList
  grind [State.kept, State.completeOne_kept, State.wrote_kept]

theorem State.listStep_kept (s : State) (x1) (x2) : (State.listStep s x1 x2).kept = s.kept := by
  unfold State.listStep
  grind [State.kept, State.completeList_kept, State.setRunq_kept]

theorem State.completeStep_kept (s : State) (x1) (x2) (x3) (x4) (x5) : (State.completeStep s x1 x2 x3 x4 x5).kept = s.kept := by
  unfold State.completeStep
  grind [State.kept, State.completeOne_kept, State.listStep_kept]

theorem State.settleFences_kept (x0) (s : State) : (State.settleFences x0 s).kept = s.kept := by
  fun_induction State.settleFences x0 s <;> grind [State.kept, State.completeStep_kept]

theorem State.complete_kept (s : State) (x1) (x2) (x3) (x4) (x5) : (State.complete s x1 x2 x3 x4 x5).kept = s.kept := by
  unfold State.complete
  grind [State.kept, State.completeStep_kept, State.settleFences_kept]

theorem State.taskEnded_kept (s : State) (x1) (x2) : (State.taskEnded s x1 x2).kept = s.kept := by
  unfold State.taskEnded
  grind [State.kept, State.modTower_kept, State.complete_kept]

theorem State.faultTask_kept (s : State) (x1) (x2) : (State.faultTask s x1 x2).kept = s.kept := by
  unfold State.faultTask
  grind [State.kept, State.taskEnded_kept, State.toSpire_kept, State.stopTower_kept]

theorem State.takeFault_kept (s : State) (x1) (x2) (x3) (x4) : (State.takeFault s x1 x2 x3 x4).kept = s.kept := by
  unfold State.takeFault
  grind [State.kept, State.dropWaiter_kept, State.modTower_kept, State.modStream_kept, State.wrote_kept, State.faultTask_kept, State.copyToSpire_kept]

theorem deliverPosted_kept (x0) (s : State) (k2) (h2 : ∀ t, ResKept t (k2 t)) : ResKept s (deliverPosted x0 s k2) := by
  unfold deliverPosted
  grind [State.kept, ResKept, State.takeFault_kept, State.modStream_kept]

theorem State.refuse_kept (s : State) (x1) (x2) (x3) : (State.refuse s x1 x2 x3).kept = s.kept := by
  unfold State.refuse
  grind [State.kept, State.decodeErr_kept]

theorem State.fieldWrite_kept (s : State) (x1) (x2) (x3) : (State.fieldWrite s x1 x2 x3).kept = s.kept := by
  unfold State.fieldWrite
  grind [State.kept, State.writeFields_kept, State.count_kept]

theorem State.toKey_kept (s : State) (x1) : (State.toKey s x1).kept = s.kept := Eq.trans rfl rfl

theorem State.faultToKey_kept (s : State) (x1) : (State.faultToKey s x1).kept = s.kept := by
  unfold State.faultToKey
  grind [State.kept, State.wrote_kept, State.toKey_kept]

theorem State.faultToActor_kept (s : State) (x1) (x2) (x3) : (State.faultToActor s x1 x2 x3).kept = s.kept := by
  unfold State.faultToActor
  grind [State.kept, State.faultToSpire_kept, State.faultToKey_kept]

theorem State.armWrite_kept (s : State) (x1) (x2) (x3) : (State.armWrite s x1 x2 x3).kept = s.kept := by
  unfold State.armWrite
  grind [State.kept, State.armSeq_kept, State.faultToActor_kept]

theorem State.twrWrite_kept (s : State) (x1) (x2) (x3) (x4) : (State.twrWrite s x1 x2 x3 x4).kept = s.kept := by
  unfold State.twrWrite
  grind [State.kept, State.epBuildWrite_kept, State.armWrite_kept, State.abandonSeq_kept, State.fieldWrite_kept]

theorem State.stackFault_kept (s : State) (x1) (x2) : (State.stackFault s x1 x2).kept = s.kept := by
  unfold State.stackFault
  first | rfl | grind [State.kept, foldl_kept, State.raise_kept, State.count_kept, State.setReg_kept, State.wrote_kept]

theorem State.setFld_kept (s : State) (x1) (x2) (x3) (x4) : (State.setFld s x1 x2 x3 x4).kept = s.kept := Eq.trans rfl rfl

theorem State.setActive_kept (s : State) (x1) (x2) (x3) : (State.setActive s x1 x2 x3).kept = s.kept := Eq.trans rfl rfl

theorem State.setSupply_kept (s : State) (x1) (x2) : (State.setSupply s x1 x2).kept = s.kept := Eq.trans rfl rfl

theorem State.wakeSpire_kept (s : State) (x1) : (State.wakeSpire s x1).kept = s.kept := by
  simp [State.wakeSpire, foldl_kept, apply_ite State.kept, State.setSupply_kept, State.modTower_kept]

theorem State.resumeService_kept (s : State) : (State.resumeService s).kept = s.kept := by
  unfold State.resumeService
  first | rfl | grind [State.kept, foldl_kept, State.setFld_kept, State.wakeSpire_kept]

theorem State.joinBell_kept (s : State) (x1) : (State.joinBell s x1).kept = s.kept := by
  unfold State.joinBell
  grind [State.kept]

theorem State.postWrite_kept (s : State) (x1) (x2) (x3) (x4) : (State.postWrite s x1 x2 x3 x4).kept = s.kept := by
  unfold State.postWrite
  grind [State.kept, State.postRemote_kept, State.faultToActor_kept, State.postSem_kept]

theorem State.readTail_kept (s : State) (x1) (x2) : (State.readTail s x1 x2).kept = s.kept := by
  unfold State.readTail
  grind [State.kept, State.setRing_kept, State.faultToSpire_kept, State.stopRing_kept]

theorem State.resumeRing_kept (s : State) (x1) (x2) : (State.resumeRing s x1 x2).kept = s.kept := by
  unfold State.resumeRing
  grind [State.kept, State.readTail_kept, State.setRing_kept]

theorem State.baseWrite_kept (s : State) (x1) (x2) (x3) (x4) (x5) (x6) : (State.baseWrite s x1 x2 x3 x4 x5 x6).kept = s.kept := by
  unfold State.baseWrite
  grind [State.kept, State.refuse_kept, State.setReg_kept]

theorem State.clearDecodeErr_kept (s : State) (x1) : (State.clearDecodeErr s x1).kept = s.kept := by
  unfold State.clearDecodeErr
  grind [State.kept, State.setFld_kept]

theorem State.sprWrite_kept (s : State) (x1) (x2) (x3) (x4) : (State.sprWrite s x1 x2 x3 x4).kept = s.kept := by
  unfold State.sprWrite
  grind [State.kept, State.clearDecodeErr_kept, State.fieldWrite_kept, State.baseWrite_kept, State.refuse_kept, State.resumeRing_kept]

theorem State.setCtx_kept (s : State) (x1) (x2) : (State.setCtx s x1 x2).kept = s.kept := Eq.trans rfl rfl

theorem State.ctxWrite_kept (s : State) (x1) (x2) : (State.ctxWrite s x1 x2).kept = s.kept := Eq.trans rfl rfl

theorem State.setTraining_kept (s : State) (x1) (x2) : (State.setTraining s x1 x2).kept = s.kept := Eq.trans rfl rfl

theorem State.alxWrite_kept (s : State) (x1) (x2) : (State.alxWrite s x1 x2).kept = s.kept := by
  unfold State.alxWrite
  grind [State.kept, State.setTraining_kept, State.setReg_kept, State.fieldWrite_kept]

theorem State.opmemZero_kept (s : State) (x1) : (State.opmemZero s x1).kept = s.kept := by
  simp [State.opmemZero, foldl_kept, apply_ite State.kept, State.setReg_kept]

theorem State.setPke_kept (s : State) (x1) (x2) : (State.setPke s x1 x2).kept = s.kept := Eq.trans rfl rfl

theorem State.pkeLatch_kept (s : State) (x1) (x2) (x3) : (State.pkeLatch s x1 x2 x3).kept = s.kept := by
  unfold State.pkeLatch
  grind [State.kept, State.setFld_kept, State.count_kept, State.raise_kept]

theorem State.completeOk_kept (s : State) (x1) (x2) (x3) : (State.completeOk s x1 x2 x3).kept = s.kept := by
  unfold State.completeOk
  grind [State.kept, State.complete_kept]

theorem State.pkeEnd_kept (s : State) (x1) (x2) (x3) (x4) (x5) : (State.pkeEnd s x1 x2 x3 x4 x5).kept = s.kept := by
  unfold State.pkeEnd
  grind [State.kept, State.completeOk_kept, State.pkeLatch_kept, State.setPke_kept]

theorem State.setKeySlot_kept (s : State) (x1) (x2) : (State.setKeySlot s x1 x2).kept = s.kept := Eq.trans rfl rfl

theorem State.unreserve_kept (s : State) (x1) : (State.unreserve s x1).kept = s.kept := by
  unfold State.unreserve
  grind [State.kept, State.setKeySlot_kept]

theorem State.bindEnd_kept (s : State) (x1) : (State.bindEnd s x1).kept = s.kept := Eq.trans rfl rfl

theorem State.completeFault_kept (s : State) (x1) (x2) (x3) (x4) : (State.completeFault s x1 x2 x3 x4).kept = s.kept := by
  unfold State.completeFault
  grind [State.kept, State.wrote_kept, State.complete_kept]

theorem State.bindAbort_kept (s : State) (x1) (x2) : (State.bindAbort s x1 x2).kept = s.kept := by
  unfold State.bindAbort
  grind [State.kept, State.completeFault_kept, State.pkeLatch_kept, State.opmemZero_kept, State.bindEnd_kept]

theorem State.pkeAbort_kept (s : State) (x1) : (State.pkeAbort s x1).kept = s.kept := by
  unfold State.pkeAbort
  grind [State.kept, State.bindAbort_kept, State.unreserve_kept, State.opmemZero_kept, State.pkeEnd_kept, State.draw_kept]

theorem State.pkeCtl_kept (s : State) (x1) (x2) : (State.pkeCtl s x1 x2).kept = s.kept := by
  unfold State.pkeCtl
  grind [State.kept, State.pkeAbort_kept, State.opmemZero_kept]

theorem State.fuseRefuse_kept (s : State) : (State.fuseRefuse s).kept = s.kept := Eq.trans rfl rfl

theorem State.culletWrite_kept (s : State) (x1) (x2) (x3) : (State.culletWrite s x1 x2 x3).kept = s.kept := Eq.trans rfl rfl

theorem State.culletSet_kept (s : State) (x1) : (State.culletSet s x1).kept = s.kept := by
  unfold State.culletSet
  grind [State.kept, State.culletWrite_kept]

theorem State.stageFld_kept (s : State) (x1) (x2) (x3) (x4) : (State.stageFld s x1 x2 x3 x4).kept = s.kept := Eq.trans rfl rfl

theorem State.keepBand_kept (s : State) (x1) (x2) : (State.keepBand s x1 x2).kept = s.kept := by
  unfold State.keepBand
  grind [State.kept, State.decodeErr_kept, State.stageFld_kept]

theorem State.keepBands_kept (s : State) (x1) : (State.keepBands s x1).kept = s.kept := by
  simp [State.keepBands, foldl_kept, apply_ite State.kept, State.keepBand_kept]

theorem State.commitOf_kept (s : State) (x1) : (State.commitOf s x1).kept = s.kept := by
  unfold State.commitOf
  grind [State.kept, State.commitBlock_kept, State.keepBands_kept]

theorem State.guarded_kept (s : State) (x1) (x2) (k3) (h3 : ∀ t, (k3 t).kept = t.kept) : (State.guarded s x1 x2 k3).kept = s.kept := by
  unfold State.guarded
  grind [State.kept, State.refuse_kept]

theorem State.raisePort_kept (s : State) (x1) (x2) : (State.raisePort s x1 x2).kept = s.kept := Eq.trans rfl rfl

theorem State.pkeSync_kept (s : State) : (State.pkeSync s).kept = s.kept := Eq.trans rfl rfl

theorem State.forget_kept (s : State) (x1) : (State.forget s x1).kept = s.kept :=
  (foldl_kept _ State.unreserve_kept _ _).trans (Eq.trans rfl rfl)

theorem State.dropWork_kept (s : State) (x1) (x2) (x3) : (State.dropWork s x1 x2 x3).kept = s.kept := by
  unfold State.dropWork
  refine (foldl_kept _ (fun t x => ?_) _ _).trans ?_
  all_goals first | rfl | (simp only [foldl_kept, apply_ite State.kept, ite_self, State.forget_kept, State.modTower_kept, State.stopTower_kept]; done) | grind [State.kept, State.forget_kept, State.modTower_kept, State.stopTower_kept]

theorem State.dropAll_kept (s : State) : (State.dropAll s).kept = s.kept := by
  unfold State.dropAll
  grind [State.kept, State.dropWork_kept]

theorem State.stopRings_kept (s : State) : (State.stopRings s).kept = s.kept := by
  simp [State.stopRings, foldl_kept, apply_ite State.kept, State.stopRing_kept]

theorem State.alert_kept (s : State) (x1) : (State.alert s x1).kept = s.kept := by
  unfold State.alert
  grind [State.kept, State.raise_kept, State.setFld_kept]

theorem State.setColl_kept (s : State) (x1) (x2) (x3) : (State.setColl s x1 x2 x3).kept = s.kept := Eq.trans rfl rfl

theorem State.collEnd_kept (s : State) (x1) (x2) (x3) (x4) : (State.collEnd s x1 x2 x3 x4).kept = s.kept := by
  unfold State.collEnd
  grind [State.kept, State.setColl_kept, State.completeFault_kept, State.completeOk_kept]

theorem State.setChannel_kept (s : State) (x1) (x2) (x3) : (State.setChannel s x1 x2 x3).kept = s.kept := Eq.trans rfl rfl

theorem State.channelEnd_kept (s : State) (x1) (x2) (x3) (x4) (x5) (x6) : (State.channelEnd s x1 x2 x3 x4 x5 x6).kept = s.kept := by
  unfold State.channelEnd
  grind [State.kept, State.setChannel_kept, State.completeFault_kept, State.completeOk_kept]

theorem State.peerEnd_kept (s : State) (x1) (x2) (x3) (x4) (x5) : (State.peerEnd s x1 x2 x3 x4 x5).kept = s.kept := by
  unfold State.peerEnd
  grind [State.kept, State.channelEnd_kept]

theorem State.portDown_kept (s : State) (x1) (x2) : (State.portDown s x1 x2).kept = s.kept := by
  unfold State.portDown
  first | rfl | grind [State.kept, foldl_kept, State.setFld_kept, State.raisePort_kept, State.faultToSpire_kept, State.peerEnd_kept, State.collEnd_kept]

theorem State.logAppend_kept (s : State) (x1) (x2) (x3) (x4) : (State.logAppend s x1 x2 x3 x4).kept = s.kept := by
  unfold State.logAppend
  grind [State.kept]

theorem State.countPin_kept (s : State) (x1) (x2) (x3) : (State.countPin s x1 x2 x3).kept = s.kept := by
  unfold State.countPin
  grind [State.kept, State.raise_kept, State.setFld_kept, State.logAppend_kept, State.setReg_kept]

theorem State.hbmCorrected_kept (s : State) (x1) (x2) (x3) (x4) : (State.hbmCorrected s x1 x2 x3 x4).kept = s.kept := by
  simp [State.hbmCorrected, foldl_kept, apply_ite State.kept, State.countPin_kept, State.count_kept]

theorem State.hbmUeReport_kept (s : State) (x1) (x2) (x3) (x4) : (State.hbmUeReport s x1 x2 x3 x4).kept = s.kept := by
  simp [State.hbmUeReport, foldl_kept, apply_ite State.kept, State.count_kept, State.setReg_kept, State.raise_kept, State.faultToKey_kept, State.faultToSpire_kept]

theorem State.stackPut_kept (s : State) (x1) (x2) (x3) : (State.stackPut s x1 x2 x3).kept = s.kept := Eq.trans rfl rfl

theorem State.writeHalf_kept (s : State) (x1) (x2) : (State.writeHalf s x1 x2).kept = s.kept := by
  unfold State.writeHalf
  grind [State.kept, State.stackPut_kept, State.hbmUeReport_kept, State.hbmCorrected_kept]

theorem State.setLines_kept (s : State) (x1) (x2) : (State.setLines s x1 x2).kept = s.kept := Eq.trans rfl rfl

theorem State.dropLine_kept (s : State) (x1) (x2) : (State.dropLine s x1 x2).kept = s.kept := Eq.trans rfl rfl

theorem State.writeOut_kept (s : State) (x1) : (State.writeOut s x1).kept = s.kept := by
  unfold State.writeOut
  grind [State.kept, State.dropLine_kept, State.count_kept, State.writeHalf_kept]

theorem State.selfRefresh_kept (s : State) (x1) : (State.selfRefresh s x1).kept = s.kept := by
  simp [State.selfRefresh, foldl_kept, apply_ite State.kept, State.writeOut_kept, State.setFld_kept]

theorem State.alertPin_kept (s : State) : (State.alertPin s).kept = s.kept := Eq.trans rfl rfl

theorem State.writeOutAll_kept (s : State) (x1) : (State.writeOutAll s x1).kept = s.kept := by
  simp [State.writeOutAll, foldl_kept, apply_ite State.kept, State.writeOut_kept]

theorem State.galleriesUp_kept (s : State) : (State.galleriesUp s).kept = s.kept := Eq.trans rfl rfl

theorem State.poolLanes_kept (s : State) : (State.poolLanes s).kept = s.kept := by
  unfold State.poolLanes
  grind [State.kept, State.setFld_kept]

theorem State.poolRows_kept (s : State) (x1) : (State.poolRows s x1).kept = s.kept := Eq.trans rfl rfl

theorem State.poolTower_kept (s : State) (x1) : (State.poolTower s x1).kept = s.kept := Eq.trans rfl rfl

theorem State.poolSpire_kept (s : State) (x1) (x2) : (State.poolSpire s x1 x2).kept = s.kept := by
  unfold State.poolSpire
  grind [State.kept, State.setFld_kept, State.poolTower_kept, State.poolRows_kept]

theorem State.repair_kept (s : State) (x1) (x2) (x3) : ∀ t, State.repair s x1 x2 x3 = some t → t.kept = s.kept := by
  intro t h
  unfold State.repair at h
  repeat' split at h
  all_goals grind [State.kept, State.setTower_kept]

theorem State.setExpanders_kept (s : State) (x1) (x2) : (State.setExpanders s x1 x2).kept = s.kept := by
  unfold State.setExpanders
  grind [State.kept, State.setReg_kept]

theorem State.setCullet_kept (s : State) (x1) (x2) : (State.setCullet s x1 x2).kept = s.kept := by
  unfold State.setCullet
  grind [State.kept, State.setReg_kept]

theorem State.fuseSpire_kept (s : State) (x1) : (State.fuseSpire s x1).kept = s.kept := by
  unfold State.fuseSpire
  refine (State.poolSpire_kept _ _ _).trans ((foldl_kept _ (fun t i => ?_) _ _).trans ?_)
  · dsimp only
    split
    · cases h : t.repair (17 * x1 + bits (field (leBytes 56 (s.fuses.cullet.toNat >>> (448 * x1))) (4 * i + 7) (4 * i + 4)) 31 27)
          (bits (field (leBytes 56 (s.fuses.cullet.toNat >>> (448 * x1))) (4 * i + 7) (4 * i + 4)) 26 24)
          (bits (field (leBytes 56 (s.fuses.cullet.toNat >>> (448 * x1))) (4 * i + 7) (4 * i + 4)) 23 0) with
      | none => rfl
      | some u => exact State.repair_kept t _ _ _ u h
    · rfl
  · grind [State.setFld_kept, State.setExpanders_kept, State.setCullet_kept]

theorem State.fuseMap_kept (s : State) : (State.fuseMap s).kept = s.kept := by
  simp [State.fuseMap, foldl_kept, apply_ite State.kept, State.fuseSpire_kept, State.setFld_kept, State.poolLanes_kept]

theorem State.loseSpire_kept (s : State) (x1) : (State.loseSpire s x1).kept = s.kept := by
  unfold State.loseSpire
  refine (State.setSupply_kept _ _ _).trans ((kept_mems _ _ _ _ _).trans ?_)
  exact (foldl_kept _ (fun t h => State.setFld_kept t _ _ _ _) (List.range 8) _).trans (State.setLines_kept s x1 [])

theorem State.alertOff_kept (s : State) (x1) : (State.alertOff s x1).kept = s.kept := Eq.trans rfl rfl

theorem State.tryService_kept (s : State) : (State.tryService s).kept = s.kept := by
  unfold State.tryService
  grind [State.kept, State.setFld_kept]

theorem State.retain_kept (s : State) (x1) : (State.retain s x1).kept = s.kept := by
  simp [State.retain, foldl_kept, apply_ite State.kept, State.modTower_kept, State.writeOutAll_kept, State.setSupply_kept]

theorem State.stopSpire_kept (s : State) (x1) : (State.stopSpire s x1).kept = s.kept := by
  simp [State.stopSpire, foldl_kept, apply_ite State.kept, State.stopTower_kept]

theorem State.towerPut_kept (s : State) (x1) (x2) (x3) : (State.towerPut s x1 x2 x3).kept = s.kept := Eq.trans rfl rfl

theorem State.galleryPut_kept (s : State) (x1) (x2) (x3) : (State.galleryPut s x1 x2 x3).kept = s.kept := Eq.trans rfl rfl

theorem State.linePut_kept (s : State) (x1) (x2) (x3) (x4) : (State.linePut s x1 x2 x3 x4).kept = s.kept := by
  unfold State.linePut
  grind [State.kept, State.dropLine_kept, State.writeOut_kept, State.count_kept, State.setLines_kept]

theorem State.granulePut_kept (s : State) (x1) (x2) (x3) (x4) : (State.granulePut s x1 x2 x3 x4).kept = s.kept := by
  unfold State.granulePut
  grind [State.kept, State.linePut_kept, State.setLines_kept, State.stackPut_kept]

theorem State.memPut_kept (s : State) (x1) (x2) (x3) (x4) : (State.memPut s x1 x2 x3 x4).kept = s.kept := by
  unfold State.memPut
  first | rfl | grind [State.kept, foldl_kept, State.granulePut_kept, State.hbmUeReport_kept, State.galleryPut_kept, State.towerPut_kept]

theorem State.clearRuns_kept (s : State) (x1) : (State.clearRuns s x1).kept = s.kept := Eq.trans rfl rfl

theorem State.galleryWrite_kept (s : State) (x1) (x2) (x3) (x4) : (State.galleryWrite s x1 x2 x3 x4).1.kept = s.kept := by
  unfold State.galleryWrite
  grind [State.kept, State.clearRuns_kept, State.galleryPut_kept, State.faultToSpire_kept, State.count_kept, State.raise_kept]

theorem State.rowWrites_kept (s : State) (k1) (x2) (h1 : ∀ t o bs, (k1 t o bs).1.kept = t.kept) : (State.rowWrites s k1 x2).1.kept = s.kept := by
  unfold State.rowWrites
  refine (foldl_kept1 _ (fun p x => ?_) _ _).trans ?_
  all_goals first | rfl | grind

theorem State.towerWrite_kept (s : State) (x1) (x2) (x3) (x4) : (State.towerWrite s x1 x2 x3 x4).1.kept = s.kept := by
  unfold State.towerWrite
  grind [State.kept, State.clearRuns_kept, State.towerPut_kept, State.faultToSpire_kept, State.count_kept]

theorem State.towerPacket_kept (s : State) (x1) (x2) (x3) (x4) : (State.towerPacket s x1 x2 x3 x4).1.kept = s.kept := by
  unfold State.towerPacket
  grind [State.kept, State.faultToSpire_kept, State.towerWrite_kept]

theorem State.packetCheck_kept (s : State) (x1) (x2) (x3) (x4) : (State.packetCheck s x1 x2 x3 x4).1.kept = s.kept := by
  unfold State.packetCheck
  grind [State.kept, State.setReg_kept, State.faultToSpire_kept, State.count_kept]

theorem State.remotePacket_kept (s : State) (x1) (x2) (x3) (x4) : (State.remotePacket s x1 x2 x3 x4).1.kept = s.kept := by
  unfold State.remotePacket
  grind [State.kept, State.packetCheck_kept, State.towerPacket_kept, State.galleryWrite_kept]

theorem State.remotePackets_kept (s : State) (x1) (x2) (x3) : (State.remotePackets s x1 x2 x3).1.kept = s.kept := by
  exact State.rowWrites_kept _ _ _ (fun t _ _ => State.remotePacket_kept t _ _ _ _)

theorem State.send_kept (s : State) (x1) : (State.send s x1).kept = s.kept := Eq.trans rfl rfl

theorem State.answer_kept (s : State) (x1) (x2) : (State.answer s x1 x2).kept = s.kept := by
  unfold State.answer
  grind [State.kept, State.send_kept]

theorem State.landGallery_kept (s : State) (x1) (x2) : (State.landGallery s x1 x2).kept = s.kept := by
  unfold State.landGallery
  grind [State.kept, State.galleryWrite_kept, State.answer_kept]

theorem State.zeroRange_kept (s : State) (x1) (x2) (x3) : (State.zeroRange s x1 x2 x3).kept = s.kept := Eq.trans rfl rfl

theorem State.landTower_kept (s : State) (x1) (x2) : (State.landTower s x1 x2).kept = s.kept := by
  unfold State.landTower
  grind [State.kept, State.towerPacket_kept, State.answer_kept]

theorem State.zeroBanks_kept (s : State) (x1) (x2) : (State.zeroBanks s x1 x2).kept = s.kept := Eq.trans rfl rfl

theorem State.endRising_kept (s : State) (x1) : (State.endRising s x1).kept = s.kept := by
  unfold State.endRising
  grind [State.kept, State.modTower_kept, State.draw_kept, State.count_kept]

theorem State.settle_kept (s : State) (x1) : (State.settle s x1).kept = s.kept := by
  unfold State.settle
  first | rfl | grind [State.kept, foldl_kept, State.endRising_kept, State.modTower_kept, State.zeroBanks_kept, State.landTower_kept, State.zeroRange_kept, State.landGallery_kept]

theorem State.putRange_kept (s : State) (x1) (x2) (x3) (x4) (x5) : (State.putRange s x1 x2 x3 x4 x5).1.kept = s.kept := by
  unfold State.putRange
  grind [State.kept, State.settle_kept, State.remotePackets_kept, State.rowWrites_kept, State.galleryWrite_kept, State.hbmUeReport_kept, State.memPut_kept]

theorem State.sealPut_kept (s : State) (x1) (x2) (x3) : (State.sealPut s x1 x2 x3).1.kept = s.kept := by
  unfold State.sealPut
  grind [State.kept, State.putRange_kept]

theorem State.putLimbs_kept (s : State) (x1) (x2) (x3) : (State.putLimbs s x1 x2 x3).1.kept = s.kept := by
  unfold State.putLimbs
  refine (foldl_kept1 _ (fun p x => ?_) _ _).trans ?_
  all_goals first | rfl | grind [State.kept, State.sealPut_kept]

theorem State.spoil_kept (s : State) (x1) (x2) : (State.spoil s x1 x2).kept = s.kept := by
  unfold State.spoil
  grind [State.kept, State.draw_kept, State.putLimbs_kept]

theorem State.dirPut_kept (s : State) (x1) (x2) (x3) (x4) : (State.dirPut s x1 x2 x3 x4).kept = s.kept := by
  unfold State.dirPut
  grind [State.kept, State.memPut_kept]

theorem State.pinPages_kept (s : State) (x1) (x2) (x3) : (State.pinPages s x1 x2 x3).kept = s.kept := by
  simp [State.pinPages, foldl_kept, apply_ite State.kept, State.dirPut_kept]

theorem State.unpin_kept (s : State) (x1) : (State.unpin s x1).kept = s.kept := by
  unfold State.unpin
  grind [State.kept, State.pinPages_kept]

theorem State.setSeal_kept (s : State) (x1) (x2) (x3) : (State.setSeal s x1 x2 x3).kept = s.kept := Eq.trans rfl rfl

theorem State.sealFail_kept (s : State) (x1) (x2) (x3) (x4) : (State.sealFail s x1 x2 x3 x4).kept = s.kept := by
  unfold State.sealFail
  grind [State.kept, State.completeFault_kept, State.setSeal_kept, State.unpin_kept]

theorem State.sealAbort_kept (s : State) (x1) (x2) (x3) (x4) (x5) : (State.sealAbort s x1 x2 x3 x4 x5).kept = s.kept := by
  unfold State.sealAbort
  grind [State.kept, State.sealFail_kept, State.spoil_kept]

theorem State.ckPut_kept (s : State) (x1) (x2) (x3) (x4) : (State.ckPut s x1 x2 x3 x4).kept = s.kept := Eq.trans rfl rfl

theorem State.annealSpoil_kept (s : State) (x1) (x2) (x3) : (State.annealSpoil s x1 x2 x3).kept = s.kept := by
  unfold State.annealSpoil
  grind [State.kept, State.spoil_kept]

theorem State.count64_kept (s : State) (x1) (x2) : (State.count64 s x1 x2).kept = s.kept := Eq.trans rfl rfl

theorem State.keyClks_kept (s : State) (x1) (x2) : (State.keyClks s x1 x2).kept = s.kept := by
  unfold State.keyClks
  grind [State.kept, State.draw_kept, State.count64_kept]

theorem State.sliceFail_kept (s : State) (x1) (x2) (x3) (x4) (x5) (x6) : (State.sliceFail s x1 x2 x3 x4 x5 x6).kept = s.kept := by
  unfold State.sliceFail
  grind [State.kept, State.keyClks_kept, State.annealSpoil_kept, State.sealFail_kept, State.count_kept, State.ckPut_kept, State.setSeal_kept, State.unpin_kept]

theorem State.flowSeals_kept (s : State) : (State.flowSeals s).kept = s.kept := by
  unfold State.flowSeals
  first | rfl | grind [State.kept, foldl_kept, State.sliceFail_kept, State.sealAbort_kept]

theorem State.abandonLaunch_kept (s : State) (x1) (x2) : (State.abandonLaunch s x1 x2).kept = s.kept := by
  unfold State.abandonLaunch
  first | rfl | grind [State.kept, foldl_kept, State.modTower_kept, State.stopTower_kept, State.completeFault_kept]

theorem State.loseLaunches_kept (s : State) (x1) (x2) : (State.loseLaunches s x1 x2).kept = s.kept := by
  simp [State.loseLaunches, foldl_kept, apply_ite State.kept, State.abandonLaunch_kept]

theorem State.clearEn_kept (s : State) (x1) : (State.clearEn s x1).kept = s.kept := by
  unfold State.clearEn
  grind [State.kept, State.setFld_kept]

theorem State.setTemp_kept (s : State) (x1) (x2) : (State.setTemp s x1 x2).kept = s.kept := by
  unfold State.setTemp
  grind [State.kept, State.setFld_kept]

theorem State.throttleTo_kept (s : State) (x1) (x2) : (State.throttleTo s x1 x2).kept = s.kept := Eq.trans rfl rfl

theorem State.setPoint_kept (s : State) (x1) (x2) : (State.setPoint s x1 x2).kept = s.kept := by
  unfold State.setPoint
  grind [State.kept, State.setFld_kept]

theorem State.fallPoint_kept (s : State) (x1) : (State.fallPoint s x1).kept = s.kept := by
  unfold State.fallPoint
  grind [State.kept, State.setPoint_kept]

theorem State.alertIs_kept (s : State) (x1) (x2) : (State.alertIs s x1 x2).kept = s.kept := by
  unfold State.alertIs
  grind [State.kept, State.alert_kept, State.alertOff_kept]

theorem State.showThrottle_kept (s : State) : (State.showThrottle s).kept = s.kept := by
  unfold State.showThrottle
  grind [State.kept, State.alertIs_kept, State.setFld_kept]

theorem State.showCap_kept (s : State) : (State.showCap s).kept = s.kept := by
  unfold State.showCap
  grind [State.kept, State.setFld_kept, State.alertOff_kept]

theorem State.capStep_kept (s : State) (x1) : (State.capStep s x1).kept = s.kept := Eq.trans rfl rfl

theorem State.capAll_kept (s : State) : (State.capAll s).kept = s.kept := by
  unfold State.capAll
  refine (State.showCap_kept _).trans ?_
  exact foldl_kept _ (fun t sp => (State.fallPoint_kept _ _).trans (State.capStep_kept t sp)) (List.range 4) _

theorem State.towerOff_kept (s : State) (x1) : (State.towerOff s x1).kept = s.kept := Eq.trans rfl rfl

theorem State.dropNext_kept (s : State) (x1) (x2) (x3) (x4) (x5) : (State.dropNext s x1 x2 x3 x4 x5).kept = s.kept := by
  unfold State.dropNext
  grind [State.kept, State.setRunq_kept, State.setRing_kept, State.wrote_kept, State.complete_kept]

theorem State.loseQueue_kept (s : State) (x1) (x2) (x3) (x4) (x5) : (State.loseQueue s x1 x2 x3 x4 x5).kept = s.kept := by
  fun_induction State.loseQueue s x1 x2 x3 x4 x5 <;> grind [State.kept, State.dropNext_kept]

theorem State.endList_kept (s : State) (x1) (x2) (x3) : (State.endList s x1 x2 x3).kept = s.kept := by
  unfold State.endList
  grind [State.kept, State.setRunq_kept, State.draw_kept, State.completeList_kept]

theorem State.loseRunner_kept (s : State) (x1) (x2) (x3) : (State.loseRunner s x1 x2 x3).kept = s.kept := by
  simp [State.loseRunner, foldl_kept, apply_ite State.kept, State.endList_kept, State.completeFault_kept]

theorem State.loseSeals_kept (s : State) (x1) (x2) : (State.loseSeals s x1 x2).kept = s.kept := by
  refine foldl_kept _ (fun t sp => ?_) _ _
  refine foldl_kept _ (fun u e => ?_) _ _
  grind [State.sealAbort_kept, State.sealFail_kept, State.annealSpoil_kept]

theorem State.loseWork_kept (s : State) (x1) (x2) : (State.loseWork s x1 x2).kept = s.kept := by
  simp [State.loseWork, foldl_kept, apply_ite State.kept, State.loseLaunches_kept, State.loseSeals_kept, State.forget_kept, State.loseRunner_kept]

theorem State.retireSpire_kept (s : State) (x1) : (State.retireSpire s x1).kept = s.kept := by
  simp [State.retireSpire, foldl_kept, apply_ite State.kept, State.setFld_kept, State.setReg_kept, State.clearEn_kept, State.alert_kept, State.stopRing_kept, State.loseWork_kept, State.loseQueue_kept, State.setRunq_kept, State.setInstances_kept, State.stopSpire_kept]

theorem State.retireTower_kept (s : State) (x1) : (State.retireTower s x1).kept = s.kept := by
  unfold State.retireTower
  grind [State.kept, State.alert_kept, State.setReg_kept]

theorem State.opmemFree_kept (s : State) (x1) : (State.opmemFree s x1).kept = s.kept := by
  simp [State.opmemFree, foldl_kept, apply_ite State.kept, State.setReg_kept, State.draw_kept]

theorem State.pkePut_kept (s : State) (x1) (x2) (x3) (x4) : (State.pkePut s x1 x2 x3 x4).1.kept = s.kept := by
  unfold State.pkePut
  grind [State.kept, State.putRange_kept]

theorem State.extend_kept (s : State) (x1) (x2) : (State.extend s x1 x2).kept = s.kept := by
  simp [State.extend, foldl_kept, apply_ite State.kept, State.setReg_kept]

theorem State.pkeCompute_kept (s : State) (x1) : (State.pkeCompute s x1).1.kept = s.kept := by
  unfold State.pkeCompute
  grind [State.kept, State.draw_kept, State.setKeySlot_kept, State.extend_kept]

theorem State.pkeFailed_kept (s : State) (x1) (x2) : (State.pkeFailed s x1 x2).kept = s.kept := by
  unfold State.pkeFailed
  grind [State.kept, State.setFld_kept, State.setPke_kept, State.unreserve_kept, State.raise_kept, State.completeFault_kept]

theorem State.pkeSample_kept (s : State) (x1) (x2) : (State.pkeSample s x1 x2).1.kept = s.kept := by
  unfold State.pkeSample
  grind [State.kept, State.setKeySlot_kept]

theorem State.countCorrected_kept (s : State) (x1) (x2) (x3) : (State.countCorrected s x1 x2 x3).kept = s.kept := by
  unfold State.countCorrected
  first | rfl | grind [State.kept, foldl_kept, State.count_kept, State.hbmCorrected_kept]

theorem State.ueReport_kept (s : State) (x1) (x2) : (State.ueReport s x1 x2).kept = s.kept := by
  unfold State.ueReport
  grind [State.kept, State.hbmUeReport_kept, State.raise_kept, State.faultToSpire_kept]

theorem State.readRange_kept (s : State) (x1) (x2) (x3) (x4) (x5) : (State.readRange s x1 x2 x3 x4 x5).s.kept = s.kept := by
  unfold State.readRange
  dsimp only
  have hs := State.settle_kept s x3
  split
  · exact (State.ueReport_kept _ _ _).trans ((State.countCorrected_kept _ _ _ _).trans hs)
  · dsimp only
    split
    · exact (State.hbmUeReport_kept _ _ _ _ _).trans
        ((foldl_kept _ (fun t u => State.ueReport_kept t _ u) _ _).trans ((State.countCorrected_kept _ _ _ _).trans hs))
    · exact (foldl_kept _ (fun t u => State.ueReport_kept t _ u) _ _).trans ((State.countCorrected_kept _ _ _ _).trans hs)

theorem State.pkeGet_kept (s : State) (x1) (x2) (x3) (x4) : (State.pkeGet s x1 x2 x3 x4).1.kept = s.kept := by
  unfold State.pkeGet
  grind [State.kept, State.readRange_kept]

theorem State.pkeBegin_kept (s : State) (x1) (x2) (x3) (x4) : (State.pkeBegin s x1 x2 x3 x4).kept = s.kept := by
  unfold State.pkeBegin
  grind [State.kept, State.completeFault_kept, State.pkeGet_kept, State.pkeSample_kept, State.setPke_kept, State.setFld_kept, State.opmemFree_kept]

theorem State.onEngine_kept (s : State) (x1) (x2) (x3) (k4) (h4 : ∀ t, (k4 t).kept = t.kept) : (State.onEngine s x1 x2 x3 k4).kept = s.kept := by
  unfold State.onEngine
  grind [State.kept, State.stopRing_kept, State.completeFault_kept]

theorem State.badCmd_kept (s : State) (x1) (x2) : (State.badCmd s x1 x2).kept = s.kept := by
  unfold State.badCmd
  grind [State.kept, State.completeFault_kept, State.stopRing_kept]

theorem State.pkeStart_kept (s : State) (x1) (x2) (x3) : (State.pkeStart s x1 x2 x3).kept = s.kept := by
  unfold State.pkeStart
  exact State.onEngine_kept _ _ _ _ _ (fun t => by
    split
    · exact State.badCmd_kept _ _ _
    · split
      · rfl
      · exact State.pkeBegin_kept _ _ _ _ _)

theorem State.trainStacks_kept (s : State) (x1) : (State.trainStacks s x1).kept = s.kept := by
  unfold State.trainStacks
  first | rfl | grind [State.kept, foldl_kept, State.setReg_kept, State.alertPin_kept]

theorem State.logIgnored_kept (s : State) : (State.logIgnored s).kept = s.kept := by
  unfold State.logIgnored
  grind [State.kept, State.setFld_kept]

theorem State.takeExpander_kept (s : State) (x1) (x2) : (State.takeExpander s x1 x2).kept = s.kept := by
  unfold State.takeExpander
  grind [State.kept, State.setFld_kept, State.setExpanders_kept]

theorem State.galleryBell_kept (s : State) : (State.galleryBell s).kept = s.kept := by
  unfold State.galleryBell
  refine (foldl_kept _ (fun t x => ?_) _ _).trans ?_
  all_goals first | rfl | (simp only [foldl_kept, apply_ite State.kept, ite_self, State.setFld_kept]; done) | grind [State.kept, State.setFld_kept]

theorem State.takeGallery_kept (s : State) (x1) (x2) : (State.takeGallery s x1 x2).kept = s.kept := by
  unfold State.takeGallery
  grind [State.kept, State.galleryBell_kept]

theorem State.swapSlot_kept (s : State) (x1) : (State.swapSlot s x1).kept = s.kept := by
  unfold State.swapSlot
  grind [State.kept, State.poolTower_kept, State.setCullet_kept]

theorem State.takeLane_kept (s : State) (x1) (x2) : (State.takeLane s x1 x2).kept = s.kept := by
  unfold State.takeLane
  grind [State.kept, State.poolLanes_kept, State.setFld_kept]

theorem State.logEntry_kept (s : State) (x1) : ∀ t, State.logEntry s x1 = some t → t.kept = s.kept := by
  intro t h
  unfold State.logEntry at h
  dsimp only at h
  split at h
  · split at h
    · cases h
      exact (foldl_kept _ (fun t n => State.setFld_kept t _ _ _ _) _ _).trans (State.setFld_kept _ _ _ _ _)
    · cases h
  · split at h
    · split at h
      · cases h
        exact State.takeLane_kept _ _ _
      · cases h
    · split at h
      · cases h
        rfl
      · split at h
        · obtain ⟨u, hu, rfl⟩ := Option.map_eq_some_iff.mp h
          exact (State.poolRows_kept _ _).trans (State.repair_kept _ _ _ _ _ hu)
        · split at h
          · split at h
            · cases h
              exact State.swapSlot_kept _ _
            · cases h
          · split at h
            · split at h
              · cases h
                exact State.takeGallery_kept _ _ _
              · cases h
            · split at h
              · split at h
                · cases h
                  exact State.takeExpander_kept _ _ _
                · cases h
              · cases h
                rfl

theorem State.applyLog_kept (s : State) : (State.applyLog s).kept = s.kept := by
  unfold State.applyLog
  split
  · rfl
  · refine (State.extend_kept _ _ _).trans (foldl_kept _ (fun t k => ?_) _ _)
    cases h : t.logEntry ((((s.logBytes _).drop (64 + 8 * k)).take 8)) with
    | none => simpa [h] using State.logIgnored_kept t
    | some u => simpa [h] using State.logEntry_kept t _ u h

theorem State.collAbort_kept (s : State) (x1) (x2) (x3) : (State.collAbort s x1 x2 x3).kept = s.kept := by
  simp [State.collAbort, foldl_kept, apply_ite State.kept, State.send_kept]

theorem State.setLengths_kept (s : State) (x1) (x2) (x3) : (State.setLengths s x1 x2 x3).kept = s.kept := by
  unfold State.setLengths
  grind [State.kept, State.galleryPut_kept]

theorem State.dropGroup_kept (s : State) (x1) (x2) : (State.dropGroup s x1 x2).kept = s.kept := by
  unfold State.dropGroup
  refine (kept_sdeCache _ _).trans (foldl_kept _ (fun t p => ?_) _ _)
  split
  · exact State.modTower_kept _ _ _
  · rfl

theorem State.changeLengths_kept (s : State) (x1) (x2) (x3) : (State.changeLengths s x1 x2 x3).kept = s.kept := by
  unfold State.changeLengths
  grind [State.kept, State.dropGroup_kept, State.setLengths_kept]

theorem State.kvWritten_kept (s : State) (x1) (x2) (x3) : (State.kvWritten s x1 x2 x3).kept = s.kept := by
  unfold State.kvWritten
  grind [State.kept, State.changeLengths_kept]

theorem State.committedNow_kept (s : State) (x1) (x2) (x3) : (State.committedNow s x1 x2 x3).1.kept = s.kept := by
  unfold State.committedNow
  grind [State.kept, State.fetchEntry_kept]

theorem State.writeCells_kept (s : State) (x1) (x2) (x3) (x4) (x5) : (State.writeCells s x1 x2 x3 x4 x5).1.kept = s.kept := by
  unfold State.writeCells
  dsimp only
  split
  · exact of_pair (State.committedNow_kept _ _ _ _) (by assumption)
  · have hc := of_pair (State.committedNow_kept _ _ _ _) (by assumption)
    refine (State.kvWritten_kept _ _ _ _).trans ((foldl_kept1 _ (fun a r => ?_) _ _).trans hc)
    split
    · rfl
    · rfl
    · exact State.putRange_kept _ _ _ _ _ _

theorem State.putBands_kept (s : State) (x1) (x2) : (State.putBands s x1 x2).kept = s.kept := by
  unfold State.putBands
  grind [State.kept, State.setReg_kept]

theorem State.underBands_kept {α : Type} (s : State) (x2) (x3) (k4 : State → State × α) (h4 : ∀ t, (k4 t).1.kept = t.kept) : (State.underBands s x2 x3 k4).1.kept = s.kept := by
  unfold State.underBands
  grind [State.kept, State.putBands_kept]

theorem State.collDeliver_kept (s : State) (x1) (x2) : (State.collDeliver s x1 x2).1.kept = s.kept := by
  unfold State.collDeliver
  grind [State.kept, State.underBands_kept, State.writeCells_kept]

theorem State.collSettle_kept (s : State) (x1) (x2) (x3) (x4) : (State.collSettle s x1 x2 x3 x4).kept = s.kept := by
  unfold State.collSettle
  grind [State.kept, State.collDeliver_kept, State.collEnd_kept, State.setColl_kept, foldl_kept, State.send_kept]

theorem State.reduceStep_kept (s : State) (x1) (x2) (x3) (x4) (x5) (x6) : (State.reduceStep s x1 x2 x3 x4 x5 x6).kept = s.kept := by
  unfold State.reduceStep
  grind [State.kept, State.send_kept, State.draw_kept, State.collSettle_kept]

theorem State.gatherStep_kept (s : State) (x1) (x2) (x3) (x4) (x5) (x6) : (State.gatherStep s x1 x2 x3 x4 x5 x6).kept = s.kept := by
  unfold State.gatherStep
  grind [State.kept, State.send_kept, State.collDeliver_kept, State.collEnd_kept, State.collSettle_kept]

theorem State.askCredit_kept (s : State) (x1) (x2) : (State.askCredit s x1 x2).kept = s.kept := by
  unfold State.askCredit
  grind [State.kept, State.send_kept]

theorem State.countSeg_kept (s : State) (x1) (x2) (x3) (x4) : (State.countSeg s x1 x2 x3 x4).kept = s.kept := by
  unfold State.countSeg
  grind [State.kept, State.count_kept]

theorem State.peerSend_kept (s : State) (x1) (x2) (x3) : (State.peerSend s x1 x2 x3).kept = s.kept := by
  unfold State.peerSend
  grind [State.kept, State.peerEnd_kept, State.underBands_kept, State.readRange_kept, State.send_kept, State.countSeg_kept, State.setChannel_kept]

theorem State.peerSendUpTo_kept (x0) (s : State) (x2) (x3) (x4) : (State.peerSendUpTo x0 s x2 x3 x4).kept = s.kept := by
  fun_induction State.peerSendUpTo x0 s x2 x3 x4 <;> grind [State.kept, State.peerSend_kept]

theorem State.replay_kept (s : State) (x1) (x2) : (State.replay s x1 x2).1.kept = s.kept := Eq.trans rfl rfl

theorem State.refuseAperture_kept (s : State) (x1) (x2) : (State.refuseAperture s x1 x2).kept = s.kept := by
  unfold State.refuseAperture
  grind [State.kept, State.decodeErr_kept]

theorem State.queuePacket_kept (s : State) (x1) (x2) : (State.queuePacket s x1 x2).kept = s.kept := by
  unfold State.queuePacket
  grind [State.kept, State.modTower_kept]

theorem State.packetAt_kept (s : State) (x1) (x2) (x3) (x4) : (State.packetAt s x1 x2 x3 x4).kept = s.kept := by
  unfold State.packetAt
  grind [State.kept, State.galleryWrite_kept, State.packetCheck_kept, State.answer_kept, State.queuePacket_kept]

theorem State.alxDown_kept (s : State) (x1) : (State.alxDown s x1).kept = s.kept := by
  unfold State.alxDown
  grind [State.kept, State.raise_kept, State.setFld_kept, State.setReg_kept, State.faultToKey_kept, State.setTraining_kept]

theorem State.leaveSem_kept (s : State) (x1) (x2) (x3) : (State.leaveSem s x1 x2 x3).kept = s.kept := by
  unfold State.leaveSem
  grind [State.kept, State.setSem_kept]

theorem State.seqDone_kept (s : State) (x1) (x2) (x3) (x4) : (State.seqDone s x1 x2 x3 x4).kept = s.kept := by
  unfold State.seqDone
  grind [State.kept, State.channelEnd_kept, State.setChannel_kept]

theorem State.seqFail_kept (s : State) (x1) (x2) (x3) (x4) (x5) (x6) : (State.seqFail s x1 x2 x3 x4 x5 x6).kept = s.kept := by
  unfold State.seqFail
  grind [State.kept, State.seqDone_kept, State.leaveSem_kept]

theorem State.endBroken_kept (s : State) (x1) (x2) : (State.endBroken s x1 x2).kept = s.kept := by
  unfold State.endBroken
  grind [State.kept, State.channelEnd_kept, State.peerEnd_kept, State.seqFail_kept]

theorem State.setPending_kept (s : State) (x1) (x2) (x3) : (State.setPending s x1 x2 x3).kept = s.kept := Eq.trans rfl rfl

theorem State.startHold_kept (s : State) (x1) (x2) : (State.startHold s x1 x2).kept = s.kept := by
  unfold State.startHold
  grind [State.kept]

theorem State.patrolRewrite_kept (s : State) (x1) (x2) (x3) : (State.patrolRewrite s x1 x2 x3).kept = s.kept := by
  unfold State.patrolRewrite
  grind [State.kept, State.stackPut_kept, State.granulePut_kept]

theorem State.patrolCw_kept (s : State) (x1) (x2) : (State.patrolCw s x1 x2).kept = s.kept := by
  unfold State.patrolCw
  grind [State.kept, State.patrolRewrite_kept, State.hbmCorrected_kept, State.hbmUeReport_kept]

theorem State.entryRecord_kept (s : State) (x1) (x2) (x3) (x4) (x5) (x6) : (State.entryRecord s x1 x2 x3 x4 x5 x6).kept = s.kept := by
  unfold State.entryRecord
  grind [State.kept, State.setInstances_kept, State.putEntries_kept]

theorem State.setHead_kept (s : State) (x1) (x2) (x3) : (State.setHead s x1 x2 x3).kept = s.kept := Eq.trans rfl rfl

theorem State.kvApply_kept (s : State) (x1) (x2) (x3) (x4) : (State.kvApply s x1 x2 x3 x4).1.kept = s.kept := by
  unfold State.kvApply
  grind [State.kept, State.fetchEntry_kept, State.changeLengths_kept]

theorem State.noted_kept (s : State) (x1) (x2) : (State.noted s x1 x2).kept = s.kept := by
  unfold State.noted
  grind [State.kept, State.setLost_kept, State.wrote_kept]

theorem State.kvRefused_kept (s : State) (x1) (x2) : (State.kvRefused s x1 x2).1.kept = s.kept := by
  unfold State.kvRefused
  grind [State.kept, State.fetchDesc_kept]

theorem State.kvAdvance_kept (s : State) (x1) (x2) (x3) : (State.kvAdvance s x1 x2 x3).kept = s.kept := by
  fun_induction State.kvAdvance s x1 x2 x3 <;> grind [State.kept, State.kvRefused_kept, State.setInstances_kept, State.noted_kept, State.kvApply_kept]

theorem State.seqRead_kept (s : State) (x1) (x2) (x3) (x4) : (State.seqRead s x1 x2 x3 x4).1.kept = s.kept := by
  unfold State.seqRead
  grind [State.kept, State.readRange_kept]

theorem State.kvList_kept (s : State) (x1) (x2) (x3) : (State.kvList s x1 x2 x3).1.kept = s.kept := by
  unfold State.kvList
  dsimp only
  repeat' split
  all_goals first | rfl | grind [State.kept, State.seqRead_kept] | (refine (foldl_kept1 _ (fun p x => ?_) _ _).trans ?_ <;> grind [State.kept, State.seqRead_kept])

theorem State.readList_kept (s : State) (x1) (x2) (x3) : (State.readList s x1 x2 x3).1.kept = s.kept := by
  unfold State.readList
  grind [State.kept, State.readRange_kept]

theorem State.beginWork_kept (s : State) (x1) (x2) (x3) : (State.beginWork s x1 x2 x3).kept = s.kept := by
  unfold State.beginWork
  grind [State.kept, State.readList_kept, State.wrote_kept, State.setHead_kept, State.setRunq_kept, State.kvList_kept, State.kvAdvance_kept]

theorem State.sealAbandon_kept (s : State) (x1) (x2) (x3) : (State.sealAbandon s x1 x2 x3).kept = s.kept := by
  simp [State.sealAbandon, foldl_kept, apply_ite State.kept, State.setSeal_kept, State.sealAbort_kept]

theorem State.collAbandon_kept (s : State) (x1) (x2) (x3) : (State.collAbandon s x1 x2 x3).kept = s.kept := by
  unfold State.collAbandon
  grind [State.kept, State.collEnd_kept, State.collAbort_kept]

theorem State.abandonCommand_kept (s : State) (x1) (x2) (x3) : (State.abandonCommand s x1 x2 x3).kept = s.kept := by
  unfold State.abandonCommand
  first | rfl | grind [State.kept, foldl_kept, State.abandonLaunch_kept, State.collAbandon_kept, State.setChannel_kept]

theorem State.abandonEntry_kept (s : State) (x1) (x2) (x3) (x4) : (State.abandonEntry s x1 x2 x3 x4).kept = s.kept := by
  unfold State.abandonEntry
  first | rfl | grind [State.kept, foldl_kept, State.setRunq_kept, State.abandonCommand_kept, State.sealAbandon_kept, State.kvAdvance_kept, State.modInstance_kept, State.beginWork_kept, State.setHead_kept]

theorem State.raiseDeadline_kept (s : State) (x1) (x2) (x3) : (State.raiseDeadline s x1 x2 x3).1.kept = s.kept := by
  unfold State.raiseDeadline
  grind [State.kept, State.toSpire_kept, State.count_kept, State.raise_kept]

theorem State.skipInstance_kept (s : State) (x1) (x2) (x3) : (State.skipInstance s x1 x2 x3).kept = s.kept := by
  simp [State.skipInstance, foldl_kept, apply_ite State.kept, State.dropInstance_kept, State.count_kept, State.raiseDeadline_kept, State.entryRecord_kept]

theorem State.missDeadline_kept (s : State) (x1) (x2) (x3) (x4) : (State.missDeadline s x1 x2 x3 x4).kept = s.kept := by
  unfold State.missDeadline
  grind [State.kept, State.setInstances_kept, State.skipInstance_kept, State.raiseDeadline_kept, State.abandonEntry_kept]

theorem State.startInstance_kept (s : State) (x1) (x2) (x3) : (State.startInstance s x1 x2 x3).kept = s.kept := by
  unfold State.startInstance
  grind [State.kept, State.draw_kept, State.count_kept, State.wrote_kept, State.setHead_kept, State.beginWork_kept]

end Sys2Proof.Machine
end

