-- ==== Sys2Proof/Laws/KeptOps.lean ====
section
/-!
SUPPORT. What the shared operations leave unchanged (second part).
-/
set_option linter.all false
set_option maxRecDepth 4000
namespace Sys2Proof.Machine

theorem State.tryStart_kept (s : State) (x1) (x2) : (State.tryStart s x1 x2).kept = s.kept := by
  unfold State.tryStart
  grind [State.kept, State.setInstances_kept, State.skipInstance_kept, State.startInstance_kept]

theorem State.frameTaken_kept (s : State) (x1) : (State.frameTaken s x1).kept = s.kept := by
  unfold State.frameTaken
  grind [State.kept, State.setReg_kept, State.setFld_kept, State.draw_kept]

theorem State.sendFrame_kept (s : State) (x1) : (State.sendFrame s x1).kept = s.kept := by
  simp [State.sendFrame, foldl_kept, apply_ite State.kept, State.send_kept]

theorem State.seqMismatch_kept (s : State) (x1) (x2) : (State.seqMismatch s x1 x2).kept = s.kept := by
  unfold State.seqMismatch
  grind [State.kept, State.faultToSpire_kept, State.alertPin_kept]

theorem State.pinnedBell_kept (s : State) : (State.pinnedBell s).kept = s.kept := by
  unfold State.pinnedBell
  refine (foldl_kept _ (fun t x => ?_) _ _).trans ?_
  all_goals first | rfl | (simp only [foldl_kept, apply_ite State.kept, ite_self, State.dirPut_kept]; done) | grind [State.kept, State.dirPut_kept]

theorem State.bandsBell_kept (s : State) : (State.bandsBell s).kept = s.kept := by
  unfold State.bandsBell
  refine (foldl_kept _ (fun t x => ?_) _ _).trans ?_
  all_goals first | rfl | (simp only [foldl_kept, apply_ite State.kept, ite_self, State.completeFault_kept, State.completeOk_kept]; done) | grind [State.kept, State.completeFault_kept, State.completeOk_kept]

theorem State.setBtab_kept (s : State) (x1) (x2) (x3) : (State.setBtab s x1 x2 x3).kept = s.kept := Eq.trans rfl rfl

theorem State.btabDone_kept (s : State) (x1) : (State.btabDone s x1).kept = s.kept := by
  simp [State.btabDone, foldl_kept, apply_ite State.kept, State.completeOk_kept, State.setBtab_kept]

theorem State.btabBell_kept (s : State) : (State.btabBell s).kept = s.kept := by
  unfold State.btabBell
  refine (foldl_kept _ (fun t x => ?_) _ _).trans ?_
  all_goals first | rfl | (simp only [foldl_kept, apply_ite State.kept, ite_self, State.btabDone_kept]; done) | grind [State.kept, State.btabDone_kept]

theorem State.slackBell_kept (s : State) (x1) (x2) : (State.slackBell s x1 x2).kept = s.kept := by
  unfold State.slackBell
  grind [State.kept, State.draw_kept, State.setReg_kept]

theorem State.skipStale_kept (s : State) (x1) (x2) : (State.skipStale s x1 x2).kept = s.kept := by
  unfold State.skipStale
  grind [State.kept, State.skipInstance_kept]

theorem State.entriesBell_kept (s : State) (x1) : (State.entriesBell s x1).kept = s.kept := by
  simp [State.entriesBell, foldl_kept, apply_ite State.kept, State.skipStale_kept, State.setInstances_kept, State.tryStart_kept]

theorem State.setClose_kept (s : State) (x1) : (State.setClose s x1).kept = s.kept := Eq.trans rfl rfl

theorem State.scrubTower_kept (s : State) (x1) (x2) : (State.scrubTower s x1 x2).kept = s.kept := by
  unfold State.scrubTower
  grind [State.kept, State.setReg_kept, State.modTower_kept, State.banksChanged_kept]

theorem State.closeBell_kept (s : State) (x1) : (State.closeBell s x1).kept = s.kept := by
  simp [State.closeBell, foldl_kept, apply_ite State.kept, State.scrubTower_kept, State.setClose_kept]

theorem State.setFrame_kept (s : State) (x1) (x2) : (State.setFrame s x1 x2).kept = s.kept := Eq.trans rfl rfl

theorem State.releasePage_kept (s : State) (x1) (x2) (x3) : (State.releasePage s x1 x2 x3).kept = s.kept := by
  unfold State.releasePage
  grind [State.kept, State.memPut_kept, State.dirPut_kept, State.setFrame_kept]

theorem State.takeFrame_kept (s : State) : ∀ t, State.takeFrame s = some t → t.1.kept = s.kept := by
  intro t h
  unfold State.takeFrame at h
  repeat' split at h
  all_goals grind [State.kept, State.count_kept, State.releasePage_kept]

theorem State.pageIn_kept (s : State) (x1) (x2) (x3) (x4) : ∀ t, State.pageIn s x1 x2 x3 x4 = some t → t.kept = s.kept := by
  intro t h
  unfold State.pageIn at h
  split at h
  · cases h
  · rename_i u f hu
    cases h
    exact (kept_keyJobs _ _).trans ((State.setFrame_kept _ _ _).trans
      ((State.dirPut_kept _ _ _ _ _).trans (State.takeFrame_kept s _ hu)))

theorem State.requestPages_kept (s : State) (x1) (x2) : (State.requestPages s x1 x2).kept = s.kept := by
  unfold State.requestPages
  refine foldl_kept _ (fun t p => ?_) _ _
  split
  · cases h : t.pageIn none t.idlestSpire x1 p with
    | none => rfl
    | some u => exact State.pageIn_kept t none _ x1 p u h
  · rfl

theorem State.sessCount_kept (s : State) (x1) (x2) (x3) (x4) : (State.sessCount s x1 x2 x3 x4).kept = s.kept := Eq.trans rfl rfl

theorem State.sealFault_kept (s : State) (x1) (x2) (x3) (x4) : (State.sealFault s x1 x2 x3 x4).kept = s.kept := by
  unfold State.sealFault
  grind [State.kept, State.sliceFail_kept, State.sealFail_kept]

theorem State.mapRead_kept (s : State) (x1) (x2) (x3) (x4) : (State.mapRead s x1 x2 x3 x4).1.kept = s.kept := by
  unfold State.mapRead
  refine (foldl_kept1 _ (fun p x => ?_) _ _).trans ?_
  all_goals first | rfl | grind [State.kept, State.readRange_kept]

theorem State.checkPages_kept (s : State) (x1) (x2) (x3) (x4) : (State.checkPages s x1 x2 x3 x4).1.kept = s.kept := by
  unfold State.checkPages
  grind [State.kept, State.mapRead_kept, State.sealFault_kept, State.pinPages_kept, State.faultToSpire_kept, State.sessCount_kept, State.requestPages_kept, State.setSeal_kept]

theorem State.recheck_kept (s : State) (x1) (x2) (x3) : (State.recheck s x1 x2 x3).kept = s.kept := by
  unfold State.recheck
  grind [State.kept, State.checkPages_kept, State.setSeal_kept]

theorem State.recheckAll_kept (s : State) (x1) : (State.recheckAll s x1).kept = s.kept := by
  simp [State.recheckAll, foldl_kept, apply_ite State.kept, State.recheck_kept]

theorem State.tableBell_kept (s : State) (x1) : (State.tableBell s x1).kept = s.kept := by
  unfold State.tableBell
  grind [State.kept, State.setFld_kept]

theorem State.issueFault_kept (s : State) (x1) (x2) (x3) (x4) (x5) : (State.issueFault s x1 x2 x3 x4 x5).kept = s.kept := by
  unfold State.issueFault
  grind [State.kept, State.modStream_kept, State.takeFault_kept]

theorem State.faultOp_kept (s : State) (x1) (x2) (x3) : (State.faultOp s x1 x2 x3).kept = s.kept := by
  unfold State.faultOp
  grind [State.kept, State.takeFault_kept, State.modTower_kept, State.dropWaiter_kept]

theorem execQueueWaitTimeout_kept (x0) (x1) (s : State) : OutKept s (execQueueWaitTimeout x0 x1 s) := by
  intro t h
  unfold execQueueWaitTimeout at h
  grind [State.kept, State.faultOp_kept, State.issueFault_kept]

theorem State.queueTimeout_kept (s : State) (x1) (x2) : (State.queueTimeout s x1 x2).kept = s.kept := by
  unfold State.queueTimeout
  split
  · rename_i t h
    exact execQueueWaitTimeout_kept _ _ _ t h
  · rfl

theorem State.preTimeout_kept (s : State) (x1) (x2) (x3) (x4) : (State.preTimeout s x1 x2 x3 x4).kept = s.kept := by
  unfold State.preTimeout
  grind [State.kept, State.dropNext_kept]

theorem State.waitTimedOut_kept (s : State) (x1) (x2) : (State.waitTimedOut s x1 x2).kept = s.kept := by
  unfold State.waitTimedOut
  grind [State.kept, State.takeFault_kept, State.preTimeout_kept, State.completeFault_kept, State.seqFail_kept]

theorem State.snapshot_kept (s : State) (x1) (x2) : (State.snapshot s x1 x2).kept = s.kept := by
  unfold State.snapshot
  grind [State.kept, State.setFld_kept, State.galleryPut_kept, State.raise_kept, State.setReg_kept]

theorem State.semTimeouts_kept (s : State) (x1) (x2) : (State.semTimeouts s x1 x2).kept = s.kept := by
  simp [State.semTimeouts, foldl_kept, apply_ite State.kept, State.snapshot_kept, State.setSem_kept, State.waitTimedOut_kept, State.count_kept]

theorem State.beginPoint_kept (s : State) (x1) (x2) (x3) (x4) (x5) (x6) (x7) (x8) : (State.beginPoint s x1 x2 x3 x4 x5 x6 x7 x8).kept = s.kept := Eq.trans rfl rfl

theorem State.readLen_kept (s : State) (x1) (x2) : (State.readLen s x1 x2).1.kept = s.kept := by
  unfold State.readLen
  grind [State.kept, State.readRange_kept]

theorem State.seqLen_kept (s : State) (x1) (x2) (x3) : (State.seqLen s x1 x2 x3).1.kept = s.kept := by
  have hu : ∀ f, ((State.countSeg s x1 f f 4).underBands x1 x2 (fun s => s.readLen x1 x3.nest)).1.kept = s.kept := fun f =>
    (State.underBands_kept _ _ _ _ (fun t => State.readLen_kept _ _ _)).trans (State.countSeg_kept _ _ _ _ _)
  unfold State.seqLen
  dsimp only
  split
  · rfl
  · split
    · exact of_pair (hu _) (by assumption)
    · have hv := of_pair (hu _) (by assumption)
      split
      · exact hv
      · split
        · exact of_pair ((State.fetchEntry_kept _ _ _ _).trans hv) (by assumption)
        · exact of_pair ((State.fetchEntry_kept _ _ _ _).trans hv) (by assumption)

theorem State.waitSem_kept (s : State) (x1) (x2) (x3) (x4) (x5) (x6) : (State.waitSem s x1 x2 x3 x4 x5 x6).1.kept = s.kept := by
  unfold State.waitSem
  grind [State.kept, State.setSem_kept]

theorem State.seqEmpty_kept (s : State) (x1) (x2) (x3) : (State.seqEmpty s x1 x2 x3).1.kept = s.kept := by
  unfold State.seqEmpty
  split
  · rfl
  · exact State.waitSem_kept _ _ _ _ _ _ _

theorem State.fetchPl_kept (s : State) (x1) (x2) (x3) (x4) : (State.fetchPl s x1 x2 x3 x4).1.kept = s.kept := by
  unfold State.fetchPl
  grind [State.kept, State.readRange_kept]

theorem State.seqNext_kept (x0) (x1) (x2) (s : State) (x4) (x5) (x6) : (State.seqNext x0 x1 x2 s x4 x5 x6).1.kept = s.kept := by
  fun_induction State.seqNext x0 x1 x2 s x4 x5 x6 <;> grind [State.kept, State.fetchPl_kept]

theorem State.seqAdvance_kept (s : State) (x1) (x2) : (State.seqAdvance s x1 x2).kept = s.kept := by
  unfold State.seqAdvance
  split
  · rename_i c _
    dsimp only
    cases c.work with
    | move => rfl
    | peer => rfl
    | seq w =>
      dsimp only
      split
      · exact State.seqDone_kept _ _ _ _ _
      · split
        · rfl
        · split
          · exact State.seqFail_kept _ _ _ _ _ _ _
          · split
            · rfl
            · split
              · exact State.seqDone_kept _ _ _ _ _
              · have hn := State.seqNext_kept x1 (streamNest w.nest (parseDesc w.desc) w.plCount)
                  (streamNest w.nest (parseDesc w.desc) w.plCount).total s w w.pos 0
                generalize State.seqNext _ _ _ _ _ _ _ = q at hn ⊢
                obtain ⟨u, w, sk, bad⟩ := q
                dsimp only at hn ⊢
                have hk : (if sk = 0 then u else u.count (Reg.sdeSeqSkip x1) sk).kept = s.kept := by
                  split
                  · exact hn
                  · exact (State.count_kept _ _ _).trans hn
                generalize (if sk = 0 then u else u.count (Reg.sdeSeqSkip x1) sk) = u' at hk ⊢
                split
                · exact (State.seqFail_kept _ _ _ _ _ _ _).trans hk
                · split
                  · exact (State.seqDone_kept _ _ _ _ _).trans hk
                  · split
                    · exact (State.setChannel_kept _ _ _ _).trans hk
                    · have hr := (State.seqEmpty_kept u' x1 x2 w).trans hk
                      generalize State.seqEmpty _ _ _ _ = r at hr ⊢
                      obtain ⟨v, got⟩ := r
                      dsimp only at hr ⊢
                      split
                      · exact (State.setChannel_kept _ _ _ _).trans hr
                      · split
                        · exact (State.seqFail_kept _ _ _ _ _ _ _).trans
                            (of_pair ((State.seqLen_kept _ _ _ _).trans hr) (by assumption))
                        · exact (State.beginPoint_kept _ _ _ _ _ _ _ _ _).trans
                            (of_pair ((State.seqLen_kept _ _ _ _).trans hr) (by assumption))
  · rfl

theorem State.channelServed_kept (s : State) (x1) (x2) : (State.channelServed s x1 x2).kept = s.kept := by
  unfold State.channelServed
  grind [State.kept, State.seqAdvance_kept, State.setChannel_kept]

theorem State.endWait_kept (s : State) (x1) (x2) (x3) : (State.endWait s x1 x2 x3).kept = s.kept := Eq.trans rfl rfl

theorem State.semServed_kept (s : State) (x1) (x2) : (State.semServed s x1 x2).kept = s.kept := by
  unfold State.semServed
  grind [State.kept, State.endWait_kept]

theorem State.serve_kept (s : State) (x1) (x2) (x3) : (State.serve s x1 x2 x3).kept = s.kept := by
  unfold State.serve
  grind [State.kept, State.semServed_kept, State.setRunq_kept, State.completeOk_kept, State.channelServed_kept]

theorem State.serveOne_kept (s : State) (x1) (x2) : (State.serveOne s x1 x2).kept = s.kept := by
  unfold State.serveOne
  grind [State.kept, State.serve_kept, State.setSem_kept]

theorem State.serveAll_kept (s : State) (x1) (x2) (x3) : (State.serveAll s x1 x2 x3).kept = s.kept := by
  fun_induction State.serveAll s x1 x2 x3 <;> grind [State.kept, State.serveOne_kept]

theorem State.timeoutBell_kept (s : State) : (State.timeoutBell s).kept = s.kept := by
  simp [State.timeoutBell, foldl_kept, apply_ite State.kept, State.serveAll_kept, State.semTimeouts_kept, State.queueTimeout_kept]

theorem State.postEmpty_kept (s : State) (x1) (x2) : (State.postEmpty s x1 x2).1.kept = s.kept := by
  unfold State.postEmpty
  grind [State.kept, State.postSem_kept]

theorem State.postFull_kept (s : State) (x1) (x2) : (State.postFull s x1 x2).1.kept = s.kept := by
  unfold State.postFull
  grind [State.kept, State.postFrom_kept]

theorem State.postTimes_kept (s : State) (k1) (x2) (h1 : ∀ t, (k1 t).1.kept = t.kept) : (State.postTimes s k1 x2).1.kept = s.kept := by
  fun_induction State.postTimes s k1 x2 <;> grind [State.kept]

theorem State.giveVerdict_kept (s : State) (x1) (x2) (x3) : (State.giveVerdict s x1 x2 x3).kept = s.kept := by
  unfold State.giveVerdict
  grind [State.kept, State.postTimes_kept, State.postFull_kept, State.seqAdvance_kept, State.setChannel_kept, State.seqFail_kept, State.leaveSem_kept, State.count64_kept, State.postEmpty_kept, State.seqDone_kept]

theorem State.dropGroupAt_kept (s : State) (x1) (x2) : (State.dropGroupAt s x1 x2).kept = s.kept := by
  simp [State.dropGroupAt, foldl_kept, apply_ite State.kept, State.giveVerdict_kept]

theorem State.setSreg_kept (s : State) (x1) (x2) (x3) : (State.setSreg s x1 x2 x3).kept = s.kept := Eq.trans rfl rfl

theorem State.bellwEnd_kept (s : State) (x1) (x2) : (State.bellwEnd s x1 x2).kept = s.kept := by
  unfold State.bellwEnd
  grind [State.kept, State.endWait_kept, State.setSreg_kept]

theorem State.swapFault_kept (s : State) (x1) (x2) : (State.swapFault s x1 x2).kept = s.kept := by
  unfold State.swapFault
  grind [State.kept, State.takeFault_kept]

theorem State.swapNow_kept (s : State) (x1) : (State.swapNow s x1).kept = s.kept := by
  unfold State.swapNow
  grind [State.kept, State.setTower_kept, State.swapFault_kept, State.modTower_kept]

theorem State.towerBell_kept (s : State) (x1) : (State.towerBell s x1).kept = s.kept := by
  unfold State.towerBell
  grind [State.kept, State.modTower_kept, State.swapNow_kept, State.bellwEnd_kept]

theorem State.psetBell_kept (s : State) : (State.psetBell s).kept = s.kept := by
  unfold State.psetBell
  refine (foldl_kept _ (fun t x => ?_) _ _).trans ?_
  all_goals first | rfl | (simp only [foldl_kept, apply_ite State.kept, ite_self]; done) | grind [State.kept]

theorem State.throttleRise_kept (s : State) (x1) : (State.throttleRise s x1).kept = s.kept := by
  unfold State.throttleRise
  grind [State.kept, State.showThrottle_kept, State.throttleTo_kept]

theorem State.capRelease_kept (s : State) : (State.capRelease s).kept = s.kept := by
  unfold State.capRelease
  grind [State.kept, State.showCap_kept]

theorem State.pointsBell_kept (s : State) : (State.pointsBell s).kept = s.kept := by
  simp [State.pointsBell, foldl_kept, apply_ite State.kept, State.capAll_kept, State.capRelease_kept, State.throttleRise_kept, State.setPoint_kept, State.alertIs_kept]

theorem State.steerBell_kept (s : State) (x1) : (State.steerBell s x1).kept = s.kept := by
  unfold State.steerBell
  grind [State.kept, State.poolRows_kept, State.setTower_kept]

theorem State.moveSlot_kept (s : State) (x1) (x2) : (State.moveSlot s x1 x2).kept = s.kept := Eq.trans rfl rfl

theorem State.resumeTower_kept (s : State) (x1) : (State.resumeTower s x1).kept = s.kept := Eq.trans rfl rfl

theorem State.replaceBell_kept (s : State) (x1) : (State.replaceBell s x1).kept = s.kept := by
  unfold State.replaceBell
  refine (foldl_kept _ (fun t x => ?_) _ _).trans ?_
  all_goals first | rfl | (simp only [foldl_kept, apply_ite State.kept, ite_self, State.resumeTower_kept, State.moveSlot_kept]; done) | grind [State.kept, State.resumeTower_kept, State.moveSlot_kept]

theorem State.culletBell_kept (s : State) (x1) : (State.culletBell s x1).kept = s.kept := by
  unfold State.culletBell
  grind [State.kept, State.replaceBell_kept, State.poolTower_kept, State.setCullet_kept, State.decodeErr_kept]

theorem State.goneBell_kept (s : State) : (State.goneBell s).kept = s.kept := by
  unfold State.goneBell
  refine (foldl_kept _ (fun t x => ?_) _ _).trans ?_
  all_goals first | rfl | (simp only [foldl_kept, apply_ite State.kept, ite_self]; done) | grind [State.kept]

theorem State.seqBell_kept (s : State) : (State.seqBell s).kept = s.kept := by
  unfold State.seqBell
  first | rfl | grind [State.kept, foldl_kept, State.clearEn_kept]

theorem State.commitBell_kept (s : State) : (State.commitBell s).kept = s.kept := by
  unfold State.commitBell
  grind [State.kept, State.commitAll_kept]

theorem State.readPeriod_kept (s : State) : (State.readPeriod s).kept = s.kept := Eq.trans rfl rfl

theorem State.bellChanges_kept (s : State) : (State.bellChanges s).kept = s.kept := by
  unfold State.bellChanges
  refine (State.pointsBell_kept _).trans ((kept_expDown _ _).trans ?_)
  refine (foldl_kept _ State.steerBell_kept _ _).trans ?_
  refine (State.galleryBell_kept _).trans ((State.goneBell_kept _).trans ((foldl_kept _ State.culletBell_kept _ _).trans ?_))
  exact (State.readPeriod_kept _).trans ((State.commitBell_kept _).trans ((State.keepBands_kept _ _).trans (State.seqBell_kept s)))

theorem State.masterFrame_kept (s : State) (x1) : (State.masterFrame s x1).kept = s.kept := by
  unfold State.masterFrame
  grind [State.kept, State.sendFrame_kept]

theorem State.policyDrop_kept (s : State) (x1) : (State.policyDrop s x1).kept = s.kept := by
  unfold State.policyDrop
  grind [State.kept, State.raisePort_kept, State.count_kept]

theorem State.setPset_kept (s : State) (x1) (x2) (x3) : (State.setPset s x1 x2 x3).kept = s.kept := Eq.trans rfl rfl

theorem State.onSession_kept (s : State) (x1) (x2) (x3) (x4) (k5) (h5 : ∀ t x, (k5 t x).kept = t.kept) : (State.onSession s x1 x2 x3 x4 k5).kept = s.kept := by
  unfold State.onSession
  grind [State.kept, State.onEngine_kept, State.completeFault_kept]

theorem State.keyPut_kept (s : State) (x1) (x2) (x3) : (State.keyPut s x1 x2 x3).1.kept = s.kept := by
  unfold State.keyPut
  grind [State.kept, State.putRange_kept]

theorem State.bindBegin_kept (s : State) (x1) : (State.bindBegin s x1).kept = s.kept := by
  unfold State.bindBegin
  grind [State.kept, State.setFld_kept, State.opmemFree_kept]

theorem State.keyGet_kept (s : State) (x1) (x2) (x3) : (State.keyGet s x1 x2 x3).1.kept = s.kept := by
  unfold State.keyGet
  grind [State.kept, State.readRange_kept]

theorem State.pkeValidate_kept (s : State) (x1) (x2) : (State.pkeValidate s x1 x2).kept = s.kept := by
  unfold State.pkeValidate
  grind [State.kept, State.pkeLatch_kept, State.setFld_kept, State.opmemFree_kept]

theorem State.readCells_kept (s : State) (x1) (x2) (x3) (x4) : (State.readCells s x1 x2 x3 x4).1.kept = s.kept := by
  unfold State.readCells
  refine (foldl_kept1 _ (fun p x => ?_) _ _).trans ?_
  all_goals first | rfl | grind [State.kept, State.readRange_kept]

theorem State.collStart_kept (s : State) (x1) (x2) (x3) : (State.collStart s x1 x2 x3).kept = s.kept := by
  unfold State.collStart
  refine State.onEngine_kept _ _ _ _ _ (fun u => ?_)
  dsimp only
  split
  · exact State.badCmd_kept _ _ _
  · split
    · rfl
    · split
      · exact State.completeFault_kept _ _ _ _ _
      · split
        · exact State.completeFault_kept _ _ _ _ _
        · split
          · exact (State.completeFault_kept _ _ _ _ _).trans (of_pair (State.fetchDesc_kept _ _ _ _) (by assumption))
          · have h1 := of_pair (State.fetchDesc_kept _ _ _ _) (by assumption)
            split
            · exact (State.completeFault_kept _ _ _ _ _).trans (of_pair ((State.fetchDesc_kept _ _ _ _).trans h1) (by assumption))
            · have h2 := of_pair ((State.fetchDesc_kept _ _ _ _).trans h1) (by assumption)
              split
              · exact (State.completeFault_kept _ _ _ _ _).trans h2
              · split
                · exact (State.completeFault_kept _ _ _ _ _).trans h2
                · split
                  · exact (State.completeFault_kept _ _ _ _ _).trans h2
                  · split
                    · exact (State.completeFault_kept _ _ _ _ _).trans ((State.readCells_kept _ _ _ _ _).trans h2)
                    · exact (State.collSettle_kept _ _ _ _ _).trans ((State.readCells_kept _ _ _ _ _).trans h2)

theorem State.levelCount_kept (s : State) (x1) (x2) : (State.levelCount s x1 x2).kept = s.kept := by
  unfold State.levelCount
  grind [State.kept, State.count_kept]

theorem State.sealLevel_kept (s : State) (x1) (x2) (x3) (x4) (x5) : (State.sealLevel s x1 x2 x3 x4 x5).kept = s.kept := by
  unfold State.sealLevel
  grind [State.kept, State.setSeal_kept, State.sealFail_kept, State.levelCount_kept]

theorem State.psetDemand_kept (s : State) (x1) (x2) : (State.psetDemand s x1 x2).kept = s.kept := by
  unfold State.psetDemand
  grind [State.kept, State.setPset_kept]

theorem State.demandSlots_kept (s : State) (x1) (x2) : (State.demandSlots s x1 x2).kept = s.kept := by
  simp [State.demandSlots, foldl_kept, apply_ite State.kept, State.psetDemand_kept]

theorem State.readHeader_kept (s : State) (x1) (x2) : (State.readHeader s x1 x2).1.kept = s.kept := by
  unfold State.readHeader
  grind [State.kept, State.readRange_kept]

theorem State.readHeaders_kept (s : State) (x1) (x2) (x3) : (State.readHeaders s x1 x2 x3).1.kept = s.kept := by
  unfold State.readHeaders
  dsimp only
  generalize hq : List.foldl _ _ _ = q
  have h1 : q.1.kept = s.kept := by
    rw [← hq]
    refine foldl_kept1 _ (fun p x => ?_) _ _
    have hr := State.readHeader_kept p.1 x1 x.2
    grind
  obtain ⟨u, is⟩ := q
  dsimp only at h1 ⊢
  split
  · exact h1
  · split
    · exact of_pair ((State.readHeader_kept _ _ _).trans h1) (by assumption)
    · exact of_pair ((State.readHeader_kept _ _ _).trans h1) (by assumption)

theorem State.sealBegin_kept (s : State) (x1) (x2) (x3) : (State.sealBegin s x1 x2 x3).kept = s.kept := by
  unfold State.sealBegin
  grind [State.kept, State.onEngine_kept, State.readHeaders_kept, State.sealFail_kept, State.setSeal_kept, State.demandSlots_kept, State.sealLevel_kept]

theorem State.verdicts_kept (s : State) (x1) (x2) (x3) : (State.verdicts s x1 x2 x3).kept = s.kept := by
  simp [State.verdicts, foldl_kept, apply_ite State.kept, State.giveVerdict_kept]

theorem State.kvFinish_kept (s : State) (x1) (x2) (x3) (x4) (x5) : (State.kvFinish s x1 x2 x3 x4 x5).kept = s.kept := by
  unfold State.kvFinish
  grind [State.kept, State.kvApply_kept, State.completeOk_kept, State.completeFault_kept]

theorem State.setDesc_kept (s : State) (x1) (x2) (x3) : (State.setDesc s x1 x2 x3).kept = s.kept := Eq.trans rfl rfl

theorem State.kvCommand_kept (s : State) (x1) (x2) (x3) : (State.kvCommand s x1 x2 x3).kept = s.kept := by
  unfold State.kvCommand
  grind [State.kept, State.kvRefused_kept, State.completeFault_kept, State.setDesc_kept, State.kvFinish_kept]

theorem State.loadStep_kept (s : State) (x1) (x2) (x3) (x4) (x5) : (State.loadStep s x1 x2 x3 x4 x5).kept = s.kept := by
  unfold State.loadStep
  grind [State.kept, State.setLost_kept, State.wrote_kept, State.complete_kept]

theorem State.loadAll_kept (s : State) (x1) (x2) (x3) (x4) (k5) (h5 : ∀ t x, (k5 t x).kept = t.kept) : (State.loadAll s x1 x2 x3 x4 k5).kept = s.kept := by
  unfold State.loadAll
  first | rfl | grind [State.kept, foldl_kept, State.completeOk_kept, State.wrote_kept]

theorem State.imStart_kept (s : State) (x1) (x2) (x3) (x4) (x5) : (State.imStart s x1 x2 x3 x4 x5).kept = s.kept := by
  unfold State.imStart
  grind [State.kept, State.count_kept, State.loadStep_kept, State.draw_kept, State.modTower_kept]

theorem State.seqStart_kept (s : State) (x1) (x2) (x3) (x4) (x5) : (State.seqStart s x1 x2 x3 x4 x5).kept = s.kept := by
  unfold State.seqStart
  grind [State.kept, State.readLen_kept, State.completeFault_kept, State.seqAdvance_kept, State.setChannel_kept]

theorem State.readPl_kept (s : State) (x1) (x2) : (State.readPl s x1 x2).1.kept = s.kept := by
  unfold State.readPl
  dsimp only
  repeat' split
  all_goals first | rfl | simp [foldl_kept, apply_ite State.kept, State.readRange_kept] | grind [State.kept, State.readRange_kept]

theorem State.fetchMore_kept (s : State) (x1) (x2) : (State.fetchMore s x1 x2).kept = s.kept := by
  unfold State.fetchMore
  grind [State.kept, State.readList_kept, State.setRunq_kept, State.wrote_kept, State.setHead_kept, State.endList_kept]

theorem State.askPre_kept (s : State) (x1) (x2) : (State.askPre s x1 x2).1.kept = s.kept := by
  unfold State.askPre
  grind [State.kept, State.waitSem_kept, State.setRunq_kept]

theorem State.breakTaken_kept (s : State) (x1) (x2) (x3) (x4) : (State.breakTaken s x1 x2 x3 x4).kept = s.kept := by
  unfold State.breakTaken
  grind [State.kept, State.setFld_kept, State.setReg_kept, State.raise_kept]

theorem State.refuseCmd_kept (s : State) (x1) (x2) (x3) : (State.refuseCmd s x1 x2 x3).kept = s.kept := by
  unfold State.refuseCmd
  grind [State.kept, State.dropNext_kept, State.endList_kept, State.fetchMore_kept, State.stopRing_kept]

theorem State.releaseAll_kept (s : State) (x1) : (State.releaseAll s x1).kept = s.kept := by
  unfold State.releaseAll
  refine (foldl_kept _ (fun t x => ?_) _ _).trans ?_
  all_goals first | rfl | (simp only [foldl_kept, apply_ite State.kept, ite_self, State.releasePage_kept]; done) | grind [State.kept, State.raise_kept, State.releasePage_kept]

theorem State.failBad_kept (s : State) (x1) (x2) (x3) : (State.failBad s x1 x2 x3).kept = s.kept := by
  simp [State.failBad, foldl_kept, apply_ite State.kept, State.sealFault_kept]

theorem State.pageEnd_kept (s : State) (x1) : (State.pageEnd s x1).1.kept = s.kept := by
  unfold State.pageEnd
  grind [State.kept, State.memPut_kept, State.dirPut_kept, State.releasePage_kept, State.completeOk_kept, State.setFrame_kept, State.faultToKey_kept, State.raise_kept, State.count_kept, State.sessCount_kept, State.completeFault_kept]

theorem State.pageDone_kept (s : State) (x1) : (State.pageDone s x1).1.kept = s.kept := by
  unfold State.pageDone
  grind [State.kept, State.underBands_kept, State.pageEnd_kept]

theorem State.fillHalf_kept (s : State) (x1) (x2) (x3) : (State.fillHalf s x1 x2 x3).kept = s.kept := by
  unfold State.fillHalf
  grind [State.kept, State.draw_kept, State.galleryPut_kept]

theorem State.psetStall_kept (s : State) (x1) (x2) : (State.psetStall s x1 x2).kept = s.kept := by
  unfold State.psetStall
  grind [State.kept, State.draw_kept, State.count_kept]

theorem State.psetFail_kept (s : State) (x1) (x2) : (State.psetFail s x1 x2).kept = s.kept := by
  unfold State.psetFail
  grind [State.kept, State.psetStall_kept]

theorem State.countCheck_kept (s : State) (x1) (x2) : (State.countCheck s x1 x2).kept = s.kept := by
  unfold State.countCheck
  grind [State.kept, State.count_kept, State.modTower_kept]

theorem State.sealCheckFault_kept (s : State) (x1) (x2) (x3) : (State.sealCheckFault s x1 x2 x3).1.kept = s.kept := by
  unfold State.sealCheckFault
  grind [State.kept, State.countCheck_kept, State.faultToSpire_kept]

theorem State.mismatch_kept (s : State) (x1) (x2) (x3) : (State.mismatch s x1 x2 x3).kept = s.kept := by
  unfold State.mismatch
  grind [State.kept, State.raise_kept, State.faultToKey_kept, State.count_kept, State.sessCount_kept]

theorem State.sliceTagEnd_kept (s : State) (x1) (x2) (x3) (x4) (x5) : (State.sliceTagEnd s x1 x2 x3 x4 x5).kept = s.kept := by
  unfold State.sliceTagEnd
  grind [State.kept, State.sealFail_kept, State.mismatch_kept, State.keyClks_kept, State.sliceFail_kept]

theorem State.tagCheck_kept (s : State) (x1) (x2) (x3) (x4) (x5) (x6) : (State.tagCheck s x1 x2 x3 x4 x5 x6).1.kept = s.kept := by
  unfold State.tagCheck
  refine (foldl_kept1 _ (fun p x => ?_) _ _).trans ?_
  all_goals first | rfl | grind [State.kept, State.readRange_kept]

theorem State.sliceTags_kept (s : State) (x1) (x2) : (State.sliceTags s x1 x2).1.kept = s.kept := by
  unfold State.sliceTags
  grind [State.kept, State.tagCheck_kept]

theorem State.sliceOver_kept (s : State) (x1) (x2) (x3) : (State.sliceOver s x1 x2 x3).kept = s.kept := by
  unfold State.sliceOver
  grind [State.kept, State.keyClks_kept, State.sessCount_kept, State.unpin_kept]

theorem State.sliceClosed_kept (s : State) (x1) (x2) (x3) (x4) : (State.sliceClosed s x1 x2 x3 x4).kept = s.kept := by
  unfold State.sliceClosed
  grind [State.kept, State.sealFail_kept, State.sliceOver_kept, State.annealSpoil_kept]

theorem State.clearValid_kept (s : State) (x1) (x2) (x3) : (State.clearValid s x1 x2 x3).1.kept = s.kept := by
  unfold State.clearValid
  grind [State.kept, State.readHeader_kept, State.sealPut_kept]

theorem State.useBanks_kept (s : State) (x1) (x2) : (State.useBanks s x1 x2).kept = s.kept := by
  unfold State.useBanks
  first | rfl | grind [State.kept, foldl_kept, State.draw_kept, State.towerPut_kept]

theorem State.sliceWork_kept (s : State) (x1) (x2) (x3) (x4) : (State.sliceWork s x1 x2 x3 x4).kept = s.kept := by
  unfold State.sliceWork
  grind [State.kept, State.sliceFail_kept, State.setSeal_kept, State.useBanks_kept]

theorem State.touch_kept (s : State) (x1) (x2) (x3) : (State.touch s x1 x2 x3).kept = s.kept := by
  unfold State.touch
  grind [State.kept, State.setCtx_kept]

theorem State.sliceRun_kept (s : State) (x1) (x2) (x3) (x4) (x5) : (State.sliceRun s x1 x2 x3 x4 x5).kept = s.kept := by
  unfold State.sliceRun
  grind [State.kept, State.touch_kept, State.sliceWork_kept, State.sessCount_kept, State.count_kept, State.galleryPut_kept, State.clearValid_kept, State.sealFail_kept]

theorem State.annealCheck_kept (s : State) (x1) (x2) (x3) : (State.annealCheck s x1 x2 x3).1.kept = s.kept := by
  unfold State.annealCheck
  grind [State.kept, State.readHeaders_kept, State.levelCount_kept, State.demandSlots_kept]

theorem State.annealNext_kept (s : State) (x1) (x2) (x3) : (State.annealNext s x1 x2 x3).kept = s.kept := by
  unfold State.annealNext
  grind [State.kept, State.setSeal_kept, State.readHeaders_kept, State.sealFail_kept, State.levelCount_kept, State.demandSlots_kept]

theorem State.sealDone_kept (s : State) (x1) (x2) (x3) (x4) (x5) (x6) : (State.sealDone s x1 x2 x3 x4 x5 x6).kept = s.kept := by
  unfold State.sealDone
  grind [State.kept, State.sealPut_kept, State.sealFail_kept, State.count_kept, State.sessCount_kept, State.completeOk_kept, State.setSeal_kept, State.unpin_kept]

theorem State.readBody_kept (s : State) (x1) (x2) (x3) : (State.readBody s x1 x2 x3).1.kept = s.kept := by
  unfold State.readBody
  refine foldl_kept1 _ (fun a c => ?_) _ _
  refine foldl_kept1 _ (fun b i => ?_) _ _
  dsimp only
  split
  · rfl
  · exact State.readRange_kept _ _ _ _ _ _

theorem State.annealFinish_kept (s : State) (x1) (x2) (x3) (x4) (x5) : (State.annealFinish s x1 x2 x3 x4 x5).kept = s.kept := by
  unfold State.annealFinish
  grind [State.kept, State.sliceTags_kept, State.sliceTagEnd_kept, State.sealCheckFault_kept, State.sealFail_kept, State.sliceFail_kept, State.sliceClosed_kept, State.readBody_kept, State.spoil_kept, State.sealDone_kept, State.keyClks_kept, State.sealPut_kept, State.count_kept, State.annealNext_kept, State.sliceOver_kept]

theorem State.keyB_kept (s : State) (x1) (x2) (x3) (x4) (x5) : (State.keyB s x1 x2 x3 x4 x5).1.kept = s.kept := by
  unfold State.keyB
  refine foldl_kept1 _ (fun a c => ?_) _ _
  refine foldl_kept1 _ (fun b i => ?_) _ _
  exact State.readRange_kept _ _ _ _ _ _

theorem State.sealKey_kept (s : State) (x1) (x2) : (State.sealKey s x1 x2).1.kept = s.kept := by
  unfold State.sealKey
  grind [State.kept, State.keyB_kept, State.draw_kept, State.count64_kept]

theorem State.sealFinish_kept (s : State) (x1) (x2) (x3) (x4) : (State.sealFinish s x1 x2 x3 x4).kept = s.kept := by
  unfold State.sealFinish
  grind [State.kept, State.tagCheck_kept, State.sealFail_kept, State.mismatch_kept, State.keyClks_kept, State.sealCheckFault_kept, State.sealAbort_kept, State.readBody_kept, State.sealKey_kept, State.sealDone_kept, State.spoil_kept, State.putLimbs_kept]

theorem State.sealRun_kept (s : State) (x1) (x2) (x3) (x4) : (State.sealRun s x1 x2 x3 x4).kept = s.kept := by
  unfold State.sealRun
  grind [State.kept, State.clearValid_kept, State.touch_kept, State.sealFail_kept, State.sealAbort_kept, State.setSeal_kept, State.useBanks_kept]

theorem State.readPieces_kept (s : State) (x1) (x2) (x3) (x4) : (State.readPieces s x1 x2 x3 x4).s.kept = s.kept := by
  unfold State.readPieces
  exact foldl_keptP ReadOut.s _ (fun r p => by
    dsimp only
    split
    · rfl
    · exact State.readRange_kept _ _ _ _ _ _) _ _

theorem State.elemRun_kept (s : State) (x1) (x2) (x3) (x4) (x5) : (State.elemRun s x1 x2 x3 x4 x5).s.kept = s.kept := by
  unfold State.elemRun
  exact foldl_keptP ReadOut.s _ (fun r p => by
    dsimp only
    split
    · rfl
    · split
      · rfl
      · exact State.readPieces_kept _ _ _ _ _) _ _

theorem State.paneBytes_kept (s : State) (x1) (x2) (x3) (x4) (x5) : (State.paneBytes s x1 x2 x3 x4 x5).s.kept = s.kept := by
  unfold State.paneBytes
  repeat' split
  all_goals first | rfl | grind [State.kept, State.readRange_kept]

theorem State.mxRecord_kept (s : State) (x1) (x2) (x3) (x4) : (State.mxRecord s x1 x2 x3 x4).s.kept = s.kept := by
  unfold State.mxRecord
  repeat' split
  all_goals first | rfl | grind [State.kept, State.readPieces_kept]

theorem State.importPanes_kept (s : State) (x1) (x2) (x3) (x4) (x5) (x6) : (State.importPanes s x1 x2 x3 x4 x5 x6).s.kept = s.kept := by
  unfold State.importPanes
  exact foldl_keptP ReadOut.s _ (fun r p => by
    dsimp only
    split
    · rfl
    · exact foldl_keptP ReadOut.s _ (fun q j => by
        split
        · rfl
        · split
          · rfl
          · exact State.mxRecord_kept _ _ _ _ _) _ _) _ _

theorem State.pointBytes_kept (s : State) (x1) (x2) (x3) (x4) (x5) (x6) : (State.pointBytes s x1 x2 x3 x4 x5 x6).s.kept = s.kept := by
  unfold State.pointBytes
  repeat' split
  all_goals first | rfl | grind [State.kept, State.importPanes_kept, State.paneBytes_kept, State.elemRun_kept]

theorem State.putPieces_kept (s : State) (x1) (x2) (x3) (x4) : (State.putPieces s x1 x2 x3 x4).1.kept = s.kept := by
  unfold State.putPieces
  exact foldl_keptP (fun a : (State × Nat × Option FaultInfo) × List Byte => a.1.1) _ (fun a p => by
    dsimp only
    split
    · rfl
    · exact State.putRange_kept _ _ _ _ _ _) _ _

theorem State.copySeg_kept (s : State) (x1) (x2) (x3) (x4) (x5) (x6) (k7) (x8) (h7 : ∀ t, (k7 t).s.kept = t.kept) : (State.copySeg s x1 x2 x3 x4 x5 x6 k7 x8).1.kept = s.kept := by
  unfold State.copySeg
  grind [State.kept, State.underBands_kept, State.putPieces_kept, State.countSeg_kept]

theorem State.seqSegment_kept (s : State) (x1) (x2) (x3) (x4) : (State.seqSegment s x1 x2 x3 x4).kept = s.kept := by
  unfold State.seqSegment
  grind [State.kept, State.seqAdvance_kept, State.seqFail_kept, State.copySeg_kept, State.pointBytes_kept, State.setChannel_kept]

theorem State.moveSegment_kept (s : State) (x1) (x2) (x3) (x4) (x5) (x6) (x7) : (State.moveSegment s x1 x2 x3 x4 x5 x6 x7).kept = s.kept := by
  unfold State.moveSegment
  grind [State.kept, State.channelEnd_kept, State.copySeg_kept, State.readRange_kept, State.setChannel_kept]

theorem State.kvAdvanceAll_kept (s : State) (x1) : (State.kvAdvanceAll s x1).kept = s.kept := by
  simp [State.kvAdvanceAll, foldl_kept, apply_ite State.kept, State.kvAdvance_kept]

theorem State.grant_kept (s : State) (x1) (x2) (x3) : (State.grant s x1 x2 x3).kept = s.kept := by
  unfold State.grant
  grind [State.kept, State.send_kept, State.wrote_kept]

theorem State.noteRead_kept (s : State) (x1) (x2) (x3) : (State.noteRead s x1 x2 x3).kept = s.kept := by
  unfold State.noteRead
  grind [State.kept, State.count_kept]

theorem State.epImage_kept (s : State) (x1) (x2) (x3) : (State.epImage s x1 x2 x3).1.kept = s.kept := by
  unfold State.epImage
  dsimp only
  repeat' split
  all_goals first | rfl | simp [foldl_kept, apply_ite State.kept, State.faultToSpire_kept, State.noteRead_kept] | grind [State.kept, State.faultToSpire_kept, State.noteRead_kept]

theorem State.epEnd_kept (s : State) (x1) (x2) : (State.epEnd s x1 x2).1.kept = s.kept := by
  unfold State.epEnd
  grind [State.kept, State.epImage_kept, State.modTower_kept, State.draw_kept, State.epStatus_kept]

theorem State.debugBreak_kept (s : State) (x1) (x2) (x3) (x4) : (State.debugBreak s x1 x2 x3 x4).kept = s.kept := by
  unfold State.debugBreak
  grind [State.kept, State.setReg_kept, State.raise_kept]

theorem State.takeBreak_kept (s : State) (x1) (x2) (x3) (x4) : (State.takeBreak s x1 x2 x3 x4).kept = s.kept := by
  unfold State.takeBreak
  grind [State.kept, State.stopTower_kept, State.debugBreak_kept]

theorem State.stopDone_kept (s : State) (x1) : (State.stopDone s x1).kept = s.kept := by
  unfold State.stopDone
  refine (foldl_kept _ (fun t x => ?_) _ _).trans ?_
  all_goals first | rfl | (simp only [foldl_kept, apply_ite State.kept, ite_self, State.completeOk_kept]; done) | grind [State.kept, State.completeOk_kept]

theorem State.ownWrite_kept (s : State) (x1) (x2) (x3) (x4) : (State.ownWrite s x1 x2 x3 x4).1.kept = s.kept := by
  unfold State.ownWrite
  have h := fun u ps => State.rowWrites_kept u (fun t x b => t.towerWrite x1 x b x4) ps (fun t _ _ => State.towerWrite_kept t _ _ _ _)
  dsimp only
  split <;> rename_i e <;> exact (congrArg (fun p => State.kept p.1) e).symm.trans (h _ _)

theorem State.copyRun_kept (s : State) (x1) (x2) (x3) (x4) (x5) (x6) : (State.copyRun s x1 x2 x3 x4 x5 x6).1.kept = s.kept := by
  unfold State.copyRun
  grind [State.kept, State.readRange_kept, State.putRange_kept, State.ownWrite_kept]

theorem issue_kept (x0) (x1) (x2) (x3) (x4) (x5) (k6) (k7) (s : State) (h7 : ∀ t, ResKept t (k7 t)) : OutKept s (issue x0 x1 x2 x3 x4 x5 k6 k7 s) := by
  have h := h7 s
  unfold issue
  dsimp only
  generalize k7 s = r at h ⊢
  cases r
  all_goals
    dsimp only [ResKept] at h ⊢
    repeat' split
  all_goals first
    | exact OutKept.next (State.issueFault_kept _ _ _ _ _ _)
    | exact OutKept.next ((State.issueFault_kept _ _ _ _ _ _).trans h)
    | exact OutKept.next ((State.modStream_kept _ _ _ _).trans h)
    | exact OutKept.next (State.modStream_kept _ _ _ _)
    | exact OutKept.next h
    | exact OutKept.next (Eq.refl s.kept)

theorem execLi_kept (x0) (x1) (x2) (s : State) : OutKept s (execLi x0 x1 x2 s) := by
  unfold execLi
  apply_rules [issue_kept, State.setSreg_kept]

theorem execAlu_kept (x0) (x1) (x2) (x3) (x4) (x5) (s : State) : OutKept s (execAlu x0 x1 x2 x3 x4 x5 s) := by
  unfold execAlu
  apply_rules [issue_kept, State.setSreg_kept]

theorem execMulh_kept (x0) (x1) (x2) (x3) (s : State) : OutKept s (execMulh x0 x1 x2 x3 s) := by
  unfold execMulh
  apply_rules [execAlu_kept]

theorem execMul_kept (x0) (x1) (x2) (x3) (s : State) : OutKept s (execMul x0 x1 x2 x3 s) := by
  unfold execMul
  apply_rules [execAlu_kept]

theorem execSra_kept (x0) (x1) (x2) (x3) (s : State) : OutKept s (execSra x0 x1 x2 x3 s) := by
  unfold execSra
  apply_rules [execAlu_kept]

theorem execSrl_kept (x0) (x1) (x2) (x3) (s : State) : OutKept s (execSrl x0 x1 x2 x3 s) := by
  unfold execSrl
  apply_rules [execAlu_kept]

theorem execSll_kept (x0) (x1) (x2) (x3) (s : State) : OutKept s (execSll x0 x1 x2 x3 s) := by
  unfold execSll
  apply_rules [execAlu_kept]

theorem execXor_kept (x0) (x1) (x2) (x3) (s : State) : OutKept s (execXor x0 x1 x2 x3 s) := by
  unfold execXor
  apply_rules [execAlu_kept]

theorem execOr_kept (x0) (x1) (x2) (x3) (s : State) : OutKept s (execOr x0 x1 x2 x3 s) := by
  unfold execOr
  apply_rules [execAlu_kept]

theorem execAnd_kept (x0) (x1) (x2) (x3) (s : State) : OutKept s (execAnd x0 x1 x2 x3 s) := by
  unfold execAnd
  apply_rules [execAlu_kept]

theorem execSub_kept (x0) (x1) (x2) (x3) (s : State) : OutKept s (execSub x0 x1 x2 x3 s) := by
  unfold execSub
  apply_rules [execAlu_kept]

theorem execAdd_kept (x0) (x1) (x2) (x3) (s : State) : OutKept s (execAdd x0 x1 x2 x3 s) := by
  unfold execAdd
  apply_rules [execAlu_kept]

theorem execJr_kept (x0) (x1) (s : State) : OutKept s (execJr x0 x1 s) := by
  unfold execJr
  refine issue_kept _ _ _ _ _ _ _ _ _ (fun u => ?_)
  dsimp only
  repeat' split
  all_goals (first | trivial | rfl | (simp only [ResKept, issue_kept]; done) | grind [ResKept, State.kept, issue_kept])

theorem goTo_kept (x0) (s : State) (s2 : State) (x3) (hs : s2.kept = s.kept) : ResKept s (goTo x0 s s2 x3) := by
  unfold goTo
  split
  · exact hs
  · trivial

theorem execJal_kept (x0) (x1) (x2) (s : State) : OutKept s (execJal x0 x1 x2 s) := by
  unfold execJal
  refine issue_kept _ _ _ _ _ _ _ _ _ (fun u => ?_)
  repeat' split
  all_goals (first | trivial | rfl | (simp only [ResKept, issue_kept, goTo_kept, State.setSreg_kept]; done) | grind [ResKept, State.kept, issue_kept, goTo_kept, State.setSreg_kept])

theorem execBranch_kept (x0) (x1) (x2) (x3) (x4) (x5) (s : State) : OutKept s (execBranch x0 x1 x2 x3 x4 x5 s) := by
  unfold execBranch
  refine issue_kept _ _ _ _ _ _ _ _ _ (fun u => ?_)
  repeat' split
  all_goals (first | trivial | rfl | (simp only [ResKept, issue_kept, goTo_kept]; done) | grind [ResKept, State.kept, issue_kept, goTo_kept])

theorem execBge_kept (x0) (x1) (x2) (x3) (s : State) : OutKept s (execBge x0 x1 x2 x3 s) := by
  unfold execBge
  apply_rules [execBranch_kept]

theorem execBlt_kept (x0) (x1) (x2) (x3) (s : State) : OutKept s (execBlt x0 x1 x2 x3 s) := by
  unfold execBlt
  apply_rules [execBranch_kept]

theorem execBne_kept (x0) (x1) (x2) (x3) (s : State) : OutKept s (execBne x0 x1 x2 x3 s) := by
  unfold execBne
  apply_rules [execBranch_kept]

theorem execBeq_kept (x0) (x1) (x2) (x3) (s : State) : OutKept s (execBeq x0 x1 x2 x3 s) := by
  unfold execBeq
  apply_rules [execBranch_kept]

theorem execLoad_kept (x0) (x1) (x2) (x3) (x4) (x5) (x6) (s : State) : OutKept s (execLoad x0 x1 x2 x3 x4 x5 x6 s) := by
  unfold execLoad
  refine issue_kept _ _ _ _ _ _ _ _ _ (fun u => ?_)
  dsimp only
  repeat' split
  all_goals (first | trivial | rfl | (simp only [ResKept, issue_kept, State.setSreg_kept]; done) | grind [ResKept, State.kept, issue_kept, State.setSreg_kept])

theorem execLdWu_kept (x0) (x1) (x2) (x3) (s : State) : OutKept s (execLdWu x0 x1 x2 x3 s) := by
  unfold execLdWu
  apply_rules [execLoad_kept]

theorem execLdHu_kept (x0) (x1) (x2) (x3) (s : State) : OutKept s (execLdHu x0 x1 x2 x3 s) := by
  unfold execLdHu
  apply_rules [execLoad_kept]

theorem execLdBu_kept (x0) (x1) (x2) (x3) (s : State) : OutKept s (execLdBu x0 x1 x2 x3 s) := by
  unfold execLdBu
  apply_rules [execLoad_kept]

theorem execLdD_kept (x0) (x1) (x2) (x3) (s : State) : OutKept s (execLdD x0 x1 x2 x3 s) := by
  unfold execLdD
  apply_rules [execLoad_kept]

theorem execLdW_kept (x0) (x1) (x2) (x3) (s : State) : OutKept s (execLdW x0 x1 x2 x3 s) := by
  unfold execLdW
  apply_rules [execLoad_kept]

theorem execLdH_kept (x0) (x1) (x2) (x3) (s : State) : OutKept s (execLdH x0 x1 x2 x3 s) := by
  unfold execLdH
  apply_rules [execLoad_kept]

theorem execLdB_kept (x0) (x1) (x2) (x3) (s : State) : OutKept s (execLdB x0 x1 x2 x3 s) := by
  unfold execLdB
  apply_rules [execLoad_kept]

theorem execVpush_kept (x0) (x1) (x2) (s : State) : OutKept s (execVpush x0 x1 x2 s) := by
  unfold execVpush
  refine issue_kept _ _ _ _ _ _ _ _ _ (fun u => ?_)
  dsimp only
  repeat' split
  all_goals (first | trivial | rfl | (simp only [ResKept, issue_kept, State.modTower_kept]; done) | grind [ResKept, State.kept, issue_kept, State.modTower_kept])

theorem State.vecWaits_kept (s : State) (x1) (x2) (x3) : ResKept s (State.vecWaits s x1 x2 x3) := by
  unfold State.vecWaits
  grind [State.kept, ResKept, State.modTower_kept]

theorem execVpop_kept (x0) (x1) (x2) (s : State) : OutKept s (execVpop x0 x1 x2 s) := by
  unfold execVpop
  refine issue_kept _ _ _ _ _ _ _ _ _ (fun u => ?_)
  repeat' split
  all_goals (first | trivial | rfl | (simp only [ResKept, issue_kept, State.modTower_kept]; done) | grind [ResKept, State.kept, issue_kept, State.modTower_kept])

theorem execEprg_kept (x0) (x1) (x2) (x3) (x4) (s : State) : OutKept s (execEprg x0 x1 x2 x3 x4 s) := by
  unfold execEprg
  refine issue_kept _ _ _ _ _ _ _ _ _ (fun u => ?_)
  repeat' split
  all_goals (first | trivial | rfl | (simp only [ResKept, issue_kept, State.draw_kept, State.count_kept, State.modTower_kept, State.setTower_kept]; done) | grind [ResKept, State.kept, issue_kept, State.draw_kept, State.count_kept, State.modTower_kept, State.setTower_kept])

theorem execVred_kept (x0) (x1) (x2) (x3) (x4) (x5) (x6) (x7) (s : State) : OutKept s (execVred x0 x1 x2 x3 x4 x5 x6 x7 s) := by
  unfold execVred
  refine issue_kept _ _ _ _ _ _ _ _ _ (fun u => ?_)
  dsimp only
  repeat' split
  all_goals (first | trivial | rfl | (simp only [ResKept, issue_kept, State.setTower_kept]; done) | grind [ResKept, State.kept, issue_kept, State.setTower_kept])

theorem execVredColAddm_kept (x0) (x1) (x2) (x3) (x4) (s : State) : OutKept s (execVredColAddm x0 x1 x2 x3 x4 s) := by
  unfold execVredColAddm
  apply_rules [execVred_kept]

theorem execVredColMin_kept (x0) (x1) (x2) (x3) (x4) (s : State) : OutKept s (execVredColMin x0 x1 x2 x3 x4 s) := by
  unfold execVredColMin
  apply_rules [execVred_kept]

theorem execVredColMax_kept (x0) (x1) (x2) (x3) (x4) (s : State) : OutKept s (execVredColMax x0 x1 x2 x3 x4 s) := by
  unfold execVredColMax
  apply_rules [execVred_kept]

theorem execVredColAdd_kept (x0) (x1) (x2) (x3) (x4) (s : State) : OutKept s (execVredColAdd x0 x1 x2 x3 x4 s) := by
  unfold execVredColAdd
  apply_rules [execVred_kept]

theorem execVredRowAddm_kept (x0) (x1) (x2) (x3) (x4) (s : State) : OutKept s (execVredRowAddm x0 x1 x2 x3 x4 s) := by
  unfold execVredRowAddm
  apply_rules [execVred_kept]

theorem execVredRowMin_kept (x0) (x1) (x2) (x3) (x4) (s : State) : OutKept s (execVredRowMin x0 x1 x2 x3 x4 s) := by
  unfold execVredRowMin
  apply_rules [execVred_kept]

theorem execVredRowMax_kept (x0) (x1) (x2) (x3) (x4) (s : State) : OutKept s (execVredRowMax x0 x1 x2 x3 x4 s) := by
  unfold execVredRowMax
  apply_rules [execVred_kept]

theorem execVredRowAdd_kept (x0) (x1) (x2) (x3) (x4) (s : State) : OutKept s (execVredRowAdd x0 x1 x2 x3 x4 s) := by
  unfold execVredRowAdd
  apply_rules [execVred_kept]

theorem vecInstr_kept (x0) (x1) (x2) (x3) (x4) (x5) (x6) (k7) (x8) (x9) (k10) (k11) (s : State) (h11 : ∀ t, (k11 t).kept = t.kept) : OutKept s (vecInstr x0 x1 x2 x3 x4 x5 x6 k7 x8 x9 k10 k11 s) := by
  unfold vecInstr
  refine issue_kept _ _ _ _ _ _ _ _ _ (fun u => ?_)
  dsimp only
  repeat' split
  all_goals (first | trivial | rfl | (simp only [ResKept, issue_kept, State.takeFault_kept, State.countCheck_kept, State.draw_kept, State.setTower_kept]; done) | grind [ResKept, State.kept, issue_kept, State.takeFault_kept, State.countCheck_kept, State.draw_kept, State.setTower_kept])

theorem vecMod_kept (x0) (x1) (x2) (x3) (x4) (x5) (x6) (x7) (s : State) : OutKept s (vecMod x0 x1 x2 x3 x4 x5 x6 x7 s) := by
  unfold vecMod
  apply_rules [vecInstr_kept, State.modTower_kept]

theorem execVmulm_kept (x0) (x1) (x2) (x3) (x4) (x5) (s : State) : OutKept s (execVmulm x0 x1 x2 x3 x4 x5 s) := by
  unfold execVmulm
  apply_rules [vecMod_kept]

theorem execVsubm_kept (x0) (x1) (x2) (x3) (x4) (x5) (s : State) : OutKept s (execVsubm x0 x1 x2 x3 x4 x5 s) := by
  unfold execVsubm
  apply_rules [vecMod_kept]

theorem execVaddm_kept (x0) (x1) (x2) (x3) (x4) (x5) (s : State) : OutKept s (execVaddm x0 x1 x2 x3 x4 x5 s) := by
  unfold execVaddm
  apply_rules [vecMod_kept]

theorem execVopBcast_kept (x0) (x1) (x2) (x3) (x4) (s : State) : OutKept s (execVopBcast x0 x1 x2 x3 x4 s) := by
  unfold execVopBcast
  apply_rules [vecInstr_kept]

theorem execVopCvt_kept (x0) (x1) (x2) (x3) (x4) (s : State) : OutKept s (execVopCvt x0 x1 x2 x3 x4 s) := by
  unfold execVopCvt
  apply_rules [vecInstr_kept]

theorem execVopMov_kept (x0) (x1) (x2) (x3) (x4) (s : State) : OutKept s (execVopMov x0 x1 x2 x3 x4 s) := by
  unfold execVopMov
  apply_rules [vecInstr_kept]

theorem vop2_kept (x0) (x1) (x2) (x3) (x4) (x5) (x6) (x7) (x8) (s : State) : OutKept s (vop2 x0 x1 x2 x3 x4 x5 x6 x7 x8 s) := by
  unfold vop2
  apply_rules [vecInstr_kept]

theorem execVopShr_kept (x0) (x1) (x2) (x3) (x4) (s : State) : OutKept s (execVopShr x0 x1 x2 x3 x4 s) := by
  unfold execVopShr
  apply_rules [vop2_kept]

theorem execVopShl_kept (x0) (x1) (x2) (x3) (x4) (s : State) : OutKept s (execVopShl x0 x1 x2 x3 x4 s) := by
  unfold execVopShl
  apply_rules [vop2_kept]

theorem execVopXor_kept (x0) (x1) (x2) (x3) (x4) (s : State) : OutKept s (execVopXor x0 x1 x2 x3 x4 s) := by
  unfold execVopXor
  apply_rules [vop2_kept]

theorem execVopOr_kept (x0) (x1) (x2) (x3) (x4) (s : State) : OutKept s (execVopOr x0 x1 x2 x3 x4 s) := by
  unfold execVopOr
  apply_rules [vop2_kept]

theorem execVopAnd_kept (x0) (x1) (x2) (x3) (x4) (s : State) : OutKept s (execVopAnd x0 x1 x2 x3 x4 s) := by
  unfold execVopAnd
  apply_rules [vop2_kept]

theorem execVopMax_kept (x0) (x1) (x2) (x3) (x4) (s : State) : OutKept s (execVopMax x0 x1 x2 x3 x4 s) := by
  unfold execVopMax
  apply_rules [vop2_kept]

theorem execVopMin_kept (x0) (x1) (x2) (x3) (x4) (s : State) : OutKept s (execVopMin x0 x1 x2 x3 x4 s) := by
  unfold execVopMin
  apply_rules [vop2_kept]

theorem execVopFma_kept (x0) (x1) (x2) (x3) (x4) (x5) (s : State) : OutKept s (execVopFma x0 x1 x2 x3 x4 x5 s) := by
  unfold execVopFma
  apply_rules [vecInstr_kept]

theorem execVopMul_kept (x0) (x1) (x2) (x3) (x4) (x5) (s : State) : OutKept s (execVopMul x0 x1 x2 x3 x4 x5 s) := by
  unfold execVopMul
  apply_rules [vop2_kept]

theorem execVopSub_kept (x0) (x1) (x2) (x3) (x4) (x5) (s : State) : OutKept s (execVopSub x0 x1 x2 x3 x4 x5 s) := by
  unfold execVopSub
  apply_rules [vop2_kept]

theorem execVopAdd_kept (x0) (x1) (x2) (x3) (x4) (x5) (s : State) : OutKept s (execVopAdd x0 x1 x2 x3 x4 x5 s) := by
  unfold execVopAdd
  apply_rules [vop2_kept]

theorem execMatrix_kept (x0) (x1) (x2) (x3) (x4) (x5) (x6) (x7) (x8) (s : State) : OutKept s (execMatrix x0 x1 x2 x3 x4 x5 x6 x7 x8 s) := by
  unfold execMatrix
  refine issue_kept _ _ _ _ _ _ _ _ _ (fun u => ?_)
  dsimp only
  repeat' split
  all_goals (first | trivial | rfl | (simp only [ResKept, issue_kept, State.setTower_kept]; done) | grind [ResKept, State.kept, issue_kept, State.setTower_kept])

theorem execMmw_kept (x0) (x1) (x2) (x3) (x4) (x5) (x6) (s : State) : OutKept s (execMmw x0 x1 x2 x3 x4 x5 x6 s) := by
  unfold execMmw
  apply_rules [execMatrix_kept]

theorem execMmaH8_kept (x0) (x1) (x2) (x3) (x4) (x5) (x6) (s : State) : OutKept s (execMmaH8 x0 x1 x2 x3 x4 x5 x6 s) := by
  unfold execMmaH8
  apply_rules [execMatrix_kept]

theorem execMmaH48_kept (x0) (x1) (x2) (x3) (x4) (x5) (x6) (s : State) : OutKept s (execMmaH48 x0 x1 x2 x3 x4 x5 x6 s) := by
  unfold execMmaH48
  apply_rules [execMatrix_kept]

theorem execMmaH4_kept (x0) (x1) (x2) (x3) (x4) (x5) (x6) (s : State) : OutKept s (execMmaH4 x0 x1 x2 x3 x4 x5 x6 s) := by
  unfold execMmaH4
  apply_rules [execMatrix_kept]

theorem execMdrain_kept (x0) (x1) (s : State) : OutKept s (execMdrain x0 x1 s) := by
  unfold execMdrain
  refine issue_kept _ _ _ _ _ _ _ _ _ (fun u => ?_)
  dsimp only
  repeat' split
  all_goals (first | trivial | rfl | (simp only [ResKept, issue_kept, State.modTower_kept]; done) | grind [ResKept, State.kept, issue_kept, State.modTower_kept])

theorem State.recheckQueue_kept (s : State) (x1) (x2) : (State.recheckQueue s x1 x2).kept = s.kept := by
  unfold State.recheckQueue
  grind [State.kept, State.issueFault_kept]

theorem execTcfg_kept (x0) (x1) (x2) (x3) (s : State) : OutKept s (execTcfg x0 x1 x2 x3 s) := by
  unfold execTcfg
  refine issue_kept _ _ _ _ _ _ _ _ _ (fun u => ?_)
  dsimp only
  repeat' split
  all_goals (first | trivial | rfl | (simp only [ResKept, issue_kept, State.recheckQueue_kept, State.modTower_kept]; done) | grind [ResKept, State.kept, issue_kept, State.recheckQueue_kept, State.modTower_kept])

theorem execTrel_kept (x0) (x1) (s : State) : OutKept s (execTrel x0 x1 s) := by
  unfold execTrel
  refine issue_kept _ _ _ _ _ _ _ _ _ (fun u => ?_)
  dsimp only
  repeat' split
  all_goals (first | trivial | rfl | (simp only [ResKept, issue_kept, State.modTower_kept]; done) | grind [ResKept, State.kept, issue_kept, State.modTower_kept])

theorem execCopy_kept (x0) (x1) (x2) (x3) (x4) (x5) (s : State) : OutKept s (execCopy x0 x1 x2 x3 x4 x5 s) := by
  unfold execCopy
  refine issue_kept _ _ _ _ _ _ _ _ _ (fun u => ?_)
  dsimp only
  repeat' split
  all_goals (first | trivial | rfl | (simp only [ResKept, issue_kept, State.modStream_kept, State.fetchDesc_kept]; done) | grind [ResKept, State.kept, issue_kept, State.modStream_kept, State.fetchDesc_kept])

theorem execPut_kept (x0) (x1) (x2) (x3) (s : State) : OutKept s (execPut x0 x1 x2 x3 s) := by
  unfold execPut
  apply_rules [execCopy_kept]

theorem execGet_kept (x0) (x1) (x2) (x3) (s : State) : OutKept s (execGet x0 x1 x2 x3 s) := by
  unfold execGet
  apply_rules [execCopy_kept]

theorem State.countSup_kept (s : State) (x1) (x2) : (State.countSup s x1 x2).kept = s.kept := by
  unfold State.countSup
  grind [State.kept, State.count_kept]

theorem State.storeElems_kept (s : State) (x1) (x2) (x3) (x4) (x5) (x6) : (State.storeElems s x1 x2 x3 x4 x5 x6).1.s.kept = s.kept := by
  unfold State.storeElems
  have h := fun (l : List (Nat × List Byte × Nat)) u =>
    foldl_kept (fun (t : State) q => t.towerPut x1 q.1 q.2.1) (fun t q => State.towerPut_kept t x1 q.1 q.2.1) l u
  grind [State.kept, State.clearRuns_kept, State.count_kept]

theorem State.ownTensor_kept (s : State) (x1) (x2) : (State.ownTensor s x1 x2).1.kept = s.kept := by
  unfold State.ownTensor
  grind [State.kept, State.fetchDesc_kept]

theorem execVst_kept (x0) (x1) (x2) (x3) (x4) (s : State) : OutKept s (execVst x0 x1 x2 x3 x4 s) := by
  unfold execVst
  refine issue_kept _ _ _ _ _ _ _ _ _ (fun u => ?_)
  dsimp only
  repeat' split
  all_goals (first | trivial | rfl | (simp only [ResKept, issue_kept, State.ownTensor_kept, State.storeElems_kept, State.kvWritten_kept, State.countSup_kept, State.takeFault_kept, State.modTower_kept]; done) | grind [ResKept, State.kept, issue_kept, State.ownTensor_kept, State.storeElems_kept, State.kvWritten_kept, State.countSup_kept, State.takeFault_kept, State.modTower_kept])

theorem execTst_kept (x0) (x1) (x2) (x3) (x4) (s : State) : OutKept s (execTst x0 x1 x2 x3 x4 s) := by
  unfold execTst
  refine issue_kept _ _ _ _ _ _ _ _ _ (fun u => ?_)
  dsimp only
  repeat' split
  all_goals (first | trivial | rfl | (simp only [ResKept, issue_kept, State.ownTensor_kept, State.modTower_kept]; done) | grind [ResKept, State.kept, issue_kept, State.ownTensor_kept, State.modTower_kept])

theorem execVld_kept (x0) (x1) (x2) (x3) (x4) (s : State) : OutKept s (execVld x0 x1 x2 x3 x4 s) := by
  unfold execVld
  refine issue_kept _ _ _ _ _ _ _ _ _ (fun u => ?_)
  dsimp only
  repeat' split
  all_goals (first | trivial | rfl | (simp only [ResKept, issue_kept, State.ownTensor_kept, State.modTower_kept]; done) | grind [ResKept, State.kept, issue_kept, State.ownTensor_kept, State.modTower_kept])

theorem State.tileLoad_kept (s : State) (x1) (x2) (x3) (x4) (x5) (x6) (x7) (x8) (x9) : ResKept s (State.tileLoad s x1 x2 x3 x4 x5 x6 x7 x8 x9) := by
  unfold State.tileLoad
  grind [State.kept, ResKept, State.modTower_kept]

theorem execPld_kept (x0) (x1) (x2) (x3) (x4) (s : State) : OutKept s (execPld x0 x1 x2 x3 x4 s) := by
  unfold execPld
  refine issue_kept _ _ _ _ _ _ _ _ _ (fun u => ?_)
  dsimp only
  have hn : ∀ (u : State) a n b m, ((u.noteRead x0.slot.val a n).noteRead x0.slot.val b m).kept = u.kept :=
    fun u a n b m => (State.noteRead_kept _ _ _ _).trans (State.noteRead_kept _ _ _ _)
  repeat' split
  all_goals first
    | trivial
    | exact State.noteRead_kept _ _ _ _
    | exact hn _ _ _ _ _
    | exact of_pair ((State.ownTensor_kept _ _ _).trans (hn _ _ _ _ _)) (by assumption)
    | exact ResKept.of (of_pair ((State.ownTensor_kept _ _ _).trans (hn _ _ _ _ _)) (by assumption)) (State.tileLoad_kept _ _ _ _ _ _ _ _ _ _)

theorem State.sequenced_kept (s : State) (x1) (x2) (x3) (x4) (x5) (x6) : ResKept s (State.sequenced s x1 x2 x3 x4 x5 x6) := by
  unfold State.sequenced
  dsimp only
  split
  · trivial
  · split
    · trivial
    · split
      · exact of_pair (State.ownTensor_kept _ _ _) (by assumption)
      · have ho := of_pair (State.ownTensor_kept _ _ _) (by assumption)
        split
        · rename_i hq
          have hu := ResKept.done ho (State.tileLoad_kept _ _ _ _ _ _ _ _ _ _) hq
          simp only [ResKept, apply_ite State.kept, State.count_kept, State.modTower_kept, ite_self]
          exact hu
        · exact ResKept.of ho (State.tileLoad_kept _ _ _ _ _ _ _ _ _ _)

theorem execSequencedTld_kept (x0) (x1) (x2) (x3) (x4) (x5) (s : State) : OutKept s (execSequencedTld x0 x1 x2 x3 x4 x5 s) := by
  unfold execSequencedTld
  refine issue_kept _ _ _ _ _ _ _ _ _ (fun u => ?_)
  repeat' split
  all_goals (first | trivial | rfl | (simp only [ResKept, issue_kept, State.sequenced_kept]; done) | grind [ResKept, State.kept, issue_kept, State.sequenced_kept])

theorem execTldS_kept (x0) (x1) (x2) (x3) (x4) (s : State) : OutKept s (execTldS x0 x1 x2 x3 x4 s) := by
  unfold execTldS
  refine issue_kept _ _ _ _ _ _ _ _ _ (fun u => ?_)
  dsimp only
  repeat' split
  all_goals first
    | trivial
    | exact State.sequenced_kept _ _ _ _ _ _ _
    | exact of_pair (State.ownTensor_kept _ _ _) (by assumption)
    | exact ResKept.of (of_pair (State.ownTensor_kept _ _ _) (by assumption)) (State.tileLoad_kept _ _ _ _ _ _ _ _ _ _)

theorem execTldT_kept (x0) (x1) (x2) (x3) (x4) (x5) (s : State) : OutKept s (execTldT x0 x1 x2 x3 x4 x5 s) := by
  unfold execTldT
  refine issue_kept _ _ _ _ _ _ _ _ _ (fun u => ?_)
  dsimp only
  repeat' split
  all_goals first
    | trivial
    | exact State.sequenced_kept _ _ _ _ _ _ _
    | exact of_pair (State.ownTensor_kept _ _ _) (by assumption)
    | exact ResKept.of (of_pair (State.ownTensor_kept _ _ _) (by assumption)) (State.tileLoad_kept _ _ _ _ _ _ _ _ _ _)

theorem execTld_kept (x0) (x1) (x2) (x3) (x4) (s : State) : OutKept s (execTld x0 x1 x2 x3 x4 s) := by
  unfold execTld
  refine issue_kept _ _ _ _ _ _ _ _ _ (fun u => ?_)
  dsimp only
  repeat' split
  all_goals first
    | trivial
    | exact State.sequenced_kept _ _ _ _ _ _ _
    | exact of_pair (State.ownTensor_kept _ _ _) (by assumption)
    | exact ResKept.of (of_pair (State.ownTensor_kept _ _ _) (by assumption)) (State.tileLoad_kept _ _ _ _ _ _ _ _ _ _)

theorem execBellw_kept (x0) (x1) (s : State) : OutKept s (execBellw x0 x1 s) := by
  unfold execBellw
  apply_rules [issue_kept]

theorem execSemw_kept (x0) (x1) (x2) (s : State) : OutKept s (execSemw x0 x1 x2 s) := by
  unfold execSemw
  refine issue_kept _ _ _ _ _ _ _ _ _ (fun u => ?_)
  dsimp only
  repeat' split
  all_goals (first | trivial | rfl | (simp only [ResKept, issue_kept, State.waitSem_kept]; done) | grind [ResKept, State.kept, issue_kept, State.waitSem_kept])

theorem execSemp_kept (x0) (x1) (x2) (s : State) : OutKept s (execSemp x0 x1 x2 s) := by
  unfold execSemp
  refine issue_kept _ _ _ _ _ _ _ _ _ (fun u => ?_)
  dsimp only
  repeat' split
  all_goals (first | trivial | rfl | (simp only [ResKept, issue_kept, State.postSem_kept, State.takeFault_kept, State.modStream_kept]; done) | grind [ResKept, State.kept, issue_kept, State.postSem_kept, State.takeFault_kept, State.modStream_kept])

theorem swapBody_kept (x0) (x1) (x2) (s : State) : ResKept s (swapBody x0 x1 x2 s) := by
  unfold swapBody
  grind [State.kept, ResKept, State.modTower_kept]

theorem execImswapB_kept (x0) (x1) (s : State) : OutKept s (execImswapB x0 x1 s) := by
  unfold execImswapB
  apply_rules [issue_kept, swapBody_kept]

theorem execImswap_kept (x0) (x1) (s : State) : OutKept s (execImswap x0 x1 s) := by
  unfold execImswap
  apply_rules [issue_kept, swapBody_kept]

theorem execHalt_kept (x0) (s : State) : OutKept s (execHalt x0 s) := by
  unfold execHalt
  refine issue_kept _ _ _ _ _ _ _ _ _ (fun u => ?_)
  dsimp only
  repeat' split
  all_goals (first | trivial | rfl | (simp only [ResKept, issue_kept, deliverPosted_kept, State.modTower_kept, State.modStream_kept, State.taskEnded_kept]; done) | grind [ResKept, State.kept, issue_kept, deliverPosted_kept, State.modTower_kept, State.modStream_kept, State.taskEnded_kept])

theorem execTrap_kept (x0) (s : State) : OutKept s (execTrap x0 s) := by
  unfold execTrap
  refine issue_kept _ _ _ _ _ _ _ _ _ (fun u => ?_)
  repeat' split
  all_goals (first | trivial | rfl | (simp only [ResKept, issue_kept]; done) | grind [ResKept, State.kept, issue_kept])

theorem fenceCpX_kept (x0) (s : State) : ResKept s (fenceCpX x0 s) := by
  unfold fenceCpX
  grind [State.kept, ResKept, deliverPosted_kept, State.modTower_kept]

theorem fenceCpA_kept (x0) (s : State) : ResKept s (fenceCpA x0 s) := by
  unfold fenceCpA
  grind [State.kept, ResKept, deliverPosted_kept, State.modTower_kept]

theorem execFenceCp_kept (x0) (s : State) : OutKept s (execFenceCp x0 s) := by
  unfold execFenceCp
  refine issue_kept _ _ _ _ _ _ _ _ _ (fun u => ?_)
  cases x0.stream
  · exact fenceCpA_kept _ _
  · exact fenceCpX_kept _ _

theorem execFence_kept (x0) (s : State) : OutKept s (execFence x0 s) := by
  unfold execFence
  refine issue_kept _ _ _ _ _ _ _ _ _ (fun u => ?_)
  repeat' split
  all_goals (first | trivial | rfl | (simp only [ResKept, issue_kept, deliverPosted_kept]; done) | grind [ResKept, State.kept, issue_kept, deliverPosted_kept])

theorem execExcRet_kept (x0) (x1) (s : State) : OutKept s (execExcRet x0 x1 s) := by
  unfold execExcRet
  apply_rules [issue_kept, excRetBody_kept]

theorem tqPopBody_kept (x0) (x1) (s : State) : ResKept s (tqPopBody x0 x1 s) := by
  unfold tqPopBody
  grind [State.kept, ResKept, State.setSreg_kept, State.setTower_kept]

theorem execTqPop_kept (x0) (x1) (s : State) : OutKept s (execTqPop x0 x1 s) := by
  unfold execTqPop
  apply_rules [issue_kept, tqPopBody_kept]

theorem execTqPush_kept (x0) (x1) (s : State) : OutKept s (execTqPush x0 x1 s) := by
  unfold execTqPush
  apply_rules [issue_kept, tqPushBody_kept]

theorem execCsrw_kept (x0) (x1) (x2) (s : State) : OutKept s (execCsrw x0 x1 x2 s) := by
  unfold execCsrw
  apply_rules [issue_kept, csrwBody_kept]

theorem execCsrr_kept (x0) (x1) (x2) (s : State) : OutKept s (execCsrr x0 x1 x2 s) := by
  unfold execCsrr
  refine issue_kept _ _ _ _ _ _ _ _ _ (fun u => ?_)
  repeat' split
  all_goals (first | trivial | rfl | (simp only [ResKept, issue_kept, tqPopBody_kept, State.draw_kept, State.setSreg_kept]; done) | grind [ResKept, State.kept, issue_kept, tqPopBody_kept, State.draw_kept, State.setSreg_kept])

theorem State.sdmWrite_kept (s : State) (x1) (x2) (x3) (x4) : (State.sdmWrite s x1 x2 x3 x4).kept = s.kept := Eq.trans rfl rfl

theorem execStore_kept (x0) (x1) (x2) (x3) (x4) (x5) (s : State) : OutKept s (execStore x0 x1 x2 x3 x4 x5 s) := by
  unfold execStore
  refine issue_kept _ _ _ _ _ _ _ _ _ (fun u => ?_)
  dsimp only
  repeat' split
  all_goals (first | trivial | rfl | (simp only [ResKept, issue_kept, State.sdmWrite_kept]; done) | grind [ResKept, State.kept, issue_kept, State.sdmWrite_kept])

theorem execStD_kept (x0) (x1) (x2) (x3) (s : State) : OutKept s (execStD x0 x1 x2 x3 s) := by
  unfold execStD
  apply_rules [execStore_kept]

theorem execStW_kept (x0) (x1) (x2) (x3) (s : State) : OutKept s (execStW x0 x1 x2 x3 s) := by
  unfold execStW
  apply_rules [execStore_kept]

theorem execStH_kept (x0) (x1) (x2) (x3) (s : State) : OutKept s (execStH x0 x1 x2 x3 s) := by
  unfold execStH
  apply_rules [execStore_kept]

theorem execStB_kept (x0) (x1) (x2) (x3) (s : State) : OutKept s (execStB x0 x1 x2 x3 s) := by
  unfold execStB
  apply_rules [execStore_kept]

theorem reissue_kept (x0) (s : State) : OutKept s (reissue x0 s) := by
  unfold reissue
  split
  · exact execStB_kept _ _ _ _ _
  · exact execStH_kept _ _ _ _ _
  · exact execStW_kept _ _ _ _ _
  · exact execStD_kept _ _ _ _ _
  · exact execCsrr_kept _ _ _ _
  · exact execCsrw_kept _ _ _ _
  · exact execTqPush_kept _ _ _
  · exact execTqPop_kept _ _ _
  · exact execExcRet_kept _ _ _
  · exact execFence_kept _ _
  · exact execFenceCp_kept _ _
  · exact execTrap_kept _ _
  · exact execHalt_kept _ _
  · exact execImswap_kept _ _ _
  · exact execImswapB_kept _ _ _
  · exact execSemp_kept _ _ _ _
  · split
    · exact OutKept.next (Eq.refl s.kept)
    · exact execSemw_kept _ _ _ _
  · exact execBellw_kept _ _ _
  · exact execTld_kept _ _ _ _ _ _
  · exact execTldT_kept _ _ _ _ _ _ _
  · exact execTldS_kept _ _ _ _ _ _
  · exact execSequencedTld_kept _ _ _ _ _ _ _
  · exact execPld_kept _ _ _ _ _ _
  · exact execVld_kept _ _ _ _ _ _
  · exact execTst_kept _ _ _ _ _ _
  · exact execVst_kept _ _ _ _ _ _
  · exact execGet_kept _ _ _ _ _
  · exact execPut_kept _ _ _ _ _
  · exact execTrel_kept _ _ _
  · exact execTcfg_kept _ _ _ _ _
  · exact execMdrain_kept _ _ _
  · exact execMmaH4_kept _ _ _ _ _ _ _ _
  · exact execMmaH48_kept _ _ _ _ _ _ _ _
  · exact execMmaH8_kept _ _ _ _ _ _ _ _
  · exact execMmw_kept _ _ _ _ _ _ _ _
  · exact execVopAdd_kept _ _ _ _ _ _ _
  · exact execVopSub_kept _ _ _ _ _ _ _
  · exact execVopMul_kept _ _ _ _ _ _ _
  · exact execVopFma_kept _ _ _ _ _ _ _
  · exact execVopMin_kept _ _ _ _ _ _
  · exact execVopMax_kept _ _ _ _ _ _
  · exact execVopAnd_kept _ _ _ _ _ _
  · exact execVopOr_kept _ _ _ _ _ _
  · exact execVopXor_kept _ _ _ _ _ _
  · exact execVopShl_kept _ _ _ _ _ _
  · exact execVopShr_kept _ _ _ _ _ _
  · exact execVopMov_kept _ _ _ _ _ _
  · exact execVopCvt_kept _ _ _ _ _ _
  · exact execVopBcast_kept _ _ _ _ _ _
  · exact execVaddm_kept _ _ _ _ _ _ _
  · exact execVsubm_kept _ _ _ _ _ _ _
  · exact execVmulm_kept _ _ _ _ _ _ _
  · exact execVredRowAdd_kept _ _ _ _ _ _
  · exact execVredRowMax_kept _ _ _ _ _ _
  · exact execVredRowMin_kept _ _ _ _ _ _
  · exact execVredRowAddm_kept _ _ _ _ _ _
  · exact execVredColAdd_kept _ _ _ _ _ _
  · exact execVredColMax_kept _ _ _ _ _ _
  · exact execVredColMin_kept _ _ _ _ _ _
  · exact execVredColAddm_kept _ _ _ _ _ _
  · exact execEprg_kept _ _ _ _ _ _
  · exact execVpop_kept _ _ _ _
  · exact execVpush_kept _ _ _ _
  · exact execLdB_kept _ _ _ _ _
  · exact execLdH_kept _ _ _ _ _
  · exact execLdW_kept _ _ _ _ _
  · exact execLdD_kept _ _ _ _ _
  · exact execLdBu_kept _ _ _ _ _
  · exact execLdHu_kept _ _ _ _ _
  · exact execLdWu_kept _ _ _ _ _
  · exact execBeq_kept _ _ _ _ _
  · exact execBne_kept _ _ _ _ _
  · exact execBlt_kept _ _ _ _ _
  · exact execBge_kept _ _ _ _ _
  · exact execJal_kept _ _ _ _
  · exact execJr_kept _ _ _
  · exact execAdd_kept _ _ _ _ _
  · exact execSub_kept _ _ _ _ _
  · exact execAnd_kept _ _ _ _ _
  · exact execOr_kept _ _ _ _ _
  · exact execXor_kept _ _ _ _ _
  · exact execSll_kept _ _ _ _ _
  · exact execSrl_kept _ _ _ _ _
  · exact execSra_kept _ _ _ _ _
  · exact execMul_kept _ _ _ _ _
  · exact execMulh_kept _ _ _ _ _
  · exact execLi_kept _ _ _ _
  · exact OutKept.next (Eq.refl s.kept)

theorem State.quantCounts_kept (s : State) (x1) (x2) (x3) : (State.quantCounts s x1 x2 x3).kept = s.kept := by
  unfold State.quantCounts
  grind [State.kept, State.count64_kept, State.count_kept, State.setReg_kept]

theorem State.eprgDone_kept (s : State) (x1) (x2) (x3) (x4) (x5) : (State.eprgDone s x1 x2 x3 x4 x5).kept = s.kept := by
  unfold State.eprgDone
  grind [State.kept, State.count_kept, State.draw_kept, State.modTower_kept, State.quantCounts_kept]

theorem State.opFault_kept (s : State) (x1) (x2) (s3 : State) (x4) (hs : s3.kept = s.kept) : OutKept s (State.opFault s x1 x2 s3 x4) := by
  unfold State.opFault
  split
  · exact OutKept.next ((State.faultOp_kept _ _ _ _).trans hs)
  · exact OutKept.next rfl

theorem State.atOp_kept (s : State) (x1) (x2) : (State.atOp s x1 x2).kept = s.kept := Eq.trans rfl rfl

theorem State.faultStore_kept (s : State) (x1) (x2) : (State.faultStore s x1 x2).kept = s.kept := by
  unfold State.faultStore
  grind [State.kept, State.modTower_kept, State.takeFault_kept]

theorem State.storeRows_kept (s : State) (x1) (x2) (x3) (x4) : (State.storeRows s x1 x2 x3 x4).1.s.kept = s.kept := by
  unfold State.storeRows
  refine foldl_keptP (fun a : StoreRun × Option FaultInfo => a.1.s) _ (fun a r => ?_) _ _
  dsimp only
  split
  · rfl
  · exact State.storeElems_kept _ _ _ _ _ _ _

theorem State.storePane_kept (s : State) (x1) (x2) (x3) (x4) (x5) (x6) : ∀ t, State.storePane s x1 x2 x3 x4 x5 x6 = .ok t → t.kept = s.kept := by
  intro t h
  unfold State.storePane at h
  dsimp only at h
  split at h
  · cases h
  · split at h
    · cases h
    · cases h
    · cases h
      refine (State.towerPut_kept _ _ _ _).trans ((foldl_kept _ (fun t p => State.towerPut_kept _ _ _ _) _ _).trans ?_)
      have h := foldl_kept (fun (t : State) u => t.faultToSpire (slotSpire x1) (towerUeFault x1 u (srcTower x1 0)))
        (fun t p => State.faultToSpire_kept _ _ _)
      split
      · exact h _ _
      · exact (State.count_kept _ _ _).trans (h _ _)

theorem State.storeBlocks_kept (s : State) (x1) (x2) (x3) (x4) : (State.storeBlocks s x1 x2 x3 x4).1.s.kept = s.kept := by
  unfold State.storeBlocks
  refine foldl_keptP (fun a : StoreRun × Option FaultInfo => a.1.s) _ (fun a r => ?_) _ _
  dsimp only
  split
  · rfl
  · split
    · rfl
    · rename_i h
      exact State.storePane_kept _ _ _ _ _ _ _ _ h

theorem State.afterGather_kept (s : State) (x1) (x2) : (State.afterGather s x1 x2).kept = s.kept := by
  simp [State.afterGather, foldl_kept, apply_ite State.kept, State.count_kept, State.faultToSpire_kept]

theorem State.faultLoad_kept (s : State) (x1) (x2) (x3) : (State.faultLoad s x1 x2 x3).kept = s.kept := by
  unfold State.faultLoad
  grind [State.kept, State.modTower_kept, State.takeFault_kept]

theorem State.runVec_kept (s : State) (x1) (x2) (x3) (x4) : (State.runVec s x1 x2 x3 x4).kept = s.kept := by
  unfold State.runVec
  dsimp only
  split
  · rename_i h
    exact (reissue_kept _ _ _ h).trans (State.setTower_kept _ _ _)
  · rfl

theorem State.endVec_kept (s : State) (x1) (x2) (x3) : (State.endVec s x1 x2 x3).kept = s.kept := by
  unfold State.endVec
  grind [State.kept, State.runVec_kept, State.modTower_kept]

theorem State.readEntry_kept (s : State) (x1) (x2) (x3) (x4) : (State.readEntry s x1 x2 x3 x4).1.kept = s.kept := by
  unfold State.readEntry
  grind [State.kept, State.galleryRead_kept]

end Sys2Proof.Machine
end

