-- ==== Sys2Proof/Laws/Control.lean ====
section
/-!
SUPPORT. What a control write may do to the fields of `Kept`: it may request fuse programming and complete a claim, in
order; it touches nothing else of them.
-/
set_option linter.all false
namespace Sys2Proof.Machine

/-- What a control write leaves: the queue, the fuse bank, DEVICE_SECRET and its path, the bell number, the regions and
the noise sources as they were; requests that clear no fuse; stacks in order. -/
structure Within (s t : State) : Prop where
  pending : t.pending = s.pending
  opened : t.opened = s.opened
  fuses : t.fuses = s.fuses
  secret : t.secret = s.secret
  idOpen : t.idOpen = s.idOpen
  bellNum : t.bellNum = s.bellNum
  regions : t.regions = s.regions
  entropyBad : t.entropyBad = s.entropyBad
  jobs : s.FusesOk → t.FusesOk
  order : s.StacksOk → t.StacksOk

theorem Within.refl (s : State) : Within s s := ⟨rfl, rfl, rfl, rfl, rfl, rfl, rfl, rfl, id, id⟩

theorem Within.trans {s t u : State} (h : Within s t) (k : Within t u) : Within s u :=
  ⟨k.pending.trans h.pending, k.opened.trans h.opened, k.fuses.trans h.fuses, k.secret.trans h.secret,
    k.idOpen.trans h.idOpen, k.bellNum.trans h.bellNum, k.regions.trans h.regions, k.entropyBad.trans h.entropyBad,
    fun x => k.jobs (h.jobs x), fun x => k.order (h.order x)⟩

/-- What leaves the fields of `Kept` alone stays within a control write's limits. -/
theorem within_of_kept {s t : State} (h : t.kept = s.kept) : Within s t := by
  have h1 := congrArg Kept.pending h
  have h2 := congrArg Kept.opened h
  have h3 := congrArg Kept.fuses h
  have h4 := congrArg Kept.fuseJob h
  have h5 := congrArg Kept.secret h
  have h6 := congrArg Kept.idOpen h
  have h7 := congrArg Kept.carStacks h
  have h8 := congrArg Kept.bellNum h
  have h9 := congrArg Kept.regions h
  have h10 := congrArg Kept.entropyBad h
  dsimp only [State.kept] at h1 h2 h3 h4 h5 h6 h7 h8 h9 h10
  refine ⟨h1, h2, h3, h5, h6, h8, h9, h10, fun hf b hb => ?_, fun hs k => ?_⟩
  · rw [h3]
    exact hf b (h4 ▸ hb)
  · rw [h7]
    exact hs k

/-! ### The fuse bank (R421) -/

theorem FuseBank.le_refl (a : FuseBank) : a.le a := by simp [FuseBank.le]

theorem bitvec_le_or {n : Nat} (x y : BitVec n) : x &&& (x ||| y) = x := by
  ext i hi
  simp only [BitVec.getElem_and, BitVec.getElem_or]
  cases x[i] <;> simp

theorem within_fuseJob (s : State) (b : FuseBank) (h : s.fuses.le b) : Within s { s with fuseJob := some b } := by
  refine ⟨rfl, rfl, rfl, rfl, rfl, rfl, rfl, rfl, fun _ c hb => ?_, id⟩
  obtain rfl : b = c := Option.some.inj hb
  exact h

theorem State.fuseRequest_within (s : State) (ok : Bool) (b : FuseBank) (h : ok = true → s.fuses.le b) :
    Within s (s.fuseRequest ok b) := by
  unfold State.fuseRequest
  split
  · exact within_of_kept (State.fuseRefuse_kept s)
  · rename_i hc
    have hok : ok = true := by
      cases ok
      · simp at hc
      · rfl
    have w := within_of_kept (State.setFld_kept s Reg.fuseProgStatus 29 29 1)
    refine w.trans (within_fuseJob _ b ?_)
    rw [w.fuses]
    exact h hok

theorem State.fuseRoll_within (s : State) : Within s s.fuseRoll := by
  unfold State.fuseRoll
  refine State.fuseRequest_within _ _ _ (fun _ => ?_)
  simp [FuseBank.le, bitvec_le_or]

theorem State.fuseField_within (s : State) (f w : Nat) (d : Word) : Within s (s.fuseField f w d) := by
  unfold State.fuseField
  refine State.fuseRequest_within _ _ _ (fun _ => ?_)
  split <;> simp [FuseBank.le, bitvec_le_or]

theorem nat_and_ofNat (n : Nat) (x : BitVec n) (m : Nat) (h : x.toNat &&& m = x.toNat) :
    x &&& BitVec.ofNat n m = x := by
  apply BitVec.eq_of_toNat_eq
  rw [BitVec.toNat_and, BitVec.toNat_ofNat, ← Nat.and_two_pow_sub_one_eq_mod, ← Nat.and_assoc, h,
    Nat.and_two_pow_sub_one_eq_mod, Nat.mod_eq_of_lt x.isLt]

theorem State.fuseLife_within (s : State) (st : Nat) : Within s (s.fuseLife st) := by
  unfold State.fuseLife
  refine State.fuseRequest_within _ _ _ (fun h => ?_)
  simp only [Bool.and_eq_true, decide_eq_true_eq] at h
  simp only [FuseBank.le, BitVec.and_self, and_true]
  exact nat_and_ofNat _ _ _ h.2

theorem State.fuseProg_within (s : State) (v : Nat) : Within s (s.fuseProg v) := by
  unfold State.fuseProg
  repeat' split
  all_goals first
    | exact State.fuseLife_within _ _
    | exact State.fuseRoll_within _
    | exact State.fuseField_within _ _ _ _
    | exact Within.refl _

/-! ### Priority stacks (R386 to R391) -/

theorem State.setCarStack_stacks (s : State) (c t : Nat) (l : List (Nat × Nat)) (h : s.StacksOk) (hl : StackOk l) :
    (s.setCarStack c t l).StacksOk := by
  intro k
  simp only [State.setCarStack]
  rw [SMap.get_set]
  split
  · exact hl
  · exact h k

theorem State.setCarStack_within (s : State) (c t : Nat) (l : List (Nat × Nat)) (hl : s.StacksOk → StackOk l) :
    Within s (s.setCarStack c t l) :=
  ⟨rfl, rfl, rfl, rfl, rfl, rfl, rfl, rfl, id, fun h => State.setCarStack_stacks s c t l h (hl h)⟩

theorem State.completeSource_within (s : State) (a : Actor) (c t n : Nat) : Within s (s.completeSource a c t n) := by
  unfold State.completeSource
  split
  · split
    · rename_i m p rest h _
      refine (State.setCarStack_within s c t rest (fun hs => ?_)).trans (within_of_kept (State.setActive_kept _ _ _ _))
      have h0 := hs (3 * c + t)
      have h1 : SMap.get (fun _ => []) s.carStacks (3 * c + t) = (m, p) :: rest := h
      rw [h1] at h0
      exact ⟨(List.pairwise_cons.mp h0.1).2, fun e he => h0.2 e (by simp [he])⟩
    · exact within_of_kept (State.stackFault_kept _ _ _)
  · exact within_of_kept (State.stackFault_kept _ _ _)

/-- The source that a claim takes is deliverable (R386, R387). -/
theorem State.bestSource_deliverable (s : State) (c t n p : Nat) (h : s.bestSource c t = some (n, p)) :
    s.deliverable c t n = true ∧ p = s.carPrio c n := by
  unfold State.bestSource at h
  have key : ∀ (l : List Nat) (b : Option (Nat × Nat)), (∀ m ∈ l, s.deliverable c t m = true) →
      (∀ e, b = some e → s.deliverable c t e.1 = true ∧ e.2 = s.carPrio c e.1) →
      ∀ e, l.foldl (fun (b : Option (Nat × Nat)) n =>
        match b with
        | some (m, p) => if p < s.carPrio c n then some (n, s.carPrio c n) else some (m, p)
        | none => some (n, s.carPrio c n)) b = some e → s.deliverable c t e.1 = true ∧ e.2 = s.carPrio c e.1 := by
    intro l
    induction l with
    | nil => intro b _ hb e he; exact hb e he
    | cons x l ih =>
      intro b hl hb e he
      refine ih _ (fun m hm => hl m (by simp [hm])) (fun e' he' => ?_) e he
      have hx := hl x (by simp)
      cases b with
      | none =>
        obtain rfl := Option.some.inj he'
        exact ⟨hx, rfl⟩
      | some v =>
        dsimp only at he'
        split at he'
        · obtain rfl := Option.some.inj he'
          exact ⟨hx, rfl⟩
        · obtain rfl := Option.some.inj he'
          exact hb _ rfl
  exact key _ none (fun m hm => (List.mem_filter.mp hm).2) (fun e he => by cases he) (n, p) h

theorem bits_lt (x hi lo : Nat) : bits x hi lo < 2 ^ (hi + 1 - lo) := by
  unfold bits
  exact Nat.mod_lt _ (Nat.two_pow_pos _)

theorem State.claim_within (s : State) (c t : Nat) : Within s (s.claim c t).1 := by
  unfold State.claim
  have w0 : Within s (if t = 2 then s.setReg (Reg.carMsgStatus c) 0 else s) := by
    split
    · exact within_of_kept (State.setReg_kept _ _ _)
    · exact Within.refl s
  revert w0
  generalize (if t = 2 then s.setReg (Reg.carMsgStatus c) 0 else s) = u
  intro w0
  dsimp only
  split
  · exact w0
  · rename_i n p hb
    have hd := State.bestSource_deliverable u c t n p hb
    refine w0.trans ?_
    have wa : Within u ((u.setPending c n false).setActive c n true) :=
      (within_of_kept (State.setPending_kept _ _ _ _)).trans (within_of_kept (State.setActive_kept _ _ _ _))
    refine Within.trans ?_ (within_of_kept (State.startHold_kept _ _ _))
    refine wa.trans (State.setCarStack_within _ _ _ _ (fun hs => ?_))
    have hk : ((u.setPending c n false).setActive c n true).carStacks = u.carStacks := by
      have := congrArg Kept.carStacks ((State.setActive_kept (u.setPending c n false) c n true).trans
        (State.setPending_kept u c n false))
      exact this
    have h0 := hs (3 * c + t)
    rw [hk] at h0
    change StackOk (u.carStack c t) at h0
    have hp : p < 16 := by
      rw [hd.2]
      exact bits_lt _ _ _
    have hq := hd.1
    unfold State.deliverable at hq
    simp only [Bool.and_eq_true, decide_eq_true_eq] at hq
    obtain ⟨⟨-, hq⟩, -⟩ := hq
    have hpc : p = bits (u.reg (Reg.carSrcCfg c n)) 3 0 := hd.2
    rw [← hpc] at hq
    refine ⟨List.pairwise_cons.mpr ⟨fun e he => ?_, h0.1⟩, fun e he => ?_⟩
    · cases hst : u.carStack c t with
      | nil => rw [hst] at he; cases he
      | cons x rest =>
        rw [hst] at he hq h0
        have hx : x.2 < p := by simpa using hq
        rcases List.mem_cons.mp he with rfl | he
        · exact hx
        · exact Nat.lt_trans ((List.pairwise_cons.mp h0.1).1 e he) hx
    · rcases List.mem_cons.mp he with rfl | he
      · simp only
        omega
      · exact h0.2 e he

/-! ### Control writes -/

theorem State.carWrite_within (s : State) (a : Actor) (b : Block) (c off v : Nat) :
    Within s (s.carWrite a b c off v) := by
  unfold State.carWrite
  dsimp only
  repeat' split
  · exact within_of_kept (State.setReg_kept _ _ _)
  · exact within_of_kept (State.setReg_kept _ _ _)
  · exact State.completeSource_within _ _ _ _ _
  · exact within_of_kept (State.fieldWrite_kept _ _ _ _)

theorem State.blockWrite_within (s : State) (actor : Actor) (b : Block) (off a v : Nat) :
    Within s (s.blockWrite actor b off a v) := by
  unfold State.blockWrite
  split
  · split
    · exact within_of_kept (State.commitOf_kept _ _)
    · exact Within.refl s
  · dsimp only
    split
    · repeat' split
      · exact within_of_kept (State.culletSet_kept _ _)
      · exact within_of_kept (State.clearDecodeErr_kept _ _)
      · exact within_of_kept (State.fieldWrite_kept _ _ _ _)
    · repeat' split
      · exact State.fuseProg_within _ _
      · exact within_of_kept (State.setReg_kept _ _ _)
      · exact within_of_kept (State.fieldWrite_kept _ _ _ _)
    · split
      · exact within_of_kept (State.pkeCtl_kept _ _ _)
      · exact within_of_kept (State.fieldWrite_kept _ _ _ _)
    · exact within_of_kept (State.alxWrite_kept _ _ _)
    · split
      · exact within_of_kept (State.ctxWrite_kept _ _ _)
      · exact within_of_kept (State.fieldWrite_kept _ _ _ _)
    · exact within_of_kept (State.sprWrite_kept _ _ _ _ _)
    · repeat' split
      · exact within_of_kept (State.fieldWrite_kept _ _ _ _)
      · exact within_of_kept (State.setSem_kept _ _ _ _)
      · exact within_of_kept (State.postWrite_kept _ _ _ _ _)
      · exact within_of_kept (State.fieldWrite_kept _ _ _ _)
    · repeat' split
      · exact within_of_kept (State.joinBell_kept _ _)
      · exact Within.refl s
      · exact within_of_kept ((State.resumeService_kept _).trans (State.fieldWrite_kept _ _ _ _))
      · exact within_of_kept (State.fieldWrite_kept _ _ _ _)
    · exact State.carWrite_within _ _ _ _ _ _
    · exact State.carWrite_within _ _ _ _ _ _
    · exact within_of_kept (State.twrWrite_kept _ _ _ _ _)
    · exact within_of_kept (State.fieldWrite_kept _ _ _ _)

/-- A control write that is made or refused stays within its limits when its effect does. -/
theorem State.guarded_within (s : State) (actor : Actor) (a : Nat) (k : State → State) (h : ∀ t, Within t (k t)) :
    Within s (s.guarded actor a k) := by
  unfold State.guarded
  repeat' split
  · exact Within.refl s
  · exact within_of_kept (State.refuse_kept _ _ _ _)
  · exact h s

theorem State.ctlWrite_within (s : State) (actor : Actor) (a v : Nat) : Within s (s.ctlWrite actor a v) := by
  unfold State.ctlWrite
  refine State.guarded_within _ _ _ _ (fun t => ?_)
  split
  · exact State.blockWrite_within _ _ _ _ _ _
  · exact Within.refl t

theorem State.regwRun_within (s : State) (n : Nat) (l : List (Word × Word)) : Within s (s.regwRun n l).1 := by
  induction l generalizing s n with
  | nil => exact Within.refl s
  | cons p l ih =>
    unfold State.regwRun
    repeat' split
    · exact within_of_kept (State.refuse_kept _ _ _ _)
    · exact within_of_kept (State.refuse_kept _ _ _ _)
    · exact (State.ctlWrite_within _ _ _ _).trans (ih _ _)

end Sys2Proof.Machine
end

