-- ==== Sys2Proof/Laws/KeptCommands.lean ====
section
/-!
SUPPORT. What each command leaves unchanged, for the commands that write none of these fields.
-/
set_option linter.all false
set_option maxRecDepth 4000
namespace Sys2Proof.Machine

theorem execJtagTapAccess_kept (x0) (s : State) : OutKept s (execJtagTapAccess x0 s) := by
  intro t h
  unfold execJtagTapAccess at h
  grind [State.kept]

theorem execSpiFlashOpComplete_kept (s : State) : OutKept s (execSpiFlashOpComplete s) := by
  intro t h
  unfold execSpiFlashOpComplete at h
  grind [State.kept, State.raise_kept]

theorem execHasherJobComplete_kept (s : State) : OutKept s (execHasherJobComplete s) := by
  intro t h
  unfold execHasherJobComplete at h
  grind [State.kept, State.raise_kept]

theorem execButLossOfLock_kept (x0) (s : State) : OutKept s (execButLossOfLock x0 s) := by
  intro t h
  unfold execButLossOfLock at h
  grind [State.kept]

theorem execButPortUp_kept (x0) (x1) (x2) (s : State) : OutKept s (execButPortUp x0 x1 x2 s) := by
  intro t h
  unfold execButPortUp at h
  grind [State.kept, State.setReg_kept, State.raisePort_kept]

theorem execRefclkLoss_kept (x0) (s : State) : OutKept s (execRefclkLoss x0 s) := by
  unfold execRefclkLoss
  refine OutKept.next ?_
  split
  · rfl
  · split
    · exact foldl_kept _ (fun t p => State.portDown_kept _ _ _) _ _
    · exact (State.alert_kept _ _).trans ((State.stopRings_kept _).trans (State.dropAll_kept _))

theorem execPwrOkFall_kept (s : State) : OutKept s (execPwrOkFall s) := by
  unfold execPwrOkFall
  refine OutKept.next ?_
  split
  · rfl
  · refine (State.dropAll_kept _).trans ((State.alertPin_kept _).trans ((foldl_kept _ State.selfRefresh_kept _ _).trans ?_))
    exact (foldl_kept _ State.writeOutAll_kept _ _).trans (kept_power _ _)

theorem execRailLoss_kept (x0) (s : State) : OutKept s (execRailLoss x0 s) := by
  intro t h
  unfold execRailLoss at h
  grind [State.kept, State.loseSpire_kept, State.dropWork_kept, State.alert_kept, State.stopRings_kept]

theorem execFlowOkRise_kept (s : State) : OutKept s (execFlowOkRise s) := by
  intro t h
  unfold execFlowOkRise at h
  grind [State.kept, State.setFld_kept, State.tryService_kept, State.alertOff_kept]

theorem execFlowOkFall_kept (s : State) : OutKept s (execFlowOkFall s) := by
  unfold execFlowOkFall
  refine OutKept.next ?_
  split
  · rfl
  · dsimp only
    split
    · exact State.setFld_kept _ _ _ _ _
    · refine (State.alert_kept _ _).trans ((State.raise_kept _ _ _).trans ?_)
      refine (foldl_kept _ State.selfRefresh_kept _ _).trans ((foldl_kept _ State.retain_kept _ _).trans ?_)
      refine (foldl_kept _ State.writeOutAll_kept _ _).trans ((State.flowSeals_kept _).trans ?_)
      refine (foldl_kept _ State.stopSpire_kept _ _).trans ((State.loseLaunches_kept _ _ _).trans ?_)
      exact (foldl_kept _ State.clearEn_kept _ _).trans ((kept_power _ _).trans (State.setFld_kept _ _ _ _ _))

theorem execThermalTrip_kept (s : State) : OutKept s (execThermalTrip s) := by
  intro t h
  unfold execThermalTrip at h
  grind [State.kept, State.setFld_kept, State.dropAll_kept]

theorem execThrottleRecoveryStep_kept (x0) (x1) (s : State) : OutKept s (execThrottleRecoveryStep x0 x1 s) := by
  intro t h
  unfold execThrottleRecoveryStep at h
  grind [State.kept, State.setTemp_kept]

theorem execThrottleStep_kept (x0) (x1) (s : State) : OutKept s (execThrottleStep x0 x1 s) := by
  intro t h
  unfold execThrottleStep at h
  grind [State.kept, State.setTemp_kept, State.raise_kept, State.showThrottle_kept, State.fallPoint_kept, State.throttleTo_kept]

theorem execPowerSample_kept (x0) (x1) (s : State) : OutKept s (execPowerSample x0 x1 s) := by
  intro t h
  unfold execPowerSample at h
  grind [State.kept, State.setReg_kept, State.capAll_kept, State.alert_kept]

theorem execUnitWake_kept (x0) (s : State) : OutKept s (execUnitWake x0 s) := by
  intro t h
  unfold execUnitWake at h
  grind [State.kept, State.modTower_kept, State.setFld_kept, State.wakeSpire_kept]

theorem execIdleStateEntry_kept (x0) (s : State) : OutKept s (execIdleStateEntry x0 s) := by
  intro t h
  unfold execIdleStateEntry at h
  grind [State.kept, State.draw_kept, State.modTower_kept, State.towerOff_kept, State.selfRefresh_kept, State.retain_kept]

theorem execWearSample_kept (x0) (x1) (x2) (s : State) : OutKept s (execWearSample x0 x1 x2 s) := by
  intro t h
  unfold execWearSample at h
  grind [State.kept, State.setReg_kept]

theorem execSpireRetire_kept (x0) (s : State) : OutKept s (execSpireRetire x0 s) := by
  intro t h
  unfold execSpireRetire at h
  grind [State.kept, State.retireSpire_kept]

theorem execPkeSpare_kept (x0) (s : State) : OutKept s (execPkeSpare x0 s) := by
  intro t h
  unfold execPkeSpare at h
  grind [State.kept, State.logAppend_kept, State.setFld_kept, State.alert_kept]

theorem execExpanderRepair_kept (x0) (x1) (s : State) : OutKept s (execExpanderRepair x0 x1 s) := by
  unfold execExpanderRepair
  dsimp only
  refine OutKept.next ?_
  have hm : ∀ (v : Nat) (u : State), (((s.usersOf x0.val x1.toNat).foldl (fun (t : State) u =>
      { t with expDown := SMap.set (fun _ => 0) t.expDown (16 * x0.val + u) v }) u).kept = u.kept) :=
    fun v u => foldl_kept _ (fun t _ => kept_expDown t _) _ _
  repeat' split
  · rfl
  · exact State.setFld_kept _ _ _ _ _
  · exact (State.alert_kept _ _).trans (hm 2 _)
  · refine (State.logAppend_kept _ _ _ _ _).trans ((State.setFld_kept _ _ _ _ _).trans ((hm 1 _).trans ?_))
    exact (State.stage_kept _ _ _).trans (State.stage_kept _ _ _)

theorem execGalleryBankRepair_kept (x0) (x1) (s : State) : OutKept s (execGalleryBankRepair x0 x1 s) := by
  intro t h
  unfold execGalleryBankRepair at h
  grind [State.kept, State.retireSpire_kept, State.logAppend_kept]

theorem execTmRowRepair_kept (x0) (x1) (s : State) : OutKept s (execTmRowRepair x0 x1 s) := by
  unfold execTmRowRepair
  dsimp only
  refine OutKept.next ?_
  split
  · rfl
  · split
    · rfl
    · rename_i u hu
      refine (State.logAppend_kept _ _ _ _ _).trans ((State.poolRows_kept _ _).trans ?_)
      exact State.repair_kept _ _ _ _ u hu

theorem execTowerReplace_kept (x0) (s : State) : OutKept s (execTowerReplace x0 s) := by
  intro t h
  unfold execTowerReplace at h
  grind [State.kept, State.retireTower_kept, State.stopTower_kept, State.logAppend_kept]

theorem execLockstepMismatch_kept (s : State) : OutKept s (execLockstepMismatch s) := by
  intro t h
  simp only [execLockstepMismatch, Host.Outcome.next.injEq] at h
  subst h
  simp [foldl_kept, apply_ite State.kept, State.setReg_kept, State.alert_kept, State.count_kept, State.stopSpire_kept, State.loseWork_kept]

theorem execPkeOpmemClr_kept (x0) (x1) (s : State) : OutKept s (execPkeOpmemClr x0 x1 s) := by
  intro t h
  unfold execPkeOpmemClr at h
  grind [State.kept, State.guarded_kept, State.opmemZero_kept]

theorem execPkeAbort_kept (x0) (x1) (s : State) : OutKept s (execPkeAbort x0 x1 s) := by
  intro t h
  unfold execPkeAbort at h
  grind [State.kept, State.guarded_kept, State.pkeAbort_kept]

theorem execPkeComplete_kept (x0) (x1) (s : State) : OutKept s (execPkeComplete x0 x1 s) := by
  intro t h
  unfold execPkeComplete at h
  grind [State.kept, State.pkeFailed_kept, State.pkeCompute_kept, State.draw_kept, State.pkePut_kept, State.opmemFree_kept, State.completeFault_kept, State.setPke_kept, State.pkeEnd_kept, State.raise_kept]

theorem execPkeValidationEnd_kept (x0) (s : State) : OutKept s (execPkeValidationEnd x0 s) := by
  intro t h
  unfold execPkeValidationEnd at h
  grind [State.kept, State.pkeEnd_kept, State.count_kept, State.unreserve_kept, State.setPke_kept]

theorem execMeasureExtend_kept (x0) (x1) (s : State) : OutKept s (execMeasureExtend x0 x1 s) := by
  intro t h
  unfold execMeasureExtend at h
  grind [State.kept, State.pkeStart_kept]

theorem execValidate_kept (x0) (x1) (s : State) : OutKept s (execValidate x0 x1 s) := by
  intro t h
  unfold execValidate at h
  grind [State.kept, State.pkeStart_kept]

theorem execAttest_kept (x0) (x1) (s : State) : OutKept s (execAttest x0 x1 s) := by
  intro t h
  unfold execAttest at h
  grind [State.kept, State.pkeStart_kept]

theorem execKeyClear_kept (x0) (x1) (s : State) : OutKept s (execKeyClear x0 x1 s) := by
  intro t h
  unfold execKeyClear at h
  grind [State.kept, State.pkeStart_kept]

theorem execRsaVerify_kept (x0) (x1) (s : State) : OutKept s (execRsaVerify x0 x1 s) := by
  intro t h
  unfold execRsaVerify at h
  grind [State.kept, State.pkeStart_kept]

theorem execP384Verify_kept (x0) (x1) (s : State) : OutKept s (execP384Verify x0 x1 s) := by
  intro t h
  unfold execP384Verify at h
  grind [State.kept, State.pkeStart_kept]

theorem execP384Sign_kept (x0) (x1) (s : State) : OutKept s (execP384Sign x0 x1 s) := by
  intro t h
  unfold execP384Sign at h
  grind [State.kept, State.pkeStart_kept]

theorem execP384Keygen_kept (x0) (x1) (s : State) : OutKept s (execP384Keygen x0 x1 s) := by
  intro t h
  unfold execP384Keygen at h
  grind [State.kept, State.pkeStart_kept]

theorem execX448_kept (x0) (x1) (s : State) : OutKept s (execX448 x0 x1 s) := by
  intro t h
  unfold execX448 at h
  grind [State.kept, State.pkeStart_kept]

theorem execX448Keygen_kept (x0) (x1) (s : State) : OutKept s (execX448Keygen x0 x1 s) := by
  intro t h
  unfold execX448Keygen at h
  grind [State.kept, State.pkeStart_kept]

theorem execEd448Sign_kept (x0) (x1) (s : State) : OutKept s (execEd448Sign x0 x1 s) := by
  intro t h
  unfold execEd448Sign at h
  grind [State.kept, State.pkeStart_kept]

theorem execEd448Verify_kept (x0) (x1) (s : State) : OutKept s (execEd448Verify x0 x1 s) := by
  intro t h
  unfold execEd448Verify at h
  grind [State.kept, State.pkeStart_kept]

theorem execCollPartnerTimeout_kept (x0) (x1) (s : State) : OutKept s (execCollPartnerTimeout x0 x1 s) := by
  intro t h
  unfold execCollPartnerTimeout at h
  grind [State.kept, State.collEnd_kept]

theorem execCollAbortReceived_kept (x0) (x1) (x2) (x3) (s : State) : OutKept s (execCollAbortReceived x0 x1 x2 x3 s) := by
  intro t h
  unfold execCollAbortReceived at h
  grind [State.kept, State.collEnd_kept, State.collAbort_kept]

theorem execCollStep_kept (x0) (x1) (x2) (x3) (s : State) : OutKept s (execCollStep x0 x1 x2 x3 s) := by
  intro t h
  unfold execCollStep at h
  grind [State.kept, State.collEnd_kept, State.collAbort_kept, State.gatherStep_kept, State.reduceStep_kept]

theorem execButPortDown_kept (x0) (s : State) : OutKept s (execButPortDown x0 s) := by
  intro t h
  unfold execButPortDown at h
  grind [State.kept, State.portDown_kept]

theorem execButLaneFail_kept (x0) (x1) (s : State) : OutKept s (execButLaneFail x0 x1 s) := by
  unfold execButLaneFail
  dsimp only
  refine OutKept.next ?_
  repeat' split
  · exact (State.portDown_kept _ _ _).trans (State.setFld_kept _ _ _ _ _)
  · exact (State.raisePort_kept _ _ _).trans ((State.takeLane_kept _ _ _).trans (State.setFld_kept _ _ _ _ _))
  · exact State.setFld_kept _ _ _ _ _
  · refine (State.raisePort_kept _ _ _).trans ?_
    exact (kept_training _ _).trans ((State.setFld_kept _ _ _ _ _).trans (State.setFld_kept _ _ _ _ _))

theorem execLinkDelayEcho_kept (x0) (x1) (s : State) : OutKept s (execLinkDelayEcho x0 x1 s) := by
  intro t h
  unfold execLinkDelayEcho at h
  grind [State.kept, State.setReg_kept]

theorem execCreditTimeout_kept (x0) (s : State) : OutKept s (execCreditTimeout x0 s) := by
  intro t h
  unfold execCreditTimeout at h
  grind [State.kept, State.peerEnd_kept]

theorem execCreditRetry_kept (x0) (s : State) : OutKept s (execCreditRetry x0 s) := by
  intro t h
  unfold execCreditRetry at h
  grind [State.kept, State.askCredit_kept]

theorem execCreditGrant_kept (x0) (x1) (s : State) : OutKept s (execCreditGrant x0 x1 s) := by
  intro t h
  unfold execCreditGrant at h
  grind [State.kept, State.setChannel_kept, State.askCredit_kept, State.peerSendUpTo_kept]

theorem execWriteAck_kept (x0) (x1) (x2) (s : State) : OutKept s (execWriteAck x0 x1 x2 s) := by
  intro t h
  unfold execWriteAck at h
  grind [State.kept, State.complete_kept, State.setChannel_kept, State.peerEnd_kept]

theorem execPacketForward_kept (x0) (x1) (x2) (x3) (s : State) : OutKept s (execPacketForward x0 x1 x2 x3 s) := by
  intro t h
  unfold execPacketForward at h
  grind [State.kept, State.send_kept, State.peerEnd_kept]

theorem execButFlitCrcFail_kept (x0) (x1) (s : State) : OutKept s (execButFlitCrcFail x0 x1 s) := by
  intro t h
  simp only [execButFlitCrcFail, Host.Outcome.next.injEq] at h
  subst h
  simp [foldl_kept, apply_ite State.kept, State.replay_kept, State.count_kept, State.raisePort_kept, State.portDown_kept]

theorem execApertureWrite_kept (x0) (x1) (s : State) : OutKept s (execApertureWrite x0 x1 s) := by
  intro t h
  unfold execApertureWrite at h
  grind [State.kept, State.packetAt_kept, State.putRange_kept, State.count_kept, State.refuseAperture_kept]

theorem execApertureRead_kept (x0) (x1) (s : State) : OutKept s (execApertureRead x0 x1 s) := by
  intro t h
  unfold execApertureRead at h
  grind [State.kept, State.readRange_kept, State.faultToSpire_kept, State.refuseAperture_kept]

theorem execKeyExhausted_kept (x0) (s : State) : OutKept s (execKeyExhausted x0 s) := by
  intro t h
  unfold execKeyExhausted at h
  grind [State.kept, State.alxDown_kept]

theorem execAlxAuthFail_kept (s : State) : OutKept s (execAlxAuthFail s) := by
  intro t h
  unfold execAlxAuthFail at h
  grind [State.kept, State.alxDown_kept, State.raise_kept, State.count_kept]

theorem execAlxRecoveryTimeout_kept (s : State) : OutKept s (execAlxRecoveryTimeout s) := by
  intro t h
  unfold execAlxRecoveryTimeout at h
  grind [State.kept, State.setTraining_kept]

theorem State.pageCut_kept (s : State) (x1) : (State.pageCut s x1).kept = s.kept := by
  unfold State.pageCut
  have h : ∀ (t : State) l, ({ t with keyJobs := l } : State).kept = t.kept := fun _ _ => rfl
  grind [State.dirPut_kept, State.setFrame_kept, State.completeFault_kept]

theorem execAlxRetrainDone_kept (x0) (s : State) : OutKept s (execAlxRetrainDone x0 s) := by
  intro t h
  simp only [execAlxRetrainDone, Host.Outcome.next.injEq] at h
  subst h
  simp [foldl_kept, apply_ite State.kept, State.raise_kept, State.setReg_kept, State.setFld_kept, State.setTraining_kept, State.endBroken_kept, State.pageCut_kept]

theorem execAlxRetrain_kept (x0) (s : State) : OutKept s (execAlxRetrain x0 s) := by
  intro t h
  unfold execAlxRetrain at h
  grind [State.kept, State.guarded_kept, State.setTraining_kept, State.setReg_kept]

theorem execAlxLaneFail_kept (x0) (s : State) : OutKept s (execAlxLaneFail x0 s) := by
  intro t h
  unfold execAlxLaneFail at h
  grind [State.kept, State.alxDown_kept, State.raise_kept, State.setTraining_kept, State.setFld_kept]

theorem execAlxFlitCrcFail_kept (x0) (s : State) : OutKept s (execAlxFlitCrcFail x0 s) := by
  intro t h
  unfold execAlxFlitCrcFail at h
  grind [State.kept, State.replay_kept, State.count_kept, State.raise_kept, State.alxDown_kept]

theorem execCarMessage_kept (x0) (s : State) : OutKept s (execCarMessage x0 s) := by
  intro t h
  unfold execCarMessage at h
  grind [State.kept, State.setReg_kept, State.companionWrite_kept]

theorem execHoldoffExpiry_kept (x0) (x1) (s : State) : OutKept s (execHoldoffExpiry x0 x1 s) := by
  intro t h
  unfold execHoldoffExpiry at h
  grind [State.kept]

theorem execCarPendClr_kept (x0) (x1) (x2) (x3) (s : State) : OutKept s (execCarPendClr x0 x1 x2 x3 s) := by
  intro t h
  unfold execCarPendClr at h
  grind [State.kept, State.guarded_kept, State.setReg_kept]

theorem execCarPendSet_kept (x0) (x1) (x2) (x3) (s : State) : OutKept s (execCarPendSet x0 x1 x2 x3 s) := by
  intro t h
  unfold execCarPendSet at h
  grind [State.kept, State.guarded_kept, State.setReg_kept]

theorem execCarillonSourceEvent_kept (x0) (x1) (s : State) : OutKept s (execCarillonSourceEvent x0 x1 s) := by
  intro t h
  unfold execCarillonSourceEvent at h
  grind [State.kept, State.raise_kept]

theorem execWcbAgeWriteout_kept (x0) (s : State) : OutKept s (execWcbAgeWriteout x0 s) := by
  intro t h
  unfold execWcbAgeWriteout at h
  grind [State.kept, State.writeOut_kept]

theorem execHbmPatrolRow_kept (x0) (s : State) : OutKept s (execHbmPatrolRow x0 s) := by
  unfold execHbmPatrolRow
  dsimp only
  split
  · exact OutKept.next (Eq.refl s.kept)
  · refine OutKept.next ?_
    split
    · exact (State.setFld_kept _ _ _ _ _).trans (foldl_kept _ (fun t cw => State.patrolCw_kept _ _ _) _ _)
    · refine (State.setFld_kept _ _ _ _ _).trans ((State.setFld_kept _ _ _ _ _).trans ?_)
      refine (kept_pins _ _ _).trans ?_
      exact foldl_kept _ (fun t cw => State.patrolCw_kept t _ _) _ s

theorem execEntryEnd_kept (x0) (x1) (s : State) : OutKept s (execEntryEnd x0 x1 s) := by
  intro t h
  unfold execEntryEnd at h
  grind [State.kept, State.count_kept, State.entryRecord_kept, State.dropInstance_kept]

theorem execDeadline_kept (x0) (x1) (s : State) : OutKept s (execDeadline x0 x1 s) := by
  intro t h
  unfold execDeadline at h
  grind [State.kept, State.missDeadline_kept, State.setInstances_kept]

theorem execEntryStart_kept (x0) (x1) (s : State) : OutKept s (execEntryStart x0 x1 s) := by
  intro t h
  unfold execEntryStart at h
  grind [State.kept, State.tryStart_kept]

theorem execBelJoin_kept (x0) (x1) (s : State) : OutKept s (execBelJoin x0 x1 s) := by
  intro t h
  unfold execBelJoin at h
  grind [State.kept, State.guarded_kept, State.joinBell_kept]

theorem execHoldover_kept (s : State) : OutKept s (execHoldover s) := by
  intro t h
  unfold execHoldover at h
  grind [State.kept, State.raise_kept, State.setFld_kept]

theorem execBellFrame_kept (x0) (x1) (s : State) : OutKept s (execBellFrame x0 x1 s) := by
  intro t h
  unfold execBellFrame at h
  grind [State.kept, State.draw_kept, State.sendFrame_kept, State.setFld_kept, State.frameTaken_kept]

theorem execBellSyncEdge_kept (s : State) : OutKept s (execBellSyncEdge s) := by
  intro t h
  unfold execBellSyncEdge at h
  grind [State.kept, State.draw_kept]

theorem execRemoteSemPost_kept (x0) (x1) (x2) (x3) (x4) (x5) (s : State) : OutKept s (execRemoteSemPost x0 x1 x2 x3 x4 x5 s) := by
  intro t h
  unfold execRemoteSemPost at h
  grind [State.kept, State.send_kept, State.policyDrop_kept, State.postRemote_kept, State.answer_kept]

theorem execSemPostWrite_kept (x0) (x1) (x2) (x3) (s : State) : OutKept s (execSemPostWrite x0 x1 x2 x3 s) := by
  intro t h
  unfold execSemPostWrite at h
  grind [State.kept, State.guarded_kept, State.postWrite_kept]

theorem execSemCountWrite_kept (x0) (x1) (x2) (x3) (s : State) : OutKept s (execSemCountWrite x0 x1 x2 x3 s) := by
  intro t h
  unfold execSemCountWrite at h
  grind [State.kept, State.guarded_kept, State.setSem_kept]

theorem execSemWaitTimeout_kept (x0) (x1) (s : State) : OutKept s (execSemWaitTimeout x0 x1 s) := by
  intro t h
  unfold execSemWaitTimeout at h
  grind [State.kept, State.semTimeouts_kept, State.serveOne_kept]

theorem execSemWaitGrant_kept (x0) (x1) (s : State) : OutKept s (execSemWaitGrant x0 x1 s) := by
  intro t h
  unfold execSemWaitGrant at h
  grind [State.kept, State.serveOne_kept]

theorem execRingResume_kept (x0) (x1) (x2) (s : State) : OutKept s (execRingResume x0 x1 x2 s) := by
  intro t h
  unfold execRingResume at h
  grind [State.kept, State.guarded_kept, State.resumeRing_kept]

theorem execCompletionRingRoom_kept (x0) (x1) (s : State) : OutKept s (execCompletionRingRoom x0 x1 s) := by
  intro t h
  unfold execCompletionRingRoom at h
  grind [State.kept, State.writeRecord_kept, State.setRing_kept, State.settleFences_kept]

theorem execBandClass_kept (x0) (x1) (x2) (s : State) : OutKept s (execBandClass x0 x1 x2 s) := by
  intro t h
  unfold execBandClass at h
  cases h
  refine State.onEngine_kept _ _ _ _ _ (fun u => ?_)
  dsimp only
  repeat' split
  all_goals (first | rfl | (simp only [foldl_kept, apply_ite State.kept, ite_self, State.onEngine_kept, State.badCmd_kept, State.completeFault_kept, State.stageFld_kept]; done) | grind [State.kept, State.onEngine_kept, State.badCmd_kept, State.completeFault_kept, State.stageFld_kept] | (refine (foldl_kept _ (fun t x => ?_) _ _).trans ?_ <;> grind [State.kept, State.onEngine_kept, State.badCmd_kept, State.completeFault_kept, State.stageFld_kept]))

theorem execPsetLoad_kept (x0) (x1) (x2) (s : State) : OutKept s (execPsetLoad x0 x1 x2 s) := by
  intro t h
  unfold execPsetLoad at h
  cases h
  refine State.onEngine_kept _ _ _ _ _ (fun u => ?_)
  dsimp only
  repeat' split
  all_goals (first | rfl | (simp only [foldl_kept, apply_ite State.kept, ite_self, State.onEngine_kept, State.completeFault_kept, State.readRange_kept, State.setPset_kept]; done) | grind [State.kept, State.onEngine_kept, State.completeFault_kept, State.readRange_kept, State.setPset_kept] | (refine (foldl_kept _ (fun t x => ?_) _ _).trans ?_ <;> grind [State.kept, State.onEngine_kept, State.completeFault_kept, State.readRange_kept, State.setPset_kept]))

theorem execKeyPageOut_kept (x0) (x1) (x2) (s : State) : OutKept s (execKeyPageOut x0 x1 x2 s) := by
  intro t h
  unfold execKeyPageOut at h
  grind [State.kept, State.onSession_kept, State.completeFault_kept, State.mapRead_kept, State.completeOk_kept, State.releasePage_kept]

theorem execKeyPageIn_kept (x0) (x1) (x2) (s : State) : OutKept s (execKeyPageIn x0 x1 x2 s) := by
  intro t h
  unfold execKeyPageIn at h
  grind [State.kept, State.onSession_kept, State.completeFault_kept, State.mapRead_kept, State.completeOk_kept, State.pageIn_kept]

theorem execSessQuery_kept (x0) (x1) (x2) (s : State) : OutKept s (execSessQuery x0 x1 x2 s) := by
  intro t h
  unfold execSessQuery at h
  grind [State.kept, State.onSession_kept, State.keyPut_kept, State.completeOk_kept, State.completeFault_kept]

theorem execSessClose_kept (x0) (x1) (s : State) : OutKept s (execSessClose x0 x1 s) := by
  unfold execSessClose
  refine OutKept.next (State.onSession_kept _ _ _ _ _ _ (fun u c => ?_))
  dsimp only
  refine (kept_closes _ _).trans ((foldl_kept _ (fun t e => ?_) _ _).trans
    ((foldl_kept _ (fun t b => State.bindAbort_kept _ _ _) _ _).trans (State.setCtx_kept u _ _)))
  repeat' split
  all_goals first
    | exact State.sealFail_kept _ _ _ _ _
    | rfl

theorem execSessPolicy_kept (x0) (x1) (x2) (x3) (x4) (s : State) : OutKept s (execSessPolicy x0 x1 x2 x3 x4 s) := by
  intro t h
  unfold execSessPolicy at h
  grind [State.kept, State.onSession_kept, State.completeOk_kept, State.setCtx_kept]

theorem execSessBind_kept (x0) (x1) (x2) (x3) (x4) (s : State) : OutKept s (execSessBind x0 x1 x2 x3 x4 s) := by
  intro t h
  unfold execSessBind at h
  grind [State.kept, State.onSession_kept, State.completeFault_kept, State.keyGet_kept, State.bindBegin_kept]

theorem execSessOpen_kept (x0) (x1) (x2) (x3) (x4) (x5) (x6) (x7) (x8) (x9) (s : State) : OutKept s (execSessOpen x0 x1 x2 x3 x4 x5 x6 x7 x8 x9 s) := by
  intro t h
  unfold execSessOpen at h
  grind [State.kept, State.onSession_kept, State.pkeValidate_kept, State.completeFault_kept, State.completeOk_kept, State.setCtx_kept]

theorem execBtabLoad_kept (x0) (x1) (x2) (x3) (s : State) : OutKept s (execBtabLoad x0 x1 x2 x3 s) := by
  intro t h
  unfold execBtabLoad at h
  grind [State.kept, State.onEngine_kept, State.completeFault_kept, State.seqRead_kept, State.draw_kept, State.btabDone_kept]

theorem execCollReduceScatter_kept (x0) (x1) (s : State) : OutKept s (execCollReduceScatter x0 x1 s) := by
  intro t h
  unfold execCollReduceScatter at h
  grind [State.kept, State.collStart_kept]

theorem execCollAllGather_kept (x0) (x1) (s : State) : OutKept s (execCollAllGather x0 x1 s) := by
  intro t h
  unfold execCollAllGather at h
  grind [State.kept, State.collStart_kept]

theorem execCollAllReduce_kept (x0) (x1) (s : State) : OutKept s (execCollAllReduce x0 x1 s) := by
  intro t h
  unfold execCollAllReduce at h
  grind [State.kept, State.collStart_kept]

theorem execAnneal_kept (x0) (x1) (s : State) : OutKept s (execAnneal x0 x1 s) := by
  intro t h
  unfold execAnneal at h
  grind [State.kept, State.sealBegin_kept]

theorem execIntt_kept (x0) (x1) (s : State) : OutKept s (execIntt x0 x1 s) := by
  intro t h
  unfold execIntt at h
  grind [State.kept, State.sealBegin_kept]

theorem execNtt_kept (x0) (x1) (s : State) : OutKept s (execNtt x0 x1 s) := by
  intro t h
  unfold execNtt at h
  grind [State.kept, State.sealBegin_kept]

theorem execLeveldown_kept (x0) (x1) (s : State) : OutKept s (execLeveldown x0 x1 s) := by
  intro t h
  unfold execLeveldown at h
  grind [State.kept, State.sealBegin_kept]

theorem execConj_kept (x0) (x1) (s : State) : OutKept s (execConj x0 x1 s) := by
  intro t h
  unfold execConj at h
  grind [State.kept, State.sealBegin_kept]

theorem execRotate_kept (x0) (x1) (s : State) : OutKept s (execRotate x0 x1 s) := by
  intro t h
  unfold execRotate at h
  grind [State.kept, State.sealBegin_kept]

theorem execRescale_kept (x0) (x1) (s : State) : OutKept s (execRescale x0 x1 s) := by
  intro t h
  unfold execRescale at h
  grind [State.kept, State.sealBegin_kept]

theorem execRelin_kept (x0) (x1) (s : State) : OutKept s (execRelin x0 x1 s) := by
  intro t h
  unfold execRelin at h
  grind [State.kept, State.sealBegin_kept]

theorem execHmul3_kept (x0) (x1) (s : State) : OutKept s (execHmul3 x0 x1 s) := by
  intro t h
  unfold execHmul3 at h
  grind [State.kept, State.sealBegin_kept]

theorem execHmul_kept (x0) (x1) (s : State) : OutKept s (execHmul x0 x1 s) := by
  intro t h
  unfold execHmul at h
  grind [State.kept, State.sealBegin_kept]

theorem execPmul_kept (x0) (x1) (s : State) : OutKept s (execPmul x0 x1 s) := by
  intro t h
  unfold execPmul at h
  grind [State.kept, State.sealBegin_kept]

theorem execCmul_kept (x0) (x1) (s : State) : OutKept s (execCmul x0 x1 s) := by
  intro t h
  unfold execCmul at h
  grind [State.kept, State.sealBegin_kept]

theorem execPadd_kept (x0) (x1) (s : State) : OutKept s (execPadd x0 x1 s) := by
  intro t h
  unfold execPadd at h
  grind [State.kept, State.sealBegin_kept]

theorem execHneg_kept (x0) (x1) (s : State) : OutKept s (execHneg x0 x1 s) := by
  intro t h
  unfold execHneg at h
  grind [State.kept, State.sealBegin_kept]

theorem execHsub_kept (x0) (x1) (s : State) : OutKept s (execHsub x0 x1 s) := by
  intro t h
  unfold execHsub at h
  grind [State.kept, State.sealBegin_kept]

theorem execHadd_kept (x0) (x1) (s : State) : OutKept s (execHadd x0 x1 s) := by
  intro t h
  unfold execHadd at h
  grind [State.kept, State.sealBegin_kept]

theorem execResume_kept (x0) (x1) (s : State) : OutKept s (execResume x0 x1 s) := by
  intro t h
  simp only [execResume, Host.Outcome.next.injEq] at h
  subst h
  simp [foldl_kept, apply_ite State.kept, State.onEngine_kept, State.completeOk_kept, State.resumeTower_kept]

theorem execStop_kept (x0) (x1) (s : State) : OutKept s (execStop x0 x1 s) := by
  intro t h
  unfold execStop at h
  grind [State.kept, State.onEngine_kept, State.completeOk_kept]

theorem execLaunch_kept (x0) (x1) (x2) (x3) (x4) (x5) (x6) (x7) (s : State) : OutKept s (execLaunch x0 x1 x2 x3 x4 x5 x6 x7 s) := by
  intro t h
  unfold execLaunch at h
  cases h
  refine State.onEngine_kept _ _ _ _ _ (fun u => ?_)
  dsimp only
  repeat' split
  all_goals (first | rfl | (simp only [foldl_kept, apply_ite State.kept, ite_self, State.onEngine_kept, State.completeOk_kept, State.modTower_kept]; done) | grind [State.kept, State.onEngine_kept, State.completeOk_kept, State.modTower_kept] | (refine (foldl_kept _ (fun t x => ?_) _ _).trans ?_ <;> grind [State.kept, State.onEngine_kept, State.completeOk_kept, State.modTower_kept]))

theorem execPrefetchDrop_kept (x0) (x1) (s : State) : OutKept s (execPrefetchDrop x0 x1 s) := by
  intro t h
  unfold execPrefetchDrop at h
  grind [State.kept, State.onEngine_kept, State.completeOk_kept, State.verdicts_kept]

theorem execPrefetchConfirm_kept (x0) (x1) (s : State) : OutKept s (execPrefetchConfirm x0 x1 s) := by
  intro t h
  unfold execPrefetchConfirm at h
  grind [State.kept, State.onEngine_kept, State.completeOk_kept, State.verdicts_kept]

theorem execReject_kept (x0) (x1) (s : State) : OutKept s (execReject x0 x1 s) := by
  intro t h
  unfold execReject at h
  grind [State.kept, State.onEngine_kept, State.kvCommand_kept]

theorem execAccept_kept (x0) (x1) (x2) (s : State) : OutKept s (execAccept x0 x1 x2 s) := by
  intro t h
  unfold execAccept at h
  grind [State.kept, State.onEngine_kept, State.kvCommand_kept]

theorem execDescFree_kept (x0) (x1) (s : State) : OutKept s (execDescFree x0 x1 s) := by
  intro t h
  unfold execDescFree at h
  grind [State.kept, State.onEngine_kept, State.completeFault_kept, State.dropGroup_kept, State.setDesc_kept]

theorem execDescCreate_kept (x0) (x1) (x2) (s : State) : OutKept s (execDescCreate x0 x1 x2 s) := by
  intro t h
  unfold execDescCreate at h
  grind [State.kept, State.onEngine_kept, State.completeFault_kept, State.setDesc_kept, State.galleryPut_kept, State.completeOk_kept]

theorem execEpLoad_kept (x0) (x1) (x2) (x3) (s : State) : OutKept s (execEpLoad x0 x1 x2 x3 s) := by
  intro t h
  unfold execEpLoad at h
  grind [State.kept, State.onEngine_kept, State.completeFault_kept, State.readRange_kept, State.loadAll_kept, State.epBegin_kept, State.loadStep_kept]

theorem execImLoad_kept (x0) (x1) (x2) (x3) (x4) (s : State) : OutKept s (execImLoad x0 x1 x2 x3 x4 s) := by
  intro t h
  unfold execImLoad at h
  grind [State.kept, State.onEngine_kept, State.badCmd_kept, State.completeFault_kept, State.readRange_kept, State.loadAll_kept, State.imStart_kept]

theorem execSeqMove_kept (x0) (x1) (x2) (x3) (x4) (x5) (x6) (x7) (x8) (s : State) : OutKept s (execSeqMove x0 x1 x2 x3 x4 x5 x6 x7 x8 s) := by
  intro t h
  unfold execSeqMove at h
  cases h
  refine State.onEngine_kept _ _ _ _ _ (fun u => ?_)
  dsimp only
  repeat' split
  all_goals (first | rfl | (simp only [foldl_kept, apply_ite State.kept, ite_self, State.completeFault_kept, State.onEngine_kept, State.readPl_kept, State.fetchDesc_kept, State.seqStart_kept]; done) | grind [State.kept, State.completeFault_kept, State.onEngine_kept, State.readPl_kept, State.fetchDesc_kept, State.seqStart_kept] | (refine (foldl_kept _ (fun t x => ?_) _ _).trans ?_ <;> grind [State.kept, State.completeFault_kept, State.onEngine_kept, State.readPl_kept, State.fetchDesc_kept, State.seqStart_kept]))

theorem execPeerMove_kept (x0) (x1) (x2) (x3) (x4) (x5) (x6) (s : State) : OutKept s (execPeerMove x0 x1 x2 x3 x4 x5 x6 s) := by
  intro t h
  unfold execPeerMove at h
  grind [State.kept, State.onEngine_kept, State.completeFault_kept, State.completeOk_kept, State.setChannel_kept]

theorem execMove_kept (x0) (x1) (x2) (x3) (s : State) : OutKept s (execMove x0 x1 x2 x3 s) := by
  intro t h
  unfold execMove at h
  grind [State.kept, State.onEngine_kept, State.completeFault_kept, State.completeOk_kept, State.setChannel_kept]

theorem execListCmd_kept (x0) (x1) (x2) (s : State) : OutKept s (execListCmd x0 x1 x2 s) := by
  intro t h
  unfold execListCmd at h
  grind [State.kept, State.endList_kept, State.completeFault_kept, State.stopRing_kept, State.badCmd_kept, State.readList_kept, State.setRunq_kept]

theorem execSemWait_kept (x0) (x1) (x2) (x3) (s : State) : OutKept s (execSemWait x0 x1 x2 x3 s) := by
  intro t h
  unfold execSemWait at h
  grind [State.kept, State.waitSem_kept, State.completeOk_kept]

theorem execSemPost_kept (x0) (x1) (x2) (s : State) : OutKept s (execSemPost x0 x1 x2 s) := by
  intro t h
  unfold execSemPost at h
  grind [State.kept, State.postFrom_kept, State.completeOk_kept, State.completeFault_kept]

theorem execFenceCommand_kept (x0) (x1) (s : State) : OutKept s (execFenceCommand x0 x1 s) := by
  intro t h
  unfold execFenceCommand at h
  grind [State.kept, State.badCmd_kept, State.setRunq_kept, State.settleFences_kept]

theorem execNop_kept (x0) (s : State) : OutKept s (execNop x0 s) := by
  intro t h
  unfold execNop at h
  grind [State.kept, State.completeOk_kept]

theorem execRingFetch_kept (x0) (x1) (s : State) : OutKept s (execRingFetch x0 x1 s) := by
  intro t h
  unfold execRingFetch at h
  grind [State.kept, State.setRunq_kept, State.setRing_kept, State.companionWrite_kept]

theorem execTailLineInvalidate_kept (x0) (x1) (x2) (x3) (s : State) : OutKept s (execTailLineInvalidate x0 x1 x2 x3 s) := by
  intro t h
  unfold execTailLineInvalidate at h
  grind [State.kept, State.readTail_kept, State.companionWrite_kept]

theorem execSessCloseRelease_kept (x0) (s : State) : OutKept s (execSessCloseRelease x0 s) := by
  intro t h
  unfold execSessCloseRelease at h
  grind [State.kept, State.releaseAll_kept, State.setClose_kept, State.setCtx_kept, State.complete_kept]

theorem execKeyDeferTimeout_kept (x0) (x1) (s : State) : OutKept s (execKeyDeferTimeout x0 x1 s) := by
  intro t h
  unfold execKeyDeferTimeout at h
  grind [State.kept, State.sealFault_kept]

theorem execKeyPageDigestDone_kept (x0) (x1) (s : State) : OutKept s (execKeyPageDigestDone x0 x1 s) := by
  intro t h
  unfold execKeyPageDigestDone at h
  grind [State.kept, State.pageDone_kept, State.failBad_kept]

theorem execBindVerifyComplete_kept (x0) (x1) (s : State) : OutKept s (execBindVerifyComplete x0 x1 s) := by
  intro t h
  unfold execBindVerifyComplete at h
  grind [State.kept, State.pkeLatch_kept, State.opmemFree_kept, State.bindEnd_kept, State.completeFault_kept, State.memPut_kept, State.completeOk_kept, State.setCtx_kept]

theorem execPsetBuildComplete_kept (x0) (x1) (x2) (s : State) : OutKept s (execPsetBuildComplete x0 x1 x2 s) := by
  unfold execPsetBuildComplete
  dsimp only
  split
  · exact OutKept.next (Eq.refl s.kept)
  · split
    · exact OutKept.next ((State.completeFault_kept _ _ _ _ _).trans (foldl_kept _ (fun t e => State.psetFail_kept _ _ _) _ _))
    · refine OutKept.next ?_
      have h : ∀ v, (((s.fillHalf x0.val x1.val (s.pset x0.val x1.val).gen).psetStall x0.val
          (s.pset x0.val x1.val)).setPset x0.val x1.val v).kept = s.kept := fun v =>
        (State.setPset_kept _ _ _ _).trans ((State.psetStall_kept _ _ _).trans (State.fillHalf_kept _ _ _ _))
      generalize (if (s.pset x0.val x1.val).code = 2 then _ else _ : PsetSlot) = v
      have hv := h v
      generalize State.setPset _ _ _ v = u at hv ⊢
      split
      · exact hv
      · exact (State.completeOk_kept _ _ _ _).trans hv

theorem execAnnealSliceRestart_kept (x0) (x1) (x2) (s : State) : OutKept s (execAnnealSliceRestart x0 x1 x2 s) := by
  intro t h
  unfold execAnnealSliceRestart at h
  grind [State.kept, State.sliceTags_kept, State.sliceTagEnd_kept, State.sealCheckFault_kept, State.sealFail_kept, State.keyClks_kept, State.sliceFail_kept]

theorem execAnnealSliceEnd_kept (x0) (x1) (x2) (s : State) : OutKept s (execAnnealSliceEnd x0 x1 x2 s) := by
  intro t h
  unfold execAnnealSliceEnd at h
  grind [State.kept, State.sliceTags_kept, State.sliceTagEnd_kept, State.sliceClosed_kept, State.sliceFail_kept, State.sliceOver_kept, State.draw_kept, State.galleryPut_kept, State.ckPut_kept, State.setSeal_kept]

theorem execAnnealSliceStart_kept (x0) (x1) (x2) (x3) (x4) (x5) (s : State) : OutKept s (execAnnealSliceStart x0 x1 x2 x3 x4 x5 s) := by
  intro t h
  unfold execAnnealSliceStart at h
  dsimp only at h
  repeat' split at h
  all_goals (first | (cases h; rfl) | (cases h; simp only [foldl_kept, apply_ite State.kept, ite_self, State.annealCheck_kept, State.sealFail_kept, State.sliceRun_kept, State.checkPages_kept]; done) | (cases h; grind [State.kept, State.annealCheck_kept, State.sealFail_kept, State.sliceRun_kept, State.checkPages_kept]) | grind [State.kept, State.annealCheck_kept, State.sealFail_kept, State.sliceRun_kept, State.checkPages_kept])

theorem execSealOpComplete_kept (x0) (x1) (x2) (s : State) : OutKept s (execSealOpComplete x0 x1 x2 s) := by
  intro t h
  unfold execSealOpComplete at h
  grind [State.kept, State.sealFinish_kept, State.annealFinish_kept]

theorem execSealOpStart_kept (x0) (x1) (s : State) : OutKept s (execSealOpStart x0 x1 s) := by
  intro t h
  unfold execSealOpStart at h
  dsimp only at h
  repeat' split at h
  all_goals (first | (cases h; rfl) | (cases h; simp only [foldl_kept, apply_ite State.kept, ite_self, State.sealRun_kept, State.readHeaders_kept, State.sealFail_kept, State.demandSlots_kept, State.sealLevel_kept, State.checkPages_kept]; done) | (cases h; grind [State.kept, State.sealRun_kept, State.readHeaders_kept, State.sealFail_kept, State.demandSlots_kept, State.sealLevel_kept, State.checkPages_kept]) | grind [State.kept, State.sealRun_kept, State.readHeaders_kept, State.sealFail_kept, State.demandSlots_kept, State.sealLevel_kept, State.checkPages_kept])

theorem execSpecGroupTimeout_kept (x0) (x1) (s : State) : OutKept s (execSpecGroupTimeout x0 x1 s) := by
  intro t h
  unfold execSpecGroupTimeout at h
  grind [State.kept, State.dropGroupAt_kept]

theorem execGridPointComplete_kept (x0) (x1) (s : State) : OutKept s (execGridPointComplete x0 x1 s) := by
  intro t h
  unfold execGridPointComplete at h
  dsimp only at h
  repeat' split at h
  all_goals (first | (cases h; rfl) | (cases h; simp only [foldl_kept, apply_ite State.kept, ite_self, State.seqAdvance_kept, State.setChannel_kept, State.postFull_kept, State.seqFail_kept]; done) | (cases h; grind [State.kept, State.seqAdvance_kept, State.setChannel_kept, State.postFull_kept, State.seqFail_kept]) | grind [State.kept, State.seqAdvance_kept, State.setChannel_kept, State.postFull_kept, State.seqFail_kept])

theorem execStreamSegment_kept (x0) (x1) (s : State) : OutKept s (execStreamSegment x0 x1 s) := by
  intro t h
  unfold execStreamSegment at h
  grind [State.kept, State.moveSegment_kept, State.seqSegment_kept, State.peerSend_kept]

theorem execKvLengthApply_kept (x0) (x1) (s : State) : OutKept s (execKvLengthApply x0 x1 s) := by
  intro t h
  unfold execKvLengthApply at h
  grind [State.kept, State.kvAdvanceAll_kept, State.kvFinish_kept, State.setDesc_kept]

theorem execDescFreeComplete_kept (x0) (x1) (s : State) : OutKept s (execDescFreeComplete x0 x1 s) := by
  intro t h
  unfold execDescFreeComplete at h
  grind [State.kept, State.completeOk_kept, State.dropGroup_kept, State.setDesc_kept]

theorem execRemoteWriteDone_kept (x0) (s : State) : OutKept s (execRemoteWriteDone x0 s) := by
  intro t h
  unfold execRemoteWriteDone at h
  grind [State.kept, State.towerPacket_kept, State.modTower_kept, State.answer_kept, State.galleryWrite_kept]

theorem execCreditRequest_kept (x0) (x1) (x2) (s : State) : OutKept s (execCreditRequest x0 x1 x2 s) := by
  intro t h
  unfold execCreditRequest at h
  grind [State.kept, State.grant_kept, State.setReg_kept, State.faultToSpire_kept]

theorem execRemoteWritePacket_kept (x0) (x1) (x2) (x3) (x4) (x5) (s : State) : OutKept s (execRemoteWritePacket x0 x1 x2 x3 x4 x5 s) := by
  intro t h
  unfold execRemoteWritePacket at h
  grind [State.kept, State.send_kept, State.policyDrop_kept, State.packetAt_kept, State.answer_kept]

theorem execTmPatrol_kept (x0) (x1) (s : State) : OutKept s (execTmPatrol x0 x1 s) := by
  have hf : ∀ (g : FaultInfo → State → State) (h : ∀ f t, (g f t).kept = t.kept), True := fun _ _ => trivial
  unfold execTmPatrol
  dsimp only
  split
  · split
    · exact OutKept.next rfl
    · refine OutKept.next ((foldl_kept _ (fun t c => State.faultToSpire_kept _ _ _) _ _).trans ?_)
      split
      · rfl
      · exact State.count_kept _ _ _
  · split
    · exact OutKept.next rfl
    · refine OutKept.next ((foldl_kept _ (fun t c => (State.faultToSpire_kept _ _ _).trans (State.raise_kept _ _ _)) _ _).trans ?_)
      split
      · rfl
      · exact State.count_kept _ _ _

theorem execScrubComplete_kept (x0) (s : State) : OutKept s (execScrubComplete x0 s) := by
  intro t h
  unfold execScrubComplete at h
  grind [State.kept, State.modTower_kept, State.zeroBanks_kept, State.zeroRange_kept]

theorem execScrub_kept (x0) (x1) (x2) (x3) (x4) (s : State) : OutKept s (execScrub x0 x1 x2 x3 x4 s) := by
  intro t h
  unfold execScrub at h
  grind [State.kept, State.scrubTower_kept]

theorem execBankPowerTransitionEnd_kept (x0) (x1) (s : State) : OutKept s (execBankPowerTransitionEnd x0 x1 s) := by
  intro t h
  unfold execBankPowerTransitionEnd at h
  grind [State.kept, State.draw_kept, State.count_kept, State.modTower_kept]

theorem execSeqAbandon_kept (x0) (x1) (x2) (s : State) : OutKept s (execSeqAbandon x0 x1 x2 s) := by
  intro t h
  unfold execSeqAbandon at h
  grind [State.kept, State.guarded_kept, State.abandonSeq_kept]

theorem execSeqArm_kept (x0) (x1) (x2) (s : State) : OutKept s (execSeqArm x0 x1 x2 s) := by
  intro t h
  unfold execSeqArm at h
  grind [State.kept, State.guarded_kept, State.armWrite_kept]

theorem execEpBuildComplete_kept (x0) (x1) (s : State) : OutKept s (execEpBuildComplete x0 x1 s) := by
  intro t h
  unfold execEpBuildComplete at h
  grind [State.kept, State.epEnd_kept, State.loadStep_kept]

theorem execEpBuildGenerate_kept (x0) (x1) (x2) (x3) (s : State) : OutKept s (execEpBuildGenerate x0 x1 x2 x3 s) := by
  intro t h
  unfold execEpBuildGenerate at h
  grind [State.kept, State.guarded_kept, State.epBuildWrite_kept]

theorem execEpBuildCopy_kept (x0) (x1) (x2) (x3) (s : State) : OutKept s (execEpBuildCopy x0 x1 x2 x3 s) := by
  intro t h
  unfold execEpBuildCopy at h
  grind [State.kept, State.guarded_kept, State.epBuildWrite_kept]

theorem execImLoadComplete_kept (x0) (s : State) : OutKept s (execImLoadComplete x0 s) := by
  intro t h
  unfold execImLoadComplete at h
  grind [State.kept, State.loadStep_kept, State.setTower_kept]

theorem execTagBreak_kept (x0) (x1) (x2) (s : State) : OutKept s (execTagBreak x0 x1 x2 s) := by
  intro t h
  unfold execTagBreak at h
  grind [State.kept, State.modStream_kept, State.takeBreak_kept]

theorem execCountBreak_kept (x0) (x1) (s : State) : OutKept s (execCountBreak x0 x1 s) := by
  intro t h
  unfold execCountBreak at h
  grind [State.kept, State.takeBreak_kept, State.setFld_kept]

theorem execImswapSwap_kept (x0) (s : State) : OutKept s (execImswapSwap x0 s) := by
  intro t h
  unfold execImswapSwap at h
  grind [State.kept, State.swapNow_kept]

theorem execTowerStop_kept (x0) (s : State) : OutKept s (execTowerStop x0 s) := by
  intro t h
  unfold execTowerStop at h
  grind [State.kept, State.stopDone_kept, State.stopTower_kept]

theorem execPostedOpComplete_kept (x0) (x1) (s : State) : OutKept s (execPostedOpComplete x0 x1 s) := by
  unfold execPostedOpComplete
  dsimp only
  split
  · exact OutKept.next rfl
  · split
    · refine OutKept.next ?_
      split
      · exact (State.postFrom_kept _ _ _ _ _ _).trans (State.modStream_kept _ _ _ _)
      · exact (State.modStream_kept _ _ _ _).trans ((State.postFrom_kept _ _ _ _ _ _).trans (State.modStream_kept _ _ _ _))
    · split
      · exact OutKept.next rfl
      · refine OutKept.next ?_
        have hf : ∀ (l : List (Nat × Nat)) (d : Desc) (pt : Bool) (a : State × Nat × Option FaultInfo),
            (l.foldl (fun (a : State × Nat × Option FaultInfo) r =>
              match a.2.2 with
              | some _ => a
              | none =>
                let (s, f) := a.1.copyRun x0.val pt d r.1 r.2 a.2.1
                (s, a.2.1 + r.2, f)) a).1.kept = a.1.kept := by
          intro l d pt a
          refine foldl_kept1 _ (fun p r => ?_) _ _
          dsimp only
          split
          · rfl
          · exact State.copyRun_kept _ _ _ _ _ _ _
        split
        · exact (State.underBands_kept _ _ _ _ (fun t => hf _ _ _ _)).trans (State.modStream_kept _ _ _ _)
        · exact (State.modStream_kept _ _ _ _).trans
            ((State.underBands_kept _ _ _ _ (fun t => hf _ _ _ _)).trans (State.modStream_kept _ _ _ _))

theorem State.retry_kept (s : State) (x1) (x2) (x3) : OutKept s (State.retry s x1 x2 x3) := by
  unfold State.retry
  dsimp only
  repeat' split
  all_goals first
    | exact OutKept.next rfl
    | exact OutKept.next (State.takeFault_kept _ _ _ _ _)
    | exact OutKept.of (State.modStream_kept _ _ _ _) (reissue_kept _ _)

theorem execCheckpointRetire_kept (x0) (s : State) : OutKept s (execCheckpointRetire x0 s) := by
  unfold execCheckpointRetire
  apply_rules [State.retry_kept]

theorem execMarverOpComplete_kept (x0) (x1) (s : State) : OutKept s (execMarverOpComplete x0 x1 s) := by
  unfold execMarverOpComplete
  dsimp only
  repeat' split
  all_goals first
    | (refine OutKept.next ?_; with_reducible rfl)
    | exact State.opFault_kept _ _ _ _ _ (by with_reducible rfl)
    | exact State.opFault_kept _ _ _ _ _ (State.countCheck_kept _ _ _)
    | (refine OutKept.next ?_; grind [State.kept, State.modTower_kept, State.count_kept, State.count64_kept, State.draw_kept, State.eprgDone_kept])

theorem execMarverOpStart_kept (x0) (s : State) : OutKept s (execMarverOpStart x0 s) := by
  unfold execMarverOpStart
  dsimp only
  repeat' split
  all_goals first
    | (refine OutKept.next ?_; with_reducible rfl)
    | exact State.opFault_kept _ _ _ _ _ (by with_reducible rfl)
    | exact State.opFault_kept _ _ _ _ _ (State.countCheck_kept _ _ _)
    | (refine OutKept.next ?_; grind [State.kept, State.modTower_kept, State.count_kept, State.count64_kept, State.draw_kept, State.eprgDone_kept])

theorem execArrayOpComplete_kept (x0) (x1) (s : State) : OutKept s (execArrayOpComplete x0 x1 s) := by
  unfold execArrayOpComplete
  dsimp only
  repeat' split
  all_goals first
    | (refine OutKept.next ?_; with_reducible rfl)
    | exact State.opFault_kept _ _ _ _ _ (by with_reducible rfl)
    | exact State.opFault_kept _ _ _ _ _ (State.countCheck_kept _ _ _)
    | (refine OutKept.next ?_; grind [State.kept, State.modTower_kept, State.count_kept, State.count64_kept, State.draw_kept, State.eprgDone_kept])

theorem execArrayOpStart_kept (x0) (s : State) : OutKept s (execArrayOpStart x0 s) := by
  unfold execArrayOpStart
  dsimp only
  repeat' split
  all_goals first
    | (refine OutKept.next ?_; with_reducible rfl)
    | exact State.opFault_kept _ _ _ _ _ (by with_reducible rfl)
    | exact State.opFault_kept _ _ _ _ _ (State.countCheck_kept _ _ _)
    | (refine OutKept.next ?_; grind [State.kept, State.modTower_kept, State.count_kept, State.count64_kept, State.draw_kept, State.eprgDone_kept])

theorem execMdrainPush_kept (x0) (s : State) : OutKept s (execMdrainPush x0 s) := by
  unfold execMdrainPush
  dsimp only
  repeat' split
  all_goals first
    | (refine OutKept.next ?_; with_reducible rfl)
    | exact State.opFault_kept _ _ _ _ _ (by with_reducible rfl)
    | exact State.opFault_kept _ _ _ _ _ (State.countCheck_kept _ _ _)
    | (refine OutKept.next ?_; grind [State.kept, State.modTower_kept, State.count_kept, State.count64_kept, State.draw_kept, State.eprgDone_kept])

theorem execTcfgApply_kept (x0) (s : State) : OutKept s (execTcfgApply x0 s) := by
  unfold execTcfgApply
  apply_rules [State.retry_kept]

theorem execTrelRelease_kept (x0) (s : State) : OutKept s (execTrelRelease x0 s) := by
  unfold execTrelRelease
  apply_rules [State.retry_kept]

theorem execTileStoreComplete_kept (x0) (s : State) : OutKept s (execTileStoreComplete x0 s) := by
  intro t h
  unfold execTileStoreComplete at h
  grind [State.kept, State.storeBlocks_kept, State.storeRows_kept, State.kvWritten_kept, State.countSup_kept, State.faultStore_kept, State.modTower_kept]

theorem execLoadPush_kept (x0) (x1) (s : State) : OutKept s (execLoadPush x0 x1 s) := by
  intro t h
  unfold execLoadPush at h
  grind [State.kept, State.faultLoad_kept, State.modTower_kept, State.afterGather_kept]

theorem execQueueWaitEnd_kept (x0) (x1) (s : State) : OutKept s (execQueueWaitEnd x0 x1 s) := by
  unfold execQueueWaitEnd
  dsimp only
  repeat' split
  all_goals first
    | exact OutKept.next (State.endVec_kept _ _ _ _)
    | exact State.retry_kept _ _ _ _

theorem execTaskStart_kept (x0) (s : State) : OutKept s (execTaskStart x0 s) := by
  intro t h
  unfold execTaskStart at h
  grind [State.kept, State.modTower_kept, State.setReg_kept, State.stage_kept, State.commitAll_kept, State.debugBreak_kept]

theorem execCulletSetSpare_kept (x0) (x1) (x2) (s : State) : OutKept s (execCulletSetSpare x0 x1 x2 s) := by
  intro t h
  unfold execCulletSetSpare at h
  grind [State.kept, State.guarded_kept, State.culletWrite_kept]

theorem execCulletAssign_kept (x0) (x1) (x2) (x3) (s : State) : OutKept s (execCulletAssign x0 x1 x2 x3 s) := by
  intro t h
  unfold execCulletAssign at h
  grind [State.kept, State.guarded_kept, State.culletWrite_kept]

theorem execDecodeErrClear_kept (x0) (x1) (s : State) : OutKept s (execDecodeErrClear x0 x1 s) := by
  intro t h
  unfold execDecodeErrClear at h
  grind [State.kept, State.guarded_kept, State.clearDecodeErr_kept]

theorem execLock_kept (x0) (x1) (s : State) : OutKept s (execLock x0 x1 s) := by
  intro t h
  unfold execLock at h
  grind [State.kept, State.guarded_kept, State.setReg_kept]

theorem execCommit_kept (x0) (x1) (s : State) : OutKept s (execCommit x0 x1 s) := by
  intro t h
  unfold execCommit at h
  grind [State.kept, State.guarded_kept, State.commitOf_kept]

end Sys2Proof.Machine
end

