-- ==== Sys2Proof/Laws/Exec.lean ====
section
/-!
SUPPORT. What every command leaves alone: those that write none of the fields of `Kept`, and, of the others, those that
stay within a control write's limits.
-/
set_option linter.all false
set_option maxRecDepth 20000
namespace Sys2Proof.Machine

/-- The commands that may write a field of `Kept`. -/
def Instr.writesKept : Instr → Bool
  | .registerWrite _ _ _ => true
  | .regw _ _ => true
  | .regionSet _ _ _ _ => true
  | .commandStart _ _ _ => true
  | .bell _ => true
  | .carClaim _ _ _ => true
  | .carComplete _ _ _ _ => true
  | .fuseAdvanceLifecycle _ _ => true
  | .fuseAdvanceRollback _ => true
  | .fuseWriteField _ _ _ _ => true
  | .fuseProgDone => true
  | .bootRom _ => true
  | .resetAssert => true
  | .resetRelease _ => true
  | .entropyHealthFail => true
  | .i3cManagementTransaction _ _ => true
  | _ => false

/-- The other commands leave all of `Kept` alone. -/
theorem exec_kept (c : Instr) (s : State) (h : Instr.writesKept c = false) : OutKept s (exec c s) := by
  cases c with
  | registerWrite => cases h
  | commit a0 a1 => exact execCommit_kept a0 a1 s
  | lock a0 a1 => exact execLock_kept a0 a1 s
  | decodeErrClear a0 a1 => exact execDecodeErrClear_kept a0 a1 s
  | culletAssign a0 a1 a2 a3 => exact execCulletAssign_kept a0 a1 a2 a3 s
  | culletSetSpare a0 a1 a2 => exact execCulletSetSpare_kept a0 a1 a2 s
  | add a0 a1 a2 a3 => exact execAdd_kept a0 a1 a2 a3 s
  | sub a0 a1 a2 a3 => exact execSub_kept a0 a1 a2 a3 s
  | and_ a0 a1 a2 a3 => exact execAnd_kept a0 a1 a2 a3 s
  | or_ a0 a1 a2 a3 => exact execOr_kept a0 a1 a2 a3 s
  | xor_ a0 a1 a2 a3 => exact execXor_kept a0 a1 a2 a3 s
  | sll a0 a1 a2 a3 => exact execSll_kept a0 a1 a2 a3 s
  | srl a0 a1 a2 a3 => exact execSrl_kept a0 a1 a2 a3 s
  | sra a0 a1 a2 a3 => exact execSra_kept a0 a1 a2 a3 s
  | mul a0 a1 a2 a3 => exact execMul_kept a0 a1 a2 a3 s
  | mulh a0 a1 a2 a3 => exact execMulh_kept a0 a1 a2 a3 s
  | li a0 a1 a2 => exact execLi_kept a0 a1 a2 s
  | ldB a0 a1 a2 a3 => exact execLdB_kept a0 a1 a2 a3 s
  | ldH a0 a1 a2 a3 => exact execLdH_kept a0 a1 a2 a3 s
  | ldW a0 a1 a2 a3 => exact execLdW_kept a0 a1 a2 a3 s
  | ldD a0 a1 a2 a3 => exact execLdD_kept a0 a1 a2 a3 s
  | ldBu a0 a1 a2 a3 => exact execLdBu_kept a0 a1 a2 a3 s
  | ldHu a0 a1 a2 a3 => exact execLdHu_kept a0 a1 a2 a3 s
  | ldWu a0 a1 a2 a3 => exact execLdWu_kept a0 a1 a2 a3 s
  | stB a0 a1 a2 a3 => exact execStB_kept a0 a1 a2 a3 s
  | stH a0 a1 a2 a3 => exact execStH_kept a0 a1 a2 a3 s
  | stW a0 a1 a2 a3 => exact execStW_kept a0 a1 a2 a3 s
  | stD a0 a1 a2 a3 => exact execStD_kept a0 a1 a2 a3 s
  | beq a0 a1 a2 a3 => exact execBeq_kept a0 a1 a2 a3 s
  | bne a0 a1 a2 a3 => exact execBne_kept a0 a1 a2 a3 s
  | blt a0 a1 a2 a3 => exact execBlt_kept a0 a1 a2 a3 s
  | bge a0 a1 a2 a3 => exact execBge_kept a0 a1 a2 a3 s
  | jal a0 a1 a2 => exact execJal_kept a0 a1 a2 s
  | jr a0 a1 => exact execJr_kept a0 a1 s
  | csrr a0 a1 a2 => exact execCsrr_kept a0 a1 a2 s
  | csrw a0 a1 a2 => exact execCsrw_kept a0 a1 a2 s
  | tqPush a0 a1 => exact execTqPush_kept a0 a1 s
  | tqPop a0 a1 => exact execTqPop_kept a0 a1 s
  | excRet a0 a1 => exact execExcRet_kept a0 a1 s
  | fence a0 => exact execFence_kept a0 s
  | fenceCp a0 => exact execFenceCp_kept a0 s
  | trap a0 => exact execTrap_kept a0 s
  | halt a0 => exact execHalt_kept a0 s
  | imswap a0 a1 => exact execImswap_kept a0 a1 s
  | imswapB a0 a1 => exact execImswapB_kept a0 a1 s
  | semp a0 a1 a2 => exact execSemp_kept a0 a1 a2 s
  | semw a0 a1 a2 => exact execSemw_kept a0 a1 a2 s
  | bellw a0 a1 => exact execBellw_kept a0 a1 s
  | tld a0 a1 a2 a3 a4 => exact execTld_kept a0 a1 a2 a3 a4 s
  | tldT a0 a1 a2 a3 a4 a5 => exact execTldT_kept a0 a1 a2 a3 a4 a5 s
  | tldS a0 a1 a2 a3 a4 => exact execTldS_kept a0 a1 a2 a3 a4 s
  | sequencedTld a0 a1 a2 a3 a4 a5 => exact execSequencedTld_kept a0 a1 a2 a3 a4 a5 s
  | pld a0 a1 a2 a3 a4 => exact execPld_kept a0 a1 a2 a3 a4 s
  | vld a0 a1 a2 a3 a4 => exact execVld_kept a0 a1 a2 a3 a4 s
  | tst a0 a1 a2 a3 a4 => exact execTst_kept a0 a1 a2 a3 a4 s
  | vst a0 a1 a2 a3 a4 => exact execVst_kept a0 a1 a2 a3 a4 s
  | get a0 a1 a2 a3 => exact execGet_kept a0 a1 a2 a3 s
  | put a0 a1 a2 a3 => exact execPut_kept a0 a1 a2 a3 s
  | mmaH4 a0 a1 a2 a3 a4 a5 a6 => exact execMmaH4_kept a0 a1 a2 a3 a4 a5 a6 s
  | mmaH48 a0 a1 a2 a3 a4 a5 a6 => exact execMmaH48_kept a0 a1 a2 a3 a4 a5 a6 s
  | mmaH8 a0 a1 a2 a3 a4 a5 a6 => exact execMmaH8_kept a0 a1 a2 a3 a4 a5 a6 s
  | mmw a0 a1 a2 a3 a4 a5 a6 => exact execMmw_kept a0 a1 a2 a3 a4 a5 a6 s
  | mdrain a0 a1 => exact execMdrain_kept a0 a1 s
  | trel a0 a1 => exact execTrel_kept a0 a1 s
  | tcfg a0 a1 a2 a3 => exact execTcfg_kept a0 a1 a2 a3 s
  | vopAdd a0 a1 a2 a3 a4 a5 => exact execVopAdd_kept a0 a1 a2 a3 a4 a5 s
  | vopSub a0 a1 a2 a3 a4 a5 => exact execVopSub_kept a0 a1 a2 a3 a4 a5 s
  | vopMul a0 a1 a2 a3 a4 a5 => exact execVopMul_kept a0 a1 a2 a3 a4 a5 s
  | vopFma a0 a1 a2 a3 a4 a5 => exact execVopFma_kept a0 a1 a2 a3 a4 a5 s
  | vopMin a0 a1 a2 a3 a4 => exact execVopMin_kept a0 a1 a2 a3 a4 s
  | vopMax a0 a1 a2 a3 a4 => exact execVopMax_kept a0 a1 a2 a3 a4 s
  | vopAnd a0 a1 a2 a3 a4 => exact execVopAnd_kept a0 a1 a2 a3 a4 s
  | vopOr a0 a1 a2 a3 a4 => exact execVopOr_kept a0 a1 a2 a3 a4 s
  | vopXor a0 a1 a2 a3 a4 => exact execVopXor_kept a0 a1 a2 a3 a4 s
  | vopShl a0 a1 a2 a3 a4 => exact execVopShl_kept a0 a1 a2 a3 a4 s
  | vopShr a0 a1 a2 a3 a4 => exact execVopShr_kept a0 a1 a2 a3 a4 s
  | vopMov a0 a1 a2 a3 a4 => exact execVopMov_kept a0 a1 a2 a3 a4 s
  | vopCvt a0 a1 a2 a3 a4 => exact execVopCvt_kept a0 a1 a2 a3 a4 s
  | vopBcast a0 a1 a2 a3 a4 => exact execVopBcast_kept a0 a1 a2 a3 a4 s
  | vaddm a0 a1 a2 a3 a4 a5 => exact execVaddm_kept a0 a1 a2 a3 a4 a5 s
  | vsubm a0 a1 a2 a3 a4 a5 => exact execVsubm_kept a0 a1 a2 a3 a4 a5 s
  | vmulm a0 a1 a2 a3 a4 a5 => exact execVmulm_kept a0 a1 a2 a3 a4 a5 s
  | vredRowAdd a0 a1 a2 a3 a4 => exact execVredRowAdd_kept a0 a1 a2 a3 a4 s
  | vredRowMax a0 a1 a2 a3 a4 => exact execVredRowMax_kept a0 a1 a2 a3 a4 s
  | vredRowMin a0 a1 a2 a3 a4 => exact execVredRowMin_kept a0 a1 a2 a3 a4 s
  | vredRowAddm a0 a1 a2 a3 a4 => exact execVredRowAddm_kept a0 a1 a2 a3 a4 s
  | vredColAdd a0 a1 a2 a3 a4 => exact execVredColAdd_kept a0 a1 a2 a3 a4 s
  | vredColMax a0 a1 a2 a3 a4 => exact execVredColMax_kept a0 a1 a2 a3 a4 s
  | vredColMin a0 a1 a2 a3 a4 => exact execVredColMin_kept a0 a1 a2 a3 a4 s
  | vredColAddm a0 a1 a2 a3 a4 => exact execVredColAddm_kept a0 a1 a2 a3 a4 s
  | eprg a0 a1 a2 a3 a4 => exact execEprg_kept a0 a1 a2 a3 a4 s
  | vpop a0 a1 a2 => exact execVpop_kept a0 a1 a2 s
  | vpush a0 a1 a2 => exact execVpush_kept a0 a1 a2 s
  | taskStart a0 => exact execTaskStart_kept a0 s
  | queueWaitEnd a0 a1 => exact execQueueWaitEnd_kept a0 a1 s
  | loadPush a0 a1 => exact execLoadPush_kept a0 a1 s
  | tileStoreComplete a0 => exact execTileStoreComplete_kept a0 s
  | trelRelease a0 => exact execTrelRelease_kept a0 s
  | tcfgApply a0 => exact execTcfgApply_kept a0 s
  | mdrainPush a0 => exact execMdrainPush_kept a0 s
  | arrayOpStart a0 => exact execArrayOpStart_kept a0 s
  | arrayOpComplete a0 a1 => exact execArrayOpComplete_kept a0 a1 s
  | marverOpStart a0 => exact execMarverOpStart_kept a0 s
  | marverOpComplete a0 a1 => exact execMarverOpComplete_kept a0 a1 s
  | checkpointRetire a0 => exact execCheckpointRetire_kept a0 s
  | postedOpComplete a0 a1 => exact execPostedOpComplete_kept a0 a1 s
  | queueWaitTimeout a0 a1 => exact execQueueWaitTimeout_kept a0 a1 s
  | towerStop a0 => exact execTowerStop_kept a0 s
  | imswapSwap a0 => exact execImswapSwap_kept a0 s
  | countBreak a0 a1 => exact execCountBreak_kept a0 a1 s
  | tagBreak a0 a1 a2 => exact execTagBreak_kept a0 a1 a2 s
  | imLoadComplete a0 => exact execImLoadComplete_kept a0 s
  | epBuildCopy a0 a1 a2 a3 => exact execEpBuildCopy_kept a0 a1 a2 a3 s
  | epBuildGenerate a0 a1 a2 a3 => exact execEpBuildGenerate_kept a0 a1 a2 a3 s
  | epBuildComplete a0 a1 => exact execEpBuildComplete_kept a0 a1 s
  | seqArm a0 a1 a2 => exact execSeqArm_kept a0 a1 a2 s
  | seqAbandon a0 a1 a2 => exact execSeqAbandon_kept a0 a1 a2 s
  | bankPowerTransitionEnd a0 a1 => exact execBankPowerTransitionEnd_kept a0 a1 s
  | scrub a0 a1 a2 a3 a4 => exact execScrub_kept a0 a1 a2 a3 a4 s
  | scrubComplete a0 => exact execScrubComplete_kept a0 s
  | tmPatrol a0 a1 => exact execTmPatrol_kept a0 a1 s
  | remoteWritePacket a0 a1 a2 a3 a4 a5 => exact execRemoteWritePacket_kept a0 a1 a2 a3 a4 a5 s
  | creditRequest a0 a1 a2 => exact execCreditRequest_kept a0 a1 a2 s
  | remoteWriteDone a0 => exact execRemoteWriteDone_kept a0 s
  | descCreate a0 a1 a2 => exact execDescCreate_kept a0 a1 a2 s
  | descFree a0 a1 => exact execDescFree_kept a0 a1 s
  | descFreeComplete a0 a1 => exact execDescFreeComplete_kept a0 a1 s
  | accept a0 a1 a2 => exact execAccept_kept a0 a1 a2 s
  | reject a0 a1 => exact execReject_kept a0 a1 s
  | kvLengthApply a0 a1 => exact execKvLengthApply_kept a0 a1 s
  | seqMove a0 a1 a2 a3 a4 a5 a6 a7 a8 => exact execSeqMove_kept a0 a1 a2 a3 a4 a5 a6 a7 a8 s
  | streamSegment a0 a1 => exact execStreamSegment_kept a0 a1 s
  | gridPointComplete a0 a1 => exact execGridPointComplete_kept a0 a1 s
  | prefetchConfirm a0 a1 => exact execPrefetchConfirm_kept a0 a1 s
  | prefetchDrop a0 a1 => exact execPrefetchDrop_kept a0 a1 s
  | specGroupTimeout a0 a1 => exact execSpecGroupTimeout_kept a0 a1 s
  | nop a0 => exact execNop_kept a0 s
  | fenceCommand a0 a1 => exact execFenceCommand_kept a0 a1 s
  | semPost a0 a1 a2 => exact execSemPost_kept a0 a1 a2 s
  | semWait a0 a1 a2 a3 => exact execSemWait_kept a0 a1 a2 a3 s
  | listCmd a0 a1 a2 => exact execListCmd_kept a0 a1 a2 s
  | regw => cases h
  | move a0 a1 a2 a3 => exact execMove_kept a0 a1 a2 a3 s
  | peerMove a0 a1 a2 a3 a4 a5 a6 => exact execPeerMove_kept a0 a1 a2 a3 a4 a5 a6 s
  | imLoad a0 a1 a2 a3 a4 => exact execImLoad_kept a0 a1 a2 a3 a4 s
  | epLoad a0 a1 a2 a3 => exact execEpLoad_kept a0 a1 a2 a3 s
  | launch a0 a1 a2 a3 a4 a5 a6 a7 => exact execLaunch_kept a0 a1 a2 a3 a4 a5 a6 a7 s
  | stop a0 a1 => exact execStop_kept a0 a1 s
  | resume a0 a1 => exact execResume_kept a0 a1 s
  | collAllReduce a0 a1 => exact execCollAllReduce_kept a0 a1 s
  | collAllGather a0 a1 => exact execCollAllGather_kept a0 a1 s
  | collReduceScatter a0 a1 => exact execCollReduceScatter_kept a0 a1 s
  | btabLoad a0 a1 a2 a3 => exact execBtabLoad_kept a0 a1 a2 a3 s
  | sessOpen a0 a1 a2 a3 a4 a5 a6 a7 a8 a9 => exact execSessOpen_kept a0 a1 a2 a3 a4 a5 a6 a7 a8 a9 s
  | sessBind a0 a1 a2 a3 a4 => exact execSessBind_kept a0 a1 a2 a3 a4 s
  | sessPolicy a0 a1 a2 a3 a4 => exact execSessPolicy_kept a0 a1 a2 a3 a4 s
  | sessClose a0 a1 => exact execSessClose_kept a0 a1 s
  | sessQuery a0 a1 a2 => exact execSessQuery_kept a0 a1 a2 s
  | keyPageIn a0 a1 a2 => exact execKeyPageIn_kept a0 a1 a2 s
  | keyPageOut a0 a1 a2 => exact execKeyPageOut_kept a0 a1 a2 s
  | psetLoad a0 a1 a2 => exact execPsetLoad_kept a0 a1 a2 s
  | regionSet => cases h
  | bandClass a0 a1 a2 => exact execBandClass_kept a0 a1 a2 s
  | hadd a0 a1 => exact execHadd_kept a0 a1 s
  | hsub a0 a1 => exact execHsub_kept a0 a1 s
  | hneg a0 a1 => exact execHneg_kept a0 a1 s
  | padd a0 a1 => exact execPadd_kept a0 a1 s
  | cmul a0 a1 => exact execCmul_kept a0 a1 s
  | pmul a0 a1 => exact execPmul_kept a0 a1 s
  | hmul a0 a1 => exact execHmul_kept a0 a1 s
  | hmul3 a0 a1 => exact execHmul3_kept a0 a1 s
  | relin a0 a1 => exact execRelin_kept a0 a1 s
  | rescale a0 a1 => exact execRescale_kept a0 a1 s
  | rotate a0 a1 => exact execRotate_kept a0 a1 s
  | conj a0 a1 => exact execConj_kept a0 a1 s
  | leveldown a0 a1 => exact execLeveldown_kept a0 a1 s
  | ntt a0 a1 => exact execNtt_kept a0 a1 s
  | intt a0 a1 => exact execIntt_kept a0 a1 s
  | anneal a0 a1 => exact execAnneal_kept a0 a1 s
  | sealOpStart a0 a1 => exact execSealOpStart_kept a0 a1 s
  | sealOpComplete a0 a1 a2 => exact execSealOpComplete_kept a0 a1 a2 s
  | annealSliceStart a0 a1 a2 a3 a4 a5 => exact execAnnealSliceStart_kept a0 a1 a2 a3 a4 a5 s
  | annealSliceEnd a0 a1 a2 => exact execAnnealSliceEnd_kept a0 a1 a2 s
  | annealSliceRestart a0 a1 a2 => exact execAnnealSliceRestart_kept a0 a1 a2 s
  | psetBuildComplete a0 a1 a2 => exact execPsetBuildComplete_kept a0 a1 a2 s
  | bindVerifyComplete a0 a1 => exact execBindVerifyComplete_kept a0 a1 s
  | keyPageDigestDone a0 a1 => exact execKeyPageDigestDone_kept a0 a1 s
  | keyDeferTimeout a0 a1 => exact execKeyDeferTimeout_kept a0 a1 s
  | sessCloseRelease a0 => exact execSessCloseRelease_kept a0 s
  | tailLineInvalidate a0 a1 a2 a3 => exact execTailLineInvalidate_kept a0 a1 a2 a3 s
  | ringFetch a0 a1 => exact execRingFetch_kept a0 a1 s
  | commandStart => cases h
  | completionRingRoom a0 a1 => exact execCompletionRingRoom_kept a0 a1 s
  | ringResume a0 a1 a2 => exact execRingResume_kept a0 a1 a2 s
  | semWaitGrant a0 a1 => exact execSemWaitGrant_kept a0 a1 s
  | semWaitTimeout a0 a1 => exact execSemWaitTimeout_kept a0 a1 s
  | semCountWrite a0 a1 a2 a3 => exact execSemCountWrite_kept a0 a1 a2 a3 s
  | semPostWrite a0 a1 a2 a3 => exact execSemPostWrite_kept a0 a1 a2 a3 s
  | remoteSemPost a0 a1 a2 a3 a4 a5 => exact execRemoteSemPost_kept a0 a1 a2 a3 a4 a5 s
  | bell => cases h
  | bellSyncEdge => exact execBellSyncEdge_kept s
  | bellFrame a0 a1 => exact execBellFrame_kept a0 a1 s
  | holdover => exact execHoldover_kept s
  | belJoin a0 a1 => exact execBelJoin_kept a0 a1 s
  | entryStart a0 a1 => exact execEntryStart_kept a0 a1 s
  | deadline a0 a1 => exact execDeadline_kept a0 a1 s
  | entryEnd a0 a1 => exact execEntryEnd_kept a0 a1 s
  | hbmPatrolRow a0 => exact execHbmPatrolRow_kept a0 s
  | wcbAgeWriteout a0 => exact execWcbAgeWriteout_kept a0 s
  | carillonSourceEvent a0 a1 => exact execCarillonSourceEvent_kept a0 a1 s
  | carPendSet a0 a1 a2 a3 => exact execCarPendSet_kept a0 a1 a2 a3 s
  | carPendClr a0 a1 a2 a3 => exact execCarPendClr_kept a0 a1 a2 a3 s
  | carClaim => cases h
  | carComplete => cases h
  | holdoffExpiry a0 a1 => exact execHoldoffExpiry_kept a0 a1 s
  | carMessage a0 => exact execCarMessage_kept a0 s
  | alxFlitCrcFail a0 => exact execAlxFlitCrcFail_kept a0 s
  | alxLaneFail a0 => exact execAlxLaneFail_kept a0 s
  | alxRetrain a0 => exact execAlxRetrain_kept a0 s
  | alxRetrainDone a0 => exact execAlxRetrainDone_kept a0 s
  | alxRecoveryTimeout => exact execAlxRecoveryTimeout_kept s
  | alxAuthFail => exact execAlxAuthFail_kept s
  | keyExhausted a0 => exact execKeyExhausted_kept a0 s
  | apertureRead a0 a1 => exact execApertureRead_kept a0 a1 s
  | apertureWrite a0 a1 => exact execApertureWrite_kept a0 a1 s
  | butFlitCrcFail a0 a1 => exact execButFlitCrcFail_kept a0 a1 s
  | packetForward a0 a1 a2 a3 => exact execPacketForward_kept a0 a1 a2 a3 s
  | writeAck a0 a1 a2 => exact execWriteAck_kept a0 a1 a2 s
  | creditGrant a0 a1 => exact execCreditGrant_kept a0 a1 s
  | creditRetry a0 => exact execCreditRetry_kept a0 s
  | creditTimeout a0 => exact execCreditTimeout_kept a0 s
  | linkDelayEcho a0 a1 => exact execLinkDelayEcho_kept a0 a1 s
  | butLaneFail a0 a1 => exact execButLaneFail_kept a0 a1 s
  | butPortDown a0 => exact execButPortDown_kept a0 s
  | collStep a0 a1 a2 a3 => exact execCollStep_kept a0 a1 a2 a3 s
  | collAbortReceived a0 a1 a2 a3 => exact execCollAbortReceived_kept a0 a1 a2 a3 s
  | collPartnerTimeout a0 a1 => exact execCollPartnerTimeout_kept a0 a1 s
  | fuseAdvanceLifecycle => cases h
  | fuseAdvanceRollback => cases h
  | fuseWriteField => cases h
  | fuseProgDone => cases h
  | bootRom => cases h
  | ed448Verify a0 a1 => exact execEd448Verify_kept a0 a1 s
  | ed448Sign a0 a1 => exact execEd448Sign_kept a0 a1 s
  | x448Keygen a0 a1 => exact execX448Keygen_kept a0 a1 s
  | x448 a0 a1 => exact execX448_kept a0 a1 s
  | p384Keygen a0 a1 => exact execP384Keygen_kept a0 a1 s
  | p384Sign a0 a1 => exact execP384Sign_kept a0 a1 s
  | p384Verify a0 a1 => exact execP384Verify_kept a0 a1 s
  | rsaVerify a0 a1 => exact execRsaVerify_kept a0 a1 s
  | keyClear a0 a1 => exact execKeyClear_kept a0 a1 s
  | attest a0 a1 => exact execAttest_kept a0 a1 s
  | validate a0 a1 => exact execValidate_kept a0 a1 s
  | measureExtend a0 a1 => exact execMeasureExtend_kept a0 a1 s
  | pkeValidationEnd a0 => exact execPkeValidationEnd_kept a0 s
  | pkeComplete a0 a1 => exact execPkeComplete_kept a0 a1 s
  | pkeAbort a0 a1 => exact execPkeAbort_kept a0 a1 s
  | pkeOpmemClr a0 a1 => exact execPkeOpmemClr_kept a0 a1 s
  | lockstepMismatch => exact execLockstepMismatch_kept s
  | towerReplace a0 => exact execTowerReplace_kept a0 s
  | tmRowRepair a0 a1 => exact execTmRowRepair_kept a0 a1 s
  | galleryBankRepair a0 a1 => exact execGalleryBankRepair_kept a0 a1 s
  | expanderRepair a0 a1 => exact execExpanderRepair_kept a0 a1 s
  | pkeSpare a0 => exact execPkeSpare_kept a0 s
  | spireRetire a0 => exact execSpireRetire_kept a0 s
  | wearSample a0 a1 a2 => exact execWearSample_kept a0 a1 a2 s
  | idleStateEntry a0 => exact execIdleStateEntry_kept a0 s
  | unitWake a0 => exact execUnitWake_kept a0 s
  | powerSample a0 a1 => exact execPowerSample_kept a0 a1 s
  | throttleStep a0 a1 => exact execThrottleStep_kept a0 a1 s
  | throttleRecoveryStep a0 a1 => exact execThrottleRecoveryStep_kept a0 a1 s
  | thermalTrip => exact execThermalTrip_kept s
  | flowOkFall => exact execFlowOkFall_kept s
  | flowOkRise => exact execFlowOkRise_kept s
  | railLoss a0 => exact execRailLoss_kept a0 s
  | resetAssert => cases h
  | resetRelease => cases h
  | pwrOkFall => exact execPwrOkFall_kept s
  | refclkLoss a0 => exact execRefclkLoss_kept a0 s
  | butPortUp a0 a1 a2 => exact execButPortUp_kept a0 a1 a2 s
  | butLossOfLock a0 => exact execButLossOfLock_kept a0 s
  | entropyHealthFail => cases h
  | hasherJobComplete => exact execHasherJobComplete_kept s
  | spiFlashOpComplete => exact execSpiFlashOpComplete_kept s
  | i3cManagementTransaction => cases h
  | jtagTapAccess a0 => exact execJtagTapAccess_kept a0 s

end Sys2Proof.Machine
end

