-- ==== Sys2Proof/Laws/Issue.lean ====
section
/-!
SUPPORT. What issuing an instruction does, by the result of its rule.
-/
namespace Sys2Proof.Machine

variable {c : Issue} {i : Instr} {inA inX xy : Bool} {gate : Gate} {word : State → Option FaultInfo}
  {body : State → Res} {s s' : State}

/-- The stream may issue the instruction: A when `inA`, X when `inX`. -/
abbrev Allowed (c : Issue) (inA inX : Bool) : Prop := (match c.stream with | .a => inA | .x => inX) = true

theorem issue_ready (h : s.Ready c xy gate) (ha : Allowed c inA inX) (hw : word s = none) :
    issue c i inA inX xy gate word body s = match body s with
      | .done s' => .next (s'.modStream c.slot.val c.stream (fun r => r.advance (nextPc c r.pc)))
      | .jump s' pc => .next (s'.modStream c.slot.val c.stream (fun r => r.advance pc))
      | .stay s' => .next s'
      | .fault f posted => .next (s.issueFault c.slot.val c.stream i f posted)
      | .faultAt s' f => .next (s'.issueFault c.slot.val c.stream i f)
      | .wait s' timed => .next (s'.modStream c.slot.val c.stream (fun r => r.await i s.bellNum timed)) := by
  obtain ⟨hr, hb, hbad, hg⟩ := h
  unfold issue
  simp only [State.strm] at hr
  have h1 : ((s.tower c.slot.val).stream c.stream).run ≠ .running ↔ False := by simp [hr]
  simp only [hr, hb, hw]
  unfold State.pcOf at hbad
  unfold Allowed at ha
  simp only [hbad]
  generalize hst : c.stream = st at *
  cases st <;> simp_all <;> rw [if_neg (by rintro ⟨h1, h2⟩; simp [hg h1] at h2)] <;> cases body s <;> rfl

theorem issue_done (h : s.Ready c xy gate) (ha : Allowed c inA inX) (hw : word s = none) (hb : body s = .done s') :
    issue c i inA inX xy gate word body s =
      .next (s'.modStream c.slot.val c.stream (fun r => r.advance (nextPc c r.pc))) := by
  rw [issue_ready h ha hw, hb]

theorem issue_jump {pc : BitVec 17} (h : s.Ready c xy gate) (ha : Allowed c inA inX) (hw : word s = none)
    (hb : body s = .jump s' pc) :
    issue c i inA inX xy gate word body s = .next (s'.modStream c.slot.val c.stream (fun r => r.advance pc)) := by
  rw [issue_ready h ha hw, hb]

theorem issue_stay (h : s.Ready c xy gate) (ha : Allowed c inA inX) (hw : word s = none) (hb : body s = .stay s') :
    issue c i inA inX xy gate word body s = .next s' := by
  rw [issue_ready h ha hw, hb]

theorem issue_wait {timed : Bool} (h : s.Ready c xy gate) (ha : Allowed c inA inX) (hw : word s = none)
    (hb : body s = .wait s' timed) :
    issue c i inA inX xy gate word body s =
      .next (s'.modStream c.slot.val c.stream (fun r => r.await i s.bellNum timed)) := by
  rw [issue_ready h ha hw, hb]

theorem issue_fault {f : FaultInfo} {posted : Bool} (h : s.Ready c xy gate) (ha : Allowed c inA inX)
    (hw : word s = none) (hb : body s = .fault f posted) :
    issue c i inA inX xy gate word body s = .next (s.issueFault c.slot.val c.stream i f posted) := by
  rw [issue_ready h ha hw, hb]

/-- A stream that does not run, or that a break holds, issues nothing. -/
theorem issue_idle (h : (s.strm c).run ≠ .running ∨ s.breakFree c = false) :
    issue c i inA inX xy gate word body s = .next s := by
  unfold issue
  rcases h with h | h
  · simp only [State.strm] at h; simp [h]
  · simp [h]

theorem setTower_towers (s : State) (g : Nat) (u : Tower) : { s.setTower g u with towers := s.towers } = s := by
  cases s; rfl

theorem onlyTower_setTower (s : State) (g : Nat) (u : Tower) : OnlyTower g s (s.setTower g u) :=
  ⟨setTower_towers s g u, fun _ h => s.tower_setTower_ne u h⟩

theorem onlyStream_setStream (t : Tower) (st : Stream) (r : StreamState) : OnlyStream st t (t.setStream st r) := by
  simp [OnlyStream]

/-- Writing a scalar register and going on to the next instruction. -/
theorem computes_setSreg (s : State) (c : Issue) (n : BitVec 5) (v : Word) :
    Computes c n v s ((s.setSreg c n v).modStream c.slot.val c.stream (fun r => r.advance (nextPc c r.pc))) := by
  have hn : (n.toNat = 0) = (n = 0) := by
    rw [← BitVec.toNat_inj (x := n) (y := 0)]; rfl
  unfold State.setSreg
  simp only [State.modStream_eq, State.tower_setTower_self, Tower.stream_setStream_self, Tower.setStream_setStream]
  refine ⟨?_, ?_, ?_, ?_⟩
  · simp only [WentTo, State.strm, State.tower_setTower_self, Tower.stream_setStream_self, StreamState.advance,
      StreamState.setSreg]
    split <;> rfl
  · intro m
    simp only [State.strm, State.tower_setTower_self, Tower.stream_setStream_self]
    show StreamState.sreg (StreamState.setSreg _ n.toNat v) m = _
    rw [StreamState.sreg_setSreg]; simp only [hn]
  · refine ⟨?_, ?_⟩
    · cases s; rfl
    · intro h hh
      rw [State.tower_setTower_ne _ _ hh, State.tower_setTower_ne _ _ hh]
  · rw [State.tower_setTower_self]; exact onlyStream_setStream _ _ _

/-- Going to an address. -/
theorem goesTo_advance (s : State) (c : Issue) (pc : BitVec 17) :
    GoesTo c pc s (s.modStream c.slot.val c.stream (fun r => r.advance pc)) := by
  rw [State.modStream_eq]
  refine ⟨?_, ?_, onlyTower_setTower _ _ _, ?_⟩
  · simp [WentTo, State.strm, StreamState.advance]
  · intro m
    simp only [State.strm, State.tower_setTower_self, Tower.stream_setStream_self]
    rfl
  · rw [State.tower_setTower_self]; exact onlyStream_setStream _ _ _

end Sys2Proof.Machine
end

