-- ==== Sys2Proof/Laws/Memory.lean ====
section
/-!
SUPPORT. Every operation that writes a memory keeps the canonical form of every memory, and the memories have it at reset.
-/
namespace Sys2Proof.Machine

variable {s t : State}

theorem reset_wf : Memory.wf State.reset := ⟨SMap.wf_nil, SMap.wf_nil, SMap.wf_nil, SMap.wf_nil, SMap.wf_nil⟩

/-- The memories of two states are the same. -/
abbrev SameMem (s t : State) : Prop :=
  t.hbm = s.hbm ∧ t.gallery = s.gallery ∧ t.tmem = s.tmem ∧ t.companion = s.companion ∧ t.flash = s.flash

/-- What leaves every memory alone keeps the form. -/
theorem SameMem.wf (h : SameMem s t) (w : Memory.wf s) : Memory.wf t := by
  obtain ⟨h1, h2, h3, h4, h5⟩ := h
  simpa only [Memory.wf, h1, h2, h3, h4, h5] using w

theorem foldl_wf {α : Type} {f : State → α → State} (hf : ∀ s x, Memory.wf s → Memory.wf (f s x)) (l : List α) {s : State}
    (w : Memory.wf s) : Memory.wf (l.foldl f s) := by
  induction l generalizing s with
  | nil => exact w
  | cons x l ih => exact ih (hf s x w)

/-! ### Reports and counts leave the memories alone -/

theorem setReg_wf (a v : Nat) (w : Memory.wf s) : Memory.wf (s.setReg a v) := SameMem.wf ⟨rfl, rfl, rfl, rfl, rfl⟩ w

theorem setFld_wf (a hi lo v : Nat) (w : Memory.wf s) : Memory.wf (s.setFld a hi lo v) := setReg_wf _ _ w

theorem count_wf (a k : Nat) (w : Memory.wf s) : Memory.wf (s.count a k) := setReg_wf _ _ w

theorem raise_wf (c n : Nat) (w : Memory.wf s) : Memory.wf (s.raise c n) := setReg_wf _ _ w

theorem setLines_wf (sp : Nat) (l : List WcbLine) (w : Memory.wf s) : Memory.wf (s.setLines sp l) :=
  SameMem.wf ⟨rfl, rfl, rfl, rfl, rfl⟩ w

theorem dropLine_wf (k a : Nat) (w : Memory.wf s) : Memory.wf (s.dropLine k a) := setLines_wf _ _ w

theorem modTower_wf (g : Nat) (f : Tower → Tower) (w : Memory.wf s) : Memory.wf (s.modTower g f) :=
  SameMem.wf ⟨rfl, rfl, rfl, rfl, rfl⟩ w

theorem draw_wf (w : Memory.wf s) : Memory.wf s.draw := w

theorem setLost_wf (n : Nat) (b : Bool) (w : Memory.wf s) : Memory.wf (s.setLost n b) := SameMem.wf ⟨rfl, rfl, rfl, rfl, rfl⟩ w

theorem wrote_wf (f : FaultInfo) (w : Memory.wf s) : Memory.wf (s.wrote f) := by
  unfold State.wrote
  split
  · exact draw_wf (setLost_wf _ _ w)
  · exact draw_wf w

theorem faultToSpire_wf (sp : Nat) (f : FaultInfo) (w : Memory.wf s) : Memory.wf (s.faultToSpire sp f) := by
  have h (v) : Memory.wf { s with faultsSpire := v } := w
  exact wrote_wf _ (raise_wf _ _ (h _))

theorem faultToKey_wf (f : FaultInfo) (w : Memory.wf s) : Memory.wf (s.faultToKey f) := by
  have h (v) : Memory.wf { s with faultsKey := v } := w
  exact wrote_wf _ (raise_wf _ _ (h _))

theorem hbmUeReport_wf (k a ty : Nat) (f : FaultInfo) (w : Memory.wf s) : Memory.wf (s.hbmUeReport k a ty f) := by
  unfold State.hbmUeReport
  refine faultToKey_wf _ (faultToSpire_wf _ _ ?_)
  split
  · exact setReg_wf _ _ (count_wf _ _ w)
  · exact raise_wf _ _ (setReg_wf _ _ (count_wf _ _ w))

/-- The repair log in the flash (R448). -/
theorem logAppend_wf (die kind unit index : Nat) (w : Memory.wf s) : Memory.wf (s.logAppend die kind unit index) := by
  unfold State.logAppend
  split
  · exact w
  · dsimp only
    split <;>
    · split
      · exact w
      · exact ⟨w.1, w.2.1, w.2.2.1, w.2.2.2.1, SMap.wf_setRun _ _ w.2.2.2.2⟩

theorem countPin_wf (k c p : Nat) (w : Memory.wf s) : Memory.wf (s.countPin k c p) := by
  have h (v) : Memory.wf { s with pinCounts := v } := SameMem.wf ⟨rfl, rfl, rfl, rfl, rfl⟩ w
  have h' (v o) : Memory.wf { s with pinCounts := v, pinsOver := o } := SameMem.wf ⟨rfl, rfl, rfl, rfl, rfl⟩ w
  unfold State.countPin
  dsimp only
  split
  · exact h _
  · have hb := raise_wf (k / 8) (64 + 2 * (k % 8)) (setFld_wf (Reg.hbmStatus k) 2 2 1
      (h' (SMap.set (fun _ => 0) s.pinCounts (72 * (32 * k + c) + p)
        (SMap.get (fun _ => 0) s.pinCounts (72 * (32 * k + c) + p) + 1))
        (SMap.set (fun _ => false) s.pinsOver (72 * (32 * k + c) + p) true)))
    generalize State.raise _ _ _ = u at hb ⊢
    have hl : Memory.wf (if u.logHas (k / 8) 8 k (256 * c + p) then u else u.logAppend (k / 8) 8 k (256 * c + p)) := by
      split
      · exact hb
      · exact logAppend_wf _ _ _ _ hb
    generalize (if u.logHas _ _ _ _ = true then u else _ : State) = v at hl ⊢
    split <;> exact setReg_wf _ _ hl

theorem hbmCorrected_wf (k a p v : Nat) (w : Memory.wf s) : Memory.wf (s.hbmCorrected k a p v) :=
  foldl_wf (fun _ _ h => countPin_wf _ _ _ h) _ (count_wf _ _ w)

/-! ### HBM (R374, R375) -/

theorem stackPut_wf (k a : Nat) (bs : List Byte) (w : Memory.wf s) : Memory.wf (s.stackPut k a bs) :=
  ⟨SMap.wf_setRun _ _ w.1, w.2⟩

theorem writeHalf_wf (l : WcbLine) (h : Nat) (w : Memory.wf s) : Memory.wf (s.writeHalf l h) := by
  unfold State.writeHalf
  dsimp only
  split
  · exact stackPut_wf _ _ _ w
  · split
    · exact hbmUeReport_wf _ _ _ _ w
    · exact hbmUeReport_wf _ _ _ _ w
    · exact stackPut_wf _ _ _ (hbmCorrected_wf _ _ _ _ w)
    · split
      · exact w
      · exact stackPut_wf _ _ _ w

theorem writeOut_wf (l : WcbLine) (w : Memory.wf s) : Memory.wf (s.writeOut l) := by
  unfold State.writeOut
  dsimp only
  refine writeHalf_wf _ _ (writeHalf_wf _ _ ?_)
  split
  · exact dropLine_wf _ _ w
  · exact count_wf _ _ (dropLine_wf _ _ w)

theorem writeOutAll_wf (sp : Nat) (w : Memory.wf s) : Memory.wf (s.writeOutAll sp) :=
  foldl_wf (fun _ l h => writeOut_wf l h) _ w

theorem linePut_wf (k a : Nat) (bs : List Byte) (req : Nat) (w : Memory.wf s) : Memory.wf (s.linePut k a bs req) := by
  unfold State.linePut
  dsimp only
  split
  · exact writeOut_wf _ (dropLine_wf _ _ w)
  · refine setLines_wf _ _ ?_
    split
    · split
      · exact count_wf _ _ (writeOut_wf _ (dropLine_wf _ _ w))
      · exact dropLine_wf _ _ w
    · exact dropLine_wf _ _ w

theorem granulePut_wf (k a : Nat) (bs : List Byte) (req : Nat) (w : Memory.wf s) : Memory.wf (s.granulePut k a bs req) := by
  unfold State.granulePut
  dsimp only
  have h1 : ∀ (b : Prop) [Decidable b] (x : List Byte), Memory.wf (if b then s else s.linePut k a x req) := by
    intro b _ x
    split
    · exact w
    · exact linePut_wf _ _ _ _ w
  have h2 : ∀ (b : Prop) [Decidable b] (u : State) (l : List WcbLine) (a' : Nat) (x : List Byte), Memory.wf u →
      Memory.wf (if b then u else (u.setLines (k / 8) l).stackPut k a' x) := by
    intro b _ u l a' x hu
    split
    · exact hu
    · exact stackPut_wf _ _ _ (setLines_wf _ _ hu)
  split
  · exact h2 _ _ _ _ _ (h1 _ _)
  · exact linePut_wf _ _ _ _ (h2 _ _ _ _ _ (h1 _ _))

/-! ### The other memories -/

theorem galleryPut_wf (sp o : Nat) (bs : List Byte) (w : Memory.wf s) : Memory.wf (s.galleryPut sp o bs) :=
  ⟨w.1, SMap.wf_setRun _ _ w.2.1, w.2.2⟩

theorem towerPut_wf (g o : Nat) (bs : List Byte) (w : Memory.wf s) : Memory.wf (s.towerPut g o bs) :=
  ⟨w.1, w.2.1, SMap.wf_setRun _ _ w.2.2.1, w.2.2.2⟩

theorem clearRuns_wf (rs : List (Nat × Nat)) (w : Memory.wf s) : Memory.wf (s.clearRuns rs) :=
  SameMem.wf ⟨rfl, rfl, rfl, rfl, rfl⟩ w

theorem towerWrite_wf (g o : Nat) (bs : List Byte) (req : Nat) (w : Memory.wf s) :
    Memory.wf (s.towerWrite g o bs req).1 := by
  unfold State.towerWrite
  dsimp only
  split
  · exact faultToSpire_wf _ _ w
  · dsimp only
    refine clearRuns_wf _ (towerPut_wf _ _ _ ?_)
    split
    · exact w
    · exact count_wf _ _ w

theorem galleryWrite_wf (sp o : Nat) (bs : List Byte) (req : Nat) (w : Memory.wf s) :
    Memory.wf (s.galleryWrite sp o bs req).1 := by
  unfold State.galleryWrite
  dsimp only
  split
  · exact faultToSpire_wf _ _ (raise_wf _ _ w)
  · dsimp only
    refine clearRuns_wf _ (galleryPut_wf _ _ _ ?_)
    split
    · exact w
    · exact count_wf _ _ w

theorem companionWrite_wf (a : Nat) (bs : List Byte) (w : Memory.wf s) : Memory.wf (s.companionWrite a bs) := by
  unfold State.companionWrite
  split
  · exact ⟨w.1, w.2.1, w.2.2.1, SMap.wf_setRun _ _ w.2.2.2.1, w.2.2.2.2⟩
  · exact w

/-- The one write through a device physical address (R18). -/
theorem memPut_wf (sp a : Nat) (bs : List Byte) (req : Nat) (w : Memory.wf s) : Memory.wf (s.memPut sp a bs req) := by
  unfold State.memPut
  split
  · refine foldl_wf (fun u p h => ?_) _ w
    split
    · exact granulePut_wf _ _ _ _ h
    · exact hbmUeReport_wf _ _ _ _ h
  · exact galleryPut_wf _ _ _ w
  · exact towerPut_wf _ _ _ w
  · exact ⟨w.1, w.2.1, w.2.2.1, SMap.wf_setRun _ _ w.2.2.2.1, w.2.2.2.2⟩
  · exact w

/-! ### What loses or moves contents -/

theorem loseBank_wf (g n : Nat) (w : Memory.wf s) : Memory.wf (s.loseBank g n) :=
  ⟨w.1, w.2.1, SMap.wf_filter _ w.2.2.1, w.2.2.2⟩

theorem moveSlot_wf (g h : Nat) (w : Memory.wf s) : Memory.wf (s.moveSlot g h) :=
  ⟨w.1, w.2.1, SMap.wf_move _ _ _ w.2.2.1, w.2.2.2⟩

theorem towerOff_wf (g : Nat) (w : Memory.wf s) : Memory.wf (s.towerOff g) :=
  ⟨w.1, w.2.1, SMap.wf_filter _ w.2.2.1, w.2.2.2⟩

theorem resetStacks_wf (f : Nat → Nat) (l : List Nat) (w : Memory.wf s) :
    Memory.wf (l.foldl (fun (t : State) h => t.setFld (f h) 0 0 0) s) :=
  foldl_wf (fun _ _ h => setFld_wf _ _ _ _ h) l w

theorem setSupply_wf (sp : Nat) (p : SpirePower) (w : Memory.wf s) : Memory.wf (s.setSupply sp p) := w

theorem filtered_wf (e : SMap Nat) (p q r : Nat × Byte → Bool) (w : Memory.wf s) :
    Memory.wf { s with ramErr := e, gallery := s.gallery.filter p, tmem := s.tmem.filter q, hbm := s.hbm.filter r } :=
  ⟨SMap.wf_filter _ w.1, SMap.wf_filter _ w.2.1, SMap.wf_filter _ w.2.2.1, w.2.2.2⟩

theorem loseSpire_wf (sp : Nat) (w : Memory.wf s) : Memory.wf (s.loseSpire sp) :=
  setSupply_wf _ _ (filtered_wf _ _ _ _ (resetStacks_wf (fun h => Reg.hbmStatus (8 * sp + h)) _ (setLines_wf sp [] w)))

theorem trainStacks_wf (b : Bool) (w : Memory.wf s) : Memory.wf (s.trainStacks b) := by
  unfold State.trainStacks
  split
  · exact w
  · rename_i m hm
    have h := foldl_wf (f := fun (t : State) h => if m.getLsbD h then
        t.setReg (Reg.hbmStatus h)
          (setBits (setBits (t.reg (Reg.hbmStatus h)) 1 0 1) 15 8 (if b then s.logLanes h % 256 else 0)) else t)
      (fun _ _ h => by split; exacts [setReg_wf _ _ h, h]) (List.range 32) w
    generalize List.foldl _ s _ = u at h ⊢
    dsimp only
    split <;> exact ⟨SMap.wf_filter _ h.1, h.2⟩

theorem zeroBanks_wf (g : Nat) (b : BitVec 64) (w : Memory.wf s) : Memory.wf (s.zeroBanks g b) :=
  ⟨w.1, w.2.1, SMap.wf_filter _ w.2.2.1, w.2.2.2⟩

theorem zeroRange_wf (sp lo hi : Nat) (w : Memory.wf s) : Memory.wf (s.zeroRange sp lo hi) :=
  ⟨w.1, SMap.wf_filter _ w.2.1, w.2.2⟩

/-- SCRUB_COMPLETE zeroes Tower or Gallery memory (R112). -/
theorem scrubComplete_wf (u : MemUnit) (w : Memory.wf s) : ∃ t, execScrubComplete u s = .next t ∧ Memory.wf t := by
  unfold execScrubComplete
  split
  · split
    · exact ⟨_, rfl, w⟩
    · split
      · exact ⟨_, rfl, w⟩
      · exact ⟨_, rfl, modTower_wf _ _ (zeroBanks_wf _ _ w)⟩
  · split
    · exact ⟨_, rfl, w⟩
    · have h (l) : ∀ u : State, Memory.wf u → Memory.wf { u with galScrub := l } :=
        fun u hu => SameMem.wf ⟨rfl, rfl, rfl, rfl, rfl⟩ hu
      exact ⟨_, rfl, h _ _ (zeroRange_wf _ _ _ w)⟩

end Sys2Proof.Machine
end

