-- ==== Sys2Proof/Laws/Remote.lean ====
section
/-!
SUPPORT. A write cut into rows is one write, where no codeword holds an error (R103).
-/
namespace Sys2Proof.Machine

theorem State.galleryWrite_clean (s : State) (sp o : Nat) (bs : List Byte) (req : Nat) (h : s.ramErr = []) :
    s.galleryWrite sp o bs req =
      ({ s with gallery := SMap.setRun (fun _ => 0) s.gallery (galKey sp o) bs }, none) := by
  cases s
  subst h
  rfl


/-- Rows of a clean Gallery, one after another, store the bytes at their offsets and change nothing else. -/
theorem State.rowWrites_gallery (sp req k : Nat) (s : State) (o : Nat) (bs : List Byte) (n : Nat)
    (hk : bs.length + o % 256 ≤ 256 * k) (h : s.ramErr = []) :
    ∃ m, (packets k o bs).foldl (fun (a : State × Nat × Option FaultInfo) p =>
        match a.2.2 with
        | some _ => a
        | none => match a.1.galleryWrite sp p.1 p.2 req with
          | (s, none) => (s, a.2.1 + p.2.length, none)
          | (s, some f) => (s, a.2.1, some f)) (s, n, none) = ({ s with gallery := m }, n + bs.length, none) ∧
      ∀ a, SMap.get (fun _ => 0) m a =
        if galKey sp o ≤ a ∧ a < galKey sp o + bs.length then bs.getD (a - galKey sp o) 0
        else SMap.get (fun _ => 0) s.gallery a := by
  induction k generalizing s o bs n with
  | zero =>
    have : bs = [] := List.length_eq_zero_iff.mp (by omega)
    subst this
    exact ⟨s.gallery, rfl, fun a => by simp⟩
  | succ k ih =>
    unfold packets
    split
    · rename_i e
      have : bs = [] := by simpa using e
      subst this
      exact ⟨s.gallery, rfl, fun a => by simp⟩
    · rename_i e
      have hb : bs ≠ [] := by simpa using e
      have hpos : 0 < bs.length := List.length_pos_iff.mpr hb
      obtain ⟨m, hm, hg⟩ := ih
        ({ s with gallery := SMap.setRun (fun _ => 0) s.gallery (galKey sp o) (bs.take (256 - o % 256)) } : State)
        (o + (256 - o % 256)) (bs.drop (256 - o % 256)) (n + (bs.take (256 - o % 256)).length)
        (by simp only [List.length_drop]; omega) h
      refine ⟨m, ?_, fun a => ?_⟩
      · simp only [List.foldl_cons, State.galleryWrite_clean s sp o _ req h]
        refine hm.trans ?_
        congr 2
        simp only [List.length_take, List.length_drop]
        omega
      · rw [hg a]
        have hk' : galKey sp (o + (256 - o % 256)) = galKey sp o + (256 - o % 256) := by
          simp only [galKey]; omega
        have hl : (bs.take (256 - o % 256)).length = min (256 - o % 256) bs.length := List.length_take
        simp only [hk', List.length_drop]
        split
        · rename_i h1
          rw [if_pos (by omega)]
          simp only [List.getD_eq_getElem?_getD, List.getElem?_drop]
          congr 2
          omega
        · rename_i h1
          split
          · rename_i h2
            obtain ⟨j, rfl⟩ : ∃ j, a = galKey sp o + j := ⟨a - galKey sp o, by omega⟩
            have hj : j < (bs.take (256 - o % 256)).length := by omega
            rw [SMap.get_setRun_in _ _ _ hj]
            simp only [Nat.add_sub_cancel_left, List.getElem_take, List.getD_eq_getElem?_getD]
            rw [List.getElem?_eq_getElem (by omega)]
            rfl
          · exact SMap.get_setRun_out _ _ _ (by omega)

/-- Nothing waits to settle in a Gallery with no queued packet and no SCRUB in progress (R105, R116). -/
theorem State.settle_gallery (s : State) (sp a o : Nat) (hl : s.loc a = .gallery sp o) (hs : s.scrubs sp = [])
    (hq : s.galQueue sp = []) : s.settle a = s := by
  unfold State.settle
  simp only [hl, hs, List.isEmpty_nil, if_true, hq]

/-- An engine's write to its own Gallery, where no codeword holds an error, no packet waits and no SCRUB runs: the bytes,
whole, and no fault. -/
theorem State.putRange_gallery (s : State) (sp : Nat) (sd : Sender) (a o : Nat) (bs : List Byte)
    (hl : s.loc a = .gallery sp o) (hs : s.scrubs sp = []) (hq : s.galQueue sp = []) (h : s.ramErr = []) :
    ∃ m, s.putRange sp sd false a bs = ({ s with gallery := m }, bs.length, none) ∧
      ∀ k, SMap.get (fun _ => 0) m k =
        if galKey sp o ≤ k ∧ k < galKey sp o + bs.length then bs.getD (k - galKey sp o) 0
        else SMap.get (fun _ => 0) s.gallery k := by
  obtain ⟨m, hm, hg⟩ := State.rowWrites_gallery sp sd.source (bs.length / 256 + 2) s o bs 0 (by omega) h
  refine ⟨m, ?_, hg⟩
  unfold State.putRange State.rowWrites
  simp only [State.settle_gallery s sp a o hl hs hq, hl, Bool.not_false, Bool.and_true, decide_true, if_true]
  exact hm.trans (by rw [Nat.zero_add])

end Sys2Proof.Machine
end

