-- ==== Sys2Proof/Machine/Igkel.lean ====
section
/-!
DEFINITION. The words of Igkel (R165 to R168, R174): which instruction a Tower's instruction words spell. A block's commands
come from outside (DESIGN CHOICE, log 1), so no command reads a program here; `State.igkelAt` says which instruction the next
one of a stream is.
-/
namespace Sys2Proof.Machine

/-- A field of a word, and whether bits that must be zero are not (R166). -/
def fld (w : BitVec 32) (lo n : Nat) : BitVec n := w.extractLsb' lo n
def unnamed (w : BitVec 32) (lo n : Nat) : Bool := w.extractLsb' lo n ≠ 0
def flag (w : BitVec 32) (k : Nat) : Bool := w.getLsbD k

/-- The Reg format: the arithmetic instructions, JR, SEMP, SEMW and BELLW. -/
def igkelReg (op : Nat) (w : BitVec 32) (c : Bool → Issue) : Instr :=
  let fn := (fld w 22 10).toNat
  let rb := fld w 17 5
  let ra := fld w 12 5
  let rd := fld w 7 5
  if op = 0x01 then
    ([Instr.add, .sub, .and_, .or_, .xor_, .sll, .srl, .sra, .mul, .mulh].getD fn .add) (c (10 ≤ fn)) rd ra rb
  else if op = 0x0D then .jr (c (fn ≠ 0 || rb ≠ 0 || rd ≠ 0)) ra
  else if op = 0x18 then .semp (c (fn ≠ 0 || rd ≠ 0)) ra rb
  else if op = 0x19 then .semw (c (fn ≠ 0 || rd ≠ 0)) ra rb
  else .bellw (c (fn ≠ 0 || ra ≠ 0 || rb ≠ 0)) rd

/-- The Upper, Mem, Branch and Jump formats. -/
def igkelImm (op : Nat) (w : BitVec 32) (c : Bool → Issue) : Instr :=
  let sz := (fld w 17 3).toNat
  let imm12 := fld w 20 12
  let ra := fld w 12 5
  let rd := fld w 7 5
  if op = 0x03 then .li (c false) rd (fld w 12 20)
  else if op = 0x04 then
    ([Instr.ldB, .ldH, .ldW, .ldD, .ldBu, .ldHu, .ldWu].getD sz .ldB) (c (7 ≤ sz)) rd imm12 ra
  else if op = 0x05 then ([Instr.stB, .stH, .stW, .stD].getD sz .stB) (c (4 ≤ sz)) rd imm12 ra
  else if op = 0x0C then .jal (c false) rd (fld w 12 20)
  else ([Instr.beq, .bne, .blt, .bge].getD (op - 0x08) .beq) (c false) rd ra (fld w 17 15)

/-- The Csr format; the token queues and the return from a handler have CSR numbers (R172). -/
def igkelCsr (op : Nat) (w : BitVec 32) (c : Bool → Issue) : Instr :=
  let c := c (unnamed w 24 8)
  let csr := fld w 12 12
  let r := fld w 7 5
  if op = 0x10 then (if csr = 1 then .tqPop c r else .csrr c r csr)
  else if csr = 0 then .tqPush c r
  else if csr = 2 then .excRet c r
  else .csrw c csr r

/-- The Sys format. -/
def igkelSys (w : BitVec 32) (c : Bool → Issue) : Instr :=
  let fn := (fld w 7 3).toNat
  let entry := fld w 18 14
  let mid := unnamed w 10 8
  if fn = 4 then .imswap (c mid) entry
  else if fn = 5 then .imswapB (c mid) entry
  else ([Instr.fence, .fenceCp, .trap, .halt].getD fn .fence) (c (mid || entry ≠ 0 || 4 ≤ fn))

/-- The Queue format. TLD's flags are T and S; bit 9 of X makes it a sequenced one (R239). -/
def igkelQueue (op : Nat) (w : BitVec 32) (c : Bool → Issue) : Instr :=
  let fl := fld w 26 6
  let rc := fld w 21 5
  let rb := fld w 16 5
  let ra := fld w 11 5
  let q := fld w 7 4
  if op = 0x20 then
    let c := c (unnamed w 28 4)
    if (match c.long with | some l => l.x.getLsbD 9 | none => false) then .sequencedTld c q ra rb rc (fld w 26 2)
    else if flag w 26 then .tldT c q ra rb rc (flag w 27)
    else if flag w 27 then .tldS c q ra rb rc
    else .tld c q ra rb rc
  else if op = 0x21 then .pld (c (fl ≠ 0)) q ra rb rc
  else if op = 0x22 then .vld (c (fl ≠ 0)) q ra rb rc
  else if op = 0x23 then .tst (c (fl ≠ 0)) q ra rb rc
  else if op = 0x24 then .vst (c (fl ≠ 0)) q ra rb rc
  else if op = 0x25 then .get (c (fl ≠ 0 || q ≠ 0)) ra rb rc
  else .put (c (fl ≠ 0 || q ≠ 0)) ra rb rc

/-- The Matrix and Tcfg formats. -/
def igkelMatrix (op : Nat) (w : BitVec 32) (c : Bool → Issue) : Instr :=
  let fn := (fld w 20 2).toNat
  let top := unnamed w 22 10
  let bank := fld w 17 2
  let qa := fld w 7 4
  let qb := fld w 12 4
  if op = 0x30 then
    ([Instr.mmaH4, .mmaH48, .mmaH8].getD fn .mmaH4) (c (top || 3 ≤ fn)) bank qa (flag w 11) qb (flag w 16) (flag w 19)
  else if op = 0x31 then .mmw (c (top || fn ≠ 0)) bank qa (flag w 11) qb (flag w 16) (flag w 19)
  else if op = 0x32 then .mdrain (c (unnamed w 19 13 || unnamed w 7 10)) bank
  else if op = 0x33 then .trel (c (unnamed w 11 21)) qa
  else .tcfg (c (unnamed w 19 13)) (fld w 11 4) qa (fld w 15 4)

/-- The Vector format: VOP by FN, and the modular instructions by TY. The comparison that fails, if one does, is no part of
a word (R66). -/
def igkelVector (op : Nat) (w : BitVec 32) (c : Bool → Issue) : Instr :=
  let ty := fld w 30 2
  let fn := (fld w 24 6).toNat
  let sb := fld w 18 6
  let sa := fld w 12 6
  let vd := fld w 7 5
  if op = 0x38 then
    if fn ≤ 3 then ([Instr.vopAdd, .vopSub, .vopMul, .vopFma].getD fn .vopAdd) (c false) ty vd sa sb none
    else ([Instr.vopMin, .vopMax, .vopAnd, .vopOr, .vopXor, .vopShl, .vopShr, .vopMov, .vopCvt, .vopBcast].getD (fn - 4) .vopMin)
      (c (0x0E ≤ fn)) ty vd sa sb
  else ([Instr.vaddm, .vsubm, .vmulm].getD ty.toNat .vaddm) (c (ty = 3 || flag w 29)) vd sa sb (fld w 24 5) none

/-- The Vred, Eprg and Vpop formats. -/
def igkelMarver (op : Nat) (w : BitVec 32) (c : Bool → Issue) : Instr :=
  let q := fld w 12 4
  let v := fld w 7 5
  if op = 0x3A then
    let ops := if flag w 19 then [Instr.vredColAdd, .vredColMax, .vredColMin, .vredColAddm]
      else [Instr.vredRowAdd, .vredRowMax, .vredRowMin, .vredRowAddm]
    (ops.getD (fld w 17 2).toNat .vredRowAdd) (c (unnamed w 25 7)) v q (flag w 16) (fld w 20 5)
  else if op = 0x3B then .eprg (c (unnamed w 20 12)) (fld w 16 4) (fld w 7 4) (flag w 11) q
  else if op = 0x3C then .vpop (c (unnamed w 16 16)) v q
  else .vpush (c (unnamed w 16 16)) q v

/-- The instruction that major opcode `op` and the other fields of a word spell; `c` makes its place, given whether a field
that it does not name is not zero. An opcode that the table does not assign spells none: it takes no effect but OPCODE, and
stands here as a FENCE that says so (R166, R480). -/
def igkelFields (op : Nat) (w : BitVec 32) (c : Bool → Issue) : Instr :=
  if op = 0x01 || op = 0x0D || op = 0x18 || op = 0x19 || op = 0x1A then igkelReg op w c
  else if op = 0x03 || op = 0x04 || op = 0x05 || (0x08 ≤ op && op ≤ 0x0C) then igkelImm op w c
  else if op = 0x10 || op = 0x11 then igkelCsr op w c
  else if op = 0x12 then igkelSys w c
  else if 0x20 ≤ op && op ≤ 0x26 then igkelQueue op w c
  else if 0x30 ≤ op && op ≤ 0x34 then igkelMatrix op w c
  else if op = 0x38 || op = 0x39 then igkelVector op w c
  else if 0x3A ≤ op && op ≤ 0x3D then igkelMarver op w c
  else .fence (c true)

/-- The instruction of a stream that a word, and in the long form the word after it, spell (R165 to R167). -/
def igkel (slot : Fin 68) (st : Stream) (w0 w1 : BitVec 32) : Instr :=
  if fld w0 0 7 = 0x7F then
    igkelFields (fld w0 7 7).toNat w1 (fun bad =>
      { slot := slot, stream := st, long := some { tag := fld w0 14 8, x := fld w0 22 10, y := fld w1 0 7 }, rsv := bad })
  else igkelFields (fld w0 0 7).toNat w0 (fun bad => { slot := slot, stream := st, long := none, rsv := bad })

/-- A word of the active bank (R159, R165). -/
def State.igkelWord (s : State) (g : Nat) (a : Nat) : BitVec 32 :=
  let t := s.tower g
  BitVec.ofNat 32 (leNat (SMap.getRun (fun _ => 0) (if t.active then t.imB else t.imA) a 4))

/-- The instruction at which a stream stands. -/
def State.igkelAt (s : State) (slot : Fin 68) (st : Stream) : Instr :=
  let pc := ((s.tower slot.val).stream st).pc.toNat
  igkel slot st (s.igkelWord slot.val pc) (s.igkelWord slot.val (pc + 4))

end Sys2Proof.Machine
end

