-- ==== Sys2Proof/Tests/Base.lean ====
section
/-!
SUPPORT. Small states and operands from which the tests are made.
-/
namespace Sys2Proof.Tests
open Sys2Proof Sys2Proof.Machine

/-- An instruction of stream A and one of X in slot 0, in the short form. -/
abbrev ia : Issue := { slot := 0, stream := .a, long := none, rsv := false }
abbrev ix : Issue := { slot := 0, stream := .x, long := none, rsv := false }

/-- The same in the long form. -/
abbrev il (st : Stream) (x : BitVec 10) (y : BitVec 7 := 0) : Issue :=
  { slot := 0, stream := st, long := some { x := x, y := y, tag := 0 }, rsv := false }

/-- The state after reset, but for the Tower in slot 0. -/
abbrev tower (f : Tower → Tower) : State := State.reset.modTower 0 f

/-- Both streams run; stream `st` has the scalar registers `regs`. -/
def runs (st : Stream) (regs : SMap Word := []) (pc : BitVec 17 := 0) (t : Tower) : Tower :=
  let t := { t with a := { t.a with run := .running }, x := { t.x with run := .running } }
  t.setStream st { t.stream st with regs := regs, pc := pc }

/-- Slot 0 with both streams running. -/
abbrev on (st : Stream) (regs : SMap Word := []) (pc : BitVec 17 := 0) (f : Tower → Tower := id) : State :=
  tower (fun t => f (runs st regs pc t))

/-- The answer of a command holds `p`. -/
def gives (o : Host.Outcome State Fault Refusal) (p : State → Bool) : Bool :=
  match o with
  | .next t => p t
  | _ => false

/-- A command of ring 15 of Spire 0, alone (R318). -/
abbrev cmd : Origin :=
  { spire := 0, ring := 15, cseq := 1, lidx := 0xFFFF, tag := 0, intr := false, nocomp := false, post := none, entry := none }

/-- The last ring of Spire 0 has engine `e` and its completion ring at the base of companion memory. -/
def ring (e : Nat) (s : State) : State :=
  ((s.setFld (Reg.sprRingCfg 0 15) 27 24 e).setReg (Reg.sprRingCompBase 0 15) (2 ^ 47)).setReg Reg.alxStatus 1

/-- The tests say `e.toOption = some a` for `e = .ok a`, which is the same and can be decided. -/
theorem ok_of {ε α : Type} {e : Except ε α} {a : α} (h : e.toOption = some a) : e = .ok a := by
  cases e with
  | error => cases h
  | ok b => exact congrArg Except.ok (Option.some.inj h)

/-- A descriptor (R72): base, format, and the size and stride of each dimension (0 for dimension 0). -/
def desc (base fmt : Nat) (dims : List (Nat × Nat)) (kv : Bool := false) (len cap : Nat := 0) : List Byte :=
  checkDesc (leBytes 6 base ++ leBytes 1 (fmt + dims.length * 16 + ofBool kv * 128) ++ leBytes 1 (3 + ofBool kv * 16) ++ leBytes 2 0 ++ leBytes 2 0 ++
    ((dims ++ List.replicate (6 - dims.length) (1, 0)).flatMap (fun (d : Nat × Nat) => leBytes 3 d.1 ++ leBytes 4 d.2)) ++
    leBytes 4 len ++ leBytes 4 cap ++ leBytes 2 0)

/-- Tower 0's memory. -/
abbrev twrBase : Nat := 0x5000_0000_0000

/-- Spire 0 has a descriptor table at the base of its Gallery and region 0 over Tower 0's memory, every bank of which is on, with `b` live at entry 0 (handle 0). -/
def withDesc (b : List Byte) (s : State) : State :=
  { ((s.setReg (Reg.sprDescBase 0) 0x4000_0000_0000).setReg (Reg.twrBankOn 0) 0xFFFF_FFFF_FFFF_FFFF) with
    regions := [(0, twrBase, twrBase + towerSize)], descs := [(0, { DescEntry.init with live := true })], gallery := SMap.setRun (fun _ => 0) [] 0 b }

/-- 64 elements of FP32 in Tower memory. -/
abbrev vecDesc : List Byte := desc twrBase 0xA [(64, 0)]

end Sys2Proof.Tests
end

