-- ==== Sys2Proof/Tests/Commands.lean ====
section
/-!
SUPPORT. States and operands that meet the hypotheses of the statements about ring commands, the stream engine and
collectives, at the ends of their ranges.
-/
namespace Sys2Proof.Tests
open Sys2Proof Sys2Proof.Machine

set_option maxRecDepth 100000

/-! ### Commands that any engine accepts -/

theorem test_alone : ∀ e < 7, (ring e State.reset).Alone cmd ∧ (ring e State.reset).ringEngine cmd = e := by decide

/-- A command in progress. -/
def running (o : Origin) (opcode : Nat) : Running :=
  { o := o, opcode := opcode, engine := 0, order := 0, fence := none, broken := false }

/-- FENCE with nothing before it, and with a command that runs. -/
theorem test_fence_ready : (ring 0 State.reset).runs = [] ∧ (ring 0 State.reset).rings = [] ∧
    (let r := running { cmd with cseq := 0 } 0
    let s := { ring 0 State.reset with runs := [(runKey cmd, { RunQ.init with running := [r] })], starts := 1 }
    s.Alone cmd ∧ (s.runq (runKey cmd)).running.any (fun r => sameCmd r.o cmd) = false ∧
    (s.runq (runKey cmd)).running.any (fun r => r.order < s.starts) = true) := by decide

/-- A post to the limit, a wait that takes everything, and a wait behind another. -/
theorem test_sem_command_ready :
    let s := { ring 0 State.reset with sems := [(4095, { Sem.init with count := 65534 })] }
    s.Alone cmd ∧ (0xFFF : BitVec 14).toNat / 4096 = cmd.spire.val ∧ (s.sem 0 4095).count + 1 ≤ 65535 ∧
    (s.sem 0 4095).waiters = [] ∧ (65534 : BitVec 16).toNat ≤ (s.sem 0 4095).count ∧ (s.sem 0 0).count < (1 : BitVec 16).toNat := by decide

/-- A post to another Spire's last semaphore, through its last window. -/
theorem test_sem_post_other_ready :
    let s := ((ring 0 State.reset).setReg (Reg.semWinCtl 3 15) (2 ^ 31 + 1)).setReg (Reg.semWinRange 3 15) (4095 * 2 ^ 16 + 4095)
    s.Alone cmd ∧ (0x3FFF : BitVec 14).toNat / 4096 ≠ cmd.spire.val ∧ s.spireRetired 3 = false ∧
    s.semWindowHas 3 15 4095 = true ∧ s.semWindowSrc 3 15 0 = true ∧ (s.sem 3 4095).count + 65535 ≤ 65535 := by decide

/-- A LIST of one command (64 bytes of zeros, NOP) at the top of companion memory. -/
theorem test_list_ready : let s := ring 0 State.reset
    cmd.lidx = 0xFFFF ∧ (2 ^ 48 - 64) % 64 = 0 ∧
    ((s.readList 0 1 { left := 1, idx := 0, addr := 2 ^ 48 - 64 }).2.toOption.map (·.2)) = some none ∧
    ((s.readList 0 1 { left := 4096, idx := 0, addr := 2 ^ 48 - 64 }).2.toOption.map (·.2)) =
      some (some { left := 4095, idx := 1, addr := 2 ^ 48 }) := by decide

/-- REGW to the last ring's CTL-free register of an opened block. -/
theorem test_regw_ready : let s := { ring 0 State.reset with opened := [.car 0] }
    let a := Reg.carPendClr 0 3
    (s.regwRun 0 [(BitVec.ofNat 64 a, 1), (BitVec.ofNat 64 a, 1), (BitVec.ofNat 64 a, 1)]).2 = (3, false) ∧
    (s.regwRun 0 [(BitVec.ofNat 64 a, 1), (BitVec.ofNat 64 a, 1), (BitVec.ofNat 64 a, 1)]).1.Alone cmd ∧
    s.refuses .companion a true = false ∧
    gives (exec (.registerWrite .companion (BitVec.ofNat 36 a) 1) s) (fun u => decide (u.Alone cmd)) = true := by decide

/-! ### Descriptors -/

theorem test_desc_create_ready : let s := { withDesc vecDesc (ring 1 State.reset) with descs := [] }
    s.Alone cmd ∧ s.ringEngine cmd = 1 ∧ s.createFault 0 (srcSde 0) 0 vecDesc = none ∧ s.freeEntry 0 = some 0 := by decide

theorem test_desc_free_ready : let s := withDesc vecDesc (ring 1 State.reset)
    s.ringEngine cmd = 1 ∧ s.handleStale 0 0 = none ∧
    (let s := { s with descs := [(0, { DescEntry.init with live := true, freeing := some cmd })] }
    s.Alone cmd ∧ (s.desc 0 0).freeing = some cmd ∧ s.descInUse 0 0 = false) := by decide

/-- ACCEPT of as many as TENTATIVE allows, and REJECT; at once, and after a wait. -/
theorem test_kv_ready : ∀ waited ∈ [false, true],
    let b := desc twrBase 0xA [(8, 0), (8, 8)] true 3 8
    let s := { withDesc b (ring 1 State.reset) with
      descs := [(0, { DescEntry.init with live := true, kv := if waited then [(some 5, cmd), (none, cmd)] else [] })] }
    s.Alone cmd ∧ s.ringEngine cmd = 1 ∧ (s.kvRefused 0 0).2 = none ∧ s.kvWriting 0 0 = false ∧ s.lengths 0 0 = (3, 8) ∧ 3 + 5 ≤ 8 ∧
    s.insts = [] ∧ (s.fetchEntry (.sde 0) (srcSde 0) 0).2.toOption = some (s.entryBytes 0 0) ∧
    (s.desc 0 0).kv = (if waited then [(some 5, cmd), (none, cmd)] else []) := by decide

/-- A change of length that waits for the one before it. -/
theorem test_kv_waits_ready :
    let b := desc twrBase 0xA [(8, 0), (8, 8)] true 3 8
    let s := { withDesc b (ring 1 State.reset) with descs := [(0, { DescEntry.init with live := true, kv := [(none, cmd)] })] }
    s.ringEngine cmd = 1 ∧ (s.kvRefused 0 0).2 = none ∧ (s.desc 0 0).kv ≠ [] := by decide

/-! ### The stream engine -/

/-- The last 64 bytes of a Tower's memory, and all of companion memory. -/
theorem test_move_ready : let s := ring 1 State.reset
    s.ringEngine cmd = 1 ∧ s.idleChannel 0 = some 0 ∧
    s.rangeFault 0 [(twrBase + towerSize - 64, 64), (2 ^ 48 - 64, 64)] = none ∧ s.rangeFault 0 [(2 ^ 47, 2 ^ 47)] = none ∧
    s.rangeFault 0 [(2 ^ 48 - 1, 0), (0, 0)] = none ∧ s.Alone cmd := by decide

/-- The nest of a walk over 64 elements: the order of `loaderNest`'s identity, texts of 64, 1, ... -/
def nest : List Byte := leBytes 4 0 ++ leBytes 3 0o543210 ++ leBytes 1 0 ++ (List.range 6).flatMap (fun _ => leBytes 3 64) ++ leBytes 6 0

/-- A walk in progress. -/
def walk (landed withheld : List Nat) : SeqWalk :=
  { nest := nest, desc := vecDesc, h := 0, dst := 0, dstDesc := vecDesc, nbuf := 1, bstride := 512, semFull := 0, semEmpty := 0,
    pl := none, len := 0, tentative := 0, pos := 1, begun := 1, done := 0, granted := false, waiting := true, cur := none,
    landed := landed, withheld := withheld, failed := none }

theorem test_seq_move_ready : let s := withDesc vecDesc (ring 1 State.reset)
    let d := parseDesc vecDesc
    let n := streamNest nest d 1
    nest.length = 32 ∧ nestPl nest = false ∧ field nest 3 0 = 0 ∧ s.idleChannel 0 = some 0 ∧
    (s.fetchDesc (.sde 0) (srcSde 0) 0).2.toOption = some vecDesc ∧
    ((s.fetchDesc (.sde 0) (srcSde 0) 0).1.fetchDesc (.sde 0) (srcSde 0) 0).2.toOption = some vecDesc ∧ nestOk nest d n = true ∧ n.bound = 0 ∧ 0 < n.total ∧
    (s.region d.region).1 ≤ d.base ∧ d.base + 1 * 512 ≤ (s.region d.region).2 ∧ (walk [] []).maxSpan n ≤ 512 ∧
    (walk [] []).maxSpan n ≤ d.extent.2 + 1 - d.base ∧ 512 % 512 = 0 := by decide

/-- Channel 15 of Spire 0. -/
def busy (c : Nat) (v : Option Bool) (w : ChanWork) (s : State) : State :=
  s.setChannel 0 15 (some { o := cmd, work := w, cls := c, group := 63, verdict := v, bell := 0, abandon := none, note := none, bands := (0, 0) })

/-- A move within a Gallery, one segment before its last. -/
theorem test_segment_ready : let s := busy 0 none (.move 0x4000_0000_0000 0x4000_0000_0800 4096 0) State.reset
    (s.channel 0 15).isSome ∧ 0 + s.segLen 0x4000_0000_0000 0x4000_0000_0800 4096 < 4096 ∧
    s.loc 0x4000_0000_0000 = .gallery 0 0 ∧ s.loc 0x4000_0000_0800 = .gallery 0 0x800 ∧ s.ramErr = [] ∧ s.scrubs 0 = [] ∧
    s.galQueue 0 = [] := by decide

/-- The first and the last segment of a move of 5,000 bytes within a Gallery. -/
theorem test_segment_general_ready : ∀ done ∈ [0, 4096],
    let src := 0x4000_0000_0000
    let dst := 0x4000_0010_0000
    let c : Channel :=
      { o := cmd, work := .move src dst 5000 done, cls := 0, group := 0, verdict := none, bell := 0, abandon := none, note := none,
        bands := (0, 0) }
    let s := (ring 1 State.reset).setChannel 0 15 (some c)
    let m := s.segLen (src + done) (dst + done) (5000 - done)
    let r := s.copySeg 0 0 c (src + done) (dst + done) m (fun s => s.readRange 0 (srcSde 0) (src + done) m false) (fun k => [(dst + done, k)])
    s.segWaits (src + done) m = false ∧ s.segWaits (dst + done) m = false ∧ r.2.fault = none ∧ c.note = none ∧
    r.1.Alone cmd ∧ (done = 0 → done + m < 5000) ∧ (done = 4096 → 5000 ≤ done + m) := by decide

/-- A point that lands in a SPEC group without a verdict, and one whose semaphore has one post left. -/
theorem test_point_ready : ∀ c ∈ [1, 2], let s := { busy c none (.seq (walk [256] [])) State.reset with sems := [(0, { Sem.init with count := 65534 })] }
    ((s.channel 0 15).map (·.cls)) = some c ∧ (walk [256] []).landed = 256 :: [] ∧ (walk [256] []).waiting = true ∧
    bits (walk [] []).semFull 13 12 = 0 ∧ (s.sem 0 0).count < 65535 ∧
    (s.postFull 0 { walk [] [] with done := 1 }).2 = none := by decide

theorem test_prefetch_ready : let s := { busy 2 none (.seq (walk [] [256])) (ring 1 State.reset) with bellNum := 1 }
    s.Alone cmd ∧ s.ringEngine cmd = 1 ∧ s.channelsWith 0 (fun c => c.ofGroup 63 false) = [] ∧
    s.channelsWith 0 (fun c => c.ofGroup 63 true) = [15] ∧ ((s.channel 0 15).map (·.bell)) = some 0 ∧ 0 < s.bellNum ∧
    (s.postTimes (fun t => t.postFull 0 (walk [] [256])) 1).2 = none := by decide

/-! ### Loads, launches, collectives -/

theorem test_im_load_command_ready : ∀ n ∈ [4, 1280], let s := ring 1 State.reset
    let r := s.readRange 0 (srcSde 0) (2 ^ 48 - n) n false
    (s.slotsOf 0 0x8001).Nodup ∧ s.slotsOf 0 0x8001 ≠ [] ∧ s.rangeFault 0 [(2 ^ 48 - n, n)] = none ∧ r.fault = none ∧
    r.s.towers = s.towers ∧ r.s.slotsOf 0 0x8001 = s.slotsOf 0 0x8001 ∧
    (∀ g ∈ s.slotsOf 0 0x8001, (s.tower g).active ≠ true ∧ (s.tower g).swapPend = none ∧ ((s.tower g).ep 15).build = none ∧
      ((s.tower g).ep 15).next = none) := by decide

theorem test_launch_ready : let s := ring 3 State.reset
    s.ringEngine cmd = 3 ∧ (s.slotsOf 0 0xFFFF).Nodup ∧ s.slotsOf 0 0xFFFF ≠ [] ∧ s.slotsOf 0 0 = [] ∧ s.Alone cmd := by decide

/-- 64 elements of FP32 in companion memory. -/
abbrev compDesc : List Byte := desc (2 ^ 47) 0xA [(64, 0)]

/-- A collective of two elements with the neighbour on port 0. -/
def pairUp (s : State) : State := (s.setReg (Reg.butPeer 0) 1).setReg (Reg.butStatus 0) 1

theorem test_collective_ready : let s := pairUp (withDesc compDesc (ring 4 State.reset))
    let d := parseDesc compDesc
    let r2 := s.fetchDesc (.sde 0) (srcSde 0) 0
    let r3 := r2.1.fetchDesc (.sde 0) (srcSde 0) 0
    let u := r3.1.readCells 0 d 0 2
    s.ringEngine cmd = 4 ∧ s.freeColl 0 = some 0 ∧ s.badTopology 1 = none ∧ 2 % 2 ^ (collDims 1).length = 0 ∧
    r2.2.toOption = some compDesc ∧ r3.2.toOption = some compDesc ∧ d.fmt = collFmt 1 ∧ collWords 1 * 2 ≤ d.total ∧
    (∀ x ∈ collDims 1, s.portUp x = true) ∧ u.2 = (List.replicate 8 0, none) ∧
    (u.1.writeCells 0 0 d 0 (packVals 1 ((unpackVals 1 2 u.2.1).take 2))).2.2 = none ∧
    (u.1.writeCells 0 0 d 0 (packVals 1 ((unpackVals 1 2 u.2.1).take 2))).1.Alone cmd ∧
    (let own := ownRange u.1.node 2 (collDims 1)
    (u.1.writeCells 0 0 d (collWords 1 * own.1) (packVals 1 (((unpackVals 1 2 u.2.1).drop own.1).take own.2))).2.2 = none) := by decide

/-- A collective with the exchanges `steps` before it. -/
def coll (vals : List Nat) (lo len : Nat) (steps : List (Nat × Bool)) (s : State) : State :=
  { s with colls := [(15, some { o := cmd, kind := 0, fmt := 1, cmb := 0, mask := 1, src := 0, dst := 0, dstDesc := compDesc, vals := vals,
                                 lo := lo, len := len, steps := steps, delivered := 0, bands := (0, 0) })] }

theorem test_coll_halve_ready : let s := pairUp (coll [1, 2] 0 2 [(0, false), (0, false)] State.reset)
    ((s.coll 0 15).map (·.steps)) = some [(0, false), (0, false)] ∧ [(0, false)].any (fun e => !e.2) = true ∧
    (List.replicate 4 (0 : Byte)).length = collBytes 1 * (2 / 2) ∧ 0 + 2 ≤ [1, 2].length := by decide

theorem test_coll_double_ready :
    let s := pairUp (coll [1, 2] 0 1 [(0, true), (0, true)] (withDesc compDesc (ring 4 State.reset)))
    let vals := patchVals [1, 2] 1 (unpackVals 1 1 (List.replicate 4 0))
    ((s.coll 0 15).map (·.steps)) = some ((0, true) :: [(0, true)]) ∧ bit s.node 0 = false ∧
    (s.underBands 0 (0, 0) (fun s => s.writeCells 0 0 (parseDesc compDesc) (collWords 1 * 1)
      (packVals 1 ((vals.drop 1).take 1)))).2.2 = none := by decide

/-- The last exchange, whose values go to DST. -/
theorem test_coll_last_ready :
    let s := pairUp (coll [1, 2] 0 2 [(0, false)] (withDesc compDesc (ring 4 State.reset)))
    let out := [combine 1 0 (s.seed 0) 1 0]
    let r := s.draw.underBands 0 (0, 0) (fun s => s.writeCells 0 0 (parseDesc compDesc) 0 (packVals 1 (((patchVals [1, 2] 0 out).drop 0).take 1)))
    bit s.node 0 = false ∧ ((s.coll 0 15).map (·.steps)) = some ((0, false) :: []) ∧ r.2.2 = none ∧ r.1.Alone cmd := by decide

theorem test_coll_end_ready : let s := coll [1, 2] 0 2 [(0, false)] State.reset
    ((s.coll 0 15).map (·.steps)) = some [(0, false)] ∧ bit 1 (0 : Fin 8).val = true := by decide

/-! ### Bell-table entries -/

/-- An entry of KIND `k` whose LIST has `n` commands of zeros (NOP) at the base of companion memory; `abandon` its ABANDON. -/
def entry (k n : Nat) (abandon : Nat := 0) : List Byte :=
  [BitVec.ofNat 8 k, 0, BitVec.ofNat 8 abandon, 0] ++ leBytes 2 1 ++ leBytes 4 0 ++ leBytes 4 2000000 ++
    leBytes 6 (if k = 2 then 0 else 2 ^ 47) ++ leBytes 2 n ++ List.replicate 10 0

/-- An instance of the last entry of Spire 0. -/
def run (b : List Byte) : Instance :=
  { bytes := b, bell := 0, started := false, late := false, delay := 0, notRun := false, abandoned := false, past := false,
    count := 0, bad := false, fault := none, miss := none, todo := [], ending := false }

/-- A table entry read from the top of companion memory: off, with START 0 and DEADLINE 2,000,000. -/
theorem test_btab_ready :
    let b := [0, 0, 0, 0] ++ leBytes 2 1 ++ leBytes 4 0 ++ leBytes 4 2000000 ++ List.replicate 18 (0 : Byte)
    let s := { ring 0 State.reset with companion := SMap.setRun (fun _ => 0) [] (2 ^ 47 - 32) b }
    let r := s.seqRead 0 (srcSpire 0 3 0) (2 ^ 48 - 32) 32
    s.ringEngine cmd = 0 ∧ 511 + 1 ≤ 512 ∧ r.2.toOption = some b ∧ r.1.Alone cmd ∧ entOk 511 b = true := by decide

theorem test_entry_start_ready : ∀ b ∈ [entry 1 1, entry 2 0, entry 3 1],
    let i := run b
    let s := { State.reset.setReg (Reg.sprRingCfg 0 0) (2 ^ 31) with insts := [(1023, [i])] }
    s.instances 0 1023 = i :: [] ∧ s.live = true ∧ s.requireWaits 0 1023 i = false ∧
    s.scrubHolds 0 (BitVec.ofNat 16 (entTowers b)) = false ∧ s.ringOn 0 i.ring = true ∧ s.namesRetired 0 (entTowers b) = false ∧
    s.requireOk 0 1023 i = true := by decide

/-- Entries that are late: the first attempt failed, in bell mode. -/
theorem test_entry_late_ready : ∀ b ∈ [entry 2 0, entry 3 1],
    let i : Instance := { run b with late := true }
    let s := { (State.reset.setReg (Reg.sprRingCfg 0 0) (2 ^ 31)).setReg (Reg.belCtl 0) 2 with insts := [(1023, [i])] }
    s.instances 0 1023 = i :: [] ∧ s.bellMode 0 = true ∧ s.requireWaits 0 1023 i = false ∧
    s.scrubHolds 0 (BitVec.ofNat 16 (entTowers b)) = false ∧ s.ringOn 0 i.ring = true ∧ s.namesRetired 0 (entTowers b) = false := by
  decide

theorem test_entry_list_ready :
    let i := run (entry 1 1)
    let s := { ring 4 State.reset with insts := [(1023, [i])] }
    entKind i.bytes = 1 ∧
    ((s.setInstances 0 1023 [{ i with started := true }]).readList 0 (entCseq 1023 0)
      { left := entCount i.bytes, idx := 0, addr := entList i.bytes }).2.toOption.isSome = true := by decide

theorem test_deadline_ready :
    let i := run (entry 1 1)
    let s := { State.reset.setReg (Reg.belCtl 0) 2 with insts := [(1023, [i])] }
    s.instances 0 1023 = i :: [] ∧ i.bell = s.bellNum ∧ s.bellMode 0 = true ∧ State.reset.bellMode 0 = false ∧ entKind i.bytes ≠ 2 ∧
    entAbandon i.bytes = false := by decide

/-- A LIST that is abandoned at its deadline, and a SEAL_WINDOW that nothing uses. -/
theorem test_deadline_ends_ready : ∀ b ∈ [entry 1 1 1, entry 2 0],
    let i : Instance := { run b with started := true }
    let s := { State.reset.setReg (Reg.belCtl 0) 2 with insts := [(1023, [i])] }
    s.instances 0 1023 = i :: [] ∧ i.bell = s.bellNum ∧ s.bellMode 0 = true ∧ (s.runq (entryKey 0 1023)).running = [] ∧
    s.windowBusy 0 1023 = false ∧ (entKind b = 2 ∨ (entKind b = 1 ∧ entAbandon b = true)) := by decide

theorem test_entry_end_ready :
    let i := { run (entry 1 1) with started := true }
    let s := { ring 4 State.reset with insts := [(1023, [i])] }
    s.instances 0 1023 = i :: [] ∧ s.instanceDone 0 1023 i = true ∧ s.compRoom 0 i.ring 1 = true := by decide

end Sys2Proof.Tests
end

