-- ==== Sys2Proof/Tests/Events.lean ====
section
/-!
SUPPORT. States and operands that meet the hypotheses of the statements about rings, semaphores, bells, the Carillon, the
links, the Keystone, repairs and power.
-/
namespace Sys2Proof.Tests
open Sys2Proof Sys2Proof.Machine

set_option maxRecDepth 100000

/-! ### Rings and semaphores -/

/-- Ring 15 of Spire 0 enabled, its lines in companion memory, `q` its counters. -/
def enabled (q : Ring := Ring.init) : State :=
  { ((((ring 0 State.reset).setFld (Reg.sprRingCfg 0 15) 31 31 1).setReg (Reg.sprRingBase 0 15) (2 ^ 47 + 0x1000)).setReg
    (Reg.sprRingTailLine 0 15) (2 ^ 47 + 0x2000)).setReg (Reg.sprRingHeadLine 0 15) (2 ^ 47 + 0x2040) with
    rings := [(15, q)] }

/-- A TAIL that the ring can hold, and one beyond it. -/
theorem test_tail_ready : let s := enabled
    s.alxUp = true ∧ State.reset.alxUp = false ∧ 2 ^ 47 ≤ s.reg (Reg.sprRingTailLine 0 15) ∧ s.ringOn 0 15 = true ∧ State.reset.ringOn 0 15 = false ∧
    ¬ ((1 : Word).toNat < (s.ring 0 15).tail ∨ s.ringSize 0 15 < (1 : Word).toNat - (s.ring 0 15).fetched) ∧
    s.ringSize 0 15 < (0x10_0001 : Word).toNat - (s.ring 0 15).fetched ∧ (s.ring 0 15).tailBad = false ∧
    ((enabled { Ring.init with tailBad := true }).ring 0 15).tailBad = true := by decide

theorem test_fetch_ready : let s := enabled { Ring.init with tail := 1 }
    s.fetchOpen = true ∧ s.ringOn 0 15 = true ∧ (s.ring 0 15).stopped = false ∧
    ((s.runq (ringKey 0 15)).queue.filter (fun c => c.lidx = 0xFFFF)).length < 16 ∧ s.inflight 0 15 < 32 ∧
    (s.ring 0 15).tail = (s.ring 0 15).fetched + 1 ∧ 2 ^ 47 ≤ s.reg (Reg.sprRingHeadLine 0 15) ∧
    cmdSlots (byteAt (s.companionRead (s.reg (Reg.sprRingBase 0 15)) 64) 0) = 1 := by decide

/-- A NOP at the head of the queue. -/
theorem test_command_start_ready :
    let c : Cmd := { bytes := List.replicate 64 0, cseq := 0, lidx := 0xFFFF }
    let x : Runner := { sp := 0, r := 15, entry := none }
    let s := { enabled with runs := [(ringKey 0 15, { RunQ.init with queue := [c] })] }
    (s.runq (ringKey 0 15)).queue = c :: [] ∧ s.serving = true ∧ s.ringHolds x = false ∧ s.refusalOf x c = none ∧
    s.fenceFlagOk x c = true ∧ s.breakFires 0 15 c = none ∧ preOn c = false ∧ s.cmdRetired x c.bytes = false ∧
    s.noPlace x c.bytes = false ∧ s.turn 0 15 (s.engineFor x (byteAt c.bytes 0)) = true := by decide

/-- The last command of an entry's list, of an entry without a list in progress; and what R339's break lets pass. -/
theorem test_entry_command_ready :
    let c : Cmd := { bytes := List.replicate 64 0, cseq := 0, lidx := 0 }
    let x : Runner := { sp := 0, r := 15, entry := some 1023 }
    let s := { enabled with runs := [(x.key, { RunQ.init with queue := [c] })] }
    let u := enabled { Ring.init with brkPassed := true }
    (s.runq x.key).queue = c :: [] ∧ s.serving = true ∧ s.ringHolds x = false ∧ s.refusalOf x c = none ∧
    s.fenceFlagOk x c = true ∧ preOn c = false ∧ x.entry.isSome = true ∧ s.cmdRetired x c.bytes = false ∧
    s.noPlace x c.bytes = false ∧ (u.ring 0 15).brkPassed = true := by decide

/-- The last entry of a completion ring of 16 becomes free: for a command, one that stops its ring, and an entry. -/
theorem test_room_ready : ∀ fin ∈ [RecordEnd.none, .stop, .entry 1023 0 true],
    let q := { Ring.init with compPos := 16, ccons := 1, held := [(0, fin, [List.replicate 32 0])] }
    let s := enabled q
    s.alxUp = true ∧ (s.ring 0 15).held = (0, fin, [List.replicate 32 0]) :: [] ∧ q.compPos + 1 ≤ s.compEntries 0 15 + q.ccons ∧ s.fences = 0 := by decide

theorem test_resume_ready : let s := enabled { Ring.init with stopped := true }
    s.alxUp = true ∧ (s.setReg Reg.alxStatus 0).alxUp = false ∧ s.power.rstLow = false ∧ s.refuses .keystone (Reg.sprRingCtl 0 15) true = false ∧ (s.ring 0 15).stopped = true ∧ s.ringOn 0 15 = true ∧
    (s.ring 0 15).tail ≤ field (s.companionRead (s.reg (Reg.sprRingTailLine 0 15)) 16) 7 0 ∧
    field (s.companionRead (s.reg (Reg.sprRingTailLine 0 15)) 16) 7 0 - (s.ring 0 15).fetched ≤ s.ringSize 0 15 := by decide

/-- RESUME of a ring that is off, and of one whose TAIL lies beyond it. -/
theorem test_resume_bad_ready : let s := enabled { Ring.init with stopped := true, tail := 1 }
    (s.ring 0 15).stopped = true ∧ s.ringOn 0 15 = true ∧
    field (s.companionRead (s.reg (Reg.sprRingTailLine 0 15)) 16) 7 0 < (s.ring 0 15).tail ∧
    (s.setFld (Reg.sprRingCfg 0 15) 31 31 0).ringOn 0 15 = false := by decide

/-- The waiters that are no command. -/
theorem test_grant_others_ready : ∀ who ∈ [WaiterId.pre 15, .preEntry 1023, .stream 67 .x, .channel 15],
    let w : Waiter := { who := who, source := 0, want := 1, since := 0, timeout := 0 }
    let s := { enabled with sems := [(4095, { Sem.init with count := 1, waiters := [w] })] }
    (s.sem 0 4095).waiters = w :: [] ∧ w.want ≤ (s.sem 0 4095).count := by decide

/-- A waiter whose count has just come, and one whose limit has just passed. -/
theorem test_grant_ready : ∀ k ∈ [4, 5],
    let w : Waiter := { who := .cmd cmd, source := 0, want := 5, since := 0, timeout := 255 }
    let s := { enabled with sems := [(4095, { Sem.init with count := k, waiters := [w] })], bellNum := 255 }
    (s.sem 0 4095).waiters = w :: [] ∧ w.who = .cmd cmd ∧ s.Alone cmd ∧
    s.sems.filter (fun e => e.1 = 4096 * 0 + 4095) = [(4096 * 0 + 4095, s.sem 0 4095)] ∧ w.since + w.timeout ≤ s.bellNum ∧
    (if k = 4 then (s.sem 0 4095).count < w.want else w.want ≤ (s.sem 0 4095).count) := by decide

/-- A window that admits the last semaphore's posts by the companion and by Spire 1; the other windows admit none. -/
theorem test_post_write_ready : let s := { ((State.reset.setReg (Reg.semWinCtl 0 15) (2 ^ 31 + 2 ^ 12 + 2)).setReg (Reg.semWinRange 0 15) (4095 * 65536 + 4095)) with
        opened := [.sem 0] }
    s.power.rstLow = false ∧ s.refuses .companion (Reg.semPost 0 4095) true = false ∧ s.refuses .companion (Reg.semCount 0 4095) true = false ∧
    s.refuses (.spire 1) (Reg.semPost 0 4095) true = false ∧ s.refuses (.spire 0) (Reg.semPost 0 4095) true = false ∧
    s.spireRetired 0 = false ∧ s.semWindowHas 0 15 4095 = true ∧ s.semWindowSrc 0 15 12 = true ∧ s.semWindowSrc 0 15 1 = true ∧
    (∀ i < 16, s.semWindowHas 0 i 4094 = false) ∧ (s.sem 0 4095).count + 65535 ≤ 65535 ∧ s.portForbids 4 = false ∧
    (s.setReg Reg.fusePolicy 1).portForbids 4 = true := by decide

/-! ### Bells, patrol, write-combining -/

theorem test_bell_ready : State.reset.live = true ∧ State.reset.bellDue = true ∧
    (State.reset.setReg (Reg.belGen 0) 1).bellDue = false := by decide

/-- The bell generator follows the input (1) or the frames of port 7 (2). -/
theorem test_bell_source_ready : let a := State.reset.setReg (Reg.belGen 0) 1
    let b := State.reset.setReg (Reg.belGen 0) (2 + 7 * 4)
    a.bellSrc = 1 ∧ a.gen.due = false ∧ a.gen.holdover = false ∧ b.bellSrc = 2 ∧ b.fld (Reg.belGen 0) 4 2 = 7 ∧ b.gen.joining = false ∧
    bit ((b.setFld (Reg.belStatus 0) 28 28 1).reg (Reg.belStatus 0)) 28 = true ∧ bit (b.reg (Reg.belStatus 0)) 28 = false ∧
    b.power.rstLow = false ∧ b.refuses .keystone (Reg.belJoin 0) true = false := by decide

/-- The last unit of a pass. -/
theorem test_hbm_patrol_ready :
    let s := ((State.reset.setFld (Reg.hbmCtl 31) 0 0 1).setReg (Reg.hbmStatus 31) 1).setReg (Reg.hbmPatrolPos 31) 589823
    bit (s.reg (Reg.hbmCtl 31)) 0 = true ∧ s.trained 31 = true ∧ bit (s.reg (Reg.hbmStatus 31)) 1 = false ∧ s.hbmErr = [] ∧
    s.fld (Reg.hbmPatrolPos 31) 19 0 + 1 = 589824 := by decide

theorem test_wcb_ready : let l : WcbLine := { stack := 31, addr := 64, bytes := [(63, 1)], mask := BitVec.allOnes 64, req := 0 }
    let s := { State.reset with wcb := [(3, [l])] }
    s.lines 3 = l :: [] ∧ l.stack / 8 = 3 ∧ l.mask = BitVec.allOnes 64 := by decide

/-- A line of one byte, of a trained stack. -/
theorem test_wcb_partial_ready : let l : WcbLine := { stack := 31, addr := 64, bytes := [(63, 1)], mask := 1 <<< 63, req := 0 }
    let s := { State.reset.setReg (Reg.hbmStatus 31) 1 with wcb := [(3, [l])] }
    s.lines 3 = l :: [] ∧ l.addr % 64 = 0 ∧ l.mask ≠ BitVec.allOnes 64 ∧ s.trained 31 = true ∧ s.hbmErr = [] := by decide

/-! ### The Carillon -/

/-- Source 255 of the Keystone's Carillon is pending with priority 15, enabled for target `t`. -/
def pendingLast (t : Nat) : State :=
  (State.reset.setReg (Reg.carPendSet 4 3) (2 ^ 63)).setReg (Reg.carSrcCfg 4 255) (0x8F + 16 * t)

theorem test_carillon_ready : let s := State.reset
    hardSource 4 255 = true ∧ hardSource 3 1023 = true ∧ hardSource 3 112 = false ∧ hardSource 4 32 = false ∧ s.power.rstLow = false ∧
    s.refuses .keystone (Reg.carPendSet 4 0) true = false ∧
    s.refuses .keystone (Reg.carPendClr 4 0) true = false ∧ s.refuses .keystone (Reg.carTClaim 4 1) false = false ∧
    s.refuses .keystone (Reg.carTComplete 4 1) true = false ∧ s.bestSource 4 1 = none := by decide

theorem test_carillon_claim_ready : ((pendingLast 1).bestSource 4 1) = some (255, 15) := by decide

theorem test_carillon_message_ready : let s := ((pendingLast 2).setReg (Reg.carMsgAddr 4) (2 ^ 48 - 4)).setReg Reg.alxStatus 1
    s.bestSource 4 2 = some (255, 15) ∧ bit (s.reg (Reg.carMsgStatus 4)) 0 = false ∧ s.alxUp = true ∧ 2 ^ 47 ≤ s.reg (Reg.carMsgAddr 4) := by
  decide

theorem test_carillon_complete_ready : let s := { State.reset with carStacks := [(13, [(0, 15), (1, 14)])] }
    s.carStack 4 1 = (0, 15) :: [(1, 14)] ∧ s.carStack 4 2 = [] := by decide

/-! ### Alxis and the Buttress -/

/-- Alxis up, with its encryption on; and in training. -/
theorem test_alxis_ready : let s := (State.reset.setReg Reg.alxStatus 1).setReg Reg.alxCryptCtl (2 ^ 31)
    s.alxUp = true ∧ bit (s.reg Reg.alxCryptCtl) 31 = true ∧ State.reset.alxUp = false ∧
    ({ s with training := [(8, true)] }).isTraining 8 = true ∧ s.power.rstLow = false ∧ s.refuses .keystone Reg.alxCtl true = false := by decide

/-- Accesses to the last bytes of a Gallery and of a Tower's memory, and to untrained HBM in and outside a window. -/
theorem test_aperture_ready :
    let s := ((((State.reset.setReg Reg.alxStatus 1).setReg (Reg.twrMemCtl 0) 0).setReg (Reg.twrWinLimit 0 63) towerSize).setReg
      (Reg.twrWinCtl 0 63) (2 ^ 31 + 2 ^ 12)).setReg (Reg.alxHbmwinLimit 7) (2 ^ 63 + 4096)
    let a := 0x4000_0000_0000 + gallerySize - 64
    let g := galleryRegs 0
    let u := ((s.setReg g.mode 0).setReg (g.limit 0) gallerySize).setReg (g.ctl 0) (2 ^ 31 + 2 ^ 12)
    s.apertureOk a 64 = true ∧ (s.readRange 0 0x4600 a 64 true).fault = none ∧ s.apertureOk (2 ^ 47) 1 = false ∧
    s.apertureOk (twrBase + towerSize - 64) 64 = true ∧ s.loc (twrBase + towerSize - 64) = .tower 0 (towerSize - 64) ∧
    s.creditMode (towerRegs 0) = false ∧
    s.windowRefusal (towerRegs 0) { x := 12, source := 0x4600, node := 0xFFFF, gen := 0 } (towerSize - 64) 64 = none ∧
    u.creditMode g = false ∧ u.loc a = .gallery 0 (gallerySize - 64) ∧
    u.windowRefusal g { x := 12, source := 0x4600, node := 0xFFFF, gen := 0 } (gallerySize - 64) 64 = none ∧
    s.loc 4032 = .hbm ∧ s.hbmWindowHas 4032 64 = true ∧ s.hbmWindowHas 4033 64 = false ∧ s.apertureOk 4032 64 = true := by decide

/-- Reads of a stack that is not trained and of a bank that is Off fault; without a window a write is refused. -/
theorem test_aperture_refused_ready :
    let s := ((State.reset.setReg Reg.alxStatus 1).setReg (Reg.twrMemCtl 0) 0).setReg (galleryRegs 0).mode 0
    let sd : Sender := { x := 12, source := 0x4600, node := 0xFFFF, gen := 0 }
    s.apertureOk 4032 64 = true ∧ (s.readRange 0 0x4600 4032 64 true).fault.isSome = true ∧ s.loc 4032 = .hbm ∧
    s.apertureOk twrBase 1 = true ∧ (s.readRange 0 0x4600 twrBase 1 true).fault.isSome = true ∧ s.loc twrBase = .tower 0 0 ∧
    (s.packetCheck (towerRegs 0) sd 0 1).2.isSome = true ∧ s.apertureOk 0x4000_0000_0000 1 = true ∧
    s.loc 0x4000_0000_0000 = .gallery 0 0 ∧ (s.packetCheck (galleryRegs 0) sd 0 1).2.isSome = true := by decide

/-- A packet to another node over port 7. -/
theorem test_forward_ready : let s := (State.reset.setReg (Reg.butRoute 6 0) 0x70).setReg (Reg.butStatus 7) 1
    (1 : BitVec 14).toNat ≠ s.node ∧ s.route 7 1 = 7 ∧ s.portUp 7 = true ∧ (0 : BitVec 14).toNat = s.node := by decide

/-- A PEER_MOVE of 4,096 bytes of companion memory over port 7, `sent` of it sent, in channel 15. -/
def peer (sent : Nat) : State :=
  (({ State.reset with bellNum := 2 }.setReg (Reg.butStatus 7) 1).setReg Reg.alxStatus 1).setChannel 0 15 (some {
    o := cmd, work := .peer (2 ^ 47) 7 1 0 0 4096 sent 0 0 0, cls := 0, group := 0, verdict := none, bell := 0, abandon := none,
    note := none, bands := (0, 0) })

/-- The port is down: a packet of the PEER_MOVE in channel 15 that is to go out there is unreachable. -/
theorem test_unreachable_ready : let s := ((peer 0).setReg (Reg.butRoute 6 0) 0x70).setReg (Reg.butStatus 7) 0
    (1 : BitVec 14).toNat ≠ s.node ∧ s.route 6 1 = 7 ∧ s.portUp 7 = false ∧ (s.channel 0 15).isSome = true ∧
    State.reset.peersOn 7 (fun sent acked _ _ => acked < sent) = [] ∧ State.reset.peersOn 7 (fun sent _ len _ => sent < len) = [] := by
  decide

theorem test_ack_ready : ((peer 4096).peersOn 7 (fun sent acked _ _ => acked < sent)).length = 1 ∧
    min 4096 (0 + (4095 : BitVec 48).toNat) ≠ 4096 ∧ min 4096 (0 + (4096 : BitVec 48).toNat) = 4096 ∧
    min 4095 (0 + (4095 : BitVec 48).toNat) = 4095 := by decide

theorem test_grant_credit_ready : let s := peer 0
    let c : Channel := { o := cmd, work := .peer (2 ^ 47) 7 1 0 0 4096 0 0 4096 2, cls := 0, group := 0, verdict := none, bell := 0,
                         abandon := none, note := none, bands := (0, 0) }
    let s1 := s.setChannel 0 15 (some c)
    let r := s1.underBands 0 (0, 0) (fun w =>
      let r := w.readRange 0 (srcSde 0) (2 ^ 47) 4096 false
      (r.s, r.bytes, r.fault))
    (s.peersOn 7 (fun sent _ len _ => sent < len)).length = 1 ∧ s.portUp 7 = true ∧ s1.segWaits (2 ^ 47) 4096 = false ∧
    4096 ≤ s1.segLen (2 ^ 47) (2 ^ 47) 4096 ∧ r.2.2 = none ∧ r.1 = s1 ∧ r.2.1.length = 4096 ∧ 0 + 2 ≤ s.bellNum := by decide

/-- A link that came up narrow grows only by RETRAIN (R396); with 8 lanes left it is x8. -/
theorem test_retrain_width :
    let s := State.reset.setReg Reg.alxStatus 0x41
    s.retrainCode 32 = 1 ∧ (s.setReg Reg.alxCtl 1).retrainCode 32 = 0 ∧ s.retrainCode 8 = 2 ∧ State.reset.retrainCode 32 = 0 := by
  decide

/-- Lanes: one of 17 with a spare, one of 17 without, one of 16. -/
theorem test_lanes_ready : let s := (State.reset.setReg (Reg.butStatus 7) (1 + 17 * 4)).setReg (Reg.butLaneMap 7) 0xFFFF
    let u := (State.reset.setReg (Reg.butStatus 7) (1 + 17 * 4)).setReg (Reg.butLaneMap 7) 0
    s.portLanes 7 - 1 = 16 ∧ s.spareLanes 7 ≠ 0 ∧ u.spareLanes 7 = 0 ∧ bit (u.reg (Reg.butStatus 7)) 1 = false ∧
    (State.reset.setReg (Reg.butStatus 7) (1 + 16 * 4)).portLanes 7 - 1 < 16 ∧ s.portUp 7 = true ∧
    s.peersOn 7 (fun sent acked _ _ => acked < sent) = [] ∧ s.colls = [] := by decide

/-! ### The Keystone -/

/-- Operands of a public-key command in companion memory, on a free engine. -/
def pkeArgs : PkeArgs := { engine := 0, slot := 15, inp := 2 ^ 47, out := 2 ^ 47, mlen := 1, msg := 2 ^ 47, sub := 0 }

theorem test_pke_ready : let s := ring 8 State.reset
    s.ringEngine cmd = 8 ∧ s.pkeFor pkeArgs = some 0 ∧
    ∀ op ∈ (List.range 12).map (fun k => 0x90 + k), op ≠ 0x9A → s.pkeUnmapped op pkeArgs = none ∧
      (s.pkeGet cmd 0 (2 ^ 47) (pkeInLen op 0)).2.1 = none ∧ (s.pkeGet cmd 0 (2 ^ 47) (pkeMsgLen op pkeArgs)).2.1 = none := by decide

/-- No engine is free; a key that lies in no memory; and an engine that verifies a manifest. -/
theorem test_pke_refused_ready : let s := ring 8 State.reset
    let b : BindJob := { o := cmd, index := 0, manifest := [], comp := 0, engine := 2 }
    let u := { s with binds := [b] }
    (s.setReg (Reg.pkeStatus 0) 0).pkeInactive 1 = true ∧ s.pkeInactive 1 = false ∧
    (s.setReg (Reg.pkeStatus 0) 3).pkeFor { pkeArgs with engine := 1 } = some 0 ∧ s.pkeInactive 0 = false ∧
    ((s.setReg (Reg.pkeStatus 0) 0).setReg (Reg.pkeStatus 1) 0).pkeFor pkeArgs = none ∧
    (s.pkeUnmapped 0x90 { pkeArgs with inp := 0xFFFF_FFFF_FFFF }).isSome = true ∧ u.pke 2 = none ∧
    u.binds.find? (fun e => e.engine = 2) = some b ∧ u.pkeBinds 0 = false := by decide

/-- VALIDATE of an Ed448 key. -/
theorem test_pke_validate_ready : let s := ring 8 State.reset
    s.pkeUnmapped 0x9A pkeArgs = none ∧ (s.pkeGet cmd 0 (2 ^ 47) (pkeInLen 0x9A 0)).2.1 = none := by decide

/-- An operation of the last engine. -/
theorem test_pke_events_ready : ∀ v ∈ [false, true],
    let c : PkeOp := { o := cmd, opcode := 0x98, p := pkeArgs, inp := [], msg := [], valid := v, sample := [] }
    let s := { ring 8 State.reset with pkes := [(2, some c)] }
    s.pke 2 = some c ∧ s.Alone c.o ∧ s.slotInUse 2 c.p.slot.toNat = false ∧ s.pke 0 = none ∧ usesPrivate 0x91 = true ∧
    s.refuses .keystone (Reg.pkeCtl 2) true = false ∧ s.refuses .keystone (Reg.pkeCtl 0) true = false := by decide

theorem test_boot_ready : ∀ l ∈ [lcRaw, lcScrap, lcRma], let s := State.reset.setReg Reg.fuseLifecycle l
    s.live = true ∧ s.reg Reg.keyBootStatus = 0 ∧ s.lifecycle = l ∧ s.power.train = none := by decide

theorem test_management_ready : State.reset.power.rstLow = false ∧
    State.reset.refuses .management Reg.pwrStatus false = false ∧
    gives (exec (.registerWrite .management (BitVec.ofNat 36 (Reg.carPendClr 0 0)) 0) State.reset) (fun _ => true) = true := by decide

/-! ### Repairs -/

theorem test_replace_ready : let s := State.reset
    let u := s.setReg (Reg.sprTwrSpare 3) 0x1F
    s.logicalOf 51 = some 0 ∧ s.live = true ∧ s.sealHolds 51 = false ∧ s.spireRetired 3 = false ∧ s.replaces = [] ∧
    s.reg (Reg.sprTwrSpare 3) < 17 ∧ u.logicalOf 51 = some 0 ∧ u.live = true ∧ 17 ≤ u.reg (Reg.sprTwrSpare 3) ∧
    s.logicalOf 67 = none ∧ s.fld Reg.keyCulletPool (16 * 3 + 13) (16 * 3 + 12) ≤
      ((({ s with galFix := [(3, 0), (3, 1), (3, 2), (3, 3)] } : State).galFix).filter (fun e => e.1 = 3)).length := by decide

/-- The last row of the last bank, with 15 and with 16 spare rows in use. -/
theorem test_row_repair_ready : ∀ k ∈ [15, 16],
    let s := tower (fun t => { t with spareRows := List.replicate k (63, 0) })
    s.live = true ∧ bits (0x1FDFF : BitVec 17).toNat 10 0 < 1536 ∧ bits (0x1FDFF : BitVec 17).toNat 16 11 = 63 ∧
    ((s.tower 0).spareRows.filter (fun x => x.1 = 63)).length = k := by decide

theorem test_gallery_repair_ready : let s := State.reset
    s.spireRetired 3 = false ∧ s.galFix.contains (3, 63) = false ∧
    (s.galFix.filter (fun e => e.1 = 3)).length < s.fld Reg.keyCulletPool (16 * 3 + 13) (16 * 3 + 12) := by decide

theorem test_expander_ready : let s := State.reset
    let u := s.setReg Reg.keyCulletPool 0
    s.live = true ∧ bit (s.reg Reg.keyCulletPool) (16 * 3 + 14) = true ∧ u.live = true ∧ bit (u.reg Reg.keyCulletPool) (16 * 3 + 14) = false ∧
    u.usersOf 3 0 ≠ [] := by decide

/-- Engine 0 has failed; the spare brings it back (here with and without a spare). -/
theorem test_pke_spare_ready :
    let t := ((State.reset.setReg (Reg.pkeStatus 0) 0).setReg (Reg.pkeStatus 1) 2).setReg (Reg.pkeStatus 2) 0
    let s := t.setReg Reg.keyCulletPool2 1
    s.live = true ∧ s.pkeActive 0 = false ∧ s.pkeActive 2 = false ∧ (∀ k < 2, k ≠ 0 → s.pkeActive k = true) ∧
    bit (s.reg Reg.keyCulletPool2) 0 = true ∧ bit ((s.setReg Reg.keyCulletPool2 0).reg Reg.keyCulletPool2) 0 = false := by decide

theorem test_retire_ready : let s := State.reset
    s.live = true ∧ s.spireRetired 3 = false ∧ s.runs = [] ∧ s.seals = [] ∧ s.launches = [] ∧ s.insts = [] := by decide

/-! ### Power -/

theorem test_idle_ready : let s := State.reset.setReg Reg.pwrIdleCtl 0x7F
    s.live = true ∧ s.towerIdle 67 = true ∧ (s.tower 67).power = .on ∧ bit (s.reg Reg.pwrIdleCtl) 6 = true ∧
    bit (s.reg (Reg.hbmStatus 31)) 1 = false ∧ s.lines 3 = [] ∧ bit (s.reg Reg.pwrIdleCtl) 5 = true ∧ s.spireIdle 3 = true ∧
    s.supply 3 = .on := by decide

theorem test_standby_ready : let s := { State.reset with power := { PowerState.init with spires := [(0, .ret), (1, .ret), (2, .ret), (3, .lost)] } }
    s.live = true ∧ (∀ sp < 4, s.supply sp ≠ .on) ∧ s.power.flowStop = false ∧ s.supply 0 = .ret := by decide

theorem test_throttle_ready : let s := { State.reset with power := { PowerState.init with throttle := [(3, 1)], cap := [(3, 3)] } }
    s.live = true ∧ 100 ≤ (100 : BitVec 8).toNat ∧ (94 : BitVec 8).toNat < 95 ∧ SMap.get (fun _ => 0) s.power.cap 3 ≤ 3 ∧
    SMap.get (fun _ => 0) s.power.throttle 3 ≠ 0 := by decide

theorem test_power_ready : let s := (State.reset.setReg Reg.pwrStatus 1).setReg Reg.keyBootStatus (2 ^ 31)
    s.power.rstLow = false ∧ s.power.pwrOk = true ∧ s.wcb = [] ∧ bit (s.reg Reg.pwrStatus) 0 = true ∧
    s.fld Reg.keyBootStatus 31 30 = 2 ∧ s.launches = [] ∧ s.seals = [] ∧ s.power.capWait = none ∧
    ({ State.reset with power := { PowerState.init with rstLow := true } }).power.rstLow = true := by decide

end Sys2Proof.Tests
end

