-- ==== Sys2Proof/Tests/Igkel.lean ====
section
/-!
SUPPORT. Igkel words written out by hand from the formats and the table of R165 to R174, the chapter's own examples among them.
-/
namespace Sys2Proof.Tests
open Sys2Proof Sys2Proof.Machine

/-- The words of the chapter's example (06, Encoding examples). -/
theorem test_igkel_examples : igkel 0 .x 0x0011_2483 0 = .li ix 9 0x112 ∧
    igkel 0 .x 0x4000_01FF 0x02A4_0201 = .li (il .x 0x100 1) 4 0x02A40 ∧
    igkel 0 .x 0x0008_587F 0x0009_1800 = .mmaH4 { ix with long := some { tag := 0x21, x := 0, y := 0 } } 0 0 true 1 true true ∧
    igkel 0 .a 0x0005_0820 0 = .tld ia 0 1 5 0 := by decide

theorem test_igkel_scalar : igkel 0 .a 0x0004_1181 0 = .add ia 3 1 2 ∧ igkel 0 .a 0x0244_1181 0 = .mulh ia 3 1 2 ∧
    igkel 0 .a 0xFFCC_2084 0 = .ldWu ia 1 (-4) 2 ∧ igkel 0 .a 0x0086_2085 0 = .stD ia 1 8 2 ∧
    igkel 0 .a 0xFFFE_208A 0 = .blt ia 1 2 (-1) ∧ igkel 0 .a 0x0000_208C 0 = .jal ia 1 2 ∧ igkel 0 .a 0x0000_500D 0 = .jr ia 5 := by
  decide

theorem test_igkel_control : igkel 0 .x 0x0080_0090 0 = .csrr ix 1 0x800 ∧ igkel 0 .x 0x0000_2091 0 = .excRet ix 1 ∧
    igkel 0 .x 0x0000_0092 0 = .fenceCp ix ∧ igkel 0 .x 0x000C_0292 0 = .imswapB ix 3 ∧ igkel 0 .x 0x0000_0192 0 = .halt ix ∧
    igkel 0 .x 0x0004_1019 0 = .semw ix 1 2 ∧ igkel 0 .x 0x0000_021A 0 = .bellw ix 4 := by decide

theorem test_igkel_queue : igkel 0 .a 0x0405_0820 0 = .tldT ia 0 1 5 0 false ∧ igkel 0 .a 0x0C05_0820 0 = .tldT ia 0 1 5 0 true ∧
    igkel 0 .a 0x8000_107F 0x0005_0800 = .sequencedTld (il .a 0x200) 0 1 5 0 0 ∧ igkel 0 .a 0x0062_0826 0 = .put ia 1 2 3 := by
  decide

theorem test_igkel_tile : igkel 0 .x 0x0004_90B4 0 = .tcfg ix 2 1 9 ∧ igkel 0 .x 0x020B_50B8 0 = .vopMul ix 0 1 0x35 2 none ∧
    igkel 0 .x 0x8308_10B9 0 = .vmulm ix 1 1 2 3 none ∧ igkel 0 .x 0x000B_223A 0 = .vredColMax ix 4 2 true 0 ∧
    igkel 0 .x 0x0003_6D3B 0 = .eprg ix 3 0xA true 6 ∧ igkel 0 .x 0x0000_53BD 0 = .vpush ix 5 7 := by decide

/-- An unassigned FN, an unassigned opcode and an OPC of 0x7F: OPCODE (R166, R167). -/
theorem test_igkel_unassigned : igkel 0 .a 0x0284_1181 0 = .add { ia with rsv := true } 3 1 2 ∧
    igkel 0 .a 0 0 = .fence { ia with rsv := true } ∧ igkel 0 .a 0x0000_3FFF 0 = .fence { il .a 0 with rsv := true } := by decide

end Sys2Proof.Tests
end

