-- ==== Sys2Proof/Tests/Keys.lean ====
section
/-!
SUPPORT. States and operands that meet the hypotheses of the statements about sessions, keys, parameter sets and sealed
operations.
-/
namespace Sys2Proof.Tests
open Sys2Proof Sys2Proof.Machine

set_option maxRecDepth 100000

/-! ### Sessions -/

/-- A context in state `st` that names parameter set 31 and has one page. -/
def context (st : Nat) : List Byte :=
  patch (patch (patch (List.replicate 256 0) 0 [BitVec.ofNat 8 st, 31]) 80 (leBytes 8 (2 ^ 47))) 144 (leBytes 4 1)

/-- The last session, in state `st`; a region over the first of companion memory; set 31 of Spire 0 valid; engine SES. -/
def session (st : Nat) (e : Nat := 9) : State :=
  { ring e State.reset with
    sess := [(16383, context st)], psets := [(31, { PsetSlot.init with valid := true })], regions := [(0, 2 ^ 47, 2 ^ 47 + 2 ^ 30)] }

/-- The base point of Ed448. -/
def basePoint : List Byte :=
  leBytes 56 298819210078481492676017930443930673437544040154080242095928241372331506189835876003536878655418784733982303233503462500531545062832660 ++ [0]

theorem test_sess_open_ready : let s := session 0
    s.Alone cmd ∧ s.ringEngine cmd = 9 ∧ ctxState (s.ctx 16383) = 0 ∧ (s.pset 0 31).valid = true ∧
    outside (s.region 0) (2 ^ 47) 64 = none ∧ outside (s.region 0) (2 ^ 47 + 2 ^ 30 - 64) 64 = none ∧
    s.fld Reg.fuseLifecycle 2 0 ≠ 3 ∧ firstStatus (edPointBad basePoint) = 0 ∧ s.pkeAny = some 0 ∧
    ((s.setReg (Reg.pkeStatus 0) 0).setReg (Reg.pkeStatus 1) 0).pkeAny = none := by decide

theorem test_sess_policy_ready : ∀ st ∈ [1, 2], (session st).Alone cmd ∧ (session st).ringEngine cmd = 9 ∧
    ctxState ((session st).ctx 16383) = st := by decide

theorem test_sess_query_ready : let s := session 1
    (s.keyPut cmd (2 ^ 48 - 256) (s.ctx 16383)).2 = none ∧ (s.keyPut cmd (2 ^ 48 - 256) (s.ctx 16383)).1.Alone cmd ∧
    s.loc (2 ^ 48 - 256) = .companion (2 ^ 47 - 256) := by decide

theorem test_sess_bind_ready : let s := session 1
    (s.keyGet cmd (2 ^ 47) 202).2.toOption.isSome = true ∧ ctxState (s.ctx 16383) = 1 ∧ s.pkeAny = some 0 := by decide

theorem test_bind_verify_ready :
    let b : BindJob := { o := cmd, index := 16383, manifest := List.replicate 202 0, comp := 0, engine := 2 }
    let s := { session 1 with binds := [b] }
    s.binds.find? (fun e => e.index = 16383) = some b ∧ s.Alone b.o ∧ ctxState (s.ctx 16383) = 1 ∧ b.engine < 3 ∧
    (s.binds.map (·.engine)).Nodup := by decide

/-- A close before its release, with a checkpoint area left, and at its end. -/
theorem test_close_ready :
    let j : CloseJob := { o := some cmd, index := 16383, released := true, wait := [], active := [67], areas := [(3, 0, 128)] }
    let s := { session 3 with closes := [j] }
    (s.closes.find? (fun e => e.index = 16383) = some j ∧ j.released = true ∧ s.scrubs 3 = []) ∧
    ((s.sealsWith 16383).all (fun e => !(e.2.2.phase = .running) && e.2.2.pins.isNone) = true ∧
      s.keyJobs.all (fun e => e.index ≠ 16383) = true) ∧
    (j.active.all (fun g => (s.tower g).scrub.isNone) = true ∧
      (SMap.get (fun _ => []) s.sessAreas 16383).all (fun a => (s.scrubs a.1).isEmpty) = true ∧ s.Alone cmd ∧
      s.compRoom 0 15 2 = true) := by decide

/-! ### Keys, parameter sets, regions -/

/-- The only page, absent (its directory entry is zero) with one free frame. -/
theorem test_page_in_ready : let s := (session 2).setReg Reg.sessFrameCount 1
    let v := (s.mapRead 0 (srcKey 8 0) (s.ctx 16383) [0]).1
    let m := v.resMap (s.ctx 16383)
    0 < ctxPages (s.ctx 16383) ∧ (s.mapRead 0 (srcKey 8 0) (s.ctx 16383) [0]).2 = none ∧ v.pageState m 0 ≠ 1 ∧ v.pageState m 0 ≠ 2 ∧
    v.freeFrame = some 0 ∧ (v.takeFrame.map (·.2)) = some 0 ∧ v.pagePin m 0 = 0 ∧ v.Alone cmd := by decide

theorem test_page_resident_ready : let s := { session 2 with companion := [(64 + 72, 2)] }
    let r := s.mapRead 0 (srcKey 8 0) (s.ctx 16383) [0]
    let m := r.1.resMap (s.ctx 16383)
    r.2 = none ∧ r.1.pageState m 0 = 2 ∧ r.1.pagePin m 0 = 0 ∧ r.1.Alone cmd := by decide

theorem test_digest_ready :
    let j : KeyJob := { o := none, index := 16383, page := 0, frame := 0, spire := 0, bands := (0, 0) }
    let s := { session 2 with keyJobs := [j] }
    s.alxUp = true ∧ s.keyJobs.find? (fun e => e.index = 16383 && e.page = 0) = some j ∧ ctxState (s.ctx 16383) = 2 ∧ j.bands = s.bandsOf 0 := by decide

/-- The record of a set: CKKS, 2^14 coefficients, one prime, one digit, depth 1 and L0 = 1; and a header of it with its body at `body`. -/
def record : List Byte := patch (List.replicate 512 0) 0 [0, 14, 1, 0, 1, 1, 1, 0]
def header (body : Nat) : List Byte :=
  hSeal (patch (patch (List.replicate 64 0) 0 ([0, 14, 1, 0, 1, 31, 2, 3] ++ leBytes 2 16383)) 24
    (leBytes 6 body ++ leBytes 2 0 ++ leBytes 4 0x10000 ++ leBytes 4 0x10000))

/-- A sealed operation in place 15 of Spire 0. -/
def sealed (phase : SealPhase) (pins : Option (List Nat)) (ann : Option AnnealRun) (code : Nat := 3) : SealOp :=
  { o := cmd, code := code, g := { in0 := 2 ^ 47 + 0x2000, in1 := 0, out := 2 ^ 47 + 0x1000, towers := 1, value := 0 },
    auto := false, phase := phase, win := none, hdrs := [List.replicate 64 0], old := List.replicate 64 0, pset := [],
    session := some 16383, pins := pins, since := some (0, 255), bells := 0, abandon := none, queue := [], ann := ann }

/-- An instance of a SEAL_WINDOW entry over Tower 0, which has started. -/
def window : Instance :=
  { bytes := [2, 0, 0, 0, 1] ++ List.replicate 27 0, bell := 0, started := true, late := false, delay := 0, notRun := false,
    abandoned := false, past := false, count := 0, bad := false, fault := none, miss := none, ending := false, todo := [] }

/-- The session's state with that operation, the window, the set, the headers of input and output, and no working bank named. -/
def sealing (c : SealOp) (st : Nat := 2) : State :=
  let s := (session st 2).setReg (Reg.sprSealBanks 0) 0
  { s with seals := [(15, some c)], insts := [(1023, [window])],
           psets := [(31, { PsetSlot.init with valid := true, cur := record })],
           companion := SMap.setRun (fun _ => 0) (SMap.setRun (fun _ => 0) s.companion 0x1000 (header (2 ^ 47 + 0x20_0000))) 0x2000
             (header (2 ^ 47 + 0x10_0000)) }

/-- An anneal between slices. -/
def slices : AnnealRun :=
  { inn := 2 ^ 47 + 0x2000, out := 2 ^ 47 + 0x1000, old := List.replicate 64 0, next := 0, area := (0, 128), began := true,
    failed := false, after := 0, ksws := 0 }

theorem test_defer_ready : ∀ a ∈ [none, some slices],
    let c := sealed .deferred none a
    let s := { sealing c with bellNum := 255 }
    s.seal 0 15 = some c ∧ s.sealClosing c = false ∧ 0 + 255 ≤ s.bellNum := by decide

theorem test_pset_load_ready : let s := session 1 10
    let r := s.readRange 0 (srcKey 0 0) (2 ^ 47) 512 false
    s.ringEngine cmd = 10 ∧ s.firstUnmapped (2 ^ 48 - 512) 512 = none ∧ s.psetBuilding 31 = false ∧ r.fault = none := by decide

theorem test_pset_build_ready : let p : PsetSlot := { PsetSlot.init with code := 1, o := some cmd }
    let s := { session 1 10 with psets := [(127, p)] }
    s.pset 3 31 = p ∧ s.Alone cmd ∧ (∀ e ∈ (s.setPset 3 31 { p with code := 3, o := none }).psets, e.2.o ≠ some cmd) := by decide

/-- A region that nothing names, and one that a live descriptor holds. -/
theorem test_region_ready : let s := session 1 10
    s.liveDescs.any (fun d => field d 11 10 = 0) = false ∧ s.regionClash 65535 0 (2 ^ 47) = false ∧
    (withDesc vecDesc s).liveDescs.any (fun d => field d 11 10 = 0) = true ∧
    ((withDesc vecDesc s).region 0).1 < ((withDesc vecDesc s).region 0).2 ∧ s.Alone cmd ∧ s.ringEngine cmd = 10 := by decide

theorem test_band_ready : (session 1 10).bandUsed 35 = false := by decide

/-! ### Sealed operations -/

theorem test_seal_command_ready : let s := { sealing (sealed .waiting none none) with seals := [] }
    s.ringEngine cmd = 2 ∧ s.freeSeal 0 = some 0 ∧
    ∀ code ∈ (List.range 17).drop 1,
      (s.readHeaders 0 code { (sealed .waiting none none).g with in1 := 2 ^ 47 + 0x2000 }).2.toOption.isSome = true := by decide

/-- What the checks come to, as a number. -/
def verdict : SealVerdict → Nat
  | .refuse _ => 0
  | .stall => 1
  | .level _ => 2
  | .pass _ => 3

/-- HNEG passes its checks and runs: its working banks are none, or one that is On; and one that is Off ends it. -/
theorem test_seal_start_ready : ∀ p ∈ [none, some []], ∀ banks ∈ [(0, 0), (1, 1)],
    let c := sealed .waiting p none
    let s := ((sealing c).setReg (Reg.sprSealBanks 0) banks.1).setReg (Reg.twrBankOn 0) banks.2
    let r := (s.touch 0 c.session c.g.towers).clearValid 0 c.g.out.toNat (sealParam 0 0x01 3 (c.hdrs.headD []) c.g.out.toNat c.auto)
    (s.seal 0 15 = some c ∧ (s.sealRoom 0 c.g.towers).isSome = true ∧ c.phase = .waiting ∧ c.code ≠ 0x10 ∧ c.queue = []) ∧
    r.2.toOption.isSome = true ∧ r.1.workBankOff 0 c.g.towers = none ∧
    (r.1.setReg (Reg.sprSealBanks 0) 2).workBankOff 0 c.g.towers ≠ none ∧ kswOf c.code c.g.value.toNat = none := by decide

theorem test_seal_pass_ready : let c := sealed .waiting none none
    let s := sealing c
    let r := s.readHeaders 0 c.code c.g
    (r.2.toOption.map (fun x => verdict (r.1.sealCheck 0 c.code c.g x.1 x.2 c.auto))) = some 3 ∧
    (r.1.touch 0 (some 16383) c.g.towers).workBankOff 0 c.g.towers = none := by decide

/-- An operation with a body of no limb, whose result is a header. -/
theorem test_seal_complete_ready : let c := sealed .running none none
    let s := sealing c
    let h0 : List Byte := List.replicate 64 0
    let h := outHeader c.code c.pset h0 c.old c.result (storedScale c.code c.result.scale) false
    let w := s.putLimbs 0 (c.outLimbs c.result) (fun _ => [])
    (s.seal 0 15 = some c ∧ c.phase = .running ∧ c.ann = none ∧ c.abandon = none ∧ c.pins = none ∧ c.hdrs = [h0] ∧
      kswOf c.code c.g.value.toNat = none ∧ kswOf c.code 1 = none ∧ hPoison h0 = false) ∧
    (s.tagCheck 0 1 none h0 c.pset []).2 = none ∧ s.workBankOff 0 c.g.towers = none ∧
    (s.readBody 0 h0 (hL h0)).2 = ([], false, none) ∧ (s.sealKey 0 c).2 = ([], [], false) ∧ c.outLimbs c.result = [] ∧ w.2 = none ∧
    (w.1.sealPut 0 c.g.out.toNat h).2 = none ∧ (w.1.sealPut 0 c.g.out.toNat h).1.Alone cmd := by decide

theorem test_slice_ready : let c := sealed .waiting (some []) (some slices) 0x10
    let s := sealing c
    s.seal 0 15 = some c ∧ slices.after ≤ s.bellNum ∧ (s.sealRoom 0 c.g.towers).isSome = true ∧ c.pins.isSome = true ∧
    slices.began = true ∧ s.workBankOff 0 c.g.towers = none := by decide

/-- The first slice: the checks pass, and it names no page. -/
theorem test_slice_begins_ready : let c := sealed .waiting none none 0x10
    let s := sealing c
    let r := s.annealCheck 0 c (0, 128)
    s.seal 0 15 = some c ∧ (s.sealRoom 0 c.g.towers).isSome = true ∧
    (r.2.toOption.map (fun x =>
      let p := r.1.checkPages 0 15 { x.1 with ann := some x.2 } []
      let w := p.1.touch 0 (some 16383) c.g.towers
      let q := (w.galleryPut 0 0 (List.replicate 128 0)).clearValid 0 x.2.out (sealParam 0 0x01 3 (x.1.hdrs.headD []) x.2.out false)
      (p.2.isSome, x.1.session, q.2.toOption.isSome, q.1.workBankOff 0 c.g.towers))) = some (true, some 16383, true, none) := by decide

theorem test_slice_end_ready : let c := sealed .running none (some slices) 0x10
    let s := { sealing c with stops := [{ o := none, left := [0] }] }
    s.seal 0 15 = some c ∧ (s.sliceTags 0 c).2 = none ∧ (s.sliceTags 0 c).1.workBankOff 0 c.g.towers = none ∧ s.sealClosing c = false ∧
    c.abandon = none ∧ s.workBankOff 0 c.g.towers = none ∧ s.stopAsked 0 c.g.towers = true ∧
    (s.setReg (Reg.sprSealBanks 0) 1).workBankOff 0 c.g.towers ≠ none := by decide

end Sys2Proof.Tests
end

