-- ==== Sys2Proof/Tests/Slice0.lean ====
section
/-!
SUPPORT. Ill-formed commands that the check refuses, states that meet the hypotheses of the statements about steps and
registers, and single steps whose results follow from the rules cited.
-/
namespace Sys2Proof.Tests
open Sys2Proof Sys2Proof.Machine

set_option maxRecDepth 100000

/-! ### Well-formedness: each check refuses a term, and takes its neighbour -/

theorem test_wf_csr : (Instr.csrr ia 1 1).wellFormed = false ∧ (Instr.csrr ia 1 0).wellFormed = true ∧
    (Instr.csrw ia 0 1).wellFormed = false ∧ (Instr.csrw ia 2 1).wellFormed = false ∧ (Instr.csrw ia 1 1).wellFormed = true := by decide

theorem test_wf_tld : (Instr.tld (il .a 0x200) 0 0 0 0).wellFormed = false ∧ (Instr.tld (il .a 0x1FF) 0 0 0 0).wellFormed = true ∧
    (Instr.sequencedTld ia 0 0 0 0 0).wellFormed = false ∧ (Instr.sequencedTld (il .a 0x200) 0 0 0 0 0).wellFormed = true := by decide

theorem test_wf_scrub : (Instr.scrub .keystone (.gallery 0) 0 1 0).wellFormed = false ∧
    (Instr.scrub .keystone (.gallery 0) 0 0 0x800_0001).wellFormed = false ∧
    (Instr.scrub .keystone (.gallery 0) 0 0 0x800_0000).wellFormed = true := by decide

theorem test_wf_patrol : (Instr.tmPatrol (.tower 0) 98304).wellFormed = false ∧ (Instr.tmPatrol (.tower 0) 98303).wellFormed = true ∧
    (Instr.tmPatrol (.gallery 0) 524288).wellFormed = false ∧ (Instr.tmPatrol (.gallery 0) 524287).wellFormed = true := by decide

theorem test_wf_lengths : (Instr.remoteWritePacket 0 0 0 0 0 []).wellFormed = false ∧
    (Instr.descCreate cmd 0 (List.replicate 63 0)).wellFormed = false ∧ (Instr.descCreate cmd 0 vecDesc).wellFormed = true ∧
    (Instr.launch cmd 0 0 0 false 0 0 [0]).wellFormed = false ∧ (Instr.launch cmd 0 0 0 false 0 0 (List.replicate 8 0)).wellFormed = true ∧
    (Instr.sessOpen cmd 0 0 false 0 0 0 0 0 []).wellFormed = false ∧ (Instr.sessOpen cmd 0 0 false 0 0 0 0 0 (List.replicate 57 0)).wellFormed = true := by
  decide

theorem test_wf_seq_move : let n : List Byte := List.replicate 32 0
    (Instr.seqMove cmd [] 0 0 0 0 0 0 0).wellFormed = false ∧ (Instr.seqMove cmd n 0 0 3 0 0 0 0).wellFormed = false ∧
    (Instr.seqMove cmd n 0 0 2 64 0 0 0).wellFormed = false ∧ (Instr.seqMove cmd n 0 0 0 0 0x4000 0 0).wellFormed = false ∧
    (Instr.seqMove cmd n 0 0 0 0 0 0x1000 0).wellFormed = false ∧ (Instr.seqMove cmd n 0 0 2 63 0x3FFF 0xFFF 0).wellFormed = true := by decide

theorem test_wf_ranges : (Instr.fenceCommand cmd 3).wellFormed = false ∧ (Instr.fenceCommand cmd 2).wellFormed = true ∧
    (Instr.listCmd cmd 0 0).wellFormed = false ∧ (Instr.listCmd cmd 0 4097).wellFormed = false ∧ (Instr.listCmd cmd 32 1).wellFormed = false ∧
    (Instr.listCmd cmd 64 4096).wellFormed = true ∧ (Instr.regw cmd []).wellFormed = false ∧
    (Instr.regw cmd (List.replicate 4 (0, 0))).wellFormed = false ∧ (Instr.regw cmd (List.replicate 3 (0, 0))).wellFormed = true ∧
    (Instr.imLoad cmd 0 false 0 0).wellFormed = false ∧ (Instr.imLoad cmd 0 false 0 16385).wellFormed = false ∧
    (Instr.imLoad cmd 0 false 0 16384).wellFormed = true ∧ (Instr.bandClass cmd 36 0).wellFormed = false ∧
    (Instr.bandClass cmd 35 4).wellFormed = false ∧ (Instr.bandClass cmd 35 3).wellFormed = true := by decide

theorem test_wf_coll : let g : CollArgs := { format := 0, combine := 0, dims := 1, src := 0, dst := 0, elements := 2 }
    (Instr.collAllReduce cmd { g with format := 3 }).wellFormed = false ∧ (Instr.collAllGather cmd { g with combine := 2 }).wellFormed = false ∧
    (Instr.collReduceScatter cmd { g with format := 2, combine := 1 }).wellFormed = true := by decide

theorem test_wf_aperture : (Instr.apertureRead 0 0).wellFormed = false ∧ (Instr.apertureRead 1 64).wellFormed = false ∧
    (Instr.apertureRead 0 64).wellFormed = true ∧ (Instr.apertureWrite 0 []).wellFormed = false ∧
    (Instr.apertureWrite 63 [0, 0]).wellFormed = false ∧ (Instr.apertureWrite 63 [0]).wellFormed = true := by decide

/-! ### Steps and registers: states that meet the hypotheses -/

theorem test_step_ready : ∃ t, step { State.reset with pending := [.holdover] } = .next t ∧ t.pending = [] := ⟨_, rfl, rfl⟩

/-- A safe state with sources on a stack and a fuse request in progress. -/
theorem test_safe_ready : ({ State.reset with carStacks := [(13, [(0, 15), (1, 0)])], fuseJob := some FuseBank.init }).Safe := by
  refine ⟨fun k => ?_, ?_⟩
  · by_cases h : k = 13
    · subst h
      refine ⟨?_, ?_⟩ <;> decide
    · have e : SMap.get (fun _ => []) [(13, [(0, 15), (1, 0)])] k = ([] : List (Nat × Nat)) := by
        simp [SMap.get, h]
      simp only [e]
      exact ⟨List.Pairwise.nil, by simp⟩
  · intro b hb
    cases hb
    show FuseBank.init.le FuseBank.init
    unfold FuseBank.le
    decide

/-- A register of each block whose writes only set fields, written by the Keystone controller. -/
theorem test_write_ready : ∀ a ∈ [Reg.hbmCtl 31, Reg.butNode 0, Reg.pwrIdleCtl],
    (findReg (BitVec.ofNat 36 a).toNat).isSome = true ∧ (BitVec.ofNat 36 a).toNat = a ∧ State.reset.refuses .keystone a true = false ∧
    ((findReg a).map (fun r => isCommit r.1 r.2.1)) = some false := by decide

theorem test_refused_ready : State.reset.refuses .companion Reg.pwrIdleCtl true = true ∧ State.reset.power.rstLow = false := by decide

theorem test_commit_ready : (∀ b ∈ [Block.sem 3, .sde 3, .but 7, .pwr, .twr 67], ((commitReg b).map
      (fun a => State.reset.refuses .keystone a true)) = some false) ∧
    State.reset.refuses .keystone Reg.sessLock true = false ∧ State.reset.refuses .keystone Reg.alxLock true = false ∧
    (∀ d ∈ [none, some 3], State.reset.refuses .keystone (decodeErrReg d) true = false) := by decide

theorem test_fuse_ready : ∀ l ∈ [0, 1, 2], let s := State.reset.setReg Reg.fuseLifecycle l
    s.refuses .keystone Reg.keyCulletSet true = false ∧ s.refuses .keystone Reg.fuseProg true = false ∧ s.fuseJob = none ∧
    s.lifecycle = l ∧ s.fuses.lifecycle = 0 ∧ s.fuses.rollback ≠ BitVec.allOnes 128 := by decide

/-! ### Single steps -/

/-- ADD wraps; MULH takes the high half of the signed product; SRA fills with the sign (R176). -/
theorem test_alu : let s := on .a [(1, 0xFFFF_FFFF_FFFF_FFFF), (2, 0x43)]
    gives (exec (.add ia 3 1 1) s) (fun t => t.sreg ia 3 = 0xFFFF_FFFF_FFFF_FFFE && t.pcOf ia = 4) = true ∧
    gives (exec (.mulh ia 3 1 2) s) (fun t => t.sreg ia 3 = 0xFFFF_FFFF_FFFF_FFFF) = true ∧
    gives (exec (.sra ia 0 1 2) s) (fun t => t.sreg ia 0 = 0) = true ∧
    gives (exec (.srl ia 3 1 2) s) (fun t => t.sreg ia 3 = 0x1FFF_FFFF_FFFF_FFFF) = true := by decide

/-- LI sign-extends 20 bits in the short form and 32 in the long one, which takes two words (R167, R177). -/
theorem test_li : gives (exec (.li ia 3 0xFFFFF) (on .a)) (fun t => t.sreg ia 3 = 0xFFFF_FFFF_FFFF_FFFF) = true ∧
    gives (exec (.li (il .a 0x3FF 3) 3 0xFFFFE) (on .a)) (fun t => t.sreg ia 3 = 0xFFFF_FFFF_FFFF_FFFE && t.pcOf ia = 8) = true ∧
    gives (exec (.li (il .a 0 1) 3 0) (on .a)) (fun t => t.sreg ia 3 = 0x4000_0000) = true := by decide

/-- Little-endian bytes, sign extension, and the fault of a misaligned access, which stops both streams (R130, R154, R177). -/
theorem test_scalar_memory : let s := on .a [(1, 0xFF02), (2, 8)] 0 (fun t => { t with sdm := [(8, 0xFE)] })
    gives (exec (.stH ia 1 0 2) s) (fun t => SMap.getRun (fun _ => 0) (t.tower 0).sdm 8 2 = [0x02, 0xFF]) = true ∧
    gives (exec (.ldB ia 3 0 2) s) (fun t => t.sreg ia 3 = 0xFFFF_FFFF_FFFF_FFFE) = true ∧
    gives (exec (.ldBu ia 3 0 2) s) (fun t => t.sreg ia 3 = 0xFE) = true ∧
    gives (exec (.ldD ia 3 1 2) s) (fun t => (t.tower 0).a.run = .stopped && (t.tower 0).x.run = .stopped) = true := by decide

/-- BLT is signed; JAL links to the word after it (R176). -/
theorem test_flow : let s := on .a [(1, 0xFFFF_FFFF_FFFF_FFFF)] 8
    gives (exec (.blt ia 1 0 0x7FFF) s) (fun t => t.pcOf ia = 4) = true ∧
    gives (exec (.bge ia 1 0 0x7FFF) s) (fun t => t.pcOf ia = 12) = true ∧
    gives (exec (.jal ia 5 2) s) (fun t => t.pcOf ia = 16 && t.sreg ia 5 = 12) = true := by decide

/-- A token goes from A to X; X waits while there is none (R144). -/
theorem test_tokens : gives (exec (.tqPush ia 1) (on .a [(1, 7)])) (fun t => (t.tower 0).cqa = [7]) = true ∧
    gives (exec (.tqPop ix 1) (on .x)) (fun t => (t.tower 0).x.run = .waiting) = true := by decide

/-- A trap goes to the handler (R149, R152). -/
theorem test_trap : gives (exec (.trap ix) ((on .x [] 4).setReg (Reg.twrXEvec 0) 0x40))
    (fun t => (t.tower 0).x.pc = 0x40 && (t.tower 0).x.epc = 4 && (t.tower 0).x.inHandler) = true := by decide

/-- Integer lanes wrap; modular lanes are reduced (R193, R194). -/
theorem test_vector : let s := on .x [(1, 5)] 0 (fun t => { t with vregs := [(1, packLanes 32 [0xFFFF_FFFF, 4]), (2, packLanes 32 [2, 3])] })
    gives (exec (.vopAdd ix 2 3 1 2 none) s) (fun t => (List.range 3).map (lane 32 ((t.tower 0).vreg 3)) = [1, 7, 0]) = true ∧
    gives (exec (.vmulm ix 3 1 2 1 none) s) (fun t => lane 32 ((t.tower 0).vreg 3) 1 = 2) = true := by decide

/-- BF16 arithmetic: 1 + 1 = 2 and 3 × 0.5 = 1.5 (R193). -/
theorem test_vector_bf16 : let s := on .x [] 0 (fun t => { t with vregs := [(1, packLanes 16 [0x3F80, 0x4040]), (2, packLanes 16 [0x3F80, 0x3F00])] })
    gives (exec (.vopAdd ix 1 3 1 2 none) s) (fun t => lane 16 ((t.tower 0).vreg 3) 0 = 0x4000) = true ∧
    gives (exec (.vopMul ix 1 3 1 2 none) s) (fun t => lane 16 ((t.tower 0).vreg 3) 1 = 0x3FC0) = true := by decide

/-- A post within a Spire, a wait that takes it, and the record of R327 at the completion ring's base. -/
theorem test_semaphores : let s := ring 0 State.reset
    gives (exec (.semPost cmd 0x123 9) s) (fun t => (t.sem 0 0x123).count = 9 && t.compByte 3 = 0x02 && t.compByte 1 = 0xA0) = true ∧
    gives (exec (.semWait cmd 0x123 4 0) { s with sems := [(0x123, { Sem.init with count := 9 })] })
      (fun t => (t.sem 0 0x123).count = 5 && t.compByte 20 = 5) = true := by decide

/-- An accepted write, a refused one and its record (R3, R27, R30). -/
theorem test_registers :
    gives (exec (.registerWrite .keystone (BitVec.ofNat 36 (Reg.twrSexCtl 67)) 0xFF) State.reset) (fun t => t.reg (Reg.twrSexCtl 67) = 0xFF) = true ∧
    gives (exec (.registerWrite .keystone (BitVec.ofNat 36 Reg.pwrIdleCtl) 0x3) State.reset) (fun t => t.stagedReg Reg.pwrIdleCtl = some 3) = true ∧
    gives (exec (.registerWrite .companion (BitVec.ofNat 36 Reg.pwrIdleCtl) 0x3) State.reset)
      (fun t => t.reg Reg.pwrIdleCtl = State.reset.reg Reg.pwrIdleCtl && bit (t.reg Reg.keyDecodeErr) 63) = true := by decide

/-- The bell number rises by one; a reset sets it to 0 (R341). -/
theorem test_bell : gives (exec (.bell none) State.reset) (fun t => t.bellNum = 1) = true ∧
    gives (exec .resetAssert { State.reset with bellNum := 9 }) (fun t => t.bellNum = 0 && t.power.rstLow) = true := by decide

/-- A claimed source becomes active and stands on the stack (R387). -/
theorem test_claim : gives (exec (.carClaim .keystone none 1)
    ((State.reset.setReg (Reg.carPendSet 4 0) 2).setReg (Reg.carSrcCfg 4 1) 0x97))
    (fun t => t.reply = [1, 0, 7, 0] && t.carStack 4 1 = [(1, 7)] && !t.carPending 4 1 && t.carActive 4 1) = true := by decide

end Sys2Proof.Tests
end

