-- ==== Sys2Proof/Tests/Towers.lean ====
section
/-!
SUPPORT. States and operands that meet the hypotheses of the statements about instructions, at the ends of their ranges.
-/
namespace Sys2Proof.Tests
open Sys2Proof Sys2Proof.Machine

set_option maxRecDepth 100000

/-! ### Scalar instructions -/

theorem test_alu_ready : (on .a [(1, 5)]).Ready ia false Gate.none ∧ (on .x).Ready ix false Gate.none := by decide

theorem test_li_ready : (on .a).Ready ia true Gate.none ∧ (on .a).Ready (il .a 0x3FF 3) true Gate.none ∧
    (3 : BitVec 7).toNat < 4 := by decide

/-- The last byte and the last doubleword of the scalar data memory. -/
theorem test_scalar_ends : let s := on .a [(1, 0x3_FFFF), (2, 0x3_FFF8)]
    s.Ready ia false Gate.both ∧ (s.sreg ia 1).toNat + 1 = 0x4_0000 ∧ (s.sreg ia 2).toNat + 8 = 0x4_0000 ∧
      (s.sreg ia 2).toNat % 8 = 0 := by decide

/-- A branch taken to address 0 and to the last word, one not taken, a jump. -/
theorem test_branch_ends : let s := on .a [(1, 5), (2, 0xFFFF_FFFF_FFFF_FFFC)] 4
    s.Ready ia false Gate.none ∧ decide (s.sreg ia 1 = s.sreg ia 1) = true ∧ decide (s.sreg ia 1 = s.sreg ia 2) = false ∧
    ((s.pcOf ia).toNat : Int) + 4 * (-1 : BitVec 15).toInt = 0 ∧
    ((s.pcOf ia).toNat : Int) + 4 * (0x3FFE : BitVec 15).toInt = 0xFFFC ∧ (s.sreg ia 2).toNat % 4 = 0 := by decide

theorem test_trap_ready : ∀ st ∈ [Stream.a, Stream.x],
    let s := ((on st).setReg (Reg.twrAEvec 0) 4).setReg (Reg.twrXEvec 0) 0xFFFC
    let c : Issue := { ia with stream := st }
    s.Ready c false Gate.both ∧ (s.tower 0).older st = false ∧ (s.strm c).inHandler = false ∧ (s.strm c).wait = none ∧
    bits (s.reg (match st with | .a => Reg.twrAEvec 0 | .x => Reg.twrXEvec 0)) 15 2 * 4 ≠ 0 := by decide

/-- Without a handler, and inside one. -/
theorem test_trap_ends_ready : ∀ h ∈ [false, true],
    let s := on .x [] 0 (fun t => { t with x := { t.x with inHandler := h } })
    s.Ready ix false Gate.both ∧ (s.tower 0).older .x = false ∧ (s.tower 0).a.inHandler = false ∧
    (s.tower 0).a.run ≠ .halted ∧ (s.tower 0).x.run ≠ .halted ∧ (s.tower 0).task = none ∧
    ((s.strm ix).inHandler = true ∨ bits (s.reg (Reg.twrXEvec 0)) 15 2 = 0) := by decide

/-- The 32nd token, and the last one. -/
theorem test_tokens_ready :
    let s := on .a [] 0 (fun t => { t with cqa := List.replicate 31 7, cqx := [9] })
    s.Ready ia false Gate.both ∧ ((s.tower 0).outTokens .a).length < 32 ∧ (s.tower 0).outTokens .x = 9 :: [] := by decide

theorem test_csr_ready : (on .a).Ready ia false Gate.both ∧ 0x800 ≤ (0x800 : BitVec 12).toNat ∧
    (findReg (Reg.twrBase 0 + 8 * 0x800)).isSome ∧ (findReg (Reg.twrBase 0 + 0x7008)).isSome ∧ ((on .a).tower 0).quantising = false := by decide

theorem test_exc_ret_ready : ∀ st ∈ [Stream.a, Stream.x], let c : Issue := { ia with stream := st }
    let s := on st [(1, 0xFFFC)] 0 (fun t => t.setStream st { t.stream st with inHandler := true })
    s.Ready c false Gate.both ∧ (s.sreg c 1).toNat % 4 = 0 ∧ (s.tower 0).a.resume = none := by decide

/-- The fourth checkpoint, the retirement of one, and the last stream to halt. -/
theorem test_fences_ready :
    let cp : Checkpoint := { snap := { pc := 0, regs := [], icount := 0 }, seqs := [], marks := [0, 0, 0, 0, 0, 0, 0], restored := false }
    let s := on .a [] 0 (fun t => { t with cps := [cp, cp, cp] })
    (s.strm ia).postedFault = none ∧ s.Ready ia false Gate.both ∧ (s.tower 0).settled .a = true ∧ (s.strm ia).posted = [] ∧
    (s.tower 0).outstanding < 4 ∧ s.Ready ix false Gate.none ∧ (s.tower 0).settled .x = true ∧
    (s.tower 0).cps = cp :: [cp, cp] ∧ (s.tower 0).balanced cp = true ∧ s.launches = [] := by decide

/-- Return from a handler of A after X has retired the checkpoint to which A was rolled back. -/
theorem test_exc_ret_resume_ready :
    let p : Snapshot := { pc := 0xFFFC, regs := [], icount := 1 }
    let s := on .a [(1, 0xFFFC)] 0 (fun t => { t with a := { t.a with inHandler := true, resume := some (p, 2) } })
    s.Ready ia false Gate.both ∧ (s.tower 0).a.resume = some (p, 2) := by decide

theorem test_swap_ready : (on .x).Ready ix false Gate.both ∧
    (let s := tower (fun t => { t with
      swapPend := some false, validB := true, a := { t.a with swap := some (0xFFFC, false) }, x := { t.x with swap := some (0, false) } })
    (s.tower 0).swapPend = some false ∧ (s.tower 0).imLoad = [] ∧ (s.tower 0).idleValid = true ∧
    (s.tower 0).a.swap = some (0xFFFC, false) ∧ (s.tower 0).x.swap = some (0, false)) := by decide

/-- SEMP with 0, up to 65,535 and to another Spire; SEMW that takes all, and one that waits; BELLW. -/
theorem test_sem_ready :
    let s := { on .a [(1, 0xFFF), (2, 0x10000), (3, 1), (4, 0x3FFF), (5, 0xFFFE)] with sems := [(0xFFF, { Sem.init with count := 65534 })] }
    s.Ready ia false Gate.both ∧ (s.sreg ia 2).toNat % 65536 = 0 ∧ (s.sreg ia 3).toNat % 65536 ≠ 0 ∧
    bits (s.sreg ia 1).toNat 13 12 = slotSpire 0 ∧ (s.sem 0 0xFFF).count + 1 ≤ 65535 ∧
    bits (s.sreg ia 4).toNat 13 12 ≠ slotSpire 0 ∧ 65535 < (s.sem 0 0xFFF).count + (s.sreg ia 5).toNat % 65536 ∧ (s.sem 0 0xFFF).waiters = [] ∧
    (s.sreg ia 5).toNat % 65536 ≤ (s.sem 0 0xFFF).count ∧ (s.sem 0 0).count < (s.sreg ia 3).toNat % 65536 := by decide

theorem test_bellw_waits : let s := on .a [] 0 (fun t => { t with a := t.a.await (.bellw ia 1) 0 false })
    WaitsAt (.bellw ia 1) (s.strm ia) ∧ (s.tower 0).aGated = false ∧ (s.tower 0).ops = [] :=
  ⟨⟨by decide, _, rfl, by decide, by decide⟩, by decide, by decide⟩

/-! ### Loads and stores -/

/-- Tile 0 bound to queue `q` with tag `tag`. -/
def bound (q tag : Nat) (t : Tower) : Tower := t.setTile 0 { Tile.init with q := q, tag := tag }

theorem test_tld_ready : let b := desc twrBase 0xA [(64, 0), (4, 64)]
    let s := withDesc b (on .a [] 0 (bound 3 0xA))
    let c := il .a 0 127
    s.Ready c true Gate.none ∧ longX c = 0 ∧ (3 : BitVec 4).toNat < 4 ∧ (s.ownTensor c 0).2.toOption = some b ∧
    s.LoadFits c 3 b (s.placeOf c 0 0) (8 * longY c) ∧ isPlainFmt (parseDesc b).fmt = true ∧
    (parseDesc b).stride 1 * elemBytes (parseDesc b).fmt = 256 ∧ (parseDesc b).base % 256 = 0 := by decide

theorem test_tld_block_ready : let b := desc twrBase 4 [(64, 0)]
    let s := withDesc b (on .a [] 0 (bound 0 4))
    s.Ready ia true Gate.none ∧ (s.ownTensor ia 0).2.toOption = some b ∧ s.LoadFits ia 0 b (s.placeOf ia 0 0) 0 := by decide

theorem test_pld_ready : let b := vecDesc
    let s := { withDesc b (on .a [] 0 (bound 3 0xA)) with tmem := [(4, 1)] }
    let s' := (s.noteRead 0 0 16).noteRead 0 16 8
    s.Ready ia true Gate.none ∧ 0 + 24 + 8 * 0 ≤ towerSize ∧ s.waitsForBank 0 = false ∧ (s.tower 0).loads = [] ∧
    (s.issueRead 0 0 16).toOption = some ([0, 0, 0, 0, 1] ++ List.replicate 11 0) ∧
    (s.issueRead 0 16 8).toOption = some (List.replicate 8 0) ∧ (s'.ownTensor ia 0).2.toOption = some b ∧
    s.plFault (srcTower 0 0) 0 0 (parseDesc b) (parsePl (List.replicate 8 0)) = none ∧
    s.LoadFits ia 3 b { s.placeOf ia 0 0 with ofs := (parsePl (List.replicate 8 0)).ofs } 0 := by decide

theorem test_sequenced_ready : let b := vecDesc
    let s := withDesc b (on .a [] 0 (fun t => { bound 3 0xA t with seqs := [(3, { LoaderSeq.init with left := 1 })] }))
    let c := il .a 0x200
    s.Ready c true Gate.none ∧ ((s.tower 0).seq 3).left ≠ 0 ∧ (s.ownTensor c 0).2.toOption = some b ∧
    s.LoadFits c 3 b (s.placeOf c 0 0) (bits ((s.tower 0).seq 3).nest 39 30) := by decide

theorem test_vld_ready : let s := withDesc vecDesc (on .a [] 0 (fun t => { t with vq := [(5, List.replicate 7 0)] }))
    s.Ready ia false Gate.none ∧ (s.ownTensor ia 0).2.toOption = some vecDesc ∧ isPlainFmt (parseDesc vecDesc).fmt = true ∧
    ((s.tower 0).vecs 5).length + ((s.tower 0).loads.filter (fun l => l.q = 5)).length < 8 := by decide

/-- A load in flight. -/
def flight (shape : LoadShape) (q : Nat) : Load :=
  { shape := shape, h := 0, desc := vecDesc, at_ := { si := 0, row := 0, outer := 0, ofs := 0 }, bound := none,
    blank := false, q := q, tile := 0, width := 64, snap := { pc := 0, regs := [], icount := 0 }, seqs := [] }

theorem test_load_lands_ready : ∀ l ∈ [flight .vector 4, { flight .tile 3 with blank := true }],
    let s := withDesc vecDesc (on .a [] 0 (fun t => { bound 3 0xA t with loads := [l] }))
    (s.tower 0).loads = l :: [] ∧ s.waitsForBank 0 = false ∧
    (s.gather 0 l).toOption.isSome = true := by decide

/-- A store in flight. -/
def outgoing : Store :=
  { h := 0, desc := vecDesc, at_ := { si := 0, row := 0, outer := 0, ofs := 0 }, q := 6, tile := 0,
    snap := { pc := 0, regs := [], icount := 0 }, seqs := [] }

theorem test_tst_ready : let b := vecDesc
    let s := withDesc b (on .a [] 0 (fun t => (bound 7 0xA t).setQueue 7 { QueueCount.init with pushed := 1 }))
    s.Ready ia false { a := true, x := false } ∧ (s.ownTensor ia 0).2.toOption = some b ∧ (s.tower 0).isTileQueue 7 = true ∧
    (s.tower 0).entryFull 7 ((s.tower 0).queue 7).claimed = true ∧ ((s.tower 0).tile ((s.tower 0).entryTile 7 0)).tag = (parseDesc b).fmt := by decide

theorem test_store_completes_ready :
    let s := on .a [] 0 (fun t => { bound 6 0xA t with stores := [outgoing] })
    (s.tower 0).stores = outgoing :: [] ∧ s.waitsForBank 0 = false ∧
    (s.storeRows 0 outgoing (parseDesc vecDesc) ((s.tower 0).tile 0)).2 = none := by decide

theorem test_vst_ready : let s := withDesc vecDesc (on .a [] 0 (fun t => { t with vq := [(7, [0])] }))
    s.Ready ia false { a := true, x := false } ∧ (s.ownTensor ia 0).2.toOption = some vecDesc ∧ (s.tower 0).isTileQueue 7 = false ∧
    (s.tower 0).vecs 7 = 0 :: [] ∧ s.waitsForBank 0 = false ∧
    (s.storeElems 0 (parseDesc vecDesc) (s.placeOf ia 0 0) 0 true ((List.range 64).map (fun _ => leBytes 4 0))).2 = none := by decide

/-- GET and PUT of the last position, as the 16th copy. -/
theorem test_copy_ready :
    let s := withDesc vecDesc (on .a [(3, 0x100_0000_003F)] 0 (fun t =>
      { t with a := { t.a with posted := List.replicate 15 (.copy true 0 [] 0 1 0 (0, 0)) } }))
    s.Ready ia false { a := true, x := false } ∧ bits (s.sreg ia 3).toNat 63 40 = 1 ∧ bits (s.sreg ia 3).toNat 39 0 = 63 ∧
    ((s.strm ia).posted.filter (fun p => match p with | .copy _ _ _ _ _ _ _ => true | _ => false)).length < 16 ∧
    (s.fetchDesc (.sde 0) (srcTower 0 0) 0).2.toOption = some vecDesc ∧ copyFault ia s 0 0 63 1 (parseDesc vecDesc) = none := by decide

theorem test_posted_ready : let s := on .a [] 0 (fun t => { t with a := { t.a with posted := [.semp 1 0 1] } })
    ((s.tower 0).stream .a).posted = .semp 1 0 1 :: [] ∧ s.waitsForBank 0 = false ∧ (s.tower 0).packets = [] := by decide

/-! ### Tile operations -/

/-- Tiles 0 and 1 FULL in LQ0 and LQ3 with tag `tag`, one pushed entry in each. -/
def full (tag : Nat) (t : Tower) : Tower :=
  let v : Tile := { Tile.init with tag := tag, state := .full }
  (((t.setTile 0 { v with q := 0 }).setTile 1 { v with q := 3 }).setQueue 0 { QueueCount.init with pushed := 1 }).setQueue 3
    { QueueCount.init with pushed := 1, peeked := true }

theorem test_array_ready : ∀ m ∈ ([(.mma 0, 0), (.mma 2, 4), (.mmw, 8)] : List (OpKind × Nat)),
    let s := on .x [] 0 (full m.2)
    let t0 := s.tower 0
    let ca := (t0.claim 0 true).2
    let cb := ((t0.claim 0 true).1.claim 3 false).2
    s.Ready ix false Gate.none ∧ t0.ringTiles 0 ≠ [] ∧ t0.ringTiles 3 ≠ [] ∧
    tagsBad m.1 (t0.tile ca.tile).tag (t0.tile cb.tile).tag = none ∧
    s.arrayLate 0 t0.ops.length (s.newOp 0 m.1 [ca, cb] 3 true) = none := by decide

/-- H48 takes one tile of tag 4 and one of another tag; the bank is in the mode the operation needs. -/
theorem test_array_h48_ready : let s := on .x [] 0 (fun t => let t := full 4 t; t.setTile 1 { t.tile 1 with tag := 0 })
    let t0 := s.tower 0
    tagsBad (.mma 1) (t0.tile 0).tag (t0.tile 1).tag = none ∧ t0.modeAfter t0.ops 3 = decide (OpKind.mma 1 = .mmw) ∧
    s.arrayLate 0 t0.ops.length (s.newOp 0 (.mma 1) [(t0.claim 0 true).2, ((t0.claim 0 true).1.claim 3 false).2] 3 false) = none := by
  decide

theorem test_mdrain_ready : (on .x).Ready ix false Gate.none ∧ ((on .x).tower 0).bankOnFtq 3 = false := by decide

theorem test_trel_ready : let s := on .x [] 0 (full 8)
    let t0 := s.tower 0
    s.Ready ix false { a := false, x := true } ∧ t0.ringTiles 3 ≠ [] ∧ t0.entryFull 3 (t0.queue 3).claimed = true ∧
    (t0.queue 3).peeked = true := by decide

theorem test_tcfg_ready : let s := on .x
    let t0 := s.tower 0
    s.Ready ix false { a := false, x := true } ∧ tagOk 0xA = true ∧
    t0.loads.any (fun l => l.shape ≠ .vector && l.tile = 15) = false ∧ t0.stores.any (fun st => st.tile = 15) = false ∧
    t0.queueHolds (t0.tile 15).q = false ∧ t0.queueHolds 7 = false := by decide

/-- A vector register and the head of a vector queue as operands. -/
theorem test_vector_ready : let s := on .x [(1, 2)] 0 (fun t => { t with vq := [(5, [1])] })
    s.Ready ix false { a := false, x := true } ∧ selKind ix 31 s = none ∧ selKind ix 0x35 s = none ∧
    ((s.tower 0).select 31).isSome ∧ ((s.tower 0).select 0x35).isSome ∧ 2 ≤ (s.sreg ix 1).toNat % 2 ^ 32 := by decide

/-- An operand that has not come, a modulus that is too small. -/
theorem test_vector_waits_ready : let s := on .x [(1, 1)]
    s.Ready ix false { a := false, x := true } ∧ selKind ix 0x35 s = none ∧ (s.tower 0).select 0x35 = none ∧
    (s.sreg ix 1).toNat % 2 ^ 32 < 2 ∧ (s.tower 0).vecs 5 = [] := by decide

theorem test_vq_ready : let s := on .x [] 0 (fun t => { t with vq := [(5, [1]), (7, List.replicate 7 0)] })
    s.Ready ix false { a := false, x := true } ∧ (s.tower 0).vecs 5 = [1] ∧ (s.tower 0).isTileQueue 7 = false ∧
    ((s.tower 0).vecs 7).length < 8 := by decide

/-- VRED of a tile that has come, and EPRG of one. -/
theorem test_marver_ready : let s := on .x [(1, 2)] 0 (full 8)
    let cl := ((s.tower 0).claim 3 true).2
    s.Ready ix false Gate.none ∧ sourceCheck ix 3 true s = none ∧ (28 : BitVec 5).toNat % 4 = 0 ∧
    (s.tower 0).noSlots 3 = false ∧ 2 ≤ (s.sreg ix 1).toNat % 2 ^ 32 ∧
    (s.tower 0).sourceOf (s.tower 0).ops cl = some (.tile 1) ∧ s.vredFault 0 3 3 (.tile 1) = none := by decide

/-- An image that takes W32 tiles and fills tiles of tag 8. -/
def image : List Byte := leBytes 8 (2 * 256 + 0x100 * 2 ^ 32) ++ List.replicate 1272 0

theorem test_eprg_ready :
    let s := on .x [] 0 (fun t => { (full 8 t).setTile 2 { Tile.init with q := 7, tag := 8 } with
      eps := [(15, { EpSlot.init with valid := true, gen := 1, image := image })] })
    let c := il .x 0x101
    let cl := ((s.tower 0).claim 3 false).2
    s.Ready c true Gate.none ∧ longY c = 0 ∧ longX c < 512 ∧ (s.tower 0).x.wait = none ∧
    longX c % 256 = ((s.tower 0).ep 15).gen ∧ sourceCheck c 3 false s = none ∧ ((s.tower 0).ep 15).valid = true ∧
    (s.tower 0).noSlots 3 = false ∧ (s.tower 0).isTileQueue 7 = true ∧
    (s.tower 0).sourceOf (s.tower 0).ops cl = some (.tile 1) ∧
    s.eprgFault 0 3 image (.tile 1) 7 ((s.tower 0).eprgDest (s.tower 0).ops 7) = none := by decide

/-- A tile operation in flight. -/
def inFlight (kind : OpKind) (claims : List Claim) (started : Bool) : TileOp :=
  { kind := kind, claims := claims, bank := 3, init := true, vd := 28, modulus := 2, dest := 2, started := started, numCtl := 0,
    image := image, gen := 0, rowRegs := [], colRegs := [], bell := 0, shadow := [], snap := { pc := 0, regs := [], icount := 0 } }

/-- Claims of the entries that `full` has pushed. -/
def heads : List Claim :=
  [{ q := 0, n := 0, tile := 0, pop := true, before := false }, { q := 3, n := 0, tile := 1, pop := true, before := false }]

/-- One operation runs and a second may start. -/
theorem test_array_op_start_ready :
    let o := inFlight .mmw heads false
    let s := on .x [] 0 (fun t => { full 8 t with ops := [inFlight .mmw heads true, o] })
    let t0 := s.tower 0
    firstIdx (fun (o : TileOp) => o.kind.onArray && !o.started) t0.ops = some 1 ∧ t0.ops[1]? = some o ∧
    (t0.ops.filter (fun o => o.kind.onArray && o.started)).length < 2 ∧ t0.ftq.contains 3 = false ∧
    (t0.ops.take 1).any (fun m => m.kind = .mdrain && m.bank = 3) = false ∧
    o.claims.all (fun c => t0.entryFull c.q c.n) = true ∧ s.arrayLate 0 1 o = none := by decide

theorem test_array_op_complete_ready :
    let o := inFlight .mmw heads true
    let s := on .x [] 0 (fun t => { full 8 t with ops := [o] })
    let t0 := s.tower 0
    (firstIdx (fun (o : TileOp) => o.kind.onArray) t0.ops = some 0 ∧ t0.ops[0]? = some o ∧ t0.inTurn 0 = true ∧
      t0.arrayUe o (t0.tile 0) (t0.tile 1) = none) ∧
    ∃ r, arrayResult 0 o (t0.bank 3) (t0.tile 0) (t0.tile 1) = .ok r := ⟨by decide, _, rfl⟩

theorem test_mdrain_push_ready :
    let o := inFlight .mdrain [] false
    let s := on .x [] 0 (fun t => { t with ops := [o] })
    let t0 := s.tower 0
    firstIdx (fun (o : TileOp) => o.kind = .mdrain) t0.ops = some 0 ∧ t0.ops[0]? = some o ∧
    (t0.ops.take 0).any (fun m => m.kind.onArray && m.bank = 3) = false ∧ t0.inTurn 0 = true ∧ (t0.bank 3).poisons = [] ∧
    bit o.numCtl 17 = false := by decide

theorem test_marver_start_ready : ∀ kind ∈ [OpKind.vred false 3, OpKind.eprg 15 7],
    let o := inFlight kind (heads.drop 1) false
    let s := on .x [] 0 (fun t => { (full 8 t).setTile 2 { Tile.init with q := 7, tag := 8 } with ops := [o] })
    let t0 := s.tower 0
    firstIdx (fun (o : TileOp) => o.kind.onMarver && !o.started) t0.ops = some 0 ∧ t0.ops[0]? = some o ∧
    (t0.ops.filter (fun o => o.kind.onMarver && o.started)).length < 2 ∧ heads.drop 1 = heads[1] :: [] ∧
    t0.sourceReady heads[1] = true ∧ t0.sourceOf (t0.ops.take 0) heads[1] = some (.tile 1) ∧
    s.marverFault 0 o (.tile 1) o.dest = none ∧ waitsForVred (t0.ops.take 0) o (t0.sourceWidth (.tile 1)) = false ∧
    (t0.tile o.dest).state = .empty := by decide

theorem test_marver_complete_ready : ∀ kind ∈ [OpKind.vred true 3, OpKind.eprg 15 7],
    let o := inFlight kind (heads.drop 1) true
    let s := on .x [] 0 (fun t => { (full 8 t).setTile 2 { Tile.init with q := 7, tag := 8 } with ops := [o] })
    let t0 := s.tower 0
    firstIdx (fun (o : TileOp) => o.kind.onMarver) t0.ops = some 0 ∧ t0.ops[0]? = some o ∧ o.started = true ∧
    t0.sourceOf (t0.ops.take 0) heads[1] = some (.tile 1) ∧ t0.inTurn 0 = true := by decide

theorem test_vred_result : ∃ r, vredResult 0 (inFlight (.vred true 3) (heads.drop 1) true) (full 8 Tower.init) (.tile 1) true 3 0 =
    .ok r := ⟨_, rfl⟩

/-! ### Waits, breaks and stops -/

/-- Stream `c.stream` waits at `i`. -/
def waitingAt (c : Issue) (i : Instr) (timed : Bool := true) (f : Tower → Tower := id) : State :=
  on c.stream [] 0 (fun t => f (t.setStream c.stream ((t.stream c.stream).await i 0 timed)))

theorem waitsAt_of {i : Instr} {r : StreamState} (h : r.run = .waiting ∧ (r.wait.map (fun w => (w.instr, w.fault))) = some (i, none)) :
    WaitsAt i r := by
  obtain ⟨h1, h2⟩ := h
  obtain ⟨w, hw, he⟩ := Option.map_eq_some_iff.mp h2
  exact ⟨h1, w, hw, congrArg Prod.fst he, congrArg Prod.snd he⟩

theorem test_wait_end_ready : let s := waitingAt ia (.tqPush ia 1) true (fun t => { t with cqa := List.replicate 31 0 })
    WaitsAt (.tqPush ia 1) (s.strm ia) ∧ (s.woken ia).Ready ia false Gate.both ∧ ((s.tower 0).outTokens .a).length < 32 :=
  ⟨waitsAt_of (by decide), by decide, by decide⟩

theorem test_trel_release_ready : let s := waitingAt ix (.trel ix 3) true (full 8)
    WaitsAt (.trel ix 3) (s.strm ix) ∧ (s.woken ix).Ready ix false { a := false, x := true } ∧
    (s.tower 0).ringTiles 3 ≠ [] ∧ (s.tower 0).entryFull 3 ((s.tower 0).queue 3).claimed = true ∧
    ((s.tower 0).queue 3).peeked = true := ⟨waitsAt_of (by decide), by decide, by decide, by decide, by decide⟩

theorem test_tcfg_apply_ready : let s := waitingAt ix (.tcfg ix 15 15 4)
    WaitsAt (.tcfg ix 15 15 4) (s.strm ix) ∧ (s.woken ix).Ready ix false { a := false, x := true } ∧ tagOk 4 = true ∧
    (s.tower 0).queueHolds ((s.tower 0).tile 15).q = false ∧ (s.tower 0).queueHolds 15 = false :=
  ⟨waitsAt_of (by decide), by decide, by decide, by decide, by decide⟩

theorem test_checkpoint_retire_ready :
    let cp : Checkpoint := { snap := { pc := 0, regs := [], icount := 0 }, seqs := [], marks := [0, 0, 0, 0, 0, 0, 0], restored := false }
    let s := waitingAt ix (.fenceCp ix) true (fun t => { t with cps := [cp] })
    WaitsAt (.fenceCp ix) (s.strm ix) ∧ (s.woken ix).Ready ix false Gate.none ∧ (s.tower 0).settled .x = true ∧
    (s.strm ix).postedFault = none ∧ (s.tower 0).cps = [cp] ∧ (s.tower 0).balanced cp = true :=
  ⟨waitsAt_of (by decide), by decide, by decide, by decide, by decide, by decide⟩

/-- A wait that has just reached its limit. -/
theorem test_timeout_ready : ∀ i ∈ [Instr.tqPush ia 1, Instr.imswap ia 0, Instr.fenceCp ia],
    let s := { ((waitingAt ia i).setReg (Reg.twrSexCtl 0) 0xFF).setReg (Reg.twrAEvec 0) 4 with bellNum := 0xFF }
    (s.strm ia).run = .waiting ∧ (s.strm ia).wait = some { instr := i, bell := 0, timed := true } ∧
    bits (s.reg (Reg.twrSexCtl 0)) 7 0 ≠ 0 ∧ 0 + bits (s.reg (Reg.twrSexCtl 0)) 7 0 ≤ s.bellNum ∧
    (s.tower 0).older .a = false ∧ (s.strm ia).inHandler = false ∧ bits (s.reg (Reg.twrAEvec 0)) 15 2 * 4 ≠ 0 := by decide

theorem test_break_ready : let s := (on .x).setReg (Reg.twrDbgCtl 0) 0xA
    (s.tower 0).breakReady .x = true ∧ (s.tower 0).a.inHandler = false ∧ s.tagBreakDue 0 .x 0 = true ∧
    s.countBreakDue 0 .x = true := by decide

theorem test_tower_stop_ready : let s := { on .x with stops := [{ o := none, left := [0, 67] }] }
    (s.stops.any (fun r => r.left.contains 0)) ∧ s.sealHolds 0 = false ∧ (s.tower 0).a.inHandler = false ∧
    s.stops.all (fun r => r.left.any (· ≠ 0)) := by decide

theorem test_stopped_ready : (State.reset.strm ia).run ≠ .running := by decide

theorem test_task_ready :
    let l : LaunchReq := { o := cmd, aEntry := 0xFFFC, xEntry := 0, bank := true, on := 0, ret := 0, args := List.replicate 8 1, broken := false }
    let s := tower (fun t => { t with launch := [l] })
    (s.tower 0).launch = l :: [] ∧ s.launchReady l.o = true ∧ l.broken = false ∧
    ((tower (fun t => { t with launch := [{ l with broken := true }] })).tower 0).launch = { l with broken := true } :: [] := by decide

/-! ### Program loads, sequencers, memory upkeep, remote writes -/

theorem test_im_load_ready : let s := tower (fun t => { t with imLoad := [{ o := cmd, bank := true, bytes := [1], whole := true }] })
    (s.tower 0).imLoad = [{ o := cmd, bank := true, bytes := [1], whole := true }] ∧ s.imRuns = [] := by decide

theorem test_tower_register_ready : ∀ a ∈ [Reg.twrEpBuild 67, Reg.twrSeqCtl 67 3],
    State.reset.power.rstLow = false ∧ State.reset.refuses .keystone a true = false := by decide

theorem test_ep_build_ready : let s := withDesc vecDesc (tower (fun t => { t with eps := [(15, { EpSlot.init with build := some (.copy 0) })] }))
    ((s.tower 0).ep 15).build = some (.copy 0) ∧ (s.tower 0).epReads 15 = false ∧ s.anyRising 0 0 1280 = false ∧
    (s.tower 0).scrub = none ∧ (s.epImage 0 15 (.copy 0)).2.toOption.isSome = true := by decide

theorem test_seq_arm_ready : let s := (withDesc vecDesc State.reset).setReg (Reg.twrSeqNest 0 3) 0o453210
    s.refuses (.spire 0) (Reg.twrSeqCtl 0 3) true = false ∧
    (s.fetchDesc (.loader 0) (srcTower 0 0) (s.reg (Reg.twrSeqHandle 0 3))).2.toOption = some vecDesc ∧
    (loaderNest (parseDesc vecDesc) (s.reg (Reg.twrSeqNest 0 3))).valid (parseDesc vecDesc).rank false = true := by decide

theorem test_scrub_complete_ready :
    let s := { tower (fun t => { t with scrub := some 1 }) with galScrub := [(3, [(0, 0x800_0000), (0, 64)])] }
    (s.tower 0).scrub = some 1 ∧ (s.tower 0).rising.any (fun n => (1 : BitVec 64).getLsbD n) = false ∧
    s.scrubs 3 = (0, 0x800_0000) :: [(0, 64)] ∧ Actor.management ≠ .keystone := by decide

/-- The last row of a Tower's memory. -/
theorem test_patrol_ready : let s := withDesc vecDesc State.reset
    256 * (98303 : BitVec 20).toNat < towerSize ∧ s.bankState 0 ((98303 : BitVec 20).toNat % 64) = .on ∧ (s.tower 0).scrub = none ∧
    s.ramCws 2 (256 * 98303 / 16) (256 * 98303 / 16 + 16) = [] := by decide

/-- A window that admits one byte at the memory's end, none, and a credit that is just enough. -/
theorem test_remote_write_ready :
    let a := twrBase + towerSize - 1
    let m := towerRegs 0
    let sd : Sender := { x := 3, source := 0, node := 0, gen := 0 }
    let w := ((State.reset.setReg (Reg.twrWinLimit 0 63) towerSize).setReg (Reg.twrWinCtl 0 63) (2 ^ 31 + 8)).setReg (Reg.twrMemCtl 0) 0
    let n := State.reset.setReg (Reg.twrMemCtl 0) 0
    let c := (State.reset.setReg (Reg.twrCredLimit 0) towerSize).setReg (Reg.twrCredBal 0 3) 1
    w.loc a = .tower 0 (towerSize - 1) ∧ a % 256 + 1 ≤ 256 ∧ bit (w.reg (Reg.twrMemCtl 0)) 0 = false ∧
    w.windowRefusal m sd (towerSize - 1) 1 = none ∧ n.windowRefusal m sd (towerSize - 1) 1 = some (1, 0xFF) ∧
    bit (c.reg (Reg.twrMemCtl 0)) 0 = true ∧ c.reg (Reg.twrCredBase 0) ≤ towerSize - 1 ∧
    towerSize - 1 + 1 ≤ c.reg (Reg.twrCredLimit 0) ∧ c.reg (Reg.twrCredLimit 0) ≤ towerSize ∧
    1 ≤ c.reg (Reg.twrCredBal 0 3) ∧ c.reg (Reg.twrCredBal 0 3) < 2 ^ 28 := by decide

/-- A packet of another Spire to a Gallery, and its owner's own. -/
theorem test_remote_gallery_ready :
    let a := 0x4000_0000_0000 + gallerySize - 1
    let m := galleryRegs 0
    let s := ((State.reset.setReg (m.limit 255) gallerySize).setReg (m.ctl 255) (2 ^ 31 + 8)).setReg m.mode 0
    s.loc a = .gallery 0 (gallerySize - 1) ∧ a % 256 + 1 ≤ 256 ∧ (3 : BitVec 4).toNat ≠ 0 ∧ s.portForbids 3 = false ∧
    s.creditMode m = false ∧ s.windowRefusal m { x := 3, source := 0, node := 0, gen := 0 } (gallerySize - 1) 1 = none := by decide

theorem test_remote_done_ready :
    let p : Packet := { ofs := 0, data := [1], sender := 0, port := none }
    let s := withDesc vecDesc (tower (fun t => { t with packets := [p] }))
    (s.tower 0).packets = p :: [] ∧ p.port = none ∧ s.waitsForBank 0 = false ∧
    (∀ n < 64, bit (s.reg (Reg.twrBankOn 0)) n = true) ∧ s.ramErr = [] := by decide

end Sys2Proof.Tests
end

/-! ## What an ordinary control write does (R3 to R5) -/

section
open Sys2Proof Sys2Proof.Machine
namespace Sys2Proof.Machine

/-! ### The masks of a row -/

/-- The fields of a row that take a written value, that its ones clear and that its ones set share no bit (R3, R7). -/
abbrev RegRow.Apart (r : RegRow) : Prop :=
  fieldMask r (fun k => k = .rw || k = .rwl) &&& fieldMask r (fun k => k = .w1c) = 0 ∧
  fieldMask r (fun k => k = .rw || k = .rwl) &&& fieldMask r (fun k => k = .w1s) = 0 ∧
  fieldMask r (fun k => k = .w1c) &&& fieldMask r (fun k => k = .w1s) = 0

/-- In no row of the register maps do fields of these types overlap. -/
theorem rowsOf_apart (k : BlockKind) : ∀ r ∈ rowsOf k, r.Apart := by
  cases k <;> decide

theorem rowAt_eq {a : Nat} {b : Block} {off : Nat} {r : RegRow} (h : findReg a = some (b, off, r)) : rowAt a = r := by
  simp only [rowAt, h]

theorem findReg_apart {a : Nat} {b : Block} {off : Nat} {r : RegRow} (h : findReg a = some (b, off, r)) : r.Apart := by
  unfold findReg at h
  split at h
  · cases h
  · split at h
    · cases h
    · obtain ⟨row, hrow, heq⟩ := Option.map_eq_some_iff.mp h
      obtain ⟨-, -, rfl⟩ := heq
      split
      · simp [RegRow.Apart, fieldMask]
      · exact rowsOf_apart _ row (List.mem_of_find?_eq_some hrow)

theorem rowAt_apart (a : Nat) : (rowAt a).Apart := by
  unfold rowAt
  split
  · exact findReg_apart ‹_›
  · decide

/-! ### `writeFields` -/

/-- A register's value once `v` has been written to the fields of row `r` and no lock holds (R3). -/
def RegRow.written (r : RegRow) (old v : Word) : Word :=
  (mergeBits old v (fieldMask r (fun k => k = .rw || k = .rwl)) &&& ~~~(v &&& fieldMask r (fun k => k = .w1c))) |||
    (v &&& fieldMask r (fun k => k = .w1s))

theorem and_eq_zero_getLsbD {x y : Word} (h : x &&& y = 0) (i : Nat) : (x.getLsbD i && y.getLsbD i) = false := by
  simpa using congrArg (fun w : Word => w.getLsbD i) h

/-- Each bit of the value, by the type of its field. -/
theorem RegRow.getLsbD_written {r : RegRow} (hr : r.Apart) (old v : Word) {i : Nat} (hi : i < 64) :
    (r.written old v).getLsbD i =
      if (fieldMask r (fun k => k = .rw || k = .rwl)).getLsbD i then v.getLsbD i
      else if (fieldMask r (fun k => k = .w1s)).getLsbD i then old.getLsbD i || v.getLsbD i
      else if (fieldMask r (fun k => k = .w1c)).getLsbD i then old.getLsbD i && !v.getLsbD i
      else old.getLsbD i := by
  obtain ⟨hwc, hws, hcs⟩ := hr
  have hwc := and_eq_zero_getLsbD hwc i
  have hws := and_eq_zero_getLsbD hws i
  have hcs := and_eq_zero_getLsbD hcs i
  simp only [RegRow.written, mergeBits, BitVec.getLsbD_or, BitVec.getLsbD_and, BitVec.getLsbD_not, hi, decide_true,
    Bool.true_and]
  generalize (fieldMask r (fun k => k = .rw || k = .rwl)).getLsbD i = w at *
  generalize (fieldMask r (fun k => k = .w1c)).getLsbD i = c at *
  generalize (fieldMask r (fun k => k = .w1s)).getLsbD i = b at *
  cases w <;> cases c <;> cases b <;> simp_all

theorem State.stagedReg_stage (s : State) (a : Nat) (v : Option Word) (x : Nat) :
    (s.stage a v).stagedReg x = if x = a then v else s.stagedReg x :=
  SMap.get_set _ _ _ _

/-- What a write of `v` to an unlocked register leaves (R3 to R5). -/
structure FieldsWritten (a : Nat) (v : Word) (s t : State) : Prop where
  active : ∀ i < 64, bit (t.reg a) i =
    if (fieldMask (rowAt a) (fun k => k = .rw || k = .rwl)).getLsbD i then v.getLsbD i
    else if (fieldMask (rowAt a) (fun k => k = .w1s)).getLsbD i then bit (s.reg a) i || v.getLsbD i
    else if (fieldMask (rowAt a) (fun k => k = .w1c)).getLsbD i then bit (s.reg a) i && !v.getLsbD i
    else bit (s.reg a) i
  staged : t.stagedReg a = (if fieldMask (rowAt a) (fun k => k = .rws) = 0 then s.stagedReg a
    else some (v &&& fieldMask (rowAt a) (fun k => k = .rws)))
  others : ∀ x, x ≠ a → t.reg x = s.reg x ∧ t.stagedReg x = s.stagedReg x
  rest : { t with ctl := s.ctl, staged := s.staged } = s

/-- Without a lock `writeFields` first sets the active value, then the staged copy. -/
theorem State.writeFields_eq (s : State) (a : Nat) (v : Word) :
    ∃ u : State, { u with ctl := s.ctl } = s ∧
      (∀ x, u.reg x = if x = a then ((rowAt a).written (BitVec.ofNat 64 (s.reg a)) v).toNat else s.reg x) ∧
      s.writeFields a v false = if fieldMask (rowAt a) (fun k => k = .rws) = 0 then u
        else u.stage a (some (v &&& fieldMask (rowAt a) (fun k => k = .rws))) := by
  obtain ⟨old, hold⟩ : ∃ old : Word, old = BitVec.ofNat 64 (s.reg a) := ⟨_, rfl⟩
  refine ⟨if (rowAt a).written old v = old then s else s.setReg a ((rowAt a).written old v).toNat, ?_, fun x => ?_, ?_⟩
  · split <;> rfl
  · subst hold
    split
    · rename_i hsame
      rw [hsame, BitVec.toNat_ofNat, Nat.mod_eq_of_lt (s.reg_lt a)]
      split <;> simp_all
    · rw [State.reg_setReg, Nat.mod_eq_of_lt (BitVec.isLt _)]
  · subst hold
    unfold State.writeFields RegRow.written
    simp only [Bool.not_false, Bool.and_true]

theorem State.writeFields_written (s : State) (a : Nat) (v : Word) :
    FieldsWritten a v s (s.writeFields a v false) := by
  obtain ⟨u, hrest, hreg, heq⟩ := s.writeFields_eq a v
  have hstaged : ∀ x, u.stagedReg x = s.stagedReg x := fun x => by
    show ({ u with ctl := s.ctl } : State).stagedReg x = _
    rw [hrest]
  have hregs : ∀ x, (s.writeFields a v false).reg x = u.reg x := fun x => by
    rw [heq]
    split <;> rfl
  have hbit : ∀ i < 64, (BitVec.ofNat 64 (s.reg a)).getLsbD i = bit (s.reg a) i := fun i hi => by
    rw [BitVec.getLsbD_ofNat, decide_eq_true hi, Bool.true_and, bit]
  refine ⟨fun i hi => ?_, ?_, fun x hx => ⟨?_, ?_⟩, ?_⟩
  · rw [hregs, hreg, if_pos rfl, ← hbit i hi]
    exact RegRow.getLsbD_written (rowAt_apart a) _ v hi
  · rw [heq]
    split
    · exact hstaged a
    · rw [State.stagedReg_stage, if_pos rfl]
  · rw [hregs, hreg, if_neg hx]
  · rw [heq]
    split
    · exact hstaged x
    · rw [State.stagedReg_stage, if_neg hx, hstaged]
  · rw [heq]
    split
    · exact congrArg (fun w : State => { w with staged := s.staged }) hrest
    · exact congrArg (fun w : State => { w with staged := s.staged }) hrest

/-! ### `blockWrite` -/

/-- The blocks whose writes only set fields. -/
abbrev SetsFields (b : Block) : Prop :=
  match b with
  | .hbm _ | .but _ | .sde _ | .blp _ | .pwr => True
  | _ => False

theorem State.blockWrite_setsFields {b : Block} (hb : SetsFields b) (s : State) (actor : Actor) {off : Nat} (a v : Nat)
    (hc : isCommit b off = false) :
    s.blockWrite actor b off a v = s.writeFields a (BitVec.ofNat 64 v) false := by
  unfold State.blockWrite
  rw [hc]
  cases b with
  | hbm | but | sde | blp | pwr => rfl
  | _ => exact hb.elim

theorem State.ctlWrite_accepted (s : State) (actor : Actor) {a : Nat} (v : Nat) {b : Block} {off : Nat} {r : RegRow}
    (hr : findReg a = some (b, off, r)) (hrst : s.power.rstLow = false) (ha : s.refuses actor a true = false) :
    s.ctlWrite actor a v = s.blockWrite actor b off a v := by
  unfold State.ctlWrite State.guarded
  simp only [hrst, ha, hr, Bool.false_eq_true, if_false]

/-- Settles O9: the write reaches `writeFields` (R3 to R5) and does nothing else. -/
theorem registerWrite : Obligations.RegisterWrite := by
  intro actor addr v s b off r hr hb hc hrst ha
  have hexec : exec (.registerWrite actor addr v) s = .next (s.writeFields addr.toNat v false) := by
    show Host.Outcome.next (s.ctlWrite actor addr.toNat v.toNat) = _
    rw [State.ctlWrite_accepted s actor _ hr hrst ha, State.blockWrite_setsFields hb s actor _ _ hc, BitVec.ofNat_toNat,
      BitVec.setWidth_eq]
  obtain rfl := rowAt_eq hr
  obtain ⟨hactive, hstaged, hothers, hrest⟩ := s.writeFields_written addr.toNat v
  exact ⟨_, hexec, hactive, hstaged, hothers, hrest⟩

/-! ### CSRW -/

/-- Both streams may issue. -/
theorem allowed_both (c : Issue) : Allowed c true true := by
  unfold Allowed
  cases c.stream <;> rfl

/-- A CSRW whose rule completes goes on with the next instruction. -/
theorem execCsrw_done {c : Issue} {n : BitVec 12} {ss : BitVec 5} {s s' : State} (h : s.Ready c false Gate.both)
    (hb : csrwBody c n.toNat ss s = .done s') :
    exec (.csrw c n ss) s = .next (s'.modStream c.slot.val c.stream (fun r => r.advance (nextPc c r.pc))) := by
  show issue c (.csrw c n ss) true true false .both noCheck (csrwBody c n.toNat ss) s = _
  exact issue_done h (allowed_both c) rfl hb

/-- The read-only numbers below 6 take nothing (R173). -/
theorem csrwBody_readOnly {c : Issue} {n : Nat} {ss : BitVec 5} {s : State} (h0 : n ≠ 0) (h2 : n ≠ 2) (h5 : n ≤ 5) :
    csrwBody c n ss s = .done s := by
  unfold csrwBody
  simp only [if_neg h0, if_neg h2, if_pos h5]

/-- A CSR number from 0x800 on names the register of the Tower slot block at eight times its value (R172). -/
theorem csrwBody_of_register {c : Issue} {n : Nat} {ss : BitVec 5} {s : State} (hn : 0x800 ≤ n)
    (hreg : (findReg (Reg.twrBase c.slot.val + 8 * n)).isSome)
    (hq : (s.tower c.slot.val).quantising = false ∨ (8 * n ≠ 0x4020 ∧ 8 * n ≠ 0x4028)) {s' : State}
    (hw : s.csrWrite c.slot.val (8 * n) (s.sreg c ss).toNat = (s', none)) :
    csrwBody c n ss s = .done s' := by
  have hoff : csrOffset c.slot.val n = some (8 * n) := by
    simp only [csrOffset, hreg, if_true, if_neg (Nat.not_lt.mpr hn)]
  have hwait : ((8 * n = 0x4020 || 8 * n = 0x4028) && (s.tower c.slot.val).quantising) = false := by
    rcases hq with hq | ⟨h1, h2⟩
    · rw [hq, Bool.and_false]
    · simp [h1, h2]
  unfold csrwBody
  simp only [show ¬ n = 0 by omega, show ¬ n = 2 by omega, show ¬ n ≤ 5 by omega, if_false, hoff, hwait, hw,
    Bool.false_eq_true]

/-- MODE and the debug registers take nothing from a program (R122, R173). -/
theorem State.csrWrite_discarded (s : State) (g v : Nat) {off : Nat}
    (h : off = 0x5000 ∨ (0x7000 ≤ off ∧ off < 0x7030)) : s.csrWrite g off v = (s, none) := by
  unfold State.csrWrite
  rw [if_pos (by simpa [inSpan] using h)]

/-- The registers of a Tower slot block that a program writes as R3 says. -/
theorem State.csrWrite_fields (s : State) (g v : Nat) {off : Nat} (hmode : off ≠ 0x5000) (hcommit : off ≠ 0x5008)
    (hbuild : off ≠ 0x4828) (hdbg : ¬(0x7000 ≤ off ∧ off < 0x7030))
    (hseq : ¬(0x4A00 ≤ off ∧ off < 0x4B00 ∧ off % 0x40 = 0x18)) :
    s.csrWrite g off v = (s.writeFields (Reg.twrBase g + off) (BitVec.ofNat 64 v) false, none) := by
  unfold State.csrWrite
  have hseq' : ¬(inSpan off 0x4A00 0x100 && decide ((off - 0x4A00) % 0x40 = 0x18)) = true := by
    simp only [inSpan, Bool.and_eq_true, decide_eq_true_eq]
    omega
  rw [if_neg (by simpa [inSpan, hmode] using hdbg), if_neg hcommit, if_neg hbuild, if_neg hseq']

/-- The memory's MODE register stands in every Tower slot block. -/
theorem findReg_mode (g : Fin 68) : (findReg (Reg.twrBase g.val + 0x5000)).isSome = true := by
  revert g
  decide

/-- A stream that goes on with the next instruction after a change of registers alone. -/
theorem goesTo_nextPc_of_registers {s u : State} (h : { u with ctl := s.ctl, staged := s.staged } = s) (c : Issue) :
    GoesTo c (nextPc c (s.pcOf c)) s
      { u.modStream c.slot.val c.stream (fun r => r.advance (nextPc c r.pc)) with
        ctl := s.ctl, staged := s.staged } := by
  have hcomm : ({ u.modStream c.slot.val c.stream (fun r => r.advance (nextPc c r.pc)) with
      ctl := s.ctl, staged := s.staged } : State) =
        s.modStream c.slot.val c.stream (fun r => r.advance (nextPc c r.pc)) := by
    calc _ = ({ u with ctl := s.ctl, staged := s.staged } : State).modStream c.slot.val c.stream
          (fun r => r.advance (nextPc c r.pc)) := rfl
      _ = _ := by rw [h]
  rw [hcomm]
  exact goesTo_advance s c _

/-- Settles O23: a CSRW that takes nothing leaves the state to the advance alone; another makes the write of R3. -/
theorem csrWrites : Obligations.CsrWrites := by
  intro c n ss s h
  refine ⟨fun hn => ?_, fun hn hreg hmode hcommit hbuild hdbg hseq hq => ?_⟩
  · have hbody : csrwBody c n.toNat ss s = .done s := by
      rcases hn with rfl | rfl | rfl | rfl | hn | ⟨hn, hreg⟩
      · exact csrwBody_readOnly (by decide) (by decide) (by decide)
      · exact csrwBody_readOnly (by decide) (by decide) (by decide)
      · exact csrwBody_readOnly (by decide) (by decide) (by decide)
      · exact csrwBody_readOnly (by decide) (by decide) (by decide)
      · exact csrwBody_of_register (by omega) (hn ▸ findReg_mode c.slot) (.inr (by omega))
          (s.csrWrite_discarded _ _ (.inl hn))
      · exact csrwBody_of_register (by omega) hreg (.inr (by omega)) (s.csrWrite_discarded _ _ (.inr hn))
    exact ⟨_, execCsrw_done h hbody, goesTo_advance s c _⟩
  · obtain ⟨a, ha⟩ : ∃ a, a = Reg.twrBase c.slot.val + 8 * n.toNat := ⟨_, rfl⟩
    have hbody : csrwBody c n.toNat ss s = .done (s.writeFields a (s.sreg c ss) false) := by
      refine csrwBody_of_register hn hreg hq ?_
      rw [State.csrWrite_fields s _ _ hmode hcommit hbuild hdbg hseq, BitVec.ofNat_toNat, BitVec.setWidth_eq, ha]
    have hwritten := s.writeFields_written a (s.sreg c ss)
    generalize s.writeFields a (s.sreg c ss) false = u at hbody hwritten
    obtain ⟨hactive, hstaged, hothers, hrest⟩ := hwritten
    subst ha
    refine ⟨_, execCsrw_done h hbody, hactive, hstaged, hothers, ?_⟩
    exact goesTo_nextPc_of_registers hrest c

end Sys2Proof.Machine
end

/-! ## COMMIT of one controller touches another controller's staged copy (R5, R24) -/

section
open Sys2Proof Sys2Proof.Machine
namespace Sys2Proof.Machine

set_option maxRecDepth 8000 in
/-- Refutes O10: its second clause says that a COMMIT leaves the staged copies of other blocks as they were. A COMMIT of
the controller HBM1 runs `keepBands` on its Spire's band table, which stands in HBM0: class 1, staged there for band 0,
goes back to the active class 0 because a live descriptor rests on the band (R24; log 90). -/
theorem not_commitAndLock : ¬ Obligations.CommitAndLock := by
  rintro ⟨hcommit, -⟩
  let s : State := { State.reset with
    descs := [(0, { DescEntry.init with live := true })], staged := [(Reg.hbmBandLo 0, some 1)] }
  have before : s.stagedReg (Reg.hbmBandLo 0) = some 1 := by decide
  have after : (s.guarded .keystone (Reg.hbmBase 1 + 0xFFF8) (fun u => u.commitOf (.hbm 1))).stagedReg
      (Reg.hbmBandLo 0) = some 0 := by decide
  obtain ⟨t, ht, -, hothers, -⟩ := hcommit .keystone (.hbm 1) (Reg.hbmBase 1 + 0xFFF8) s (by decide) (by decide)
    (by decide)
  obtain rfl : s.guarded .keystone (Reg.hbmBase 1 + 0xFFF8) (fun u => u.commitOf (.hbm 1)) = t :=
    Host.Outcome.next.inj ht
  have kept := hothers (Reg.hbmBandLo 0) (by decide)
  rw [after, before] at kept
  exact absurd kept (by decide)

end Sys2Proof.Machine
end

/-! ## Taking a Tower exception with a handler (R8, R149, R152, R156) -/

section
open Sys2Proof Sys2Proof.Machine
namespace Sys2Proof.Machine

/-! ### Fields of byte strings -/

@[simp] theorem length_leBytes (n v : Nat) : (leBytes n v).length = n := by
  induction n generalizing v with
  | zero => rfl
  | succ n ih => rw [leBytes, List.length_cons, ih]

theorem leNat_leBytes (n v : Nat) : leNat (leBytes n v) = v % 256 ^ n := by
  induction n generalizing v with
  | zero => simp [leBytes, leNat, Nat.mod_one]
  | succ n ih =>
    rw [leBytes, leNat, ih, BitVec.toNat_ofNat]
    rw [show 256 ^ (n + 1) = 256 * 256 ^ n from Nat.pow_succ', Nat.mod_mul]

/-- A field that lies after a first part. -/
theorem field_append_right (xs ys : List Byte) (hi lo : Nat) (h : xs.length ≤ lo) (hle : lo ≤ hi) :
    field (xs ++ ys) hi lo = field ys (hi - xs.length) (lo - xs.length) := by
  unfold field
  rw [List.drop_append, List.drop_eq_nil_of_le h, List.nil_append]
  congr 2
  omega

/-- A number written at the front reads back. -/
theorem field_leBytes_append (n v : Nat) (ys : List Byte) (hi : Nat) (h : hi + 1 = n) :
    field (leBytes n v ++ ys) hi 0 = v % 256 ^ n := by
  unfold field
  rw [List.drop_zero, Nat.sub_zero, h, List.take_left' (length_leBytes n v), leNat_leBytes]

/-! ### Fault records (R8) -/

theorem length_faultRecord (f : FaultInfo) (flags bell clk : Nat) : (faultRecord f flags bell clk).length = 32 := by
  simp [faultRecord]

/-- The bytes of a record, one number after the other. -/
theorem faultRecord_eq (f : FaultInfo) (flags bell clk : Nat) :
    faultRecord f flags bell clk = leBytes 1 f.code ++ (leBytes 1 (0x80 + flags) ++ (leBytes 2 f.source ++
      (leBytes 8 bell ++ (leBytes 4 clk ++ (f.detail ++ List.replicate 16 0).take 16)))) := by
  simp only [faultRecord, List.append_assoc]

section
variable (f : FaultInfo) (flags bell clk : Nat)

theorem field_faultRecord_code : field (faultRecord f flags bell clk) 0 0 = f.code % 256 := by
  rw [faultRecord_eq, field_leBytes_append 1 _ _ 0 rfl, Nat.pow_one]

theorem field_faultRecord_flags : field (faultRecord f flags bell clk) 1 1 = (0x80 + flags) % 256 := by
  rw [faultRecord_eq, field_append_right _ _ _ _ (by simp) (by simp)]
  simpa using field_leBytes_append 1 (0x80 + flags) _ 0 rfl

theorem field_faultRecord_source : field (faultRecord f flags bell clk) 3 2 = f.source % 2 ^ 16 := by
  rw [faultRecord_eq, field_append_right _ _ _ _ (by simp) (by simp), field_append_right _ _ _ _ (by simp) (by simp)]
  simpa using field_leBytes_append 2 f.source _ 1 rfl

theorem field_faultRecord_bell : field (faultRecord f flags bell clk) 11 4 = bell % 2 ^ 64 := by
  rw [faultRecord_eq, field_append_right _ _ _ _ (by simp) (by simp), field_append_right _ _ _ _ (by simp) (by simp),
    field_append_right _ _ _ _ (by simp) (by simp)]
  simpa using field_leBytes_append 8 bell _ 7 rfl

/-- DETAIL stands from byte 16. -/
theorem field_faultRecord_detail {hi lo : Nat} (h : lo ≤ hi) :
    field (faultRecord f flags bell clk) (16 + hi) (16 + lo) =
      field ((f.detail ++ List.replicate 16 0).take 16) hi lo := by
  rw [faultRecord_eq]
  simp only [← List.append_assoc]
  rw [field_append_right _ _ _ _ (by simp) (by omega)]
  simp

end

/-! ### DETAIL of the faults of R156 -/

theorem towerDetail_padded (reason : Nat) (st : Stream) (pc : BitVec 17) (bank : Bool) (q tile acc tag dfmt : Nat) :
    (towerDetail reason st pc bank q tile acc tag dfmt ++ List.replicate 16 0).take 16 =
      leBytes 1 reason ++ (leBytes 1 (streamUnit st) ++ (leBytes 2 pc.toNat ++ (leBytes 1 (ofBool bank) ++
        (leBytes 1 q ++ (leBytes 1 tile ++ leBytes 1 acc ++ leBytes 1 tag ++ leBytes 1 dfmt ++
          List.replicate 6 0))))) := rfl

section
variable {f : FaultInfo} {reason q tile acc tag dfmt : Nat} {st : Stream} {pc : BitVec 17} {bank : Bool}
  (hd : f.detail = towerDetail reason st pc bank q tile acc tag dfmt) (flags bell clk : Nat)
include hd

theorem field_record_reason : field (faultRecord f flags bell clk) 16 16 = reason % 256 := by
  rw [field_faultRecord_detail f flags bell clk (hi := 0) (lo := 0) (by simp), hd, towerDetail_padded]
  exact field_leBytes_append 1 reason _ 0 rfl

theorem field_record_unit : field (faultRecord f flags bell clk) 17 17 = streamUnit st := by
  rw [field_faultRecord_detail f flags bell clk (hi := 1) (lo := 1) (by simp), hd, towerDetail_padded,
    field_append_right _ _ _ _ (by simp) (by simp)]
  refine (field_leBytes_append 1 (streamUnit st) _ 0 rfl).trans ?_
  cases st <;> rfl

theorem field_record_pc : field (faultRecord f flags bell clk) 19 18 = pc.toNat % 65536 := by
  rw [field_faultRecord_detail f flags bell clk (hi := 3) (lo := 2) (by simp), hd, towerDetail_padded,
    field_append_right _ _ _ _ (by simp) (by simp), field_append_right _ _ _ _ (by simp) (by simp)]
  exact field_leBytes_append 2 pc.toNat _ 1 rfl

theorem field_record_queue : field (faultRecord f flags bell clk) 21 21 = q % 256 := by
  rw [field_faultRecord_detail f flags bell clk (hi := 5) (lo := 5) (by simp), hd, towerDetail_padded,
    field_append_right _ _ _ _ (by simp) (by simp), field_append_right _ _ _ _ (by simp) (by simp),
    field_append_right _ _ _ _ (by simp) (by simp), field_append_right _ _ _ _ (by simp) (by simp)]
  exact field_leBytes_append 1 q _ 0 rfl

end

/-- VALID of a record, whatever its LOST and POSTED say. -/
theorem valid_of_flags {flags : Nat} (h : flags < 0x80) : bit ((0x80 + flags) % 256) 7 = true := by
  unfold bit
  rw [Nat.mod_eq_of_lt (by omega), show 0x80 + flags = 2 ^ 7 + flags from rfl, Nat.testBit_two_pow_add_eq flags 7,
    Nat.testBit_lt_two_pow h, Bool.not_false]

/-! ### What a rollback of A leaves alone (R149) -/

theorem foldl_keeps {α β γ : Type} (p : α → γ) {f : α → β → α} (h : ∀ a b, p (f a b) = p a) (l : List β) (a : α) :
    p (l.foldl f a) = p a := by
  induction l generalizing a with
  | nil => rfl
  | cons b l ih => rw [List.foldl_cons, ih, h]

/-- X and the scalar data memory of a Tower, which no rollback of A touches. -/
def Tower.apartFromA (t : Tower) : StreamState × SMap Byte := (t.x, t.sdm)

theorem Tower.setTile_apartFromA (t : Tower) (i : Nat) (v : Tile) : (t.setTile i v).apartFromA = t.apartFromA := rfl

theorem Tower.setQueue_apartFromA (t : Tower) (q : Nat) (v : QueueCount) :
    (t.setQueue q v).apartFromA = t.apartFromA := rfl

theorem Tower.cancelLoad_apartFromA (t : Tower) (l : Load) : (t.cancelLoad l).apartFromA = t.apartFromA := by
  unfold Tower.cancelLoad
  split <;> rfl

theorem Tower.discardTiles_apartFromA (t : Tower) (q n : Nat) : (t.discardTiles q n).apartFromA = t.apartFromA := by
  unfold Tower.discardTiles
  dsimp only
  rw [Tower.setQueue_apartFromA]
  refine foldl_keeps Tower.apartFromA (fun u i => ?_) _ t
  exact u.setTile_apartFromA _ _

theorem Tower.discardQueue_apartFromA (t : Tower) (q n : Nat) : (t.discardQueue q n).apartFromA = t.apartFromA := by
  unfold Tower.discardQueue
  dsimp only
  split
  · exact Tower.discardTiles_apartFromA t q n
  · split <;> rfl

theorem Tower.discardAfter_apartFromA (t : Tower) (cp : Checkpoint) : (t.discardAfter cp).apartFromA = t.apartFromA := by
  have hloads := foldl_keeps Tower.apartFromA Tower.cancelLoad_apartFromA
    (t.loads.filter (fun l => decide (cp.snap.icount ≤ l.snap.icount))) t
  unfold Tower.discardAfter
  dsimp only
  refine (foldl_keeps Tower.apartFromA (fun u p => ?_) _ _).trans hloads
  exact u.discardQueue_apartFromA p.1 p.2

theorem Tower.rollbackA_apartFromA (t : Tower) (r : RunState) : (t.rollbackA r).apartFromA = t.apartFromA := by
  unfold Tower.rollbackA
  split
  · rename_i cp _ _ _
    dsimp only
    split <;> exact t.discardAfter_apartFromA cp
  · split <;> rfl

/-! ### Entering the handler -/

/-- The exception area of a stream in scalar data memory (R152). -/
def excArea (st : Stream) : Nat := match st with | .a => 0x3_FF00 | .x => 0x3_FF20

/-- The handler address of a stream (R152). -/
def State.handlerAddr (s : State) (g : Nat) (st : Stream) : Nat :=
  bits (s.reg (match st with | .a => Reg.twrAEvec g | .x => Reg.twrXEvec g)) 15 2 * 4

/-- A stream as it enters its handler (R152). -/
def StreamState.enterHandler (r : StreamState) (active : Bool) (ev : Nat) : StreamState :=
  { r with
    lost := false, wait := none, swap := none, epc := epcOf active r.pc, inHandler := true, pc := BitVec.ofNat 17 ev,
    run := .running }

/-- From `s` to `t` stream `st` of slot `g` has entered its handler with the record `rec` in its exception area: what an
exception taken there means to the stream, its memory and the rest (R149, R152). -/
structure Entered (g : Nat) (st : Stream) (rec : List Byte) (s t : State) : Prop where
  stream : (t.tower g).stream st =
    ((s.tower g).stream st).enterHandler (s.tower g).active (s.handlerAddr g st)
  sdm : (t.tower g).sdm = SMap.setRun (fun _ => 0) (s.tower g).sdm (excArea st) rec
  towers : ∀ h, h ≠ g → t.tower h = s.tower h
  regs : ∀ x, t.reg x = s.reg x
  pending : t.pending = s.pending
  descs : t.descs = s.descs

/-- Leaving a semaphore FIFO changes semaphores alone. -/
theorem State.dropWaiter_eq (s : State) (g : Nat) (st : Stream) : ∃ m, s.dropWaiter g st = { s with sems := m } := by
  unfold State.dropWaiter
  split
  · split <;> exact ⟨_, rfl⟩
  · exact ⟨_, rfl⟩

/-- The state once a stream that takes an exception has left the FIFOs and the rendezvous it waited in; X's entry also
takes A out (R149, R161). -/
def State.leaveWaits (s : State) (g : Nat) (st : Stream) : State :=
  let u := s.dropWaiter g st
  let u := if st = .x && !(s.tower g).a.inHandler then u.dropWaiter g .a else u
  if ((s.tower g).stream st).swap.isSome then u.modTower g (fun t => { t with swapPend := none }) else u

/-- Leaving waits changes semaphores and, of the Towers, the pending swap of slot `g` alone. -/
theorem State.leaveWaits_eq (s : State) (g : Nat) (st : Stream) :
    ∃ m T p, s.leaveWaits g st = { s with sems := m, towers := T } ∧
      (s.leaveWaits g st).tower g = { s.tower g with swapPend := p } ∧
      ∀ h, h ≠ g → (s.leaveWaits g st).tower h = s.tower h := by
  have hsems : ∃ m, (if st = .x && !(s.tower g).a.inHandler then (s.dropWaiter g st).dropWaiter g .a
      else s.dropWaiter g st) = { s with sems := m } := by
    obtain ⟨m, hm⟩ := s.dropWaiter_eq g st
    obtain ⟨m', hm'⟩ := (s.dropWaiter g st).dropWaiter_eq g .a
    split
    · exact ⟨m', by rw [hm', hm]⟩
    · exact ⟨m, hm⟩
  obtain ⟨m, hm⟩ := hsems
  unfold State.leaveWaits
  dsimp only
  rw [hm]
  split
  · exact ⟨m, _, none, rfl, State.tower_modTower_self _ _ _, fun h hh => State.tower_modTower_ne _ _ hh⟩
  · exact ⟨m, s.towers, (s.tower g).swapPend, rfl, rfl, fun _ _ => rfl⟩

/-- A Tower whose stream `st`, with the state `r`, enters its handler at `ev`: X's entry holds A (R149, R152). -/
def Tower.enterHandler (t : Tower) (st : Stream) (r : StreamState) (ev : Nat) (rec : List Byte) : Tower :=
  let u := { t with sdm := SMap.setRun (fun _ => 0) t.sdm (excArea st) rec }.setStream st (r.enterHandler t.active ev)
  match st with
  | .a => u
  | .x => u.rollbackA .held

theorem Tower.enterHandler_stream (t : Tower) (st : Stream) (r : StreamState) (ev : Nat) (rec : List Byte) :
    (t.enterHandler st r ev rec).stream st = r.enterHandler t.active ev := by
  cases st with
  | a => rfl
  | x => exact congrArg Prod.fst (Tower.rollbackA_apartFromA _ .held)

theorem Tower.enterHandler_sdm (t : Tower) (st : Stream) (r : StreamState) (ev : Nat) (rec : List Byte) :
    (t.enterHandler st r ev rec).sdm = SMap.setRun (fun _ => 0) t.sdm (excArea st) rec := by
  cases st with
  | a => rfl
  | x => exact congrArg Prod.snd (Tower.rollbackA_apartFromA _ .held)

/-- LOST and POSTED as an exception of a stream tells them (R8, R155). -/
def excFlags (r : StreamState) (posted : Bool) : Nat := ofBool r.lost * 64 ||| ofBool posted * 32

/-- With a handler, and outside it, an exception that has no copy for the Spire controller enters the handler (R152, R154,
R157). -/
theorem State.takeFault_eq (s : State) (g : Nat) (st : Stream) (f : FaultInfo) (posted : Bool)
    (hev : s.handlerAddr g st ≠ 0) (hh : ((s.tower g).stream st).inHandler = false)
    (hchk : f.code ≠ F_CHECKSUM) (hmem : f.code ≠ F_MEM_UE) :
    s.takeFault g st f posted =
      ((s.leaveWaits g st).modTower g (fun t => t.enterHandler st ((s.tower g).stream st) (s.handlerAddr g st)
        ((s.leaveWaits g st).record f (excFlags ((s.tower g).stream st) posted)))).wrote f := by
  have hcopy : ∀ (u : State) r, u.copyToSpire g f.code r = u := fun u r => by
    simp only [State.copyToSpire, hchk, hmem, decide_false, Bool.or_false, Bool.false_eq_true, if_false]
  have hgo : ¬((decide (s.handlerAddr g st = 0) || ((s.tower g).stream st).inHandler) = true) := by
    simp [hev, hh]
  unfold State.takeFault
  dsimp only
  refine (if_neg hgo).trans ?_
  rw [hcopy]
  rfl

theorem State.wrote_frame (s : State) (f : FaultInfo) :
    ∃ l, s.wrote f = { s with lostFrom := l, free := s.free + 1 } := by
  unfold State.wrote
  split <;> exact ⟨_, rfl⟩

/-- The record that an exception writes, and what it does to the stream, its memory and the rest. -/
theorem State.takeFault_entered (s : State) (g : Nat) (st : Stream) (f : FaultInfo) (posted : Bool)
    (hev : s.handlerAddr g st ≠ 0) (hh : ((s.tower g).stream st).inHandler = false)
    (hchk : f.code ≠ F_CHECKSUM) (hmem : f.code ≠ F_MEM_UE) :
    ∃ flags < 0x80, Entered g st (faultRecord f flags (f.bell.getD s.bellNum) s.clk) s (s.takeFault g st f posted) := by
  obtain ⟨m, T, p, hstate, htower, hothers⟩ := s.leaveWaits_eq g st
  have hrec : ∀ flags, (s.leaveWaits g st).record f flags = s.record f flags := fun flags => by
    rw [hstate]
    rfl
  rw [s.takeFault_eq g st f posted hev hh hchk hmem, hrec]
  generalize s.leaveWaits g st = u at hstate htower hothers
  obtain ⟨v, hv⟩ : ∃ v, v = u.modTower g (fun t => t.enterHandler st ((s.tower g).stream st) (s.handlerAddr g st)
      (s.record f (excFlags ((s.tower g).stream st) posted))) := ⟨_, rfl⟩
  rw [← hv]
  obtain ⟨l, hl⟩ := v.wrote_frame f
  have hsame : ∀ h, (v.wrote f).tower h = v.tower h := fun h => by
    rw [hl]
    rfl
  refine ⟨excFlags ((s.tower g).stream st) posted ||| ofBool (s.hasLost f.source) * 64, ?_, ?_, ?_, ?_, ?_, ?_, ?_⟩
  · unfold excFlags
    cases ((s.tower g).stream st).lost <;> cases posted <;> cases s.hasLost f.source <;> decide
  · rw [hsame, hv, State.tower_modTower_self, Tower.enterHandler_stream, htower]
  · rw [hsame, hv, State.tower_modTower_self, Tower.enterHandler_sdm, htower]
    rfl
  · intro h hne
    rw [hsame, hv, State.tower_modTower_ne _ _ hne, hothers h hne]
  · intro x
    rw [hl, hv, hstate]
    rfl
  · rw [hl, hv, hstate]
    rfl
  · rw [hl, hv, hstate]
    rfl

section
variable {g : Nat} {st : Stream} {rec : List Byte} {s t : State} (h : Entered g st rec s t)
include h

/-- The record reads back from the exception area. -/
theorem Entered.record_read (hlen : rec.length = 32) :
    (List.range 32).map (fun k => (t.tower g).sdmByte (excArea st + k)) = rec := by
  refine List.ext_getElem (by simp [hlen]) (fun k _ hk => ?_)
  rw [List.getElem_map, List.getElem_range, Tower.sdmByte, h.sdm, SMap.get_setRun_in _ _ _ hk]

theorem Entered.sdmByte_outside (hlen : rec.length = 32) {x : Nat} (hx : x < excArea st ∨ excArea st + 32 ≤ x) :
    (t.tower g).sdmByte x = (s.tower g).sdmByte x := by
  rw [Tower.sdmByte, h.sdm, SMap.get_setRun_out _ _ _ (by rwa [hlen])]

/-- The stream goes on at its handler, with its registers and its count as they were. -/
theorem Entered.at_handler :
    let r := (s.tower g).stream st
    let r' := (t.tower g).stream st
    r'.run = .running ∧ r'.pc = BitVec.ofNat 17 (s.handlerAddr g st) ∧ r'.inHandler = true ∧
      r'.epc = epcOf (s.tower g).active r.pc ∧ SameRegs r r' ∧ r'.icount = r.icount := by
  dsimp only
  rw [h.stream]
  exact ⟨rfl, rfl, rfl, rfl, fun _ => rfl, rfl⟩

end

/-- SOURCE of a stream fits its two bytes (R17). -/
theorem srcTower_mod (g : Fin 68) (st : Stream) :
    srcTower g.val (streamUnit st) % 2 ^ 16 = slotSpire g.val * 0x1000 + 0x800 + streamUnit st * 32 + slotPhys g.val := by
  refine Nat.mod_eq_of_lt ?_
  revert g
  cases st <;> decide

/-- What a fault that a stream raises at its present instruction does when it has a handler: the part that O19 and O37
share. -/
theorem State.takeFault_streamFault (s : State) (c : Issue) {code reason q : Nat} (hcode : code < 0x40)
    (hchk : code ≠ F_CHECKSUM) (hreason : reason < 256) (hq : q < 256)
    (hev : s.handlerAddr c.slot.val c.stream ≠ 0) (hh : (s.strm c).inHandler = false) :
    ∃ rec, Entered c.slot.val c.stream rec s
        (s.takeFault c.slot.val c.stream (s.streamFault c.slot.val c.stream code reason q)) ∧
      rec.length = 32 ∧ field rec 0 0 = code ∧ bit (field rec 1 1) 7 = true ∧
      field rec 3 2 = slotSpire c.slot.val * 0x1000 + 0x800 + streamUnit c.stream * 32 + slotPhys c.slot.val ∧
      field rec 11 4 = s.bellNum % 2 ^ 64 ∧ field rec 16 16 = reason ∧ field rec 17 17 = streamUnit c.stream ∧
      field rec 19 18 = (s.pcOf c).toNat % 65536 ∧ field rec 21 21 = q := by
  have hmem : code ≠ F_MEM_UE := by
    unfold F_MEM_UE
    omega
  obtain ⟨flags, hflags, hentered⟩ := s.takeFault_entered c.slot.val c.stream
    (s.streamFault c.slot.val c.stream code reason q) false hev hh hchk hmem
  refine ⟨_, hentered, length_faultRecord _ _ _ _, ?_, ?_, ?_, ?_, ?_, ?_, ?_, ?_⟩
  · rw [field_faultRecord_code]
    exact Nat.mod_eq_of_lt (Nat.lt_trans hcode (by decide))
  · rw [field_faultRecord_flags]
    exact valid_of_flags hflags
  · rw [field_faultRecord_source]
    exact srcTower_mod c.slot c.stream
  · exact field_faultRecord_bell _ _ _ _
  · rw [field_record_reason rfl, Nat.mod_eq_of_lt hreason]
  · exact field_record_unit rfl _ _ _
  · exact field_record_pc rfl _ _ _
  · rw [field_record_queue rfl, Nat.mod_eq_of_lt hq]

/-- With no work in flight a fault at issue is taken at once (R150). -/
theorem State.issueFault_not_older {s : State} {g : Nat} {st : Stream} (h : (s.tower g).older st = false) (i : Instr)
    (f : FaultInfo) (posted : Bool) : s.issueFault g st i f posted = s.takeFault g st f posted := by
  rw [State.issueFault, h]
  rfl

/-- Settles O19: TRAP issues into F_ILLEGAL with reason 5, which enters the handler. -/
theorem trapTakesException : Obligations.TrapTakesException := by
  intro c s hready holder hh _ ev area hev
  have hexec : exec (.trap c) s =
      .next (s.takeFault c.slot.val c.stream (s.streamFault c.slot.val c.stream F_ILLEGAL 0x05)) := by
    show issue c (.trap c) true true false .both noCheck (fun s => .fault (s.illegal c 0x05) false) s = _
    rw [issue_fault hready (allowed_both c) rfl rfl, State.issueFault_not_older holder]
    rfl
  obtain ⟨rec, h, hlen, hcode, hvalid, hsource, hbell, hreason, hunit, hpc, -⟩ :=
    s.takeFault_streamFault c (code := F_ILLEGAL) (reason := 0x05) (q := 0xFF) (by decide) (by decide) (by decide)
      (by decide) hev hh
  obtain ⟨hrun, hgo, hin, hepc, hregs, hcount⟩ := h.at_handler
  refine ⟨_, hexec, hrun, hgo, hin, hepc, hregs, hcount, ?_, fun x hx => h.sdmByte_outside hlen hx, h.regs, h.pending,
    h.descs, h.towers⟩
  intro r
  rw [show r = rec from h.record_read hlen]
  exact ⟨hcode, hvalid, hsource, hbell, hreason, hunit, hpc⟩

/-! ### Waits that have lasted their limit (R145) -/

/-- With no operation in flight none of them has waited. -/
theorem State.opTimeout_none {s : State} {g : Nat} (h : (s.tower g).older .x = false) : s.opTimeout g = none := by
  have hops : (s.tower g).ops = [] := by simpa [Tower.older] using h
  unfold State.opTimeout Tower.waitingOp
  simp [hops]

/-- A stream that has waited its limit, with no older work in flight, takes F_WAIT_TIMEOUT at once. -/
theorem execQueueWaitTimeout_over {slot : Fin 68} {st : Stream} {s : State} {w : Waiting}
    (holder : (s.tower slot.val).older st = false) (hrun : ((s.tower slot.val).stream st).run = .waiting)
    (hwait : ((s.tower slot.val).stream st).wait = some w) (hfault : w.fault = none) (htimed : w.timed = true)
    (hover : s.waitOver slot.val w.bell = true) :
    execQueueWaitTimeout slot st s = .next (s.takeFault slot.val st
      (s.streamFault slot.val st F_WAIT_TIMEOUT (waitReason w.instr) (waitQueue w.instr st))) := by
  have hop : (match st with | .a => none | .x => s.opTimeout slot.val) = none := by
    cases st with
    | a => rfl
    | x => exact State.opTimeout_none holder
  unfold execQueueWaitTimeout
  dsimp only
  split
  · rename_i k f heq
    exact absurd (heq.symm.trans hop) (by simp)
  · simp only [hrun, hwait, hfault, htimed, hover, Option.isNone_none, Bool.and_true, if_true]
    rw [State.issueFault_not_older holder]

/-- Settles O37: each of the three waits raises its own reason and queue, and enters the handler. -/
theorem waitsTimeOut : Obligations.WaitsTimeOut := by
  intro c ss e w s g r ev area limit x hx hrun hwait hinstr hfault htimed hlimit hlast holder hh hev
  obtain ⟨hreason, hqueue, hr, hq⟩ : waitReason x.1 = x.2.1 ∧ waitQueue x.1 c.stream = x.2.2 ∧ x.2.1 < 256 ∧
      x.2.2 < 256 := by
    simp only [List.mem_cons, List.not_mem_nil, or_false] at hx
    rcases hx with rfl | rfl | rfl
    · cases c.stream <;> exact ⟨rfl, rfl, by simp, by simp⟩
    · exact ⟨rfl, rfl, by simp, by simp⟩
    · exact ⟨rfl, rfl, by simp, by simp⟩
  have hover : s.waitOver c.slot.val w.bell = true := by
    show (decide (limit ≠ 0) && decide (w.bell + limit ≤ s.bellNum)) = true
    rw [decide_eq_true hlimit, decide_eq_true hlast, Bool.and_self]
  have hexec : exec (.queueWaitTimeout c.slot c.stream) s = .next (s.takeFault c.slot.val c.stream
      (s.streamFault c.slot.val c.stream F_WAIT_TIMEOUT x.2.1 x.2.2)) := by
    rw [← hreason, ← hqueue, ← hinstr]
    exact execQueueWaitTimeout_over holder hrun hwait hfault htimed hover
  obtain ⟨rec, h, hlen, hcode, hvalid, hsource, -, hreason, -, -, hqueue⟩ :=
    s.takeFault_streamFault c (code := F_WAIT_TIMEOUT) (by decide) (by decide) hr hq hev hh
  obtain ⟨hrun', hgo, hin, hepc, hregs, hcount⟩ := h.at_handler
  refine ⟨_, hexec, hrun', hgo, hin, hepc, hregs, hcount, ?_, h.regs, h.pending, h.descs, h.towers⟩
  intro d
  rw [show d = rec from h.record_read hlen]
  exact ⟨hcode, hvalid, hsource, hreason, hqueue⟩

end Sys2Proof.Machine
end

/-! ## Cullet changes and fuse requests (R29, R421) -/

section
open Sys2Proof Sys2Proof.Machine
namespace Sys2Proof.Machine

/-! ### Fields of numbers -/

/-- `setBits` by the parts of a number above, inside and below the field. -/
theorem setBits_eq (v x : Nat) {hi lo : Nat} (h : lo ≤ hi + 1) :
    setBits v hi lo x = 2 ^ lo * (2 ^ (hi + 1 - lo) * (v >>> (hi + 1)) + x % 2 ^ (hi + 1 - lo)) + v % 2 ^ lo := by
  have hv : v = 2 ^ lo * (2 ^ (hi + 1 - lo) * (v >>> (hi + 1)) + bits v hi lo) + v % 2 ^ lo := by
    have hhigh : v >>> (hi + 1) = v / 2 ^ lo / 2 ^ (hi + 1 - lo) := by
      rw [Nat.shiftRight_eq_div_pow, Nat.div_div_eq_div_mul, ← Nat.pow_add, Nat.add_sub_cancel' h]
    rw [hhigh, bits, Nat.shiftRight_eq_div_pow, Nat.div_add_mod, Nat.div_add_mod]
  rw [setBits, Nat.shiftLeft_eq, Nat.shiftLeft_eq, Nat.mul_comm (bits v hi lo), Nat.mul_comm (x % _)]
  rw [Nat.mul_add] at hv ⊢
  omega

/-- Bit `i` of a number whose field [hi:lo] has been replaced. -/
theorem bit_setBits (v x : Nat) {hi lo : Nat} (h : lo ≤ hi + 1) (i : Nat) :
    bit (setBits v hi lo x) i = if lo ≤ i ∧ i ≤ hi then bit x (i - lo) else bit v i := by
  simp only [bit]
  rw [setBits_eq v x h, Nat.testBit_two_pow_mul_add _ (Nat.mod_lt _ (Nat.two_pow_pos lo))]
  by_cases hlo : i < lo
  · rw [if_pos hlo, if_neg (by omega), Nat.testBit_mod_two_pow, decide_eq_true hlo, Bool.true_and]
  · rw [if_neg hlo, Nat.testBit_two_pow_mul_add _ (Nat.mod_lt _ (Nat.two_pow_pos _)), Nat.testBit_mod_two_pow,
      Nat.testBit_shiftRight]
    by_cases hhi : i ≤ hi
    · rw [if_pos (by omega), if_pos (by omega), decide_eq_true (by omega), Bool.true_and]
    · rw [if_neg (by omega), if_neg (by omega)]
      congr 1
      omega

theorem bit_mod_two_pow (v : Nat) {n i : Nat} (h : i < n) : bit (v % 2 ^ n) i = bit v i := by
  simp only [bit, Nat.testBit_mod_two_pow, decide_eq_true h, Bool.true_and]

/-- Bit `i` of a register whose field [hi:lo] has been set to `x` in the value `v`. -/
theorem State.bit_reg_setReg_setBits (s : State) (a v x : Nat) {hi lo i : Nat} (h : lo ≤ hi + 1) (hi64 : i < 64) :
    bit ((s.setReg a (setBits v hi lo x)).reg a) i = if lo ≤ i ∧ i ≤ hi then bit x (i - lo) else bit v i := by
  rw [State.reg_setReg_self, bit_mod_two_pow _ hi64, bit_setBits _ _ h]

/-! ### Accepted writes -/

theorem State.guarded_accepted {s : State} {actor : Actor} {a : Nat} (k : State → State) (hrst : s.power.rstLow = false)
    (ha : s.refuses actor a true = false) : s.guarded actor a k = k s := by
  simp only [State.guarded, hrst, ha, Bool.false_eq_true, if_false]

/-- A request that leads to bank `b` is in progress (R421). -/
def State.requested (s : State) (b : FuseBank) : State :=
  { s.setFld Reg.fuseProgStatus 29 29 1 with fuseJob := some b }

theorem State.fuses_setFld_fuseJob (s : State) (a hi lo v : Nat) (job : Option FuseBank) :
    ({ s.setFld a hi lo v with fuseJob := job } : State).fuses = s.fuses := rfl

@[simp] theorem State.requested_fuses (s : State) (b : FuseBank) : (s.requested b).fuses = s.fuses := by
  rw [State.requested, State.fuses_setFld_fuseJob]

@[simp] theorem State.requested_fuseJob (s : State) (b : FuseBank) : (s.requested b).fuseJob = some b := rfl

theorem State.setReg_rest (s : State) (a v : Nat) : { s.setReg a v with ctl := s.ctl } = s := rfl

theorem State.rest_setFld_fuseJob {s u : State} (h : { u with ctl := s.ctl } = s) (a hi lo v : Nat)
    (job : Option FuseBank) :
    { ({ u.setFld a hi lo v with fuseJob := job } : State) with ctl := s.ctl, fuseJob := none } =
      { s with fuseJob := none } :=
  congrArg (fun w : State => { w with fuseJob := none }) h

/-- Beside the registers only the request is new. -/
theorem State.requested_rest {s u : State} (h : { u with ctl := s.ctl } = s) (b : FuseBank) :
    { u.requested b with ctl := s.ctl, fuseJob := none } = { s with fuseJob := none } := by
  rw [State.requested]
  exact State.rest_setFld_fuseJob h Reg.fuseProgStatus 29 29 1 (some b)

theorem State.reg_setFuseJob (s : State) (job : Option FuseBank) (a : Nat) :
    ({ s with fuseJob := job } : State).reg a = s.reg a := rfl

/-- BUSY shows a request in progress. -/
theorem State.requested_busy (s : State) (b : FuseBank) : bit ((s.requested b).reg Reg.fuseProgStatus) 29 = true := by
  rw [State.requested, State.reg_setFuseJob, State.setFld, State.bit_reg_setReg_setBits _ _ _ _ (by decide) (by decide),
    if_pos (by decide)]
  decide

theorem State.fuseRequest_accepted {s : State} {ok : Bool} (b : FuseBank) (hjob : s.fuseJob = none) (hok : ok = true) :
    s.fuseRequest ok b = s.requested b := by
  simp only [State.fuseRequest, State.requested, hjob, hok, Option.isSome_none, Bool.not_true, Bool.or_self,
    Bool.false_eq_true, if_false]

theorem State.fuseRequest_refused {s : State} {ok : Bool} (b : FuseBank) (h : s.fuseJob ≠ none ∨ ok = false) :
    s.fuseRequest ok b = s.fuseRefuse := by
  rw [State.fuseRequest, if_pos]
  rcases h with h | h
  · rw [Option.isSome_iff_ne_none.mpr h, Bool.true_or]
  · rw [h, Bool.not_false, Bool.or_true]

/-! ### Requests that advance LIFECYCLE or ROLLBACK -/

/-- Whether the life cycle may go on to state `n`: one step, or to SCRAP, by a code that clears no bit (R421). -/
def State.LifeStep (s : State) (n : Nat) : Prop :=
  (n = s.lifecycle + 1 ∨ n = lcScrap) ∧ s.lifecycle < n ∧ n ≤ lcScrap ∧
    s.fuses.lifecycle.toNat &&& lcCode n = s.fuses.lifecycle.toNat

theorem State.fuseLife_accepted {s : State} {n : Nat} (hjob : s.fuseJob = none) (h : s.LifeStep n) :
    s.fuseLife n = s.requested { s.fuses with lifecycle := BitVec.ofNat 4 (lcCode n) } := by
  obtain ⟨hnext, hlt, hle, hcode⟩ := h
  refine State.fuseRequest_accepted _ hjob ?_
  simp [hnext, hlt, hle, hcode]

theorem State.fuseLife_refused {s : State} {n : Nat} (h : s.fuseJob ≠ none ∨ ¬ s.LifeStep n) :
    s.fuseLife n = s.fuseRefuse := by
  refine State.fuseRequest_refused _ (h.imp_right fun hstep => ?_)
  rw [← Bool.not_eq_true]
  intro hok
  simp only [Bool.and_eq_true, Bool.or_eq_true, decide_eq_true_eq, and_assoc] at hok
  exact hstep hok

/-- Whether ROLLBACK may advance: in TEST or PROD, with a bit left (R421). -/
def State.RollStep (s : State) : Prop :=
  (s.lifecycle = lcTest ∨ s.lifecycle = lcProd) ∧ s.fuses.rollback ≠ BitVec.allOnes 128

theorem State.fuseRoll_accepted {s : State} (hjob : s.fuseJob = none) (h : s.RollStep) :
    s.fuseRoll = s.requested { s.fuses with rollback := s.fuses.rollback ||| (s.fuses.rollback + 1) } := by
  obtain ⟨hlife, hleft⟩ := h
  refine State.fuseRequest_accepted _ hjob ?_
  simp only [Bool.and_eq_true, Bool.or_eq_true, decide_eq_true_eq]
  exact ⟨hlife, hleft⟩

theorem State.fuseRoll_refused {s : State} (h : s.fuseJob ≠ none ∨ ¬ s.RollStep) : s.fuseRoll = s.fuseRefuse := by
  refine State.fuseRequest_refused _ (h.imp_right fun hstep => ?_)
  rw [← Bool.not_eq_true]
  intro hok
  simp only [Bool.and_eq_true, Bool.or_eq_true, decide_eq_true_eq] at hok
  exact hstep hok

/-! ### Requests that write a field -/

/-- The bank with the bits of `d` set in field `n`. -/
def FuseBank.orField (b : FuseBank) (n d : Nat) : FuseBank :=
  match n with
  | 0 => { b with secret := b.secret ||| BitVec.ofNat 256 d }
  | 1 => { b with serial := b.serial ||| BitVec.ofNat 64 d }
  | 2 => { b with fwkey := b.fwkey ||| BitVec.ofNat 512 d }
  | 3 => { b with debugBits := b.debugBits ||| BitVec.ofNat 2 d }
  | 4 => { b with port := b.port ||| BitVec.ofNat 9 d }
  | _ => { b with cullet := b.cullet ||| BitVec.ofNat 2048 d }

/-- Of a bank, a field write sets bits in the named field alone. -/
theorem FuseBank.orField_fields (b : FuseBank) {n : Nat} (d : Nat) (hn : n ≤ 5) :
    (b.orField n d).secret = (if n = 0 then b.secret ||| BitVec.ofNat 256 d else b.secret) ∧
    (b.orField n d).serial = (if n = 1 then b.serial ||| BitVec.ofNat 64 d else b.serial) ∧
    (b.orField n d).fwkey = (if n = 2 then b.fwkey ||| BitVec.ofNat 512 d else b.fwkey) ∧
    (b.orField n d).debugBits = (if n = 3 then b.debugBits ||| BitVec.ofNat 2 d else b.debugBits) ∧
    (b.orField n d).port = (if n = 4 then b.port ||| BitVec.ofNat 9 d else b.port) ∧
    (b.orField n d).cullet = (if n = 5 then b.cullet ||| BitVec.ofNat 2048 d else b.cullet) ∧
    (b.orField n d).lifecycle = b.lifecycle ∧ (b.orField n d).rollback = b.rollback := by
  interval_cases n <;> exact ⟨rfl, rfl, rfl, rfl, rfl, rfl, rfl, rfl⟩

/-- Whether a field write is allowed: in RAW or TEST, of a field and word that exist (R421). -/
def State.FieldStep (s : State) (n w : Nat) : Prop :=
  (s.lifecycle = lcRaw ∨ s.lifecycle = lcTest) ∧ n ≤ 5 ∧ w < [4, 1, 8, 1, 1, 32].getD n 0

theorem State.fuseField_accepted {s : State} {n w : Nat} (data : Word) (hjob : s.fuseJob = none) (h : s.FieldStep n w) :
    s.fuseField n w data = s.requested (s.fuses.orField n (data.toNat <<< (64 * w))) := by
  obtain ⟨hlife, hn, hw⟩ := h
  refine State.fuseRequest_accepted (s.fuses.orField n (data.toNat <<< (64 * w))) hjob ?_
  simp only [hlife, hn, hw, Bool.and_eq_true, Bool.or_eq_true, decide_eq_true_eq, and_self]

theorem State.fuseField_refused {s : State} {n w : Nat} (data : Word) (h : s.fuseJob ≠ none ∨ ¬ s.FieldStep n w) :
    s.fuseField n w data = s.fuseRefuse := by
  refine State.fuseRequest_refused _ (h.imp_right fun hstep => ?_)
  rw [← Bool.not_eq_true]
  intro hok
  simp only [Bool.and_eq_true, Bool.or_eq_true, decide_eq_true_eq, and_assoc] at hok
  exact hstep hok

/-- FUSE_PROG_DATA plays no part in whether a field write is allowed. -/
theorem State.fieldStep_setProgData (s : State) (v n w : Nat) :
    (s.setReg Reg.fuseProgData v).FieldStep n w ↔ s.FieldStep n w := by
  have hlife : (s.setReg Reg.fuseProgData v).lifecycle = s.lifecycle := by
    simp only [State.lifecycle, State.fld, State.reg_setReg_ne s v (show Reg.fuseLifecycle ≠ Reg.fuseProgData by decide)]
  simp only [State.FieldStep, hlife]

/-! ### The commands -/

section
variable {actor : Actor} {s : State} (hrst : s.power.rstLow = false)
include hrst

theorem exec_culletAssign (sp : Fin 4) (tw : Fin 16) (slot : BitVec 5)
    (ha : s.refuses actor Reg.keyCulletSet true = false) :
    exec (.culletAssign actor sp tw slot) s = .next (s.culletWrite sp.val (some tw.val) slot.toNat) :=
  congrArg _ (State.guarded_accepted _ hrst ha)

theorem exec_culletSetSpare (sp : Fin 4) (slot : BitVec 5) (ha : s.refuses actor Reg.keyCulletSet true = false) :
    exec (.culletSetSpare actor sp slot) s = .next (s.culletWrite sp.val none slot.toNat) :=
  congrArg _ (State.guarded_accepted _ hrst ha)

variable (ha : s.refuses actor Reg.fuseProg true = false)
include ha

theorem exec_fuseAdvanceLifecycle (state : BitVec 8) :
    exec (.fuseAdvanceLifecycle actor state) s = .next (s.fuseLife state.toNat) :=
  congrArg _ (State.guarded_accepted _ hrst ha)

theorem exec_fuseAdvanceRollback : exec (.fuseAdvanceRollback actor) s = .next s.fuseRoll :=
  congrArg _ (State.guarded_accepted _ hrst ha)

theorem exec_fuseWriteField (field : BitVec 4) (word : BitVec 5) (data : Word) :
    exec (.fuseWriteField actor field word data) s =
      .next ((s.setReg Reg.fuseProgData data.toNat).fuseField field.toNat word.toNat data) :=
  congrArg _ (State.guarded_accepted _ hrst ha)

/-- An accepted field write leaves the programmed bank, and leads to it with the named bits set. -/
theorem exec_fuseWriteField_accepted {field : BitVec 4} {word : BitVec 5} (data : Word) (hjob : s.fuseJob = none)
    (h : s.FieldStep field.toNat word.toNat) :
    ∃ t, exec (.fuseWriteField actor field word data) s = .next t ∧ t.fuses = s.fuses ∧
      t.fuseJob = some (s.fuses.orField field.toNat (data.toNat <<< (64 * word.toNat))) ∧
      bit (t.reg Reg.fuseProgStatus) 29 = true ∧ { t with ctl := s.ctl, fuseJob := none } = { s with fuseJob := none } := by
  have hstep := (s.fieldStep_setProgData data.toNat field.toNat word.toNat).mpr h
  rw [exec_fuseWriteField hrst ha, State.fuseField_accepted (s := s.setReg Reg.fuseProgData data.toNat) data hjob hstep]
  exact ⟨_, rfl, (State.requested_fuses _ _).trans (s.setReg_fuses _ _), State.requested_fuseJob _ _,
    State.requested_busy _ _, State.requested_rest (s.setReg_rest Reg.fuseProgData data.toNat) _⟩

theorem exec_fuseWriteField_refused {field : BitVec 4} {word : BitVec 5} (data : Word)
    (h : s.fuseJob ≠ none ∨ ¬ s.FieldStep field.toNat word.toNat) :
    ∃ t, exec (.fuseWriteField actor field word data) s = .next t ∧
      t.reg Reg.fuseProgStatus = s.reg Reg.fuseProgStatus ||| 0xC000_0000 ∧ { t with ctl := s.ctl } = s := by
  have hstep : (s.setReg Reg.fuseProgData data.toNat).fuseJob ≠ none ∨
      ¬ (s.setReg Reg.fuseProgData data.toNat).FieldStep field.toNat word.toNat :=
    h.imp_right (s.fieldStep_setProgData data.toNat field.toNat word.toNat).not.mpr
  rw [exec_fuseWriteField hrst ha, State.fuseField_refused data hstep]
  refine ⟨_, rfl, ?_, rfl⟩
  rw [State.fuseRefuse, State.reg_setReg_self,
    State.reg_setReg_ne s _ (show Reg.fuseProgStatus ≠ Reg.fuseProgData by decide)]
  exact Nat.mod_eq_of_lt (Nat.or_lt_two_pow (s.reg_lt _) (by decide))

end

/-- The end of a request: the bank it leads to is programmed; DONE is 1 and BUSY 0. -/
theorem exec_fuseProgDone {s : State} {b : FuseBank} (hjob : s.fuseJob = some b) :
    ∃ t, exec .fuseProgDone s = .next t ∧ t.fuses = b ∧ t.fuseJob = none ∧
      bit (t.reg Reg.fuseProgStatus) 31 = true ∧ bit (t.reg Reg.fuseProgStatus) 29 = false ∧
      t.secret = s.secret ∧ ∀ x, x ≠ Reg.fuseProgStatus → t.reg x = s.reg x := by
  have hexec : exec .fuseProgDone s = .next (({ s with fuses := b, fuseJob := none } : State).setReg Reg.fuseProgStatus
      (setBits (s.reg Reg.fuseProgStatus ||| 0x8000_0000) 29 29 0)) := by
    show execFuseProgDone s = _
    simp only [execFuseProgDone, hjob]
  refine ⟨_, hexec, rfl, rfl, ?_, ?_, State.setReg_secret _ _ _, fun x hx => State.reg_setReg_ne _ _ hx⟩
  · rw [State.bit_reg_setReg_setBits _ _ _ _ (by decide) (by decide), if_neg (by decide)]
    rw [bit, Nat.testBit_or, show Nat.testBit 0x8000_0000 31 = true by decide, Bool.or_true]
  · rw [State.bit_reg_setReg_setBits _ _ _ _ (by decide) (by decide), if_pos (by decide)]
    decide

/-- Settles O12: each command is the accepted write, and the request's condition decides what it does. -/
theorem culletAndFuseRequests : Obligations.CulletAndFuseRequests := by
  refine ⟨fun _ sp tw slot s hrst ha => exec_culletAssign hrst sp tw slot ha,
    fun _ sp slot s hrst ha => exec_culletSetSpare hrst sp slot ha, fun actor s hrst ha => ?_, fun s hjob => ?_,
    fun s b hjob => exec_fuseProgDone hjob⟩
  · refine ⟨fun hjob hraw hfuse => ?_, fun state => ?_, fun state => ?_, fun hjob hlife hleft => ?_,
      fun data hjob hlife => ?_, fun field word data => ⟨fun hjob hlife hn hw => ?_, fun h => ?_⟩, fun h => ?_⟩
    · have hstep : s.LifeStep 1 :=
        ⟨.inl (by rw [hraw]), by rw [hraw]; decide, by decide, by rw [hfuse]; rfl⟩
      rw [exec_fuseAdvanceLifecycle hrst ha]
      exact congrArg _ (State.fuseLife_accepted hjob hstep)
    · intro n code old hjob hnext hlt hle hcode
      rw [exec_fuseAdvanceLifecycle hrst ha]
      exact congrArg _ (State.fuseLife_accepted hjob ⟨hnext, hlt, hle, hcode⟩)
    · intro n code old h
      rw [exec_fuseAdvanceLifecycle hrst ha]
      refine congrArg _ (State.fuseLife_refused (h.imp_right fun h hstep => ?_))
      obtain ⟨hnext, hlt, hle, hcode⟩ := hstep
      rcases h with ⟨h1, h2⟩ | h | h | h
      · exact hnext.elim h1 h2
      · exact absurd hlt (Nat.not_lt.mpr h)
      · exact absurd hle (Nat.not_le.mpr h)
      · exact h hcode
    · rw [exec_fuseAdvanceRollback hrst ha]
      exact congrArg _ (State.fuseRoll_accepted hjob ⟨hlife, hleft⟩)
    · have hstep : s.FieldStep 1 0 := ⟨hlife, by decide, by decide⟩
      obtain ⟨t, hexec, hfuses, hbank, hbusy, -⟩ := exec_fuseWriteField_accepted hrst ha data hjob
        (field := 1) (word := 0) hstep
      refine ⟨t, hexec, hfuses, hbank.trans ?_, hbusy⟩
      simp [FuseBank.orField]
    · obtain ⟨t, hexec, hfuses, hbank, hbusy, hrest⟩ := exec_fuseWriteField_accepted hrst ha data hjob
        (field := field) (word := word) ⟨hlife, hn, hw⟩
      obtain ⟨hsecret, hserial, hfwkey, hdebug, hport, hcullet, hlc, hroll⟩ :=
        s.fuses.orField_fields (data.toNat <<< (64 * word.toNat)) hn
      refine ⟨t, _, hexec, hfuses, hbank, hsecret, ?_, hfwkey, hdebug, hport, hcullet, hlc, hroll, hbusy, hrest⟩
      rw [hserial]
      split
      · rename_i hone
        have hword : word.toNat = 0 := by
          rw [hone] at hw
          exact Nat.lt_one_iff.mp hw
        rw [hword, Nat.mul_zero, Nat.shiftLeft_zero, BitVec.ofNat_toNat, BitVec.setWidth_eq]
      · rfl
    · refine exec_fuseWriteField_refused hrst ha data (h.imp_right fun h hstep => ?_)
      obtain ⟨hlife, hn, hw⟩ := hstep
      rcases h with h | h | h
      · exact absurd h (by rcases hlife with hl | hl <;> rw [hl] <;> decide)
      · exact absurd hn (Nat.not_le.mpr h)
      · exact absurd hw (Nat.not_lt.mpr h)
    · rw [exec_fuseAdvanceRollback hrst ha]
      refine congrArg _ (State.fuseRoll_refused (h.imp_right fun h hstep => ?_))
      obtain ⟨hlife, hleft⟩ := hstep
      rcases h with ⟨h1, h2⟩ | h
      · exact hlife.elim h1 h2
      · exact hleft h
  · show execFuseProgDone s = _
    simp only [execFuseProgDone, hjob]

end Sys2Proof.Machine
end

/-! ## KEY_PAGE_OUT finds its page by the residency map as it stood before its own read of it (R106, R295, R298) -/

section
open Sys2Proof Sys2Proof.Machine
namespace Sys2Proof.Machine

/-- A command of ring 15 of Spire 0. -/
def pageOutOrigin : Origin :=
  { spire := 0, ring := 15, cseq := 0, lidx := 0xFFFF, tag := 0, intr := false, nocomp := false, post := none,
    entry := none }

/-- A session that is BOUND, has one page, and whose residency map stands at the start of Gallery 0 (R287). -/
def galleryMapContext : List Byte :=
  patch (patch (patch (List.replicate 256 0) 0 [2]) 80 (leBytes 8 0x4000_0000_0000)) 144 (leBytes 4 1)

/-- Session 0 with its map in Gallery 0, whose header gives one page and one seed, so that page 0's directory entry stands
at 96; its PIN is 1 there (R295). A packet has been accepted that writes 0 to SEED_COUNT: once it is written page 0's entry
stands at 64, with PIN 0 and STATE ABSENT. Ring 15 serves engine SES. -/
def rewrittenMap : State :=
  let s := ((State.reset.setFld (Reg.sprRingCfg 0 15) 27 24 9).setReg (Reg.sprRingCompBase 0 15) (2 ^ 47)).setReg
    Reg.alxStatus 1
  { s with sess := [(0, galleryMapContext)], gallery := [(10, 1), (12, 1), (96 + 74, 1)],
           galPackets := [(0, [{ ofs := 10, data := [0], sender := 0x4600, port := none }])] }

/-- The entries that stand in the completion ring once page 0 has been asked out. -/
def pageOutEntries : Nat :=
  match exec (.keyPageOut pageOutOrigin 0 0) rewrittenMap with
  | .next t => (t.ring 0 15).compPos
  | _ => 0

theorem pageOutEntries_eq : pageOutEntries = 2 := by decide

/-- What the Keystone controller reads the map from: the packet has been written. -/
abbrev rewrittenRead : State := (rewrittenMap.mapRead 0 (srcKey 8 0) (rewrittenMap.ctx 0) [0]).1

theorem rewrittenRead_absent :
    rewrittenRead.pageState (rewrittenRead.resMap (rewrittenMap.ctx 0)) 0 ≠ 2 := by decide

theorem rewrittenRead_unpinned :
    rewrittenRead.pagePin (rewrittenRead.resMap (rewrittenMap.ctx 0)) 0 = 0 := by decide

theorem rewrittenRead_alone : rewrittenRead.Alone pageOutOrigin := by decide

theorem rewrittenRead_ring : (rewrittenRead.ring 0 15).compPos = 0 := by decide

/-- Refutes O50: its clause of KEY_PAGE_OUT finds the page by the map as the controller reads it, where page 0 of session 0
is ABSENT with PIN 0 and the command completes with its record alone. The model looks for the page where the map placed it
before that read, ahead of which a packet accepted earlier is written into the map's header: it meets PIN 1, and the command
is refused with F_SESSION, PAGE_PINNED, whose fault record takes a second entry (R106, R298, R327). -/
theorem not_keysSetsAndRegions : ¬ Obligations.KeysSetsAndRegions := by
  rintro ⟨hpages, -⟩
  obtain ⟨-, -, hout⟩ := hpages pageOutOrigin 0 0 rewrittenMap (by decide) (by decide) (by decide) (by decide) (by decide)
  obtain ⟨u, t, hexec, ⟨-, hring, -⟩, hu⟩ := hout rewrittenRead_unpinned rewrittenRead_alone
  obtain rfl : u = rewrittenRead := (if_neg rewrittenRead_absent).mp hu
  have hone : pageOutEntries = 1 := by
    rw [pageOutEntries, hexec]
    show (t.ring 0 15).compPos = 1
    exact (congrArg Ring.compPos hring).trans (congrArg (· + 1) rewrittenRead_ring)
  rw [pageOutEntries_eq] at hone
  exact absurd hone (by decide)

end Sys2Proof.Machine
end

/-! ## What the region table is written by (R83, R85) -/

section
open Sys2Proof Sys2Proof.Machine
namespace Sys2Proof.Machine

theorem regions_of_kept {s t : State} (h : t.kept = s.kept) : t.regions = s.regions := congrArg Kept.regions h

/-- An outcome that leaves the region table as it was. -/
def KeepsRegions (s : State) (o : Host.Outcome State Fault Refusal) : Prop := ∀ t, o = .next t → t.regions = s.regions

theorem KeepsRegions.next {s t : State} (h : t.regions = s.regions) : KeepsRegions s (.next t) := by
  intro u hu
  obtain rfl := Host.Outcome.next.inj hu
  exact h

theorem OutKept.keepsRegions {s : State} {o : Host.Outcome State Fault Refusal} (h : OutKept s o) : KeepsRegions s o :=
  fun t ht => regions_of_kept (h t ht)

theorem Within.keepsRegions {s t : State} (h : Within s t) : KeepsRegions s (.next t) := KeepsRegions.next h.regions

/-! ### Control writes -/

theorem execRegw_keepsRegions (o : Origin) (pairs : List (Word × Word)) (s : State) :
    KeepsRegions s (execRegw o pairs s) := by
  refine KeepsRegions.next (Eq.trans ?_ (s.regwRun_within 0 pairs).regions)
  split
  · exact regions_of_kept (State.completeFault_kept _ _ _ _ _)
  · exact regions_of_kept (State.completeOk_kept _ _ _ _)

theorem execCarClaim_keepsRegions (actor : Actor) (car : Option (Fin 4)) (target : Fin 3) (s : State) :
    KeepsRegions s (execCarClaim actor car target s) := by
  unfold execCarClaim
  dsimp only
  split
  · exact KeepsRegions.next (regions_of_kept ((kept_reply _ _).trans (State.refuse_kept _ _ _ _)))
  · exact KeepsRegions.next (s.claim_within (carNum car) target.val).regions

theorem execI3cManagementTransaction_keepsRegions (addr : BitVec 36) (write : Option Word) (s : State) :
    KeepsRegions s (execI3cManagementTransaction addr write s) := by
  refine KeepsRegions.next ?_
  split
  · rfl
  · split
    · exact (regions_of_kept (State.raise_kept _ _ _)).trans (s.ctlWrite_within _ _ _).regions
    · refine (regions_of_kept ((kept_reply _ _).trans (State.raise_kept _ _ _))).trans ?_
      split
      · exact regions_of_kept (State.refuse_kept _ _ _ _)
      · rfl

/-! ### The bell, fuses, boot and reset -/

theorem foldl_regions {β : Type} {f : State → β → State} (h : ∀ t x, (f t x).regions = t.regions) (l : List β)
    (s : State) : (l.foldl f s).regions = s.regions := by
  induction l generalizing s with
  | nil => rfl
  | cons x l ih => exact (ih (f s x)).trans (h s x)

theorem State.countBell_regions (s : State) : s.countBell.regions = s.regions := by
  unfold State.countBell
  exact foldl_regions (fun t sp => State.setReg_regions t _ _) _ _

/-- What a bell does after it has counted writes no region. -/
theorem execBell_keepsRegions (bad : Option (Fin 4 × Fin 512)) (s : State) : KeepsRegions s (execBell bad s) := by
  unfold execBell
  split
  · exact KeepsRegions.next rfl
  · refine KeepsRegions.next ?_
    have mismatch : ∀ u : State, (match bad with
        | some (sp, e) => u.seqMismatch sp.val e.val
        | none => u).regions = u.regions := fun u => by
      split
      · exact regions_of_kept (State.seqMismatch_kept _ _ _)
      · rfl
    have tables : ∀ u : State, u.pinnedBell.bandsBell.btabBell.regions = u.regions := fun u =>
      regions_of_kept ((State.btabBell_kept _).trans ((State.bandsBell_kept _).trans (State.pinnedBell_kept _)))
    have groups : ∀ u : State, ((List.range 4).foldl (fun (t : State) sp =>
        (List.range 64).foldl (fun (u : State) g => u.dropGroupAt sp g) t) u).regions = u.regions :=
      foldl_regions (fun t sp => foldl_regions (fun u g => regions_of_kept (State.dropGroupAt_kept u sp g)) _ t) _
    rw [foldl_regions (fun t k => regions_of_kept (State.readTail_kept t _ _)), tables]
    refine (mismatch _).trans ?_
    rw [foldl_regions (fun t sp => regions_of_kept ((State.entriesBell_kept _ _).trans (State.slackBell_kept _ _ _))),
      foldl_regions (fun t sp => regions_of_kept (State.closeBell_kept t sp)),
      foldl_regions (fun t sp => regions_of_kept (State.recheckAll_kept t sp)),
      foldl_regions (fun t sp => regions_of_kept (State.tableBell_kept t sp)),
      regions_of_kept (State.timeoutBell_kept _), groups, regions_of_kept (State.psetBell_kept _),
      foldl_regions (fun t g => regions_of_kept (State.towerBell_kept t g)),
      regions_of_kept (State.bellChanges_kept _), State.countBell_regions, regions_of_kept (State.masterFrame_kept _ _)]

theorem execFuseProgDone_keepsRegions (s : State) : KeepsRegions s (execFuseProgDone s) := by
  refine KeepsRegions.next ?_
  split
  · rfl
  · exact State.setReg_regions _ _ _

theorem State.deriveIdentity_kept (s : State) : s.deriveIdentity.kept = s.kept := by
  unfold State.deriveIdentity
  split
  · exact (foldl_kept _ (fun t i => State.setReg_kept t _ _) _ _).trans rfl
  · rfl

theorem regions_of_idOpen (s : State) (b : Bool) : ({ s with idOpen := b } : State).regions = s.regions := rfl

theorem State.enterStage1_regions (s : State) (i : Nat) : (s.enterStage1 i).regions = s.regions := by
  have loaded : ∀ u : State, ((u.deriveIdentity.extend 0 (u.imageMeasure i)).extend 1 u.fuseMeasure).regions = u.regions :=
    fun u => regions_of_kept ((State.extend_kept _ _ _).trans ((State.extend_kept _ _ _).trans u.deriveIdentity_kept))
  have trained : ∀ u : State, (if u.alxUp then u else u.setTraining 8 true).regions = u.regions := fun u => by
    split
    · rfl
    · exact regions_of_kept (State.setTraining_kept _ _ _)
  have logged : ∀ (b : Bool) (u : State), (if b then u.applyLog else u).regions = u.regions := fun b u => by
    split
    · exact regions_of_kept (State.applyLog_kept _)
    · rfl
  refine (regions_of_kept ((State.tryService_kept _).trans (State.trainStacks_kept _ _))).trans ?_
  refine (logged _ _).trans ((trained _).trans ((regions_of_kept (State.alertOff_kept _ _)).trans ?_))
  exact (regions_of_idOpen _ _).trans ((loaded _).trans (State.setReg_regions _ _ _))

theorem execBootRom_keepsRegions (spiErr : BitVec 4) (s : State) : KeepsRegions s (execBootRom spiErr s) := by
  have noted : ∀ (u : State) (hi lo v : Nat), (u.setFld Reg.keyBootStatus hi lo v).regions = u.regions :=
    fun u hi lo v => regions_of_kept (State.setFld_kept u _ _ _ _)
  refine KeepsRegions.next ?_
  split
  · rfl
  split
  · exact noted _ _ _ _
  split
  · exact (regions_of_kept (State.alert_kept _ _)).trans (noted _ _ _ _)
  dsimp only
  split
  · exact (State.enterStage1_regions _ 0).trans (noted _ _ _ _)
  split
  · exact (State.enterStage1_regions _ 1).trans ((noted _ _ _ _).trans (noted _ _ _ _))
  · exact (regions_of_kept (State.alert_kept _ _)).trans ((noted _ _ _ _).trans (noted _ _ _ _))

theorem State.sense_regions (s : State) : s.sense.regions = s.regions := by
  unfold State.sense
  have words : ∀ (a v : Nat → Nat) (l : List Nat) (u : State),
      (l.foldl (fun (t : State) i => t.setReg (a i) (v i)) u).regions = u.regions := fun a v =>
    foldl_regions (fun t i => State.setReg_regions t (a i) (v i))
  simp only [words, State.setReg_regions]

theorem execResetRelease_keepsRegions (trained : BitVec 32) (s : State) :
    KeepsRegions s (execResetRelease trained s) := by
  refine KeepsRegions.next ?_
  split
  · rfl
  · exact (regions_of_kept (State.fuseMap_kept _)).trans
      ((State.sense_regions _).trans (regions_of_kept (State.galleriesUp_kept _)))

/-! ### Every command -/

/-- Only REGION_SET, a COMMAND_START that may start one, and RESET_ASSERT reach the region table. -/
theorem exec_keepsRegions (c : Instr) (s : State) (hset : ∀ o i b l, c ≠ .regionSet o i b l)
    (hstart : ∀ sp k e, c ≠ .commandStart sp k e) (hreset : c ≠ .resetAssert) : KeepsRegions s (exec c s) := by
  by_cases hc : Instr.writesKept c = false
  · exact (exec_kept c s hc).keepsRegions
  cases c with
  | regionSet o i b l => exact absurd rfl (hset o i b l)
  | commandStart sp k e => exact absurd rfl (hstart sp k e)
  | resetAssert => exact absurd rfl hreset
  | registerWrite actor a v => exact (s.ctlWrite_within actor a.toNat v.toNat).keepsRegions
  | regw o pairs => exact execRegw_keepsRegions o pairs s
  | bell bad => exact execBell_keepsRegions bad s
  | carClaim actor car target => exact execCarClaim_keepsRegions actor car target s
  | carComplete actor car target src =>
    exact (s.guarded_within actor _ _ (fun t => t.completeSource_within _ _ _ _)).keepsRegions
  | fuseAdvanceLifecycle actor state =>
    exact (s.guarded_within actor _ _ (fun t => t.fuseLife_within state.toNat)).keepsRegions
  | fuseAdvanceRollback actor => exact (s.guarded_within actor _ _ State.fuseRoll_within).keepsRegions
  | fuseWriteField actor field word data =>
    exact (s.guarded_within actor _ _ (fun t =>
      (within_of_kept (t.setReg_kept _ _)).trans (State.fuseField_within _ _ _ data))).keepsRegions
  | fuseProgDone => exact execFuseProgDone_keepsRegions s
  | bootRom spiErr => exact execBootRom_keepsRegions spiErr s
  | resetRelease trained => exact execResetRelease_keepsRegions trained s
  | entropyHealthFail => exact KeepsRegions.next rfl
  | i3cManagementTransaction addr write => exact execI3cManagementTransaction_keepsRegions addr write s
  | _ => exact absurd rfl hc

/-- Settles O8: the step is `exec` of the front command, and the queue is no part of the region table. -/
theorem regionsChangeByCommand : Obligations.RegionsChangeByCommand := by
  intro c rest s t hqueue hstep hset hstart hreset
  rw [step, hqueue] at hstep
  exact exec_keepsRegions c { s with pending := rest } hset hstart hreset t hstep

end Sys2Proof.Machine
end

/-! ## Fetching a descriptor entry (R79, R110, R111, R250) -/

section
open Sys2Proof Sys2Proof.Machine
namespace Sys2Proof.Machine

/-- A relation of states that each step of a fold keeps holds from its start to its end. -/
theorem foldl_rel {β : Type} {R : State → State → Prop} (refl : ∀ s, R s s)
    (trans : ∀ {s t u}, R s t → R t u → R s u) {f : State → β → State} (h : ∀ s x, R s (f s x)) (l : List β) (s : State) : R s (l.foldl f s) := by
  induction l generalizing s with
  | nil => exact refl s
  | cons x l ih => exact trans (h s x) (ih (f s x))

/-! ### What a read of a Gallery reports -/

/-- What a read of the Gallery of Spire `sp` may change: the count of its corrected codewords, and for uncorrectable ones
the report to its controller (R110, R111, R123). -/
structure Reports (sp : Nat) (s t : State) : Prop where
  rest : { t with ctl := s.ctl, faultsSpire := s.faultsSpire, lostFrom := s.lostFrom, free := s.free } = s
  regs : ∀ x, x ≠ Reg.sprGalCe sp → (∀ i < 16, x ≠ Reg.carPendSet sp i) → t.reg x = s.reg x

theorem Reports.refl (sp : Nat) (s : State) : Reports sp s s := ⟨rfl, fun _ _ _ => rfl⟩

theorem Reports.trans {sp : Nat} {s t u : State} (h : Reports sp s t) (k : Reports sp t u) : Reports sp s u where
  rest := (congrArg (fun w : State => { w with
    ctl := s.ctl, faultsSpire := s.faultsSpire, lostFrom := s.lostFrom, free := s.free }) k.rest).trans h.rest
  regs x hce hpend := (k.regs x hce hpend).trans (h.regs x hce hpend)

theorem Reports.towers {sp : Nat} {s t : State} (h : Reports sp s t) : t.towers = s.towers :=
  (congrArg State.towers h.rest :)

theorem Reports.sdeCache {sp : Nat} {s t : State} (h : Reports sp s t) : t.sdeCache = s.sdeCache :=
  (congrArg State.sdeCache h.rest :)

theorem State.setReg_reports (s : State) {sp a : Nat} (v : Nat)
    (ha : a = Reg.sprGalCe sp ∨ ∃ i < 16, a = Reg.carPendSet sp i) : Reports sp s (s.setReg a v) where
  rest := rfl
  regs x hce hpend := by
    refine State.reg_setReg_ne _ _ (fun hx => ?_)
    rcases ha with ha | ⟨i, hi, ha⟩
    · exact hce (hx.trans ha)
    · exact hpend i hi (hx.trans ha)

theorem State.raise_reports (s : State) (sp : Nat) {n : Nat} (hn : n < 1024) : Reports sp s (s.raise sp n) :=
  s.setReg_reports _ (.inr ⟨n / 64, by omega, rfl⟩)

theorem State.faultToSpire_reports (s : State) (sp : Nat) (f : FaultInfo) : Reports sp s (s.faultToSpire sp f) := by
  have hsent : Reports sp s (s.toSpire sp (s.record f 0)) := by
    unfold State.toSpire
    refine Reports.trans ?_ (State.raise_reports _ sp (by omega))
    exact ⟨rfl, fun _ _ _ => rfl⟩
  unfold State.faultToSpire
  obtain ⟨l, hl⟩ := (s.toSpire sp (s.record f 0)).wrote_frame f
  rw [hl]
  generalize s.toSpire sp (s.record f 0) = t at hsent
  exact hsent.trans ⟨rfl, fun _ _ _ => rfl⟩

theorem State.galleryRead_reports (s : State) (sp o n req : Nat) : Reports sp s (s.galleryRead sp o n req) := by
  have hues : ∀ (t : State) (us : List Nat), Reports sp t (us.foldl (fun (t : State) u =>
      (t.raise sp 96).faultToSpire sp (galleryUeFault sp u req)) t) := fun t us =>
    foldl_rel (R := Reports sp) (Reports.refl sp) Reports.trans (fun t u =>
      (State.raise_reports t sp (by omega)).trans (State.faultToSpire_reports _ sp _)) us t
  unfold State.galleryRead
  refine Reports.trans ?_ (hues _ _)
  split
  · exact Reports.refl sp s
  · exact s.setReg_reports _ (.inl rfl)

/-! ### The caches -/

theorem Fetched.setCache {u : DescUser} {s t : State} (h : Fetched u s t) (c : List Nat) : Fetched u s (t.setCache u c) := by
  obtain ⟨hrest, htower, hothers, hcache, hregs⟩ := h
  cases u with
  | loader g =>
    have heq : ∀ h, h ≠ g → (t.setCache (.loader g) c).tower h = t.tower h := fun h hne =>
      State.tower_modTower_ne t _ hne
    refine ⟨hrest, fun h => ?_, fun h hne => ?_, hcache, hregs⟩
    · by_cases hg : h = g
      · subst hg
        rw [State.setCache, State.tower_modTower_self]
        exact htower h
      · rw [heq h hg]
        exact htower h
    · rw [heq h (fun hg => hne (by rw [hg]))]
      exact hothers h hne
  | sde sp =>
    refine ⟨hrest, htower, hothers, fun k hne => ?_, hregs⟩
    rw [← hcache k hne]
    exact SMap.get_set_ne _ _ (fun hk => hne (by rw [hk]))

/-- A read of the Gallery after a miss has been counted. -/
theorem Reports.fetched {u : DescUser} {s t : State} (h : Reports u.spire (s.count u.misses 1) t) : Fetched u s t := by
  have htower : ∀ g, t.tower g = s.tower g := fun g => by
    rw [State.tower, h.towers]
    rfl
  refine ⟨?_, fun g => ?_, fun g _ => htower g, fun k _ => by rw [h.sdeCache]; rfl, fun x hmiss hce hpend => ?_⟩
  · exact congrArg (fun w : State => { w with ctl := s.ctl, towers := s.towers, sdeCache := s.sdeCache }) h.rest
  · rw [htower]
  · rw [h.regs x hce hpend]
    exact State.reg_setReg_ne _ _ hmiss

/-- The use of a group: a hit moves it to the front; a miss reads it, and keeps it when it has no uncorrectable codeword. -/
theorem State.touchGroup_eq (s : State) (u : DescUser) (src i : Nat) :
    ∃ c v b, c = (i / 16 :: (s.cacheOf u).filter (· ≠ i / 16)).take u.size ∧ Fetched u s v ∧ v.towers = s.towers ∧
      s.touchGroup u src i = if (s.cacheOf u).contains (i / 16) then s.setCache u c
        else if b = true then v.setCache u c else v := by
  have hread := State.galleryRead_reports (s.count u.misses 1) u.spire (s.entryOfs u.spire (16 * (i / 16))) 1024 src
  refine ⟨_, _, (s.galUes u.spire (s.entryOfs u.spire (16 * (i / 16))) 1024).isEmpty, rfl, hread.fetched,
    hread.towers.trans (State.setReg_towers _ _ _), ?_⟩
  simp only [State.touchGroup, cacheUse, Bool.not_not]

theorem State.touchGroup_fetched (s : State) (u : DescUser) (src i : Nat) : Fetched u s (s.touchGroup u src i) := by
  obtain ⟨c, v, b, -, hread, -, heq⟩ := s.touchGroup_eq u src i
  rw [heq]
  split
  · exact Fetched.setCache ⟨rfl, fun _ => rfl, fun _ _ => rfl, fun _ _ => rfl, fun _ _ _ _ => rfl⟩ c
  · split
    · exact hread.setCache c
    · exact hread

/-- The stream engine's fetches leave the Towers alone. -/
theorem State.touchGroup_sde_towers (s : State) (sp src i : Nat) : (s.touchGroup (.sde sp) src i).towers = s.towers := by
  obtain ⟨c, v, b, -, -, hread, heq⟩ := s.touchGroup_eq (.sde sp) src i
  rw [heq]
  split
  · rfl
  · split
    · exact hread
    · exact hread

/-- A group that was cached still is once it has been used. -/
theorem State.touchGroup_sde_cached (s : State) (sp src i : Nat) (h : (s.cacheOf (.sde sp)).contains (i / 16) = true) :
    ((s.touchGroup (.sde sp) src i).cacheOf (.sde sp)).contains (i / 16) = true := by
  obtain ⟨c, v, b, hc, -, -, heq⟩ := s.touchGroup_eq (.sde sp) src i
  rw [heq, if_pos h]
  have hcache : (s.setCache (.sde sp) c).cacheOf (.sde sp) = c := SMap.get_set_self _ _ _
  rw [hcache, hc, DescUser.size, List.take_succ_cons]
  simp

/-! ### Whether an entry reads -/

/-- A fetch of entry `i` succeeds: its group is cached or none of its own codewords is uncorrectable, and CHECK matches
(R79, R111). -/
def State.EntryReads (s : State) (u : DescUser) (i : Nat) : Prop :=
  ((s.cacheOf u).contains (i / 16) = true ∨ s.galUes u.spire (s.entryOfs u.spire i) 64 = []) ∧ s.entryOk u.spire i = true

theorem State.fetchEntry_fst (s : State) (u : DescUser) (src h : Nat) :
    (s.fetchEntry u src h).1 = s.touchGroup u src (h % 16384) := rfl

theorem State.fetchEntry_ok {s : State} {u : DescUser} {src h : Nat} {b : List Byte} :
    (s.fetchEntry u src h).2 = .ok b ↔ s.EntryReads u (h % 16384) ∧ b = s.entryBytes u.spire (h % 16384) := by
  have hues : (s.cacheOf u).contains (h % 16384 / 16) = true ∨
      s.galUes u.spire (s.entryOfs u.spire (h % 16384)) 64 = [] ↔
      (if (s.cacheOf u).contains (h % 16384 / 16) then [] else
        s.galUes u.spire (s.entryOfs u.spire (h % 16384)) 64) = [] := by
    split <;> simp_all
  unfold State.fetchEntry State.EntryReads
  rw [hues]
  dsimp only
  generalize (if (s.cacheOf u).contains (h % 16384 / 16) then [] else
    s.galUes u.spire (s.entryOfs u.spire (h % 16384)) 64) = ues
  cases ues with
  | cons o ues => simp
  | nil => cases s.entryOk u.spire (h % 16384) <;> simp [eq_comm]

theorem State.fetchDesc_ok {s : State} {u : DescUser} {src h : Nat} {b : List Byte}
    (hok : (s.fetchDesc u src h).2 = .ok b) :
    s.fetchDesc u src h = (s.touchGroup u src (h % 16384), .ok b) ∧ s.EntryReads u (h % 16384) := by
  unfold State.fetchDesc at hok ⊢
  split at hok
  · cases hok
  · exact ⟨Prod.ext rfl hok, (State.fetchEntry_ok.mp hok).1⟩

end Sys2Proof.Machine
end

/-! ## What stands in a descriptor entry after a write (R75, R82, R92) -/

section
open Sys2Proof Sys2Proof.Machine

namespace Sys2Proof.SMap

variable {α : Type} {d : Nat → α}

@[simp] theorem length_walk (n : Nat) (m : SMap α) (k : Nat) : (walk d n m k).length = n := by
  induction n generalizing m k with
  | zero => rfl
  | succ n ih =>
    unfold walk
    split
    · rw [List.length_cons, ih]
    · split <;> rw [List.length_cons, ih]

@[simp] theorem length_getRun (m : SMap α) (k n : Nat) : (getRun d m k n).length = n := length_walk _ _ _

/-- A key that lies before every listed one reads as the default. -/
theorem walk_of_lt (n : Nat) {m : SMap α} {k : Nat} (h : ∀ e ∈ m, k < e.1) :
    walk d (n + 1) m k = d k :: walk d n m (k + 1) := by
  cases m with
  | nil => rfl
  | cons e m =>
    have hk := h e List.mem_cons_self
    rw [walk, if_neg (by omega)]

variable [DecidableEq α]

/-- A run reads back, whatever is listed after it. -/
theorem walk_run (k : Nat) (vs : List α) {m : SMap α} (h : ∀ e ∈ m, k + vs.length ≤ e.1) :
    walk d vs.length (run d k vs ++ m) k = vs := by
  induction vs generalizing k with
  | nil => rfl
  | cons v vs ih =>
    rw [List.length_cons] at h ⊢
    have htail := ih (k + 1) (fun e he => by have := h e he; omega)
    unfold run
    split
    · rename_i hv
      rw [walk_of_lt _ (fun e he => ?_), htail, hv]
      rcases List.mem_append.mp he with he | he
      · have := run_keys _ _ e he
        omega
      · have := h e he
        omega
    · rw [List.cons_append, walk, if_pos rfl, htail]

/-- Reading back the run just written. -/
theorem getRun_setRun (m : SMap α) (k : Nat) (vs : List α) : getRun d (setRun d m k vs) k vs.length = vs := by
  have hbefore : (m.filter (fun e => e.1 < k)).filter (fun e => k ≤ e.1) = [] :=
    List.filter_eq_nil_iff.mpr (fun e he => by simpa using (List.mem_filter.mp he).2)
  have hrun : (run d k vs).filter (fun e => k ≤ e.1) = run d k vs :=
    List.filter_eq_self.mpr (fun e he => by simpa using (run_keys k vs e he).1)
  rw [getRun, setRun, List.filter_append, List.filter_append, hbefore, hrun, List.nil_append]
  refine walk_run k vs (fun e he => ?_)
  simpa using (List.mem_filter.mp (List.mem_filter.mp he).1).2

/-- Any byte after a run of `n` values has been written. -/
theorem get_setRun_getD (m : SMap α) (k : Nat) {vs : List α} {n : Nat} (hn : vs.length = n) (j : Nat) (x : α) :
    get d (setRun d m k vs) j = if k ≤ j ∧ j < k + n then vs.getD (j - k) x else get d m j := by
  subst hn
  split
  · rename_i h
    obtain ⟨i, rfl⟩ := Nat.exists_eq_add_of_le h.1
    have hi : i < vs.length := by omega
    rw [get_setRun_in _ _ _ hi, Nat.add_sub_cancel_left, List.getD_eq_getElem _ _ hi]
  · exact get_setRun_out _ _ _ (by omega)

end Sys2Proof.SMap

namespace Sys2Proof.Machine

theorem leNat_lt (bs : List Byte) : leNat bs < 256 ^ bs.length := by
  induction bs with
  | nil => exact Nat.one_pos
  | cons b bs ih =>
    have hb : b.toNat < 256 := b.isLt
    rw [leNat, List.length_cons, Nat.pow_succ]
    omega

theorem field_lt (bs : List Byte) {hi lo n : Nat} (h : hi + 1 - lo = n) : field bs hi lo < 256 ^ n :=
  (leNat_lt _).trans_le (Nat.pow_le_pow_right (by decide) (by rw [List.length_take, h]; exact Nat.min_le_left _ _))

/-! ### The lengths of a KV entry -/

theorem length_patch {bs xs : List Byte} {lo : Nat} (h : lo + xs.length ≤ bs.length) :
    (patch bs lo xs).length = bs.length := by
  simp only [patch, List.length_append, List.length_take, List.length_drop]
  omega

theorem length_checkDesc {b : List Byte} (h : 63 ≤ b.length) : (checkDesc b).length = 64 := by
  simp only [checkDesc, List.length_append, List.length_take, length_leBytes]
  omega

theorem length_createdDesc (region : Nat) (b : List Byte) : (createdDesc region b).length = 64 := by
  have hb : ((b ++ List.replicate 64 0).take 64).length = 64 := by simp
  refine length_checkDesc ?_
  rw [length_patch, length_patch, hb]
  · decide
  · rw [hb]
    simp
  · rw [length_patch, hb]
    · simp
    · rw [hb]
      simp

/-- The bytes of an entry whose lengths have been written, one part after the other. -/
theorem checkDesc_patch_lengths {b : List Byte} (hb : b.length = 64) (c t : Nat) :
    ∃ ys, checkDesc (patch b 54 (leBytes 4 c ++ leBytes 4 t)) = b.take 54 ++ (leBytes 4 c ++ (leBytes 4 t ++ ys)) := by
  refine ⟨(b.drop 62).take 1 ++ leBytes 1 (crc8 ((patch b 54 (leBytes 4 c ++ leBytes 4 t)).take 63)), ?_⟩
  have htake : (patch b 54 (leBytes 4 c ++ leBytes 4 t)).take 63 =
      b.take 54 ++ (leBytes 4 c ++ (leBytes 4 t ++ (b.drop 62).take 1)) := by
    simp [patch, List.take_append, List.take_of_length_le, hb]
  rw [checkDesc, htake]
  simp only [List.append_assoc]

/-- The lengths written to an entry read back. -/
theorem parseDesc_patch_lengths {b : List Byte} (hb : b.length = 64) {c t : Nat} (hc : c < 2 ^ 32) (ht : t < 2 ^ 32) :
    (parseDesc (checkDesc (patch b 54 (leBytes 4 c ++ leBytes 4 t)))).aux0 = c ∧
      (parseDesc (checkDesc (patch b 54 (leBytes 4 c ++ leBytes 4 t)))).aux1 = t := by
  obtain ⟨ys, hbytes⟩ := checkDesc_patch_lengths hb c t
  have hfront : (b.take 54).length = 54 := by simp [hb]
  rw [hbytes]
  constructor
  · show field _ 57 54 = c
    rw [field_append_right _ _ _ _ hfront.le (by decide), hfront]
    exact (field_leBytes_append 4 c _ 3 rfl).trans (Nat.mod_eq_of_lt hc)
  · show field _ 61 58 = t
    rw [field_append_right _ _ _ _ (by omega) (by decide), hfront, field_append_right _ _ _ _ (by simp) (by decide),
      length_leBytes]
    exact (field_leBytes_append 4 t _ 3 rfl).trans (Nat.mod_eq_of_lt ht)

theorem State.length_entryBytes (s : State) (sp i : Nat) : (s.entryBytes sp i).length = 64 := SMap.length_getRun _ _ _

theorem State.entryBytes_galleryPut (s : State) (sp i : Nat) {bs : List Byte} (h : bs.length = 64) :
    (s.galleryPut sp (s.entryOfs sp i) bs).entryBytes sp i = bs := by
  have hread := SMap.getRun_setRun (d := fun _ => (0 : Byte)) s.gallery (galKey sp (s.entryOfs sp i)) bs
  rwa [h] at hread

theorem State.lengths_lt {s : State} {sp i c t : Nat} (h : s.lengths sp i = (c, t)) : c < 2 ^ 32 ∧ t < 2 ^ 32 := by
  obtain ⟨rfl, rfl⟩ := Prod.mk.inj h
  exact ⟨field_lt _ (n := 4) rfl, field_lt _ (n := 4) rfl⟩

end Sys2Proof.Machine
end

/-! ## The descriptor table (R79 to R95, R251) -/

section
open Sys2Proof Sys2Proof.Machine
namespace Sys2Proof.Machine

theorem State.desc_setDesc_ne (s : State) {sp i sp' j : Nat} (e : DescEntry) (hi : i < 16384) (hj : j < 16384)
    (h : (sp', j) ≠ (sp, i)) : (s.setDesc sp i e).desc sp' j = s.desc sp' j := by
  refine SMap.get_set_ne _ _ (fun hkey => h ?_)
  obtain ⟨rfl, rfl⟩ : sp' = sp ∧ j = i := by omega
  rfl

theorem State.desc_congr {s t : State} (h : t.descs = s.descs) (sp i : Nat) : t.desc sp i = s.desc sp i := by
  rw [State.desc, h, State.desc]

/-! ### Cached copies (R251) -/

/-- Nothing but the descriptor caches differs. -/
structure CachesDropped (s t : State) : Prop where
  rest : { t with towers := s.towers, sdeCache := s.sdeCache } = s
  towers : ∀ g, { t.tower g with dcache := (s.tower g).dcache } = s.tower g

theorem CachesDropped.refl (s : State) : CachesDropped s s := ⟨rfl, fun _ => rfl⟩

theorem CachesDropped.trans {s t u : State} (h : CachesDropped s t) (k : CachesDropped t u) : CachesDropped s u where
  rest := (congrArg (fun w : State => { w with towers := s.towers, sdeCache := s.sdeCache }) k.rest).trans h.rest
  towers g := (congrArg (fun w : Tower => { w with dcache := (s.tower g).dcache }) (k.towers g)).trans (h.towers g)

theorem State.sdeCache_dropped (s : State) (c : SMap (List Nat)) : CachesDropped s { s with sdeCache := c } :=
  ⟨rfl, fun _ => rfl⟩

theorem State.modTower_dcache_dropped (s : State) (g : Nat) (f : List Nat → List Nat) :
    CachesDropped s (s.modTower g (fun t => { t with dcache := f t.dcache })) := by
  refine ⟨rfl, fun h => ?_⟩
  by_cases hg : h = g
  · rw [hg, State.tower_modTower_self]
  · rw [State.tower_modTower_ne _ _ hg]

theorem State.dropGroup_dropped (s : State) (sp i : Nat) : CachesDropped s (s.dropGroup sp i) := by
  unfold State.dropGroup
  refine CachesDropped.trans ?_ (State.sdeCache_dropped _ _)
  refine foldl_rel (R := CachesDropped) CachesDropped.refl CachesDropped.trans (fun t p => ?_) _ s
  split
  · exact t.modTower_dcache_dropped _ (fun c => c.filter (· ≠ i / 16))
  · exact CachesDropped.refl t

/-! ### The frame of a command on the table -/

/-- What a command on the descriptor table of Spire `sp` may change: the table, the 64 bytes of the Gallery from key `at_`
and their codewords, the descriptor caches, and what a fetch counts and reports. -/
structure TableFrame (sp at_ : Nat) (s t : State) : Prop where
  rest : { t with
    descs := s.descs, gallery := s.gallery, ramErr := s.ramErr, towers := s.towers, sdeCache := s.sdeCache, ctl := s.ctl,
    faultsSpire := s.faultsSpire, lostFrom := s.lostFrom, free := s.free } = s
  gallery : ∀ k, k < at_ ∨ at_ + 64 ≤ k → SMap.get (fun _ => 0) t.gallery k = SMap.get (fun _ => 0) s.gallery k
  towers : ∀ g, { t.tower g with dcache := (s.tower g).dcache } = s.tower g
  regs : ∀ x, x ≠ Reg.sdeDcacheMiss sp → x ≠ Reg.sprGalCe sp → (∀ j < 16, x ≠ Reg.carPendSet sp j) → t.reg x = s.reg x

theorem TableFrame.trans {sp at_ : Nat} {s t u : State} (h : TableFrame sp at_ s t) (k : TableFrame sp at_ t u) :
    TableFrame sp at_ s u where
  rest := (congrArg (fun w : State => { w with
    descs := s.descs, gallery := s.gallery, ramErr := s.ramErr, towers := s.towers, sdeCache := s.sdeCache, ctl := s.ctl,
    faultsSpire := s.faultsSpire, lostFrom := s.lostFrom, free := s.free }) k.rest).trans h.rest
  gallery x hx := (k.gallery x hx).trans (h.gallery x hx)
  towers g := (congrArg (fun w : Tower => { w with dcache := (s.tower g).dcache }) (k.towers g)).trans (h.towers g)
  regs x hmiss hce hpend := (k.regs x hmiss hce hpend).trans (h.regs x hmiss hce hpend)

theorem Fetched.tableFrame {sp : Nat} {s t : State} (h : Fetched (.sde sp) s t) (at_ : Nat) : TableFrame sp at_ s t := by
  obtain ⟨hrest, htower, -, -, hregs⟩ := h
  have hgallery : t.gallery = s.gallery := (congrArg State.gallery hrest :)
  exact ⟨congrArg (fun w : State => { w with descs := s.descs, gallery := s.gallery, ramErr := s.ramErr }) hrest,
    fun k _ => by rw [hgallery], htower, hregs⟩

theorem CachesDropped.tableFrame {s t : State} (h : CachesDropped s t) (sp at_ : Nat) : TableFrame sp at_ s t := by
  have hgallery : t.gallery = s.gallery := (congrArg State.gallery h.rest :)
  have hctl : t.ctl = s.ctl := (congrArg State.ctl h.rest :)
  refine ⟨congrArg (fun w : State => { w with
    descs := s.descs, gallery := s.gallery, ramErr := s.ramErr, ctl := s.ctl, faultsSpire := s.faultsSpire,
    lostFrom := s.lostFrom, free := s.free }) h.rest, fun k _ => by rw [hgallery], h.towers, fun x _ _ _ => ?_⟩
  rw [State.reg, hctl, State.reg]

theorem State.setDesc_tableFrame (s : State) (sp at_ sp' i : Nat) (e : DescEntry) :
    TableFrame sp at_ s (s.setDesc sp' i e) := ⟨rfl, fun _ _ => rfl, fun _ => rfl, fun _ _ _ _ => rfl⟩

theorem State.galleryPut_tableFrame (s : State) (sp o : Nat) {bs : List Byte} (h : bs.length = 64) :
    TableFrame sp (galKey sp o) s (s.galleryPut sp o bs) :=
  ⟨rfl, fun k hk => SMap.get_setRun_out _ _ _ (by rw [h]; omega), fun _ => rfl, fun _ _ _ _ => rfl⟩

section
variable {sp at_ : Nat} {s t : State} (h : TableFrame sp at_ s t) (hsp : sp < 4)
include h hsp

/-- The registers of a Spire that stand before its Carillon's, other than SPR_GAL_CE, are as they were. -/
theorem TableFrame.reg_eq {x sp' ofs : Nat} (hx : x = Reg.spireBase sp' + ofs) (hofs : ofs < 0x10_0000)
    (hce : ofs ≠ 0x1018) : t.reg x = s.reg x := by
  refine h.regs x ?_ ?_ (fun j hj => ?_)
  · simp only [hx, Reg.sdeDcacheMiss, Reg.spireBase]
    omega
  · simp only [hx, Reg.sprGalCe, Reg.spireBase]
    omega
  · simp only [hx, Reg.carPendSet, Reg.carBase, if_pos hsp, Reg.spireBase]
    omega

theorem TableFrame.entryOfs (i : Nat) : t.entryOfs sp i = s.entryOfs sp i := by
  rw [State.entryOfs, h.reg_eq hsp (x := Reg.sprDescBase sp) (ofs := 0x80) rfl (by decide) (by decide), State.entryOfs]

/-- A command that completes alone still does so. -/
theorem TableFrame.alone {o : Origin} (ha : s.Alone o) : t.Alone o := by
  obtain ⟨hentry, hlidx, hpost, hcomp, hfences, hroom, hbase⟩ := ha
  have hruns : t.runs = s.runs := (congrArg State.runs h.rest :)
  have hring : t.ring o.spire.val o.ring.val = s.ring o.spire.val o.ring.val :=
    (congrArg (fun w : State => w.ring o.spire.val o.ring.val) h.rest :)
  have hr := o.ring.isLt
  have halx : t.reg Reg.alxStatus = s.reg Reg.alxStatus := by
    refine h.regs _ ?_ ?_ (fun j _ => ?_)
    · simp only [Reg.alxStatus, Reg.alxBase, Reg.sdeDcacheMiss, Reg.spireBase]
      omega
    · simp only [Reg.alxStatus, Reg.alxBase, Reg.sprGalCe, Reg.spireBase]
      omega
    · simp only [Reg.alxStatus, Reg.alxBase, Reg.carPendSet, Reg.carBase, if_pos hsp, Reg.spireBase]
      omega
  have hcfg : t.reg (Reg.sprRingCfg o.spire.val o.ring.val) = s.reg (Reg.sprRingCfg o.spire.val o.ring.val) :=
    h.reg_eq hsp (Nat.add_assoc _ 0x5008 (64 * o.ring.val)) (by omega) (by omega)
  have hcomp' : t.reg (Reg.sprRingCompBase o.spire.val o.ring.val) = s.reg (Reg.sprRingCompBase o.spire.val o.ring.val) :=
    h.reg_eq hsp (Nat.add_assoc _ 0x5020 (64 * o.ring.val)) (by omega) (by omega)
  refine ⟨hentry, hlidx, hpost, hcomp, ?_, ?_, ?_⟩
  · rw [State.fences, hruns]
    exact hfences
  · simp only [State.compRoom, State.compEntries, State.fld, State.alxUp, hring, halx, hcfg] at hroom ⊢
    exact hroom
  · rw [hcomp']
    exact hbase

end

/-! ### Reading an entry -/

theorem State.entryBytes_congr {s t : State} {sp i : Nat} (hg : t.gallery = s.gallery)
    (ho : t.entryOfs sp i = s.entryOfs sp i) : t.entryBytes sp i = s.entryBytes sp i := by
  rw [State.entryBytes, hg, ho, State.entryBytes]

theorem State.lengths_congr {s t : State} {sp i : Nat} (h : t.entryBytes sp i = s.entryBytes sp i) :
    t.lengths sp i = s.lengths sp i := by
  rw [State.lengths, h, State.lengths]

theorem State.entryOk_congr {s t : State} {sp i : Nat} (h : t.entryBytes sp i = s.entryBytes sp i) :
    t.entryOk sp i = s.entryOk sp i := by
  rw [State.entryOk, h, State.entryOk]

/-- What the stream engine's fetch of entry `i` leaves: the frame, the table, the entry's bytes, and that it reads again. -/
structure EntryFetched (sp i : Nat) (s t : State) : Prop where
  frame : ∀ at_, TableFrame sp at_ s t
  descs : t.descs = s.descs
  bytes : t.entryBytes sp i = s.entryBytes sp i
  writing : t.kvWriting sp i = s.kvWriting sp i
  reads : s.EntryReads (.sde sp) i → t.EntryReads (.sde sp) i

theorem State.touchGroup_entryFetched (s : State) {sp : Nat} (src i : Nat) (hsp : sp < 4) :
    EntryFetched sp i s (s.touchGroup (.sde sp) src i) := by
  have hfetched := s.touchGroup_fetched (.sde sp) src i
  have hcached := s.touchGroup_sde_cached sp src i
  have htowers := s.touchGroup_sde_towers sp src i
  generalize s.touchGroup (.sde sp) src i = t at hfetched hcached htowers
  have hframe := hfetched.tableFrame
  obtain ⟨hrest, -⟩ := hfetched
  have hofs := (hframe 0).entryOfs hsp i
  have hbytes : t.entryBytes sp i = s.entryBytes sp i := State.entryBytes_congr (congrArg State.gallery hrest :) hofs
  have hram : t.ramErr = s.ramErr := (congrArg State.ramErr hrest :)
  have hchannels : t.channels = s.channels := (congrArg State.channels hrest :)
  have hcolls : t.colls = s.colls := (congrArg State.colls hrest :)
  refine ⟨hframe, (congrArg State.descs hrest :), hbytes, ?_, fun ⟨hues, hok⟩ => ⟨?_, ?_⟩⟩
  · simp only [State.kvWriting, State.busyChannels, htowers, hchannels, hcolls]
  · refine hues.imp hcached (fun hnone => ?_)
    show t.galUes sp (t.entryOfs sp i) 64 = []
    rw [hofs, State.galUes, State.ramCws, hram]
    exact hnone
  · exact (State.entryOk_congr hbytes).trans hok

end Sys2Proof.Machine
end

/-! ## Creating and freeing descriptors, and their lengths (R80, R85, R87, R94, R95) -/

section
open Sys2Proof Sys2Proof.Machine
namespace Sys2Proof.Machine

theorem State.onEngine_run {s : State} {o : Origin} {engine : Nat} (opcode : Nat) (run : State → State)
    (h : s.ringEngine o = engine) : s.onEngine o engine opcode run = run s := if_pos h

/-! ### Creation and freeing -/

theorem State.freeEntry_lt {s : State} {sp i : Nat} (h : s.freeEntry sp = some i) : i < 16384 := by
  rw [State.freeEntry] at h
  exact List.mem_range.mp (List.mem_of_find?_eq_some h)

theorem State.handleOf_eq (s : State) (sp i : Nat) :
    s.handleOf sp i = sp * 2 ^ 30 + (s.desc sp i).reuse * 2 ^ 14 + i := by
  simp only [State.handleOf, Nat.shiftLeft_eq]

/-- The state in which a new entry stands in the table: its bytes, and that it is live (R80, R85). -/
def State.created (s : State) (sp i : Nat) (bs : List Byte) : State :=
  (s.galleryPut sp (s.entryOfs sp i) bs).setDesc sp i { s.desc sp i with live := true, freeing := none, kv := [] }

section
variable (s : State) (sp i : Nat) (bs : List Byte)

theorem State.created_desc : (s.created sp i bs).desc sp i = { s.desc sp i with live := true, freeing := none, kv := [] } :=
  State.desc_setDesc _ _ _ _

theorem State.created_desc_ne {sp i : Nat} (hi : i < 16384) {sp' j : Nat} (hj : j < 16384) (hne : (sp', j) ≠ (sp, i)) :
    (s.created sp i bs).desc sp' j = s.desc sp' j := State.desc_setDesc_ne _ _ hi hj hne

theorem State.created_gallery : (s.created sp i bs).gallery =
    SMap.setRun (fun _ => 0) s.gallery (galKey sp (s.entryOfs sp i)) bs := rfl

theorem State.created_rest :
    { s.created sp i bs with descs := s.descs, gallery := s.gallery, ramErr := s.ramErr } = s := rfl

theorem State.created_handleOf :
    (s.created sp i bs).handleOf sp i = sp * 2 ^ 30 + (s.desc sp i).reuse * 2 ^ 14 + i := by
  rw [State.handleOf_eq, State.created_desc]

theorem State.created_tableFrame {bs : List Byte} (h : bs.length = 64) :
    TableFrame sp (galKey sp (s.entryOfs sp i)) s (s.created sp i bs) :=
  (s.galleryPut_tableFrame sp (s.entryOfs sp i) h).trans (State.setDesc_tableFrame _ _ _ _ _ _)

end

/-- A DESC_CREATE that passes the checks, with a free entry. -/
theorem exec_descCreate {o : Origin} {region : BitVec 16} {desc b : List Byte} {i : Nat} {s : State}
    (hb : b = (desc ++ List.replicate 64 0).take 64) (heng : s.ringEngine o = 1)
    (hchk : s.createFault o.spire.val (srcSde o.spire.val) region.toNat b = none)
    (hfree : s.freeEntry o.spire.val = some i) :
    exec (.descCreate o region desc) s = .next ((s.created o.spire.val i (createdDesc region.toNat b)).completeOk o 0x15
      (leBytes 4 ((s.created o.spire.val i (createdDesc region.toNat b)).handleOf o.spire.val i))) := by
  subst hb
  show execDescCreate o region desc s = _
  rw [execDescCreate, State.onEngine_run _ _ heng]
  simp only [hchk, hfree]
  rfl

/-- What is left of a state once an entry has been changed and cached copies of its group dropped. -/
theorem State.setDesc_dropGroup (s : State) (sp i : Nat) (e : DescEntry) (hi : i < 16384) {t : State}
    (ht : t = (s.setDesc sp i e).dropGroup sp i) :
    t.desc sp i = e ∧ (∀ sp' j, j < 16384 → (sp', j) ≠ (sp, i) → t.desc sp' j = s.desc sp' j) ∧
      (∀ g, { t.tower g with dcache := (s.tower g).dcache } = s.tower g) ∧
      { t with descs := s.descs, towers := s.towers, sdeCache := s.sdeCache } = s ∧ ∀ at_, TableFrame sp at_ s t := by
  have hdrop := (s.setDesc sp i e).dropGroup_dropped sp i
  rw [← ht] at hdrop
  have hdescs : t.descs = (s.setDesc sp i e).descs := (congrArg State.descs hdrop.rest :)
  refine ⟨?_, fun sp' j hj hne => ?_, hdrop.towers, congrArg (fun w : State => { w with descs := s.descs }) hdrop.rest,
    fun at_ => (s.setDesc_tableFrame sp at_ sp i e).trans (hdrop.tableFrame sp at_)⟩
  · rw [State.desc_congr hdescs, State.desc_setDesc]
  · rw [State.desc_congr hdescs, State.desc_setDesc_ne s e hi hj hne]

theorem exec_descFree {o : Origin} {handle : BitVec 32} {s : State} (heng : s.ringEngine o = 1)
    (hstale : s.handleStale o.spire.val handle.toNat = none) :
    exec (.descFree o handle) s = .next ((s.setDesc o.spire.val (handle.toNat % 16384)
      { s.desc o.spire.val (handle.toNat % 16384) with freeing := some o }).dropGroup o.spire.val
        (handle.toNat % 16384)) := by
  show execDescFree o handle s = _
  rw [execDescFree, State.onEngine_run _ _ heng]
  simp only [hstale]

theorem exec_descFreeComplete {spire : Fin 4} {index : Fin 16384} {o : Origin} {s : State}
    (hfreeing : (s.desc spire.val index.val).freeing = some o) (huse : s.descInUse spire.val index.val = false) :
    exec (.descFreeComplete spire index) s = .next (((s.setDesc spire.val index.val
      { live := false, freeing := none, reuse := ((s.desc spire.val index.val).reuse + 1) % 1024, kv := [] }).dropGroup
        spire.val index.val).completeOk o 0x16) := by
  show execDescFreeComplete spire index s = _
  rw [execDescFreeComplete]
  simp only [hfreeing, huse, Bool.false_eq_true, if_false]

/-! ### Changing the lengths -/

/-- The lengths that ACCEPT n (some n) or REJECT (none) leaves (R94). -/
def appliedLengths (n : Option Nat) (c t : Nat) : Nat × Nat :=
  match n with
  | some n => (c + n, t)
  | none => (c, c)

/-- The opcode of an ACCEPT (some n) or a REJECT (none). -/
def kvOpcode (n : Option Nat) : Nat :=
  match n with
  | some _ => 0x17
  | none => 0x18

/-- A change of the lengths of an entry whose CHECK matches. -/
theorem State.changeLengths_changed {s : State} {sp i c t c' t' : Nat} (f : Nat → Nat → Nat × Nat) (hsp : sp < 4)
    (hok : s.entryOk sp i = true) (hlen : s.lengths sp i = (c, t)) (hf : f c t = (c', t')) (hc : c' < 2 ^ 32)
    (ht : t' < 2 ^ 32) :
    TableFrame sp (galKey sp (s.entryOfs sp i)) s (s.changeLengths sp i f) ∧
      (s.changeLengths sp i f).lengths sp i = (c', t') ∧ (s.changeLengths sp i f).descs = s.descs := by
  obtain ⟨b, hb⟩ : ∃ b, b = checkDesc (patch (s.entryBytes sp i) 54 (leBytes 4 c' ++ leBytes 4 t')) := ⟨_, rfl⟩
  have hentry := s.length_entryBytes sp i
  have hlength : b.length = 64 := by
    rw [hb]
    refine length_checkDesc ?_
    rw [length_patch] <;> simp [hentry]
  have hset : s.setLengths sp i f = s.galleryPut sp (s.entryOfs sp i) b := by
    obtain ⟨hc0, ht0⟩ := Prod.mk.inj hlen
    have hread : f (field (s.entryBytes sp i) 57 54) (field (s.entryBytes sp i) 61 58) = (c', t') := by
      rw [← hf, ← hc0, ← ht0]
      rfl
    simp only [State.setLengths, hok, hread, hb, Bool.not_true, Bool.false_eq_true, if_false]
  have hdrop := (s.setLengths sp i f).dropGroup_dropped sp i
  rw [hset] at hdrop
  have hput := s.galleryPut_tableFrame sp (s.entryOfs sp i) hlength
  rw [State.changeLengths, hset]
  have hframe := hdrop.tableFrame sp (galKey sp (s.entryOfs sp i))
  generalize (s.galleryPut sp (s.entryOfs sp i) b).dropGroup sp i = u at hdrop hframe
  have hbytes : u.entryBytes sp i = b := by
    have hgallery : u.gallery = (s.galleryPut sp (s.entryOfs sp i) b).gallery := (congrArg State.gallery hdrop.rest :)
    rw [State.entryBytes_congr hgallery (hframe.entryOfs hsp i)]
    exact s.entryBytes_galleryPut sp i hlength
  refine ⟨hput.trans hframe, ?_, (congrArg State.descs hdrop.rest :)⟩
  obtain ⟨hc1, ht1⟩ := parseDesc_patch_lengths hentry hc ht
  rw [State.lengths, hbytes, hb]
  exact Prod.ext hc1 ht1

/-- An ACCEPT or REJECT whose entry reads and whose lengths fit takes effect (R94). -/
theorem State.kvApply_applied {s : State} {sp i h c t : Nat} {n : Option Nat} (hsp : sp < 4) (hi : h % 16384 = i)
    (hread : s.EntryReads (.sde sp) i) (hlen : s.lengths sp i = (c, t)) (hfit : ∀ k, n = some k → c + k ≤ t) :
    ∃ u, s.kvApply sp i h n = (u, none) ∧ TableFrame sp (galKey sp (s.entryOfs sp i)) s u ∧
      u.lengths sp i = appliedLengths n c t ∧ u.descs = s.descs := by
  have hfetched := s.touchGroup_entryFetched (srcSde sp) i hsp
  have hfetch : s.fetchEntry (.sde sp) (srcSde sp) h =
      (s.touchGroup (.sde sp) (srcSde sp) i, .ok (s.entryBytes sp i)) :=
    Prod.ext (by rw [State.fetchEntry_fst, hi]) (State.fetchEntry_ok.mpr ⟨hi.symm ▸ hread, by rw [hi]; rfl⟩)
  generalize s.touchGroup (.sde sp) (srcSde sp) i = v at hfetched hfetch
  obtain ⟨hframe, hdescs, hbytes, -, -⟩ := hfetched
  have hvlen : v.lengths sp i = (c, t) := (State.lengths_congr hbytes).trans hlen
  have hvok : v.entryOk sp i = true := (State.entryOk_congr hbytes).trans hread.2
  have hofs := (hframe 0).entryOfs hsp i
  obtain ⟨hc0, ht0⟩ : (parseDesc (s.entryBytes sp i)).aux0 = c ∧ (parseDesc (s.entryBytes sp i)).aux1 = t :=
    Prod.mk.inj hlen
  obtain ⟨hclt, htlt⟩ := State.lengths_lt hlen
  have changed : ∀ f : Nat → Nat → Nat × Nat, f c t = appliedLengths n c t →
      (appliedLengths n c t).1 < 2 ^ 32 → (appliedLengths n c t).2 < 2 ^ 32 →
      TableFrame sp (galKey sp (s.entryOfs sp i)) s (v.changeLengths sp i f) ∧
        (v.changeLengths sp i f).lengths sp i = appliedLengths n c t ∧ (v.changeLengths sp i f).descs = s.descs := by
    intro f hf h1 h2
    obtain ⟨hchange, hnew, hsame⟩ := State.changeLengths_changed f hsp hvok hvlen hf h1 h2
    exact ⟨(hframe _).trans (hofs ▸ hchange), hnew, hsame.trans hdescs⟩
  cases n with
  | some k =>
    have hk := hfit k rfl
    simp only [State.kvApply, hfetch, hc0, ht0, if_neg (Nat.not_lt.mpr hk)]
    split
    · rename_i hzero
      subst hzero
      exact ⟨v, rfl, hframe _, hvlen, hdescs⟩
    · exact ⟨_, rfl, changed _ rfl (hk.trans_lt htlt) htlt⟩
  | none =>
    simp only [State.kvApply, hfetch, hc0, ht0]
    split
    · rename_i hsame
      exact ⟨v, rfl, hframe _, hvlen.trans (by rw [← hsame]; rfl), hdescs⟩
    · exact ⟨_, rfl, changed _ rfl hclt hclt⟩

/-- It completes with both lengths. -/
theorem State.kvFinish_recorded {s : State} {o : Origin} {i h c t : Nat} {n : Option Nat} (ha : s.Alone o)
    (hi : h % 16384 = i) (hread : s.EntryReads (.sde o.spire.val) i) (hlen : s.lengths o.spire.val i = (c, t))
    (hfit : ∀ k, n = some k → c + k ≤ t) :
    ∃ u, TableFrame o.spire.val (galKey o.spire.val (s.entryOfs o.spire.val i)) s u ∧
      u.lengths o.spire.val i = appliedLengths n c t ∧ u.descs = s.descs ∧
      Recorded o (kvOpcode n) (leBytes 3 (appliedLengths n c t).1 ++ leBytes 3 (appliedLengths n c t).2) u
        (s.kvFinish o o.spire.val i h n) := by
  obtain ⟨u, happly, hframe, hnew, hdescs⟩ := State.kvApply_applied o.spire.isLt hi hread hlen hfit
  have hresult : u.kvResult o.spire.val i =
      leBytes 3 (appliedLengths n c t).1 ++ leBytes 3 (appliedLengths n c t).2 := by
    simp only [State.kvResult, hnew]
  have hfinish : s.kvFinish o o.spire.val i h n = u.completeOk o (kvOpcode n) (u.kvResult o.spire.val i) := by
    simp only [State.kvFinish, happly]
    cases n <;> rfl
  refine ⟨u, hframe, hnew, hdescs, ?_⟩
  rw [hfinish, hresult]
  exact completeOk_recorded _ _ (hframe.alone o.spire.isLt ha)

/-! ### ACCEPT, REJECT and KV_LENGTH_APPLY -/

/-- A handle that is not refused has had its entry fetched. -/
theorem State.kvRefused_none {s : State} {sp h : Nat} (hok : (s.kvRefused sp h).2 = none) :
    s.kvRefused sp h = (s.touchGroup (.sde sp) (srcSde sp) (h % 16384), none) ∧ s.EntryReads (.sde sp) (h % 16384) := by
  cases hb : (s.fetchDesc (.sde sp) (srcSde sp) h).2 with
  | error f =>
    have hpair : s.fetchDesc (.sde sp) (srcSde sp) h = ((s.fetchDesc (.sde sp) (srcSde sp) h).1, .error f) :=
      Prod.ext rfl hb
    rw [State.kvRefused, hpair] at hok
    cases hok
  | ok b =>
    obtain ⟨hfetch, hreads⟩ := State.fetchDesc_ok hb
    refine ⟨Prod.ext ?_ hok, hreads⟩
    rw [State.kvRefused, hfetch]

/-- The command: ACCEPT n or REJECT of a handle. -/
theorem exec_kvCommand {o : Origin} {handle : BitVec 32} {n : BitVec 24} (accept : Bool) {s : State}
    (heng : s.ringEngine o = 1) :
    exec (if accept then .accept o handle n else .reject o handle) s =
      .next (s.kvCommand o handle.toNat (if accept then some n.toNat else none)) := by
  cases accept
  · exact congrArg Host.Outcome.next (State.onEngine_run _ _ heng)
  · exact congrArg Host.Outcome.next (State.onEngine_run _ _ heng)

theorem State.kvCommand_now {s : State} {o : Origin} {h : Nat} {n : Option Nat} {v : State}
    (hok : s.kvRefused o.spire.val h = (v, none)) (hwriting : v.kvWriting o.spire.val (h % 16384) = false)
    (hkv : (v.desc o.spire.val (h % 16384)).kv = []) :
    s.kvCommand o h n = v.kvFinish o o.spire.val (h % 16384) h n := by
  simp only [State.kvCommand, hok, hwriting, hkv, List.isEmpty_nil, Bool.not_true, Bool.or_false, Bool.false_eq_true,
    if_false]

theorem State.kvCommand_waits {s : State} {o : Origin} {h : Nat} {n : Option Nat} {v : State}
    (hok : s.kvRefused o.spire.val h = (v, none))
    (hbusy : v.kvWriting o.spire.val (h % 16384) = true ∨ (v.desc o.spire.val (h % 16384)).kv ≠ []) :
    s.kvCommand o h n = v.setDesc o.spire.val (h % 16384) { v.desc o.spire.val (h % 16384) with
      kv := (v.desc o.spire.val (h % 16384)).kv ++ [(n, o)] } := by
  have hcond : (v.kvWriting o.spire.val (h % 16384) || !(v.desc o.spire.val (h % 16384)).kv.isEmpty) = true := by
    simpa using hbusy
  simp only [State.kvCommand, hok]
  exact if_pos hcond

theorem State.kvAdvanceAll_nil {s : State} (h : s.insts = []) (sp : Nat) : s.kvAdvanceAll sp = s := by
  rw [State.kvAdvanceAll, h]
  rfl

/-- KV_LENGTH_APPLY takes the oldest of those that waited. -/
theorem exec_kvLengthApply {o o' : Origin} {i : Nat} {n : Option Nat} {rest : List (Option Nat × Origin)} {s : State}
    (hi : i < 16384) (hwriting : s.kvWriting o.spire.val i = false)
    (hkv : (s.desc o.spire.val i).kv = (n, o') :: rest) :
    exec (.kvLengthApply o.spire (Fin.ofNat 16384 i)) s =
      .next (((s.setDesc o.spire.val i { s.desc o.spire.val i with kv := rest }).kvFinish o' o.spire.val i
        (s.handleOf o.spire.val i) n).kvAdvanceAll o.spire.val) := by
  have hidx : (Fin.ofNat 16384 i).val = i := Nat.mod_eq_of_lt hi
  show execKvLengthApply o.spire (Fin.ofNat 16384 i) s = _
  simp only [execKvLengthApply, hidx, hwriting, hkv, Bool.false_eq_true, if_false]
  rfl

theorem State.handleOf_mod (s : State) (sp : Nat) {i : Nat} (hi : i < 16384) : s.handleOf sp i % 16384 = i := by
  rw [State.handleOf_eq]
  omega

end Sys2Proof.Machine
end

/-! ## The descriptor commands complete (R80, R85 to R87, R94, R95, R251, R323) -/

section
open Sys2Proof Sys2Proof.Machine
namespace Sys2Proof.Machine

theorem appliedLengths_accept (accept : Bool) (n c t : Nat) :
    appliedLengths (if accept then some n else none) c t = if accept then (c + n, t) else (c, c) := by
  cases accept <;> rfl

theorem kvOpcode_accept (accept : Bool) (n : Nat) :
    kvOpcode (if accept then some n else none) = if accept then 0x17 else 0x18 := by
  cases accept <;> rfl

/-- ACCEPT, REJECT or KV_LENGTH_APPLY takes effect from `s` to `t`: the lengths of entry `i` become `len`, those that wait
on it `kv`, the command completes with the lengths, and beside the entry only what `TableFrame` names changes. -/
def KvCompletes (o : Origin) (opcode i : Nat) (len : Nat × Nat) (kv : List (Option Nat × Origin)) (s t : State) : Prop :=
  ∃ u, Recorded o opcode (leBytes 3 len.1 ++ leBytes 3 len.2) u t ∧ u.lengths o.spire.val i = len ∧
    u.desc o.spire.val i = { s.desc o.spire.val i with kv := kv } ∧
    (∀ sp' j, j < 16384 → (sp', j) ≠ (o.spire.val, i) → u.desc sp' j = s.desc sp' j) ∧
    TableFrame o.spire.val (galKey o.spire.val (s.entryOfs o.spire.val i)) s u

section
variable {o : Origin} {handle : BitVec 32} {i c t0 : Nat} {n : Option Nat} {s : State}
  (ha : s.Alone o) (hlen : s.lengths o.spire.val i = (c, t0)) (hfit : ∀ k, n = some k → c + k ≤ t0)
include ha hlen hfit

/-- At once, when no write is in flight and nothing waits. -/
theorem State.kvCommand_completes (hi : i = handle.toNat % 16384) (hwriting : s.kvWriting o.spire.val i = false)
    (hkv : (s.desc o.spire.val i).kv = []) (hok : (s.kvRefused o.spire.val handle.toNat).2 = none) :
    KvCompletes o (kvOpcode n) i (appliedLengths n c t0) [] s (s.kvCommand o handle.toNat n) := by
  subst hi
  obtain ⟨hrefused, hreads⟩ := State.kvRefused_none hok
  have hfetched := s.touchGroup_entryFetched (srcSde o.spire.val) (handle.toNat % 16384) o.spire.isLt
  generalize s.touchGroup (.sde o.spire.val) (srcSde o.spire.val) (handle.toNat % 16384) = v at hrefused hfetched
  obtain ⟨hframe, hdescs, hbytes, hsame, hagain⟩ := hfetched
  have hvkv : (v.desc o.spire.val (handle.toNat % 16384)).kv = [] := by rw [State.desc_congr hdescs, hkv]
  obtain ⟨u, huframe, hnew, hudescs, hrec⟩ := State.kvFinish_recorded ((hframe 0).alone o.spire.isLt ha)
    rfl (hagain hreads) ((State.lengths_congr hbytes).trans hlen) hfit
  rw [(hframe 0).entryOfs o.spire.isLt] at huframe
  have hentries : ∀ sp' j, u.desc sp' j = s.desc sp' j := State.desc_congr (hudescs.trans hdescs)
  refine ⟨u, ?_, hnew, ?_, fun sp' j _ _ => hentries sp' j, (hframe _).trans huframe⟩
  · rw [State.kvCommand_now hrefused (hsame.trans hwriting) hvkv]
    exact hrec
  · rw [hentries, ← hkv]

/-- When its turn has come, KV_LENGTH_APPLY does so for the oldest that waited. -/
theorem exec_kvLengthApply_completes {rest : List (Option Nat × Origin)} (hi : i < 16384)
    (hwriting : s.kvWriting o.spire.val i = false) (hkv : (s.desc o.spire.val i).kv = (n, o) :: rest)
    (hinsts : s.insts = [])
    (hfetch : (s.fetchEntry (.sde o.spire.val) (srcSde o.spire.val) i).2 = .ok (s.entryBytes o.spire.val i)) :
    ∃ t, exec (.kvLengthApply o.spire (Fin.ofNat 16384 i)) s = .next t ∧
      KvCompletes o (kvOpcode n) i (appliedLengths n c t0) rest s t := by
  have hreads := (State.fetchEntry_ok.mp hfetch).1
  rw [Nat.mod_eq_of_lt hi] at hreads
  obtain ⟨e, he⟩ : ∃ e : DescEntry, e = { s.desc o.spire.val i with kv := rest } := ⟨_, rfl⟩
  have hframe := fun at_ => s.setDesc_tableFrame o.spire.val at_ o.spire.val i e
  have hbytes : (s.setDesc o.spire.val i e).entryBytes o.spire.val i = s.entryBytes o.spire.val i := rfl
  obtain ⟨u, huframe, hnew, hudescs, hrec⟩ := State.kvFinish_recorded ((hframe 0).alone o.spire.isLt ha)
    (s.handleOf_mod o.spire.val hi) (show (s.setDesc o.spire.val i e).EntryReads (.sde o.spire.val) i from hreads)
    ((State.lengths_congr hbytes).trans hlen) hfit
  rw [(hframe 0).entryOfs o.spire.isLt] at huframe
  have hall := (hframe _).trans huframe
  have hdone : (State.kvAdvanceAll ((s.setDesc o.spire.val i e).kvFinish o o.spire.val i (s.handleOf o.spire.val i) n)
      o.spire.val) = (s.setDesc o.spire.val i e).kvFinish o o.spire.val i (s.handleOf o.spire.val i) n := by
    obtain ⟨-, -, -, -, -, -, hrest⟩ := hrec
    refine State.kvAdvanceAll_nil ?_ _
    exact (congrArg State.insts hrest :).trans ((congrArg State.insts hall.rest :).trans hinsts)
  refine ⟨_, exec_kvLengthApply hi hwriting hkv, u, ?_, hnew, ?_, fun sp' j hj hne => ?_, hall⟩
  · rw [← he, hdone]
    exact hrec
  · rw [State.desc_congr hudescs, State.desc_setDesc, he]
  · rw [State.desc_congr hudescs, State.desc_setDesc_ne s e hi hj hne]

end

/-- An ACCEPT or REJECT that must wait joins the entry's list. -/
theorem exec_kvCommand_waits {o : Origin} {handle : BitVec 32} {n : BitVec 24} (accept : Bool) {s : State}
    (heng : s.ringEngine o = 1) (hok : (s.kvRefused o.spire.val handle.toNat).2 = none)
    (hbusy : s.kvWriting o.spire.val (handle.toNat % 16384) = true ∨
      (s.desc o.spire.val (handle.toNat % 16384)).kv ≠ []) :
    Fetched (.sde o.spire.val) s (s.kvRefused o.spire.val handle.toNat).1 ∧
      (s.kvRefused o.spire.val handle.toNat).1.descs = s.descs ∧
      exec (if accept then .accept o handle n else .reject o handle) s =
        .next ((s.kvRefused o.spire.val handle.toNat).1.setDesc o.spire.val (handle.toNat % 16384)
          { s.desc o.spire.val (handle.toNat % 16384) with
            kv := (s.desc o.spire.val (handle.toNat % 16384)).kv ++ [(if accept then some n.toNat else none, o)] }) := by
  obtain ⟨hrefused, -⟩ := State.kvRefused_none hok
  have hfetched := s.touchGroup_entryFetched (srcSde o.spire.val) (handle.toNat % 16384) o.spire.isLt
  have hfetch := s.touchGroup_fetched (.sde o.spire.val) (srcSde o.spire.val) (handle.toNat % 16384)
  generalize s.touchGroup (.sde o.spire.val) (srcSde o.spire.val) (handle.toNat % 16384) = v at hrefused hfetched hfetch
  obtain ⟨-, hdescs, -, hsame, -⟩ := hfetched
  have hentry : v.desc o.spire.val (handle.toNat % 16384) = s.desc o.spire.val (handle.toNat % 16384) :=
    State.desc_congr hdescs _ _
  rw [hrefused]
  refine ⟨hfetch, hdescs, ?_⟩
  rw [exec_kvCommand accept heng, State.kvCommand_waits hrefused (by rwa [hsame, hentry]), hentry]

/-- Settles O44, command by command. -/
theorem descriptors : Obligations.Descriptors := by
  refine ⟨fun o region desc i s ha heng => ?_, fun o handle s heng => ?_, fun spire index o s ha hfreeing huse => ?_,
    fun o handle n c t0 accept waited rest s ha heng => ?_, fun o handle n accept s heng => ?_⟩
  · intro sp b hchk hfree
    have hlength := length_createdDesc region.toNat b
    have hrec := completeOk_recorded 0x15 (leBytes 4 ((s.created sp i (createdDesc region.toNat b)).handleOf sp i))
      ((s.created_tableFrame sp i hlength).alone o.spire.isLt ha)
    rw [State.created_handleOf] at hrec
    refine ⟨s.created sp i (createdDesc region.toNat b), _, exec_descCreate rfl heng hchk hfree, ?_,
      s.created_desc sp i _, fun sp' j hj hne => s.created_desc_ne _ (State.freeEntry_lt hfree) hj hne, fun k => ?_,
      s.created_rest sp i _⟩
    · rw [State.created_handleOf]
      exact hrec
    · rw [State.created_gallery]
      exact SMap.get_setRun_getD _ _ hlength k 0
  · intro sp i hstale
    obtain ⟨hentry, hothers, htowers, hrest, -⟩ := s.setDesc_dropGroup sp i { s.desc sp i with freeing := some o }
      (Nat.mod_lt _ (by decide)) rfl
    exact ⟨_, exec_descFree heng hstale, hentry, hothers, htowers, hrest⟩
  · obtain ⟨hentry, hothers, htowers, hrest, hframe⟩ := s.setDesc_dropGroup spire.val index.val
      { live := false, freeing := none, reuse := ((s.desc spire.val index.val).reuse + 1) % 1024, kv := [] } index.isLt rfl
    exact ⟨_, _, exec_descFreeComplete hfreeing huse,
      completeOk_recorded 0x16 [] ((hframe 0).alone spire.isLt ha), hentry, hothers, htowers, hrest⟩
  · intro sp i e len hwriting hlen hfits hcase
    have hfit : ∀ k, (if accept then some n.toNat else none) = some k → c + k ≤ t0 := by
      intro k hk
      cases accept with
      | false => cases hk
      | true =>
        obtain rfl : n.toNat = k := Option.some.inj hk
        exact hfits rfl
    have hcompletes : ∃ t, exec (if waited then .kvLengthApply o.spire (Fin.ofNat 16384 i) else if accept then
        .accept o handle n else .reject o handle) s = .next t ∧
        KvCompletes o (kvOpcode (if accept then some n.toNat else none)) i
          (appliedLengths (if accept then some n.toNat else none) c t0) (if waited then rest else []) s t := by
      cases waited with
      | false =>
        obtain ⟨hkv, hok⟩ := hcase
        exact ⟨_, exec_kvCommand accept heng, State.kvCommand_completes ha hlen hfit rfl hwriting hkv hok⟩
      | true =>
        obtain ⟨hkv, hinsts, hfetch⟩ := hcase
        exact exec_kvLengthApply_completes ha hlen hfit (Nat.mod_lt _ (by decide)) hwriting hkv hinsts hfetch
    rw [kvOpcode_accept, appliedLengths_accept] at hcompletes
    obtain ⟨t, hexec, u, hrec, hnew, hentry, hothers, hrest, hgallery, htowers, hregs⟩ := hcompletes
    exact ⟨u, t, hexec, hrec, hnew, hentry, hothers, hgallery, htowers, hregs, hrest⟩
  · intro sp i r hok hbusy
    obtain ⟨hfetched, hdescs, hexec⟩ := exec_kvCommand_waits (n := n) accept heng hok hbusy
    refine ⟨_, hexec, hfetched, State.desc_setDesc _ _ _ _, fun sp' j hj hne => ?_, ?_⟩
    · rw [State.desc_setDesc_ne _ _ (Nat.mod_lt _ (by decide)) hj hne, State.desc_congr hdescs]
    · rw [← hdescs]
      rfl

end Sys2Proof.Machine
end

/-! ## Upkeep of the Tower memories and the Galleries (R110, R113, R116, R117) -/

section
open Sys2Proof Sys2Proof.Machine

namespace Sys2Proof.SMap

/-- Keys that are taken out read as the default, the others as before. -/
theorem get_filter_not {α : Type} {d : Nat → α} (p : Nat → Bool) (m : SMap α) (k : Nat) :
    get d (m.filter (fun e => !p e.1)) k = if p k then d k else get d m k := by
  split
  · rename_i hp
    refine get_of_keys (p := fun x => p x = false) (fun e he => ?_) (by simp [hp])
    simpa using (List.mem_filter.mp he).2
  · rename_i hp
    exact get_filter_key (fun x => !p x) m (by simpa using hp)

end Sys2Proof.SMap

namespace Sys2Proof.Machine

/-! ### Event counters and bits -/

/-- An event counter stops at 0xFFFF_FFFF; no other register changes. -/
theorem State.reg_count (s : State) (a k x : Nat) :
    (s.count a k).reg x = if x = a then min (s.reg a + k) (2 ^ 32 - 1) else s.reg x := by
  rw [State.count, State.reg_setReg, satAdd, Nat.mod_eq_of_lt (by omega)]

theorem mem_below {n i : Nat} {p : Nat → Bool} : i ∈ below n p ↔ i < n ∧ p i = true := by
  simp [below]

/-- Setting the bits of a list, one after the other. -/
theorem bit_foldl_setBit (l : List Nat) (v i : Nat) :
    bit (l.foldl (fun v n => v ||| 1 <<< n) v) i = (bit v i || decide (i ∈ l)) := by
  induction l generalizing v with
  | nil => simp
  | cons n l ih =>
    rw [List.foldl_cons, ih]
    simp only [bit, Nat.testBit_or, Nat.one_shiftLeft, Nat.testBit_two_pow, List.mem_cons, Bool.decide_or, Bool.or_assoc,
      eq_comm (a := n)]

/-! ### Banks that come On (R113) -/

/-- A wait that is counted, with the free value that is drawn for it (DESIGN CHOICE, log 4), changes nothing else. -/
theorem State.countWait_frame (s : State) (waited : Bool) (a k : Nat) :
    (if waited then (s.count a k).draw else s).towers = s.towers ∧
    (∀ x, x ≠ a → (if waited then (s.count a k).draw else s).reg x = s.reg x) ∧
    { if waited then (s.count a k).draw else s with ctl := s.ctl, free := s.free } = s := by
  cases waited with
  | false => exact ⟨rfl, fun _ _ => rfl, rfl⟩
  | true => exact ⟨rfl, fun x hx => State.reg_setReg_ne s _ hx, rfl⟩

/-- A bank's transition to On ends: it leaves the list, and what waited for it is counted. -/
theorem exec_bankPowerTransitionEnd (slot : Fin 68) (bank : Fin 64) (s : State) :
    ∃ t, exec (.bankPowerTransitionEnd slot bank) s = .next t ∧
      t.tower slot.val = { s.tower slot.val with rising := (s.tower slot.val).rising.filter (· ≠ bank.val) } ∧
      (∀ h, h ≠ slot.val → t.tower h = s.tower h) ∧ (∀ x, x ≠ Reg.twrMemStall slot.val → t.reg x = s.reg x) ∧
      { t with ctl := s.ctl, towers := s.towers, free := s.free } = s := by
  obtain ⟨u, hexec, htowers, hregs, hrest⟩ : ∃ u : State, exec (.bankPowerTransitionEnd slot bank) s =
      .next (u.modTower slot.val (fun t => { t with rising := t.rising.filter (· ≠ bank.val) })) ∧
      u.towers = s.towers ∧ (∀ x, x ≠ Reg.twrMemStall slot.val → u.reg x = s.reg x) ∧
      { u with ctl := s.ctl, free := s.free } = s := ⟨_, rfl, s.countWait_frame _ _ _⟩
  have htower (h : Nat) : u.tower h = s.tower h := by rw [State.tower, htowers, State.tower]
  refine ⟨_, hexec, ?_, fun h hne => ?_, hregs, ?_⟩
  · rw [State.tower_modTower_self, htower]
  · rw [State.tower_modTower_ne _ _ hne, htower]
  · exact (congrArg (fun w : State => { w with towers := s.towers }) hrest :)

/-- Banks that only came On lose nothing; the Tower's list of those coming On is all that may change. -/
theorem State.banksChanged_on (s old : State) (g : Nat)
    (hon : ∀ n < 64, bit (old.reg (Reg.twrBankOn g)) n = true → bit (s.reg (Reg.twrBankOn g)) n = true)
    (hret : s.reg (Reg.twrBankRet g) = old.reg (Reg.twrBankRet g)) :
    OnlyTower g s (s.banksChanged old g) ∧
      { (s.banksChanged old g).tower g with rising := (s.tower g).rising } = s.tower g := by
  have hoff : below 64 (fun n => (bit (old.reg (Reg.twrBankOn g)) n || bit (old.reg (Reg.twrBankRet g)) n) &&
      !(bit (s.reg (Reg.twrBankOn g)) n || bit (s.reg (Reg.twrBankRet g)) n)) = [] := by
    refine List.filter_eq_nil_iff.mpr (fun n hn => ?_)
    have hn := hon n (List.mem_range.mp hn)
    rw [hret]
    cases hold : bit (old.reg (Reg.twrBankOn g)) n <;> simp_all
  unfold State.banksChanged
  simp only [hoff, List.foldl_nil]
  split
  · exact ⟨⟨rfl, fun _ _ => rfl⟩, rfl⟩
  · exact ⟨⟨rfl, fun _ hne => State.tower_modTower_ne _ _ hne⟩, by rw [State.tower_modTower_self]⟩

/-! ### SCRUB (R116) -/

/-- The banks that a SCRUB of `banks` brings On: those in Retention (R116). -/
def State.scrubOn (s : State) (g : Nat) (banks : BitVec 64) : State :=
  s.setReg (Reg.twrBankOn g) ((below 64 (fun n => banks.getLsbD n && bit (s.reg (Reg.twrBankRet g)) n &&
    !bit (s.reg (Reg.twrBankOn g)) n)).foldl (fun v n => v ||| 1 <<< n) (s.reg (Reg.twrBankOn g)))

theorem State.scrubTower_eq (s : State) (g : Nat) (banks : BitVec 64) :
    s.scrubTower g banks = ((s.scrubOn g banks).banksChanged s g).modTower g
      (fun t => { t with scrub := some (t.scrub.getD 0 ||| banks) }) := rfl

@[simp] theorem State.scrubOn_tower (s : State) (g : Nat) (banks : BitVec 64) (h : Nat) :
    (s.scrubOn g banks).tower h = s.tower h := State.setReg_tower' s _ _ h

@[simp] theorem State.scrubOn_tmem (s : State) (g : Nat) (banks : BitVec 64) : (s.scrubOn g banks).tmem = s.tmem :=
  State.setReg_tmem s _ _

theorem State.bit_scrubOn (s : State) (g : Nat) (banks : BitVec 64) {n : Nat} (hn : n < 64) :
    bit ((s.scrubOn g banks).reg (Reg.twrBankOn g)) n =
      (bit (s.reg (Reg.twrBankOn g)) n || (banks.getLsbD n && bit (s.reg (Reg.twrBankRet g)) n)) := by
  rw [State.scrubOn, State.reg_setReg_self, bit_mod_two_pow _ hn, bit_foldl_setBit]
  simp only [mem_below, hn, true_and, Bool.decide_eq_true]
  cases bit (s.reg (Reg.twrBankOn g)) n <;> simp

/-- What a SCRUB of a Tower leaves when it starts: its banks join those under SCRUB (DEDUCED, log 92), and of them those
in Retention come On. -/
structure ScrubStarted (g : Nat) (banks : BitVec 64) (s t : State) : Prop where
  named : (t.tower g).scrub = some ((s.tower g).scrub.getD 0 ||| banks)
  on : ∀ n < 64, bit (t.reg (Reg.twrBankOn g)) n =
    (bit (s.reg (Reg.twrBankOn g)) n || (banks.getLsbD n && bit (s.reg (Reg.twrBankRet g)) n))
  regs : ∀ x, x ≠ Reg.twrBankOn g → t.reg x = s.reg x
  self : { t.tower g with scrub := (s.tower g).scrub, rising := (s.tower g).rising } = s.tower g
  others : ∀ h, h ≠ g → t.tower h = s.tower h
  tmem : t.tmem = s.tmem

theorem State.scrubTower_started (s : State) (g : Nat) (banks : BitVec 64) :
    ScrubStarted g banks s (s.scrubTower g banks) := by
  have hne : Reg.twrBankRet g ≠ Reg.twrBankOn g := by simp only [Reg.twrBankRet, Reg.twrBankOn]; omega
  have hchanged := (s.scrubOn g banks).banksChanged_on s g
    (fun n hn h => by rw [State.bit_scrubOn s g banks hn, h, Bool.true_or]) (State.reg_setReg_ne _ _ hne)
  rw [State.scrubTower_eq]
  generalize (s.scrubOn g banks).banksChanged s g = u at hchanged
  obtain ⟨⟨hrest, hothers⟩, hself⟩ := hchanged
  rw [State.scrubOn_tower] at hself
  have hctl : u.ctl = (s.scrubOn g banks).ctl := (congrArg State.ctl hrest :)
  have hreg (x : Nat) : u.reg x = (s.scrubOn g banks).reg x := by rw [State.reg, hctl, State.reg]
  refine ⟨?_, fun n hn => ?_, fun x hx => ?_, ?_, fun h hh => ?_,
    (congrArg State.tmem hrest :).trans (s.scrubOn_tmem g banks)⟩
  · rw [State.tower_modTower_self]
    have hscrub : (u.tower g).scrub = (s.tower g).scrub := (congrArg Tower.scrub hself :)
    rw [hscrub]
  · exact (congrArg (bit · n) (hreg _)).trans (s.bit_scrubOn g banks hn)
  · exact (hreg x).trans (State.reg_setReg_ne s _ hx)
  · rw [State.tower_modTower_self]
    exact congrArg (fun t : Tower => { t with scrub := (s.tower g).scrub }) hself
  · rw [State.tower_modTower_ne _ _ hh]
    exact (hothers h hh).trans (s.scrubOn_tower g banks h)

/-- A SCRUB of a Tower completes: the named banks that are On read as zero. -/
theorem exec_scrubComplete_tower {g : Fin 68} {banks : BitVec 64} {s : State} (hscrub : (s.tower g.val).scrub = some banks)
    (hrising : (s.tower g.val).rising.any (fun n => banks.getLsbD n) = false) :
    exec (.scrubComplete (.tower g)) s =
      .next ((s.zeroBanks g.val banks).modTower g.val (fun t => { t with scrub := none })) := by
  show execScrubComplete (.tower g) s = _
  simp only [execScrubComplete, hscrub, hrising, Bool.false_eq_true, if_false]

theorem State.get_tmem_zeroBanks (s : State) (g : Nat) (banks : BitVec 64) (a : Nat) :
    SMap.get (fun _ => 0) (s.zeroBanks g banks).tmem a =
      if g * towerSize ≤ a ∧ a < (g + 1) * towerSize ∧ banks.getLsbD ((a - g * towerSize) / 256 % 64) = true ∧
        s.bankState g ((a - g * towerSize) / 256 % 64) = .on then 0
      else SMap.get (fun _ => 0) s.tmem a := by
  refine (SMap.get_filter_not (fun k => inSpan k (g * towerSize) towerSize &&
    banks.getLsbD (bankOf (k - g * towerSize)) && s.bankState g (bankOf (k - g * towerSize)) = .on) s.tmem a).trans ?_
  simp only [inSpan, Bool.and_eq_true, decide_eq_true_eq, and_assoc, Nat.add_mul, Nat.one_mul]
  rfl

/-- A SCRUB of a Gallery completes: its range reads as zero. -/
theorem exec_scrubComplete_gallery {sp : Fin 4} {lo hi : Nat} {rest : List (Nat × Nat)} {s : State}
    (hscrub : s.scrubs sp.val = (lo, hi) :: rest) :
    exec (.scrubComplete (.gallery sp)) s =
      .next { s.zeroRange sp.val lo hi with galScrub := SMap.set (fun _ => []) s.galScrub sp.val rest } := by
  show execScrubComplete (.gallery sp) s = _
  simp only [execScrubComplete, hscrub]

theorem State.get_gallery_zeroRange (s : State) (sp lo hi a : Nat) :
    SMap.get (fun _ => 0) (s.zeroRange sp lo hi).gallery a =
      if sp * gallerySize + lo ≤ a ∧ a < sp * gallerySize + lo + (hi - lo) then 0
      else SMap.get (fun _ => 0) s.gallery a := by
  refine (SMap.get_filter_not (fun k => inSpan k (galKey sp lo) (hi - lo)) s.gallery a).trans ?_
  simp only [inSpan, Bool.and_eq_true, decide_eq_true_eq]
  rfl

/-! ### Patrol (R110, R117) -/

theorem State.mem_ramCws {s : State} {k lo hi c : Nat} : c ∈ s.ramCws k lo hi ↔ lo ≤ c ∧ c < hi ∧ (c, k) ∈ s.ramErr := by
  simp only [State.ramCws, List.mem_map, List.mem_filter, Bool.and_eq_true, decide_eq_true_eq]
  constructor
  · rintro ⟨⟨c', k'⟩, ⟨hmem, ⟨hlo, hhi⟩, rfl⟩, rfl⟩
    exact ⟨hlo, hhi, hmem⟩
  · rintro ⟨hlo, hhi, hmem⟩
    exact ⟨(c, k), ⟨hmem, ⟨hlo, hhi⟩, rfl⟩, rfl⟩

/-- The row of 16 codewords from `lo` is rewritten: its correctable errors are gone, and counted at `ce` (R110, R117). -/
def State.patrolled (s : State) (lo ce : Nat) : State :=
  let u : State := { s with ramErr := s.ramErr.filter (fun e => !(s.ramCws 1 lo (lo + 16)).contains e.1) }
  if (s.ramCws 1 lo (lo + 16)).isEmpty then u else u.count ce (s.ramCws 1 lo (lo + 16)).length

/-- What patrol of a row without an uncorrectable codeword leaves. -/
structure Patrolled (lo ce : Nat) (s t : State) : Prop where
  counted : t.reg ce = (if s.ramCws 1 lo (lo + 16) = [] then s.reg ce
    else min (s.reg ce + (s.ramCws 1 lo (lo + 16)).length) (2 ^ 32 - 1))
  regs : ∀ x, x ≠ ce → t.reg x = s.reg x
  cleared : t.ramCws 1 lo (lo + 16) = []
  others : ∀ k, k < lo ∨ lo + 16 ≤ k → SMap.get (fun _ => 0) t.ramErr k = SMap.get (fun _ => 0) s.ramErr k
  rest : { t with ctl := s.ctl, ramErr := s.ramErr } = s

theorem State.patrolled_ramErr (s : State) (lo ce : Nat) :
    (s.patrolled lo ce).ramErr = s.ramErr.filter (fun e => !(s.ramCws 1 lo (lo + 16)).contains e.1) := by
  unfold State.patrolled
  dsimp only
  split <;> rfl

theorem State.patrolled_reg (s : State) (lo ce x : Nat) :
    (s.patrolled lo ce).reg x = if x = ce ∧ s.ramCws 1 lo (lo + 16) ≠ [] then
      min (s.reg ce + (s.ramCws 1 lo (lo + 16)).length) (2 ^ 32 - 1) else s.reg x := by
  unfold State.patrolled
  dsimp only
  split
  · rename_i hnone
    rw [if_neg (fun h => h.2 (List.isEmpty_iff.mp hnone))]
    rfl
  · rename_i hsome
    have hne : s.ramCws 1 lo (lo + 16) ≠ [] := fun h => hsome (List.isEmpty_iff.mpr h)
    rw [State.reg_count]
    simp only [hne, ne_eq, not_false_eq_true, and_true]
    rfl

theorem State.patrolled_spec (s : State) (lo ce : Nat) : Patrolled lo ce s (s.patrolled lo ce) where
  counted := by
    rw [State.patrolled_reg]
    by_cases h : s.ramCws 1 lo (lo + 16) = [] <;> simp [h]
  regs x hx := by rw [State.patrolled_reg, if_neg (fun h => hx h.1)]
  cleared := by
    refine List.eq_nil_iff_forall_not_mem.mpr (fun c hc => ?_)
    obtain ⟨hlo, hhi, hmem⟩ := State.mem_ramCws.mp hc
    rw [State.patrolled_ramErr, List.mem_filter] at hmem
    have hgood := State.mem_ramCws.mpr ⟨hlo, hhi, hmem.1⟩
    simp [hgood] at hmem
  others k hk := by
    rw [State.patrolled_ramErr, SMap.get_filter_not (fun c => (s.ramCws 1 lo (lo + 16)).contains c), if_neg]
    intro hc
    obtain ⟨hlo, hhi, -⟩ := State.mem_ramCws.mp (List.contains_iff_mem.mp hc)
    omega
  rest := by
    unfold State.patrolled
    dsimp only
    split <;> rfl

theorem exec_tmPatrol_tower {g : Fin 68} {row : BitVec 20} {s : State} (ho : 256 * row.toNat < towerSize)
    (hon : s.bankState g.val (row.toNat % 64) = .on) (hscrub : (s.tower g.val).scrub = none)
    (hbad : s.ramCws 2 (tmCw g.val (256 * row.toNat)) (tmCw g.val (256 * row.toNat) + 16) = []) :
    exec (.tmPatrol (.tower g) row) s =
      .next (s.patrolled (tmCw g.val (256 * row.toNat)) (Reg.twrMemCe g.val)) := by
  have hbank : bankOf (256 * row.toNat) = row.toNat % 64 := by unfold bankOf; omega
  show execTmPatrol (.tower g) row s = _
  simp only [execTmPatrol, hbank, hon, hscrub, hbad, List.foldl_nil, Nat.not_le.mpr ho, decide_false, ne_eq,
    not_true_eq_false, Option.isSome_none, Bool.or_self, Bool.false_eq_true, if_false]
  rfl

theorem exec_tmPatrol_gallery {sp : Fin 4} {row : BitVec 20} {s : State} (ho : 256 * row.toNat < gallerySize)
    (hscrub : s.scrubs sp.val = [])
    (hbad : s.ramCws 2 (galCw sp.val (256 * row.toNat)) (galCw sp.val (256 * row.toNat) + 16) = []) :
    exec (.tmPatrol (.gallery sp) row) s =
      .next (s.patrolled (galCw sp.val (256 * row.toNat)) (Reg.sprGalCe sp.val)) := by
  show execTmPatrol (.gallery sp) row s = _
  simp only [execTmPatrol, hscrub, hbad, List.foldl_nil, Nat.not_le.mpr ho, decide_false, List.isEmpty_nil, Bool.not_true,
    Bool.or_self, Bool.false_eq_true, if_false]
  rfl

/-- The codewords of the Galleries are numbered after those of the Tower memories. -/
theorem galCw_eq (sp o : Nat) : galCw sp o = (68 * towerSize + sp * gallerySize + o) / 16 := by
  unfold galCw galKey
  rw [Nat.add_assoc, show 68 * towerSize = 16 * (68 * towerSize / 16) by decide, Nat.mul_add_div (by decide),
    Nat.mul_div_cancel_left _ (by decide)]

/-- Settles O41, command by command. -/
theorem memoryUpkeep : Obligations.MemoryUpkeep := by
  refine ⟨exec_bankPowerTransitionEnd, fun actor unit banks lo hi s hactor => if_pos hactor, fun g banks lo hi s => ?_,
    fun sp banks lo hi s => ?_, fun g banks s hscrub hrising => ?_, fun sp lo hi rest s hscrub => ?_,
    fun g row s => ?_, fun sp row s => ?_⟩
  · obtain ⟨hnamed, hon, hregs, hself, hothers, htmem⟩ := s.scrubTower_started g.val banks
    exact ⟨_, rfl, hnamed, hon, hregs, hself, hothers, fun a => by rw [htmem]⟩
  · exact ⟨_, rfl, SMap.get_set_self _ _ _, fun k hk => SMap.get_set_ne _ _ hk, rfl⟩
  · refine ⟨_, exec_scrubComplete_tower hscrub hrising, ?_, s.get_tmem_zeroBanks g.val banks, ?_, fun h hh => ?_, rfl⟩
    · rw [State.tower_modTower_self]
    · rw [State.tower_modTower_self]
      rfl
    · rw [State.tower_modTower_ne _ _ hh]
      rfl
  · exact ⟨_, exec_scrubComplete_gallery hscrub, SMap.get_set_self _ _ _, s.get_gallery_zeroRange sp.val lo hi, rfl⟩
  · intro o lo ho hon hscrub hbad
    obtain ⟨hcount, hregs, hcleared, hothers, hrest⟩ := s.patrolled_spec lo (Reg.twrMemCe g.val)
    exact ⟨_, exec_tmPatrol_tower ho hon hscrub hbad, hcount, hregs, hcleared, hothers, hrest⟩
  · intro o lo ce ho hscrub hbad
    obtain ⟨hcount, hregs, hcleared, hothers, hrest⟩ := s.patrolled_spec lo ce
    have hlo : lo = galCw sp.val o := (galCw_eq sp.val o).symm
    refine ⟨_, exec_tmPatrol_gallery ho hscrub (hlo ▸ hbad), ?_⟩
    rw [← hlo]
    exact ⟨hcount, hregs, hcleared, hothers, hrest⟩

end Sys2Proof.Machine
end

/-! ## Remote packets: windows, credit, the owner's own, and their writing (R118 to R121, R124) -/

section
open Sys2Proof Sys2Proof.Machine
namespace Sys2Proof.Machine

/-! ### The registers that guard a memory -/

theorem carPendSet_spire {c : Nat} (hc : c < 4) (i : Nat) : Reg.carPendSet c i = Reg.spireBase c + 0x10_0000 + 0x2000 + 8 * i := by
  rw [Reg.carPendSet, Reg.carBase, if_pos hc]

theorem unitRegs_winDrop_ne_pend (u : MemUnit) : (unitRegs u).winDrop ≠ Reg.carPendSet (unitRegs u).spire 0 := by
  cases u with
  | tower g =>
    simp only [unitRegs, towerRegs, slotSpire, carPendSet_spire (show g.val / 17 < 4 by omega), Reg.twrWinDrop, Reg.twrBase,
      Reg.spireBase]
    omega
  | gallery sp =>
    simp only [unitRegs, galleryRegs, carPendSet_spire sp.isLt, Reg.sprGalWinDrop, Reg.spireBase]
    omega

theorem unitRegs_credAvail_ne_bal (u : MemUnit) (x : Nat) : (unitRegs u).credAvail ≠ (unitRegs u).bal x := by
  cases u with
  | tower g => simp only [unitRegs, towerRegs, Reg.twrCredAvail, Reg.twrCredBal]; omega
  | gallery sp => simp only [unitRegs, galleryRegs, Reg.sprGalCredAvail, Reg.sprGalCredBal]; omega

/-! ### Reports and answers -/

theorem portOf_eq (x : Nat) : portOf x = if 4 ≤ x ∧ x < 12 then some (x - 4) else none := by
  simp only [portOf, inSpan, Bool.and_eq_true, decide_eq_true_eq]

/-- A record delivered to a Spire controller: source 53 of its Carillon, and the record after the earlier ones (R8, R384). -/
structure Reported (sp : Nat) (r : List Byte) (s t : State) : Prop where
  pending : t.reg (Reg.carPendSet sp 0) = s.reg (Reg.carPendSet sp 0) ||| 1 <<< 53
  regs : ∀ x, x ≠ Reg.carPendSet sp 0 → t.reg x = s.reg x
  record : SMap.get (fun _ => []) t.faultsSpire sp = SMap.get (fun _ => []) s.faultsSpire sp ++ [r]
  rest : { t with ctl := s.ctl, faultsSpire := s.faultsSpire, free := s.free, lostFrom := s.lostFrom } = s

theorem State.reg_raise (s : State) (car n x : Nat) :
    (s.raise car n).reg x =
      if x = Reg.carPendSet car (n / 64) then s.reg x ||| 1 <<< (n % 64) else s.reg x := by
  have hbit : 1 <<< (n % 64) < 2 ^ 64 := by
    rw [Nat.one_shiftLeft]
    exact Nat.pow_lt_pow_right (by decide) (Nat.mod_lt _ (by decide))
  rw [State.raise, State.reg_setReg, Nat.mod_eq_of_lt (Nat.or_lt_two_pow (s.reg_lt _) hbit)]
  split
  · rename_i hx
    rw [hx]
  · rfl

/-- Records delivered, and a source raised, change nothing else. -/
theorem State.raise_delivered_rest (s : State) (l : SMap (List (List Byte))) (car n : Nat) :
    { ({ s with faultsSpire := l } : State).raise car n with
      ctl := s.ctl, faultsSpire := s.faultsSpire, free := s.free, lostFrom := s.lostFrom } = s := rfl

theorem State.toSpire_reported (s : State) (sp : Nat) (r : List Byte) : Reported sp r s (s.toSpire sp r) := by
  have hreg (x : Nat) : (s.toSpire sp r).reg x =
      if x = Reg.carPendSet sp 0 then s.reg x ||| 1 <<< 53 else s.reg x := State.reg_raise _ sp 53 x
  refine ⟨?_, fun x hx => ?_, SMap.get_set_self _ _ _, ?_⟩
  · rw [hreg, if_pos rfl]
  · rw [hreg, if_neg hx]
  · unfold State.toSpire
    exact s.raise_delivered_rest _ sp 53

theorem State.faultToSpire_reported (s : State) (sp : Nat) (f : FaultInfo) :
    Reported sp (s.record f 0) s (s.faultToSpire sp f) := by
  have htold := s.toSpire_reported sp (s.record f 0)
  unfold State.faultToSpire
  generalize s.toSpire sp (s.record f 0) = t at htold
  obtain ⟨hpending, hregs, hrecord, hrest⟩ := htold
  obtain ⟨l, hl⟩ := t.wrote_frame f
  rw [hl]
  exact ⟨hpending, hregs, hrecord, hrest⟩

theorem State.answer_eq (s : State) (port : Option Nat) (m : Nat → LinkMsg) :
    s.answer port m = { s with sent := s.sent ++ port.toList.map m } := by
  cases port with
  | none => exact congrArg (fun l => { s with sent := l }) (List.append_nil s.sent).symm
  | some p => rfl

/-! ### The check of a packet (R119, R120) -/

section
variable {s : State} {m : MemRegs} {sd : Sender} {o n : Nat}

theorem State.packetCheck_window_admits (hmode : s.creditMode m = false) (h : s.windowRefusal m sd o n = none) :
    s.packetCheck m sd o n = (s, none) := by
  simp only [State.packetCheck, hmode, h, Bool.false_eq_true, if_false]

theorem State.packetCheck_window_refuses {reason w : Nat} (hmode : s.creditMode m = false)
    (h : s.windowRefusal m sd o n = some (reason, w)) :
    s.packetCheck m sd o n = ((s.count m.winDrop 1).faultToSpire m.spire (windowFault m sd reason w o n),
      some (windowFault m sd reason w o n)) := by
  simp only [State.packetCheck, hmode, h, Bool.false_eq_true, if_false]

theorem State.packetCheck_credit_pays (hmode : s.creditMode m = true) (hbase : s.reg m.credBase ≤ o)
    (hlimit : o + n ≤ s.reg m.credLimit) (hsize : s.reg m.credLimit ≤ m.size) (hbal : n ≤ s.reg (m.bal sd.x)) :
    s.packetCheck m sd o n = (s.setReg (m.bal sd.x) (s.reg (m.bal sd.x) - n), none) := by
  simp only [State.packetCheck, hmode, hbase, hlimit, hsize, hbal, decide_true, Bool.and_self, if_true]

end

/-! ### The arrival of a packet -/

/-- What an address names that lies at offset `ofs` of a memory. -/
def memLoc (u : MemUnit) (ofs : Nat) : Loc :=
  match u with
  | .tower g => .tower g.val ofs
  | .gallery sp => .gallery sp.val ofs

/-- Whether source index `x` passes no window of the memory: the units of a Gallery's own Spire (R124). -/
def OwnSource (u : MemUnit) (x : Nat) : Prop :=
  match u with
  | .tower _ => False
  | .gallery sp => x = sp.val ∨ x = 13 ∨ x = 14

theorem ownSource_gallery {sp : Fin 4} {x : Nat} :
    (x = sp.val || x = 13 || x = 14) = true ↔ OwnSource (.gallery sp) x := by
  simp only [OwnSource, Bool.or_eq_true, decide_eq_true_eq, or_assoc]

theorem State.packetAt_owner (s : State) {sp : Fin 4} {sd : Sender} (o : Nat) (data : List Byte)
    (h : OwnSource (.gallery sp) sd.x) :
    s.packetAt (.gallery sp) sd o data = (s.galleryWrite sp.val o data sd.source).1 := by
  simp only [State.packetAt, ownSource_gallery.mpr h, if_true]

/-- What a packet that no window admits leaves: it is counted, reported and answered (R119, R407). -/
structure Dropped (m : MemRegs) (f : FaultInfo) (port : Option Nat) (s t : State) : Prop where
  counted : t.reg m.winDrop = min (s.reg m.winDrop + 1) (2 ^ 32 - 1)
  pending : t.reg (Reg.carPendSet m.spire 0) = s.reg (Reg.carPendSet m.spire 0) ||| 1 <<< 53
  regs : ∀ y, y ≠ m.winDrop → y ≠ Reg.carPendSet m.spire 0 → t.reg y = s.reg y
  record : SMap.get (fun _ => []) t.faultsSpire m.spire = SMap.get (fun _ => []) s.faultsSpire m.spire ++ [s.record f 0]
  sent : t.sent = s.sent ++ port.toList.map (fun q => .ack q 0 (some f))
  rest : { t with
    ctl := s.ctl, faultsSpire := s.faultsSpire, free := s.free, sent := s.sent, lostFrom := s.lostFrom } = s

theorem State.count_fault_answer_dropped (s : State) (u : MemUnit) (f : FaultInfo) (port : Option Nat) :
    Dropped (unitRegs u) f port s (((s.count (unitRegs u).winDrop 1).faultToSpire (unitRegs u).spire f).answer port
      (fun q => .ack q 0 (some f))) := by
  have hne := unitRegs_winDrop_ne_pend u
  have hcount (x : Nat) := s.reg_count (unitRegs u).winDrop 1 x
  have hrecord : (s.count (unitRegs u).winDrop 1).record f 0 = s.record f 0 := rfl
  have hreported := (s.count (unitRegs u).winDrop 1).faultToSpire_reported (unitRegs u).spire f
  rw [State.answer_eq]
  generalize (s.count (unitRegs u).winDrop 1).faultToSpire (unitRegs u).spire f = t at hreported
  obtain ⟨hpending, hregs, hfaults, hrest⟩ := hreported
  refine ⟨?_, ?_, fun y hdrop hpend => ?_, hrecord ▸ hfaults, ?_, ?_⟩
  · exact (hregs _ hne).trans ((hcount _).trans (if_pos rfl))
  · exact hpending.trans (congrArg (· ||| 1 <<< 53) ((hcount _).trans (if_neg hne.symm)))
  · exact (hregs y hpend).trans ((hcount y).trans (if_neg hdrop))
  · exact congrArg (· ++ _) (congrArg State.sent hrest :)
  · exact (congrArg (fun v : State => { v with ctl := s.ctl, sent := s.sent }) hrest :)

section
variable {s t : State} {u : MemUnit} {sd : Sender} {o : Nat} {data : List Byte} (h : ¬ OwnSource u sd.x)
include h

theorem State.packetAt_queued (hcheck : s.packetCheck (unitRegs u) sd o data.length = (t, none)) :
    s.packetAt u sd o data = t.queuePacket u { ofs := o, data := data, sender := sd.source, port := portOf sd.x } := by
  cases u with
  | tower g => simp only [State.packetAt, hcheck]
  | gallery sp => simp only [State.packetAt, mt ownSource_gallery.mp h, hcheck, if_false, Bool.false_eq_true]

theorem State.packetAt_refused {f : FaultInfo}
    (hcheck : s.packetCheck (unitRegs u) sd o data.length = (t, some f)) :
    s.packetAt u sd o data = t.answer (portOf sd.x) (fun q => .ack q 0 (some f)) := by
  cases u with
  | tower g => simp only [State.packetAt, hcheck]
  | gallery sp => simp only [State.packetAt, mt ownSource_gallery.mp h, hcheck, if_false, Bool.false_eq_true]

theorem State.packetAt_dropped {reason w : Nat} (hmode : s.creditMode (unitRegs u) = false)
    (hrefusal : s.windowRefusal (unitRegs u) sd o data.length = some (reason, w)) :
    Dropped (unitRegs u) (windowFault (unitRegs u) sd reason w o data.length) (portOf sd.x) s
      (s.packetAt u sd o data) := by
  rw [State.packetAt_refused h (State.packetCheck_window_refuses hmode hrefusal)]
  exact s.count_fault_answer_dropped u _ _

end

/-- A packet for a mapped address reaches the memory that the address names. -/
theorem exec_remoteWritePacket {dst : Dpa} {src : BitVec 4} {sender node gen : BitVec 16} {data : List Byte} {u : MemUnit}
    {ofs : Nat} {s : State} (hloc : s.loc dst.toNat = memLoc u ofs) (hn : data.length ≠ 0)
    (hrow : dst.toNat % 256 + data.length ≤ 256) (hsrc : src.toNat ≠ 15) (hport : s.portForbids src.toNat = false) :
    exec (.remoteWritePacket dst src sender node gen data) s =
      .next (s.packetAt u { x := src.toNat, source := sender.toNat, node := node.toNat, gen := gen.toNat } ofs data) := by
  show execRemoteWritePacket dst src sender node gen data s = _
  simp only [execRemoteWritePacket, hn, hsrc, hport, Nat.not_lt.mpr hrow, decide_false, Bool.or_self, Bool.false_eq_true,
    if_false]
  cases u with
  | tower g => simp only [hloc, memLoc, Fin.ofNat_val_eq_self]
  | gallery sp => simp only [hloc, memLoc, Fin.ofNat_val_eq_self]

/-! ### Credit requests (R120) -/

theorem exec_creditRequest {unit : MemUnit} {src : BitVec 4} {units : BitVec 16} {s : State} {av bal grant : Nat}
    (hav : av = s.reg (unitRegs unit).credAvail) (hbal : bal = s.reg ((unitRegs unit).bal src.toNat))
    (hgrant : grant = min units.toNat (min av ((2 ^ 28 - 1 - bal) / 4096)))
    (hmode : s.creditMode (unitRegs unit) = true) :
    exec (.creditRequest unit src units) s =
      .next (((s.setReg (unitRegs unit).credAvail (av - grant)).setReg ((unitRegs unit).bal src.toNat)
        (bal + 4096 * grant)).grant src.toNat grant none) := by
  subst hav hbal hgrant
  exact if_pos hmode

/-- A grant goes to the sender's port, or into the reply. -/
theorem State.grant_granted (s : State) (x g : Nat) :
    (if 4 ≤ x ∧ x < 12 then
      (s.grant x g none).sent = s.sent ++ [.creditGrant (x - 4) g none] ∧ (s.grant x g none).reply = s.reply
    else (s.grant x g none).sent = s.sent ∧ (s.grant x g none).reply = leBytes 4 g) ∧
    { s.grant x g none with sent := s.sent, reply := s.reply } = s := by
  unfold State.grant
  rw [portOf_eq]
  split <;> exact ⟨⟨rfl, rfl⟩, rfl⟩

theorem State.grant_reg (s : State) (x g y : Nat) : (s.grant x g none).reg y = s.reg y := by
  have hctl : (s.grant x g none).ctl = s.ctl := (congrArg State.ctl (s.grant_granted x g).2 :)
  rw [State.reg, hctl, State.reg]

/-! ### Accepted packets are written (R121) -/

theorem State.waitsForBank_false {s : State} {g : Nat} (h : s.waitsForBank g = false) : (s.tower g).rising = [] := by
  simp only [State.waitsForBank, Bool.or_eq_false_iff] at h
  simpa using h.1

/-- No access meets a bank in Retention or Off where all 64 are On. -/
theorem State.firstOff_of_on {s : State} {g : Nat} (hon : ∀ n < 64, bit (s.reg (Reg.twrBankOn g)) n = true)
    (hrising : (s.tower g).rising = []) (o n : Nat) : s.firstOff g o n = none := by
  have hbank (a : Nat) : s.bankState g (bankOf a) = .on := by
    simp only [State.bankState, hon (bankOf a) (Nat.mod_lt _ (by decide)), hrising, List.contains_nil, if_true,
      Bool.false_eq_true, if_false]
  simp only [State.firstOff, hbank, Option.map_eq_none_iff, List.find?_eq_none, Bool.false_eq_true, not_false_eq_true,
    implies_true]

theorem State.towerWrite_clean (s : State) (g o : Nat) (bs : List Byte) (req : Nat) (h : s.ramErr = []) :
    s.towerWrite g o bs req = ({ s with tmem := SMap.setRun (fun _ => 0) s.tmem (tmKey g o) bs }, none) := by
  cases s
  subst h
  rfl

/-- The oldest packet of a Tower memory whose banks are On and whose codewords hold no error. -/
theorem exec_remoteWriteDone_tower {slot : Fin 68} {p : Packet} {rest : List Packet} {s : State}
    (hpackets : (s.tower slot.val).packets = p :: rest) (hport : p.port = none) (hwaits : s.waitsForBank slot.val = false)
    (hon : ∀ n < 64, bit (s.reg (Reg.twrBankOn slot.val)) n = true) (herr : s.ramErr = []) :
    exec (.remoteWriteDone (.tower slot)) s = .next
      (({ s with tmem := SMap.setRun (fun _ => 0) s.tmem (tmKey slot.val p.ofs) p.data } : State).modTower slot.val
        (fun t => { t with packets := rest })) := by
  have hrising : ((s.modTower slot.val (fun t => { t with packets := rest })).tower slot.val).rising = [] := by
    rw [State.tower_modTower_self]
    exact State.waitsForBank_false hwaits
  have hwrite : (s.modTower slot.val (fun t => { t with packets := rest })).towerPacket slot.val p.ofs p.data p.sender =
      (({ s with tmem := SMap.setRun (fun _ => 0) s.tmem (tmKey slot.val p.ofs) p.data } : State).modTower slot.val
        (fun t => { t with packets := rest }), none) := by
    unfold State.towerPacket
    rw [State.firstOff_of_on (s := s.modTower slot.val (fun t => { t with packets := rest })) hon hrising]
    exact State.towerWrite_clean _ _ _ _ _ herr
  show execRemoteWriteDone (.tower slot) s = _
  simp only [execRemoteWriteDone, hpackets, hwaits, hwrite, hport, Bool.false_eq_true, if_false, State.answer]

/-- Settles O42, command by command. -/
theorem remoteWrites : Obligations.RemoteWrites := by
  refine ⟨fun dst src sender node gen data u ofs s => ?_, fun dst src sender node gen data sp ofs s => ?_,
    fun unit src units s => ?_, fun slot p rest s => ?_⟩
  · intro x n m pend sd p hwhere hn hrow hsrc hport
    obtain ⟨hloc, hforeign⟩ : s.loc dst.toNat = memLoc u ofs ∧ ¬ OwnSource u sd.x := by
      cases u with
      | tower g => exact ⟨hwhere, id⟩
      | gallery sp => exact ⟨hwhere.1, by simpa [OwnSource] using hwhere.2⟩
    have hexec := exec_remoteWritePacket (sender := sender) (node := node) (gen := gen) hloc hn hrow hsrc hport
    rw [hexec]
    refine ⟨fun hmode hrefusal => ?_, fun reason w hmode hrefusal => ?_, fun hmode hbase hlimit hsize hbal => ?_⟩
    · exact congrArg _ (State.packetAt_queued hforeign (State.packetCheck_window_admits hmode hrefusal))
    · obtain ⟨hcount, hpend, hregs, hrecord, hsent, hrest⟩ := State.packetAt_dropped hforeign hmode hrefusal
      exact ⟨_, rfl, hcount, hpend, hregs, hrecord, hsent, hrest⟩
    · exact congrArg _ (State.packetAt_queued hforeign (State.packetCheck_credit_pays hmode hbase hlimit hsize hbal))
  · intro x hloc hown hdata hrow
    have hport : s.portForbids x = false := by
      rw [State.portForbids, portOf_eq, if_neg (by omega)]
    exact (exec_remoteWritePacket (u := .gallery sp) hloc (List.length_eq_zero_iff.not.mpr hdata) hrow (by omega)
      hport).trans (congrArg _ (State.packetAt_owner s ofs data hown))
  · intro m x av bal grant hmode
    have hne := unitRegs_credAvail_ne_bal unit x
    have havlt : av - grant < 2 ^ 64 := Nat.lt_of_le_of_lt (Nat.sub_le _ _) (s.reg_lt _)
    have hballt : bal + 4096 * grant < 2 ^ 64 := by
      have hlt : bal < 2 ^ 64 := s.reg_lt _
      have hle : grant ≤ (2 ^ 28 - 1 - bal) / 4096 := (Nat.min_le_right _ _).trans (Nat.min_le_right _ _)
      omega
    refine ⟨_, exec_creditRequest rfl rfl rfl hmode, ?_⟩
    obtain ⟨hsent, hrest⟩ :=
      ((s.setReg m.credAvail (av - grant)).setReg (m.bal x) (bal + 4096 * grant)).grant_granted x grant
    have hreg (y : Nat) : (((s.setReg m.credAvail (av - grant)).setReg (m.bal x) (bal + 4096 * grant)).grant x grant
        none).reg y = if y = m.bal x then bal + 4096 * grant else if y = m.credAvail then av - grant else s.reg y := by
      rw [State.grant_reg, State.reg_setReg, State.reg_setReg, Nat.mod_eq_of_lt havlt, Nat.mod_eq_of_lt hballt]
    refine ⟨?_, ?_, fun y hav hbal => ?_, hsent, ?_⟩
    · rw [hreg, if_neg hne, if_pos rfl]
    · rw [hreg, if_pos rfl]
    · rw [hreg, if_neg hbal, if_neg hav]
    · exact (congrArg (fun w : State => { w with ctl := s.ctl }) hrest :)
  · intro g hpackets hport hwaits hon herr
    refine ⟨_, exec_remoteWriteDone_tower hpackets hport hwaits hon herr, ?_, fun h hh => ?_, fun a => ?_, rfl⟩
    · exact State.tower_modTower_self _ g _
    · exact State.tower_modTower_ne _ _ hh
    · exact SMap.get_setRun_getD _ _ rfl _ _

end Sys2Proof.Machine
end

/-! ## The channels of a stream engine (R230, R248, R323, R407) -/

section
open Sys2Proof Sys2Proof.Machine
namespace Sys2Proof.Machine

/-! ### Reading a channel -/

theorem State.channel_congr {s t : State} (h : t.channels = s.channels) (sp k : Nat) : t.channel sp k = s.channel sp k := by
  rw [State.channel, h, State.channel]

theorem State.channel_setChannel_ne (s : State) {sp ch sp' k : Nat} (c : Option Channel) (hch : ch < 16) (hk : k < 16)
    (h : (sp', k) ≠ (sp, ch)) : (s.setChannel sp ch c).channel sp' k = s.channel sp' k := by
  refine SMap.get_set_ne _ _ (fun hkey => h ?_)
  obtain ⟨rfl, rfl⟩ : sp' = sp ∧ k = ch := by omega
  rfl

theorem State.setChannel_frame (s : State) {sp ch : Nat} (c : Option Channel) (hlt : ch < 16) :
    (∀ sp' k, k < 16 → (sp', k) ≠ (sp, ch) → (s.setChannel sp ch c).channel sp' k = s.channel sp' k) ∧
      { s.setChannel sp ch c with channels := s.channels } = s :=
  ⟨fun _ _ hk hne => s.channel_setChannel_ne c hlt hk hne, by simp only [State.setChannel]⟩

theorem State.idleChannel_lt {s : State} {sp ch : Nat} (h : s.idleChannel sp = some ch) : ch < 16 := by
  rw [State.idleChannel] at h
  exact List.mem_range.mp (List.mem_of_find?_eq_some h)

theorem State.channelsWith_lt {s : State} {sp ch : Nat} {p : Channel → Bool} (h : s.channelsWith sp p = [ch]) : ch < 16 := by
  have hmem : ch ∈ s.channelsWith sp p := by rw [h]; exact List.mem_singleton_self ch
  exact (mem_below.mp hmem).1

/-! ### MOVE and PEER_MOVE start -/

section
variable {o : Origin} {src dst : Dpa} {len : BitVec 48} {s : State} (heng : s.ringEngine o = 1)
include heng

theorem exec_move_starts {ch : Nat} (hlen : len ≠ 0) (hidle : s.idleChannel o.spire.val = some ch)
    (hmapped : s.rangeFault o.spire.val [(src.toNat, len.toNat), (dst.toNat, len.toNat)] = none) :
    exec (.move o src dst len) s = .next (s.setChannel o.spire.val ch
      (some (s.newChannel o (.move src.toNat dst.toNat len.toNat 0)))) := by
  show execMove o src dst len s = _
  rw [execMove, State.onEngine_run _ _ heng]
  simp only [hmapped, if_neg hlen, hidle]

theorem exec_move_empty
    (hmapped : s.rangeFault o.spire.val [(src.toNat, 0), (dst.toNat, 0)] = none) :
    exec (.move o src dst 0) s = .next (s.completeOk o 0x10 (moveResult 0)) := by
  have hzero : (0 : BitVec 48).toNat = 0 := rfl
  show execMove o src dst 0 s = _
  rw [execMove, State.onEngine_run _ _ heng]
  simp only [hzero, hmapped, if_true]

theorem exec_peerMove_starts {port : Fin 8} {node gen : BitVec 16} {ch : Nat} (hlen : len ≠ 0)
    (hidle : s.idleChannel o.spire.val = some ch) (hmapped : s.rangeFault o.spire.val [(src.toNat, len.toNat)] = none) :
    exec (.peerMove o src port node dst gen len) s = .next (s.setChannel o.spire.val ch (some (s.newChannel o
      (.peer src.toNat port.val node.toNat dst.toNat gen.toNat len.toNat 0 0 0 s.bellNum)))) := by
  show execPeerMove o src port node dst gen len s = _
  rw [execPeerMove, State.onEngine_run _ _ heng]
  simp only [hmapped, if_neg hlen, hidle]

theorem exec_peerMove_empty {port : Fin 8} {node gen : BitVec 16}
    (hmapped : s.rangeFault o.spire.val [(src.toNat, 0)] = none) :
    exec (.peerMove o src port node dst gen 0) s = .next (s.completeOk o 0x11) := by
  have hzero : (0 : BitVec 48).toNat = 0 := rfl
  show execPeerMove o src port node dst gen 0 s = _
  rw [execPeerMove, State.onEngine_run _ _ heng]
  simp only [hzero, hmapped, if_true]

end

/-! ### One segment of a MOVE (R248, R382) -/

theorem State.channelEnd_ok (s : State) {sp ch : Nat} {c : Channel} (opcode : Nat) (result : List Byte)
    (hnote : c.note = none) :
    s.channelEnd sp ch c opcode result none = (s.setChannel sp ch none).completeOk c.o opcode result := by
  simp only [State.channelEnd, hnote]

/-- A segment that copies without a fault: the MOVE goes on, or ends when it was the last. -/
theorem exec_streamSegment_move {spire : Fin 4} {ch : Fin 16} {c : Channel} {src dst len done m : Nat} {s u : State}
    {r : SegOut} (hch : s.channel spire.val ch.val = some c) (hwork : c.work = .move src dst len done)
    (habandon : c.abandon = none) (hm : m = s.segLen (src + done) (dst + done) (len - done))
    (hsrc : s.segWaits (src + done) m = false) (hdst : s.segWaits (dst + done) m = false)
    (hcopy : s.copySeg spire.val 0 c (src + done) (dst + done) m
      (fun s => s.readRange spire.val (srcSde spire.val) (src + done) m false) (fun k => [(dst + done, k)]) = (u, r))
    (hfault : r.fault = none) :
    exec (.streamSegment spire ch) s = .next (if len ≤ done + m
      then u.channelEnd spire.val ch.val c 0x10 (moveResult (done + r.got)) none
      else u.setChannel spire.val ch.val (some { c with work := .move src dst len (done + m) })) := by
  subst hm
  show execStreamSegment spire ch s = _
  simp only [execStreamSegment, hch, hwork, State.moveSegment, habandon, hsrc, hdst, hcopy, hfault, Bool.or_self,
    Bool.false_eq_true, if_false, Option.isSome_none, Bool.false_or, decide_eq_true_eq]

/-! ### A segment within a Gallery -/

/-- What names a Gallery does so whatever the registers hold. -/
theorem State.loc_gallery_congr {s t : State} {a sp o : Nat} (hgone : t.gone = s.gone) (h : s.loc a = .gallery sp o) :
    t.loc a = .gallery sp o := by
  have hunmapped : ∀ g, t.spireGone g = s.spireGone g := fun g => by rw [State.spireGone, hgone, State.spireGone]
  unfold State.loc at h ⊢
  simp only [hunmapped]
  split at h
  · cases h
  · rename_i hhbm
    rw [if_neg hhbm]
    split at h
    · rename_i hgal
      rw [if_pos hgal]
      exact h
    · split at h
      · dsimp only at h
        split at h <;> cases h
      · split at h <;> cases h

/-- A Gallery in which no SCRUB runs, no packet waits and no codeword holds an error: an access of it neither waits nor
reports (R105, R110, R111, R116). -/
structure State.QuietGallery (s : State) (sp : Nat) : Prop where
  scrubs : s.scrubs sp = []
  queue : s.galQueue sp = []
  errors : s.ramErr = []

section
variable {s : State} {sp a o : Nat} (hquiet : s.QuietGallery sp) (hloc : s.loc a = .gallery sp o)
include hquiet hloc

theorem State.QuietGallery.segWaits (n : Nat) : s.segWaits a n = false := by
  obtain ⟨hscrubs, hqueue, -⟩ := hquiet
  simp only [State.segWaits, hloc, hscrubs, hqueue, List.any_nil, List.isEmpty_nil, Bool.not_true, Bool.or_self]

theorem State.QuietGallery.memUes (x req n : Nat) : s.memUes x req a n = [] := by
  simp only [State.memUes, hloc, State.ramCws, hquiet.errors, List.filter_nil, List.map_nil]

theorem State.QuietGallery.countCorrected (x n : Nat) : s.countCorrected x a n = s := by
  simp only [State.countCorrected, hloc, State.ramCws, hquiet.errors, List.filter_nil, List.map_nil, List.length_nil]

theorem State.QuietGallery.readRange (x req n : Nat) (through : Bool) :
    s.readRange x req a n through = { s := s, bytes := s.memGet x a n, hits := [], fault := none } := by
  have hsettle := s.settle_gallery sp a o hloc hquiet.scrubs hquiet.queue
  simp only [State.readRange, hsettle, hloc, hquiet.memUes hloc, ite_self, hquiet.countCorrected hloc, List.foldl_nil]

end

/-- From `s` to `t` the bytes `bs` are stored at offset `d` of the Gallery of Spire `sp`, and no register reads differently. -/
structure StoredInGallery (sp d : Nat) (bs : List Byte) (s t : State) : Prop where
  gallery : ∀ k, SMap.get (fun _ => 0) t.gallery k =
    if galKey sp d ≤ k ∧ k < galKey sp d + bs.length then bs.getD (k - galKey sp d) 0
    else SMap.get (fun _ => 0) s.gallery k
  regs : ∀ x, t.reg x = s.reg x
  rest : { t with ctl := s.ctl, gallery := s.gallery } = s

theorem State.putPieces_one (s : State) (sp : Nat) (sd : Sender) (a : Nat) (bs : List Byte) :
    s.putPieces sp sd [(a, bs.length)] bs = s.putRange sp sd false a bs := by
  simp only [State.putPieces, List.foldl_cons, List.foldl_nil, List.take_length, Nat.zero_add]

theorem State.setReg_setReg_eq (s : State) (a v a' v' : Nat) :
    ∃ l, (s.setReg a v).setReg a' v' = { s with ctl := l } := ⟨_, rfl⟩

theorem State.putBands_eq (s : State) (sp : Nat) (b : Nat × Nat) : ∃ l, s.putBands sp b = { s with ctl := l } :=
  s.setReg_setReg_eq _ _ _ _

theorem State.reg_putBands (s : State) (sp : Nat) (b : Nat × Nat) (x : Nat) :
    (s.putBands sp b).reg x = if x = Reg.hbmBandHi (8 * sp) then b.2 % 2 ^ 64
      else if x = Reg.hbmBandLo (8 * sp) then b.1 % 2 ^ 64 else s.reg x := by
  rw [State.putBands, State.reg_setReg, State.reg_setReg]

/-- The present band classes put back (R382). -/
theorem State.reg_putBands_back {s t : State} {sp : Nat} {b : Nat × Nat} (h : ∀ x, t.reg x = (s.putBands sp b).reg x)
    (x : Nat) : (t.putBands sp (s.bandsOf sp)).reg x = s.reg x := by
  rw [State.reg_putBands, State.bandsOf, Nat.mod_eq_of_lt (s.reg_lt _), Nat.mod_eq_of_lt (s.reg_lt _), h,
    State.reg_putBands]
  split
  · rename_i hx
    rw [hx]
  · split
    · rename_i hx
      rw [hx]
    · rfl

/-- Accesses under sampled band classes (R382) happen in a state that differs from the present one in registers alone, and
leave every register that they do not touch as it was. -/
theorem State.underBands_stored {α : Type} {s : State} {sp' sp d : Nat} {bs : List Byte} {b : Nat × Nat}
    {f : State → State × α} {x : α}
    (hf : ∀ u : State, { u with ctl := s.ctl } = s → StoredInGallery sp d bs u (f u).1 ∧ (f u).2 = x) :
    StoredInGallery sp d bs s (s.underBands sp' b f).1 ∧ (s.underBands sp' b f).2 = x := by
  unfold State.underBands
  dsimp only
  split
  · exact hf s rfl
  · obtain ⟨l, hl⟩ := s.putBands_eq sp' b
    have hgal : (s.putBands sp' b).gallery = s.gallery := by rw [hl]
    have hsame : { s.putBands sp' b with ctl := s.ctl } = s := by rw [hl]
    obtain ⟨⟨hgallery, hregs, hrest⟩, hx⟩ := hf (s.putBands sp' b) hsame
    have hback := State.reg_putBands_back hregs
    obtain ⟨l', hl'⟩ := (f (s.putBands sp' b)).1.putBands_eq sp' (s.bandsOf sp')
    rw [hgal] at hgallery hrest
    generalize s.putBands sp' b = v at *
    refine ⟨⟨?_, hback, ?_⟩, hx⟩
    · dsimp only
      rw [hl']
      exact hgallery
    · dsimp only
      rw [hl']
      exact (congrArg (fun w : State => { w with ctl := s.ctl }) hrest :).trans hsame

/-- A segment that lies in one quiet Gallery at both ends (R248). -/
theorem State.copySeg_gallery {s : State} {sp a d oa od m : Nat} {c : Channel} (gen : Nat) (hquiet : s.QuietGallery sp)
    (hsrc : s.loc a = .gallery sp oa) (hdst : s.loc d = .gallery sp od) :
    ∃ u r, s.copySeg sp gen c a d m (fun s => s.readRange sp (srcSde sp) a m false) (fun k => [(d, k)]) =
        (u.countSeg sp a d m, r) ∧ r.fault = none ∧ StoredInGallery sp od (s.memGet sp a m) s u := by
  unfold State.copySeg
  generalize hout : s.underBands sp c.bands _ = out
  obtain ⟨hstored, hr⟩ : StoredInGallery sp od (s.memGet sp a m) s out.1 ∧
      out.2 = { got := (s.memGet sp a m).length, fault := none, note := none } := by
    rw [← hout]
    refine State.underBands_stored (fun u hu => ?_)
    have hsrc' := State.loc_gallery_congr (t := u) (congrArg State.gone hu :) hsrc
    have hdst' := State.loc_gallery_congr (t := u) (congrArg State.gone hu :) hdst
    have hquiet' : u.QuietGallery sp := by
      rw [← hu] at hquiet
      exact ⟨hquiet.scrubs, hquiet.queue, hquiet.errors⟩
    have hbytes : u.memGet sp a m = s.memGet sp a m := by
      simp only [State.memGet, hsrc, hsrc', show u.gallery = s.gallery from (congrArg State.gallery hu :)]
    obtain ⟨l, hput, hget⟩ := u.putRange_gallery sp { x := sp, source := srcSde sp, node := 0xFFFF, gen := gen } d od
      (s.memGet sp a m) hdst' hquiet'.scrubs hquiet'.queue hquiet'.errors
    simp only [hquiet'.readRange hsrc', State.putPieces_one, hbytes, hput]
    exact ⟨⟨hget, fun _ => rfl, rfl⟩, rfl⟩
  exact ⟨_, _, rfl, by rw [hr], hstored⟩

theorem State.reg_countSeg_ne (s : State) {sp x : Nat} (a d m : Nat) (h : x ≠ Reg.sdeSmallSeg sp) :
    (s.countSeg sp a d m).reg x = s.reg x := by
  unfold State.countSeg
  split
  · exact State.reg_setReg_ne _ _ h
  · rfl

theorem State.countSeg_eq (s : State) (sp a d m : Nat) : ∃ l, s.countSeg sp a d m = { s with ctl := l } := by
  unfold State.countSeg
  split <;> exact ⟨_, rfl⟩

/-- A segment of a MOVE within a quiet Gallery, not the last: beside the channel and the bytes stored, at most the count of
short segments differs. -/
theorem exec_streamSegment_gallery {spire : Fin 4} {ch : Fin 16} {c : Channel} {src dst len done m oa od : Nat} {s : State}
    (hch : s.channel spire.val ch.val = some c) (hwork : c.work = .move src dst len done) (habandon : c.abandon = none)
    (hm : m = s.segLen (src + done) (dst + done) (len - done)) (hmore : done + m < len) (hquiet : s.QuietGallery spire.val)
    (hsrc : s.loc (src + done) = .gallery spire.val oa) (hdst : s.loc (dst + done) = .gallery spire.val od) :
    ∃ u : State, let t := u.setChannel spire.val ch.val (some { c with work := .move src dst len (done + m) })
      exec (.streamSegment spire ch) s = .next t ∧
      (∀ k, SMap.get (fun _ => 0) t.gallery k =
        if galKey spire.val od ≤ k ∧ k < galKey spire.val od + (s.memGet spire.val (src + done) m).length
        then (s.memGet spire.val (src + done) m).getD (k - galKey spire.val od) 0 else SMap.get (fun _ => 0) s.gallery k) ∧
      (∀ sp' k, k < 16 → (sp', k) ≠ (spire.val, ch.val) → t.channel sp' k = s.channel sp' k) ∧
      (∀ x, x ≠ Reg.sdeSmallSeg spire.val → t.reg x = s.reg x) ∧
      { t with ctl := s.ctl, gallery := s.gallery, channels := s.channels } = s := by
  obtain ⟨u, r, hcopy, hfault, hgallery, hregs, hrest⟩ := State.copySeg_gallery (c := c) (m := m) 0 hquiet hsrc hdst
  have hexec := exec_streamSegment_move hch hwork habandon hm (hquiet.segWaits hsrc m) (hquiet.segWaits hdst m) hcopy hfault
  rw [if_neg (Nat.not_le.mpr hmore)] at hexec
  have hcounted := fun x => u.reg_countSeg_ne (x := x) (sp := spire.val) (src + done) (dst + done) m
  obtain ⟨l, hl⟩ := u.countSeg_eq spire.val (src + done) (dst + done) m
  rw [hl] at hexec hcounted
  have hsame : ({ u with ctl := l } : State).channels = s.channels := (congrArg State.channels hrest :)
  obtain ⟨hothers, hframe⟩ := ({ u with ctl := l } : State).setChannel_frame (sp := spire.val)
    (some { c with work := .move src dst len (done + m) }) ch.isLt
  refine ⟨_, hexec, hgallery, fun sp' k hk hne => ?_, fun x hx => (hcounted x hx).trans (hregs x), ?_⟩
  · exact (hothers sp' k hk hne).trans (State.channel_congr hsame sp' k)
  · exact (congrArg (fun v : State => { v with ctl := s.ctl, gallery := s.gallery, channels := s.channels }) hframe :).trans
      (congrArg (fun v : State => { v with channels := s.channels }) hrest :)

end Sys2Proof.Machine
end

/-! ## A SEQ_MOVE starts its walk (R232, R236, R241 to R243) -/

section
open Sys2Proof Sys2Proof.Machine
namespace Sys2Proof.Machine

/-! ### The checks of the command -/

/-- The walk that the operands of a SEQ_MOVE and its two descriptors give, before its length is read. -/
def SeqWalk.fresh (nest b : List Byte) (h : Nat) (dst : BitVec 32) (db : List Byte) (nbuf : BitVec 4)
    (semFull semEmpty : BitVec 16) (bstride : BitVec 32) (es : PlWalk) : SeqWalk :=
  { nest := nest, desc := b, h := BitVec.ofNat 32 h, dst := dst, dstDesc := db, nbuf := nbuf.toNat + 1,
    bstride := bstride.toNat, semFull := semFull.toNat, semEmpty := semEmpty.toNat,
    pl := if nestPl nest then some es else none, len := 0, tentative := 0, pos := 0, begun := 0, done := 0,
    granted := false, waiting := false, cur := none, landed := [], withheld := [], failed := none }

/-- What R232 and R242 ask of a SEQ_MOVE: a valid nest, class, group and stride, buffers within the destination's region,
and no span longer than a buffer or the rest of the destination. -/
structure State.SeqAccepts (s : State) (w : SeqWalk) (n : Nest) (nbuf : BitVec 4) (cls : BitVec 2)
    (group : BitVec 8) : Prop where
  nest_ok : nestOk w.nest (parseDesc w.desc) n = true
  cls_ne : cls ≠ 3
  stride_whole : w.bstride % 512 = 0
  group_le : cls = 2 → group.toNat ≤ 63
  region_low : (s.region (parseDesc w.dstDesc).region).1 ≤ (parseDesc w.dstDesc).base
  region_high : (parseDesc w.dstDesc).base + (nbuf.toNat + 1) * w.bstride ≤ (s.region (parseDesc w.dstDesc).region).2
  span_le : w.maxSpan n ≤ w.bstride
  span_fits : w.maxSpan n ≤ (parseDesc w.dstDesc).extent.2 + 1 - (parseDesc w.dstDesc).base

/-- A SEQ_MOVE that passes them starts its walk on the lowest idle channel. -/
theorem exec_seqMove {o : Origin} {nest : List Byte} {dst : BitVec 32} {nbuf : BitVec 4} {cls : BitVec 2}
    {group : BitVec 8} {semFull semEmpty : BitVec 16} {bstride : BitVec 32} {ch h : Nat} {es : PlWalk} {b db : List Byte}
    {w : SeqWalk} {n : Nest} {s r1 r2 r3 : State}
    (heng : s.ringEngine o = 1) (hlength : nest.length = 32) (hidle : s.idleChannel o.spire.val = some ch)
    (hlist : (if nestPl nest then s.readPl o.spire.val (field nest 3 0)
      else (s, .ok (field nest 3 0, { addr := 0, count := 0, got := [] }))) = (r1, .ok (h, es)))
    (hsrc : r1.fetchDesc (.sde o.spire.val) (srcSde o.spire.val) h = (r2, .ok b))
    (hdst : r2.fetchDesc (.sde o.spire.val) (srcSde o.spire.val) dst.toNat = (r3, .ok db))
    (hw : w = SeqWalk.fresh nest b h dst db nbuf semFull semEmpty bstride es)
    (hn : n = streamNest nest (parseDesc b) w.plCount) (haccepts : r3.SeqAccepts w n nbuf cls group) :
    exec (.seqMove o nest dst nbuf cls group semFull semEmpty bstride) s = .next (r3.seqStart o.spire.val ch
      { r3.newChannel o (.seq w) with cls := cls.toNat, group := group.toNat } w n) := by
  have hpad : (nest ++ List.replicate 32 0).take 32 = nest := by
    rw [← hlength, List.take_left']
    rfl
  subst hn hw
  obtain ⟨hnest, hcls, hstride, hgroup, hlow, hhigh, hspan, hroom⟩ := haccepts
  show execSeqMove o nest dst nbuf cls group semFull semEmpty bstride s = _
  rw [execSeqMove]
  dsimp only
  rw [hpad, State.onEngine_run _ _ heng]
  simp only [hidle, hlist, hsrc, hdst]
  refine congrArg Host.Outcome.next ((if_neg ?valid).trans (if_neg ?fits))
  case valid =>
    simp only [Bool.or_eq_true, Bool.and_eq_true, Bool.not_eq_true', decide_eq_true_eq, not_or, not_and, Nat.not_lt,
      Decidable.not_not, Bool.not_eq_false]
    exact ⟨⟨⟨hnest, hcls⟩, hstride⟩, hgroup⟩
  case fits =>
    simp only [Bool.or_eq_true, decide_eq_true_eq, not_or, Nat.not_lt]
    exact ⟨⟨⟨hhigh, hlow⟩, hspan⟩, hroom⟩

/-- What it reads before that leaves the region table alone (R83, R241, R250). -/
theorem seqMove_reads_regions {sp src h h' : Nat} {nest : List Byte} {u : DescUser} {p : PlWalk}
    {s r1 r2 r3 : State} {e1 : Except FaultInfo (Nat × PlWalk)} {e2 e3 : Except FaultInfo (List Byte)}
    (hlist : (if nestPl nest then s.readPl sp (field nest 3 0) else (s, .ok (field nest 3 0, p))) = (r1, e1))
    (hsrc : r1.fetchDesc u src h = (r2, e2)) (hdst : r2.fetchDesc u src h' = (r3, e3)) : r3.regions = s.regions := by
  have h1 : r1.kept = s.kept := by
    split at hlist
    · exact of_pair (s.readPl_kept sp _) hlist
    · cases hlist
      rfl
  exact regions_of_kept ((of_pair (r2.fetchDesc_kept _ _ _) hdst).trans ((of_pair (r1.fetchDesc_kept _ _ _) hsrc).trans h1))

/-! ### The first grid point -/

theorem State.seqStart_ok {s r4 : State} {sp ch len : Nat} {c : Channel} {w : SeqWalk} {n : Nest}
    (hlen : (if n.bound = 0 ∨ n.bound = 2 then (s, Except.ok 0) else s.readLen sp w.nest) = (r4, .ok len)) :
    s.seqStart sp ch c w n = (r4.setChannel sp ch
      (some { c with work := .seq { w with len := len, tentative := (parseDesc w.desc).aux1 } })).seqAdvance sp ch := by
  simp only [State.seqStart, Bool.or_eq_true, decide_eq_true_eq, hlen]

/-- Without a pointer list or a bound no grid point is omitted (R236). -/
theorem State.seqNext_first (s : State) {sp k c : Nat} {w : SeqWalk} {n : Nest} (hpl : w.pl = none) (hbound : n.bound = 0)
    (hpos : w.pos < n.total) : State.seqNext sp n k s w w.pos c = (s, w, c, none) := by
  cases k with
  | zero => rfl
  | succ k =>
    have hlist : s.fetchPl sp w n w.pos = (s, w, none) := by simp only [State.fetchPl, hpl]
    have hentry : s.entryFault sp w n w.pos = none := by
      rw [State.entryFault, SeqWalk.entry, hpl]
      rfl
    have hall : ¬ (decide (n.bound = 1) && n.beyondAll (w.boundAt n w.len w.tentative w.pos) w.pos) = true := by
      simp [hbound]
    simp only [State.seqNext, if_neg (Nat.not_le.mpr hpos), hlist, hentry, if_neg hall]

theorem State.waitSem_served {s : State} {sp n k : Nat} (own source : Nat) (who : WaiterId)
    (hwaiters : (s.sem sp n).waiters = []) (hcount : k ≤ (s.sem sp n).count) :
    s.waitSem sp n k own source who =
      (s.setSem sp n { s.sem sp n with count := (s.sem sp n).count - k }, true) := by
  simp only [State.waitSem, hwaiters, hcount, decide_true, Bool.and_self, if_true]

theorem State.waitSem_joins {s : State} {sp n k : Nat} (own source : Nat) (who : WaiterId)
    (h : (s.sem sp n).waiters ≠ [] ∨ (s.sem sp n).count < k) :
    ∃ x : Waiter, x.who = who ∧ x.want = k ∧ s.waitSem sp n k own source who =
      (s.setSem sp n { s.sem sp n with waiters := (s.sem sp n).waiters ++ [x] }, false) := by
  refine ⟨_, ?_, ?_, if_neg ?_⟩
  · rfl
  · rfl
  · simp only [Bool.and_eq_true, decide_eq_true_eq, not_and, Nat.not_le]
    exact fun hnone => h.resolve_left (fun hsome => hsome hnone)

/-- A grid point begins (R234, R237, R242): the walk goes on to the next, and keeps its descriptor, its destination, and
the points it has completed. -/
structure SeqWalk.Began (w w' : SeqWalk) (L : Nat) : Prop where
  desc : w'.desc = w.desc
  dst : w'.dst = w.dst
  done : w'.done = w.done
  begun : w'.begun = w.begun + 1
  pos : w'.pos = L + 1
  waiting : w'.waiting = w.waiting

theorem State.beginPoint_begins (s : State) (sp ch : Nat) (c : Channel) (w : SeqWalk) (n : Nest) (L len tent : Nat) :
    ∃ w', s.beginPoint sp ch c w n L len tent = s.setChannel sp ch (some { c with work := .seq w' }) ∧ w.Began w' L := by
  have began_ite : ∀ (p : Bool) (w₁ w₂ : SeqWalk), w.Began w₁ L → w.Began w₂ L → w.Began (if p then w₁ else w₂) L :=
    fun p _ _ h₁ h₂ => by cases p <;> assumption
  exact ⟨_, rfl, began_ite _ _ _ ⟨rfl, rfl, rfl, rfl, rfl, rfl⟩ ⟨rfl, rfl, rfl, rfl, rfl, rfl⟩⟩

/-- A change of one semaphore and one channel, and what it leaves alone. -/
theorem State.setSem_setChannel_frame (s : State) {sp ch : Nat} (k : Nat) (m : Sem) (c : Option Channel) (hlt : ch < 16) :
    (∀ sp' j, j < 16 → (sp', j) ≠ (sp, ch) → ((s.setSem sp k m).setChannel sp ch c).channel sp' j = s.channel sp' j) ∧
      { (s.setSem sp k m).setChannel sp ch c with sems := s.sems, channels := s.channels } = s :=
  ⟨fun sp' j hj hne => ((s.setSem sp k m).channel_setChannel_ne c hlt hj hne).trans
      (State.channel_congr (s.setSem_channels sp k m) sp' j), by simp only [State.setChannel, State.setSem]⟩

/-- From `s` to `t` walk `w` of a channel has asked semaphore `k` for EMPTY, and has become `w'`: with a count its first
point is begun, else it waits in the FIFO (R242, R243). The other channels are as before. -/
structure SeqWalk.Asked (w w' : SeqWalk) (sp ch k : Nat) (s t : State) : Prop where
  desc : w'.desc = w.desc
  dst : w'.dst = w.dst
  done : w'.done = w.done
  served : (s.sem sp k).waiters = [] → 1 ≤ (s.sem sp k).count →
    w'.begun = w.begun + 1 ∧ w'.pos = w.pos + 1 ∧ w'.waiting = false ∧
      t.sem sp k = { s.sem sp k with count := (s.sem sp k).count - 1 }
  joined : (s.sem sp k).waiters ≠ [] ∨ (s.sem sp k).count = 0 → w'.begun = w.begun ∧ w'.waiting = true ∧
    ∃ x, t.sem sp k = { s.sem sp k with waiters := (s.sem sp k).waiters ++ [x] } ∧ x.who = .channel (Fin.ofNat 16 ch) ∧
      x.want = 1
  others : ∀ sp' j, j < 16 → (sp', j) ≠ (sp, ch) → t.channel sp' j = s.channel sp' j

/-- What has happened to the tables before is no part of it. -/
theorem SeqWalk.Asked.of_tables {w w' : SeqWalk} {sp ch k : Nat} {s r t : State} (h : w.Asked w' sp ch k r t)
    (hsem : r.sem sp k = s.sem sp k)
    (hchannel : ∀ sp' j, j < 16 → (sp', j) ≠ (sp, ch) → r.channel sp' j = s.channel sp' j) : w.Asked w' sp ch k s t where
  desc := h.desc
  dst := h.dst
  done := h.done
  served := hsem ▸ h.served
  joined := hsem ▸ h.joined
  others sp' j hj hne := (h.others sp' j hj hne).trans (hchannel sp' j hj hne)

/-- A walk without a pointer list or a bound that stands before a grid point, with none in progress (R233). -/
structure Channel.Ready (c : Channel) (w : SeqWalk) : Prop where
  work : c.work = .seq w
  verdict : c.verdict = none
  abandon : c.abandon = none
  failed : w.failed = none
  cur : w.cur = none
  landed : w.landed = []
  pl : w.pl = none
  waiting : w.waiting = false
  granted : w.granted = false
  bound : (streamNest w.nest (parseDesc w.desc) w.plCount).bound = 0
  pos : w.pos < (streamNest w.nest (parseDesc w.desc) w.plCount).total

section
variable {s : State} {sp ch : Nat} {c : Channel} {w : SeqWalk} (hch : s.channel sp ch = some c) (hready : c.Ready w)
include hch hready

/-- It asks SEM_EMPTY for a count: with one it begins the point, without it waits (R243). -/
theorem State.seqAdvance_asks {u : State} {got : Bool}
    (hempty : s.waitSem sp (bits w.semEmpty 11 0) 1 0 (srcSde sp) (.channel (Fin.ofNat 16 ch)) = (u, got)) :
    s.seqAdvance sp ch = if got
      then u.beginPoint sp ch c w (streamNest w.nest (parseDesc w.desc) w.plCount) w.pos w.len w.tentative
      else u.setChannel sp ch (some { c with work := .seq { w with waiting := true } }) := by
  obtain ⟨hwork, hverdict, habandon, hfailed, hcur, hlanded, hpl, hwaiting, hgranted, hbound, hpos⟩ := hready
  have hnext := fun k => s.seqNext_first (sp := sp) (k := k) (c := 0) hpl hbound hpos
  have hasked : s.seqEmpty sp ch w = (u, got) := by rw [State.seqEmpty, if_neg (by simp [hgranted]), hempty]
  have hlen : u.seqLen sp c.bands w = (u, .ok (w.len, w.tentative)) := by
    rw [State.seqLen]
    exact if_pos (by simp [hbound])
  simp only [State.seqAdvance, hch, hwork, hnext, hasked, hlen, habandon, hfailed, hcur, hverdict, hwaiting, hlanded,
    if_neg (Nat.not_le.mpr hpos), Option.isSome_none, Bool.false_eq_true, if_false, if_true, reduceCtorEq,
    List.length_nil, Nat.reduceLeDiff]
  cases got
  · rfl
  · rfl

/-- Which of the two, its semaphore tells; beside the semaphores and the channels nothing differs. -/
theorem State.seqAdvance_first {k : Nat} (hlt : ch < 16) (hk : bits w.semEmpty 11 0 = k) :
    ∃ w', (s.seqAdvance sp ch).channel sp ch = some { c with work := .seq w' } ∧
      w.Asked w' sp ch k s (s.seqAdvance sp ch) ∧
      { s.seqAdvance sp ch with sems := s.sems, channels := s.channels } = s := by
  have hasks := fun u got => s.seqAdvance_asks (u := u) (got := got) hch hready
  rw [hk] at hasks
  by_cases hserved : (s.sem sp k).waiters = [] ∧ 1 ≤ (s.sem sp k).count
  · obtain ⟨hnone, hcount⟩ := hserved
    have hbegins := hasks _ _ (State.waitSem_served _ _ _ hnone hcount)
    obtain ⟨w', hpoint, hdesc, hdst, hdone, hbegun, hpos, hwaiting⟩ :=
      State.beginPoint_begins (s.setSem sp k { s.sem sp k with count := (s.sem sp k).count - 1 }) sp ch c w
        (streamNest w.nest (parseDesc w.desc) w.plCount) w.pos w.len w.tentative
    rw [if_pos rfl, hpoint] at hbegins
    rw [hbegins]
    obtain ⟨hothers, hrest⟩ := s.setSem_setChannel_frame (sp := sp) k
      { s.sem sp k with count := (s.sem sp k).count - 1 } (some { c with work := .seq w' }) hlt
    refine ⟨w', State.channel_setChannel _ _ _ _, ⟨hdesc, hdst, hdone,
      fun _ _ => ⟨hbegun, hpos, hwaiting.trans hready.waiting, State.sem_setSem _ _ _ _⟩, fun hwait => ?_, hothers⟩, hrest⟩
    rcases hwait with hsome | hzero
    · exact absurd hnone hsome
    · omega
  · have hjoins : (s.sem sp k).waiters ≠ [] ∨ (s.sem sp k).count < 1 := by
      rwa [not_and_or, Nat.not_le] at hserved
    obtain ⟨x, hwho, hwant, hwaitSem⟩ := State.waitSem_joins 0 (srcSde sp) (.channel (Fin.ofNat 16 ch)) hjoins
    have hwaits := hasks _ _ hwaitSem
    rw [if_neg (by decide)] at hwaits
    rw [hwaits]
    obtain ⟨hothers, hrest⟩ := s.setSem_setChannel_frame (sp := sp) k
      { s.sem sp k with waiters := (s.sem sp k).waiters ++ [x] }
      (some { c with work := .seq { w with waiting := true } }) hlt
    exact ⟨{ w with waiting := true }, State.channel_setChannel _ _ _ _, ⟨rfl, rfl, rfl,
      fun hnone hcount => absurd ⟨hnone, hcount⟩ hserved,
      fun _ => ⟨rfl, rfl, x, State.sem_setSem _ _ _ _, hwho, hwant⟩, hothers⟩, hrest⟩

end

/-- So a walk starts that has neither (R236): the length and TENTATIVE are sampled, and it asks. -/
theorem State.seqStart_first {s : State} {sp ch k : Nat} {c : Channel} {w : SeqWalk} {n : Nest} (hlt : ch < 16)
    (hbound : n.bound = 0) (hready : ∀ tent, Channel.Ready { c with work := .seq { w with len := 0, tentative := tent } }
      { w with len := 0, tentative := tent }) (hk : bits w.semEmpty 11 0 = k) :
    ∃ w', (s.seqStart sp ch c w n).channel sp ch = some { c with work := .seq w' } ∧
      w.Asked w' sp ch k s (s.seqStart sp ch c w n) ∧
      { s.seqStart sp ch c w n with sems := s.sems, channels := s.channels } = s := by
  have hstart := State.seqStart_ok (s := s) (r4 := s) (sp := sp) (ch := ch) (c := c) (w := w) (n := n) (len := 0)
    (if_pos (.inl hbound))
  obtain ⟨hothers, hrest⟩ := s.setChannel_frame (sp := sp)
    (some { c with work := .seq { w with len := 0, tentative := (parseDesc w.desc).aux1 } }) hlt
  obtain ⟨w', hch, hasked, hsame⟩ := State.seqAdvance_first (s := s.setChannel sp ch
    (some { c with work := .seq { w with len := 0, tentative := (parseDesc w.desc).aux1 } }))
    (State.channel_setChannel _ _ _ _) (hready _) hlt hk
  rw [hstart]
  refine ⟨w', hch, SeqWalk.Asked.of_tables ⟨hasked.desc, hasked.dst, hasked.done, hasked.served, hasked.joined,
    hasked.others⟩ (by rw [State.sem, State.setChannel_sems, State.sem]) hothers, ?_⟩
  exact (congrArg (fun u : State => { u with channels := s.channels }) hsame :).trans hrest

end Sys2Proof.Machine
end

/-! ## What the completion of a command leaves of the stream engines (R319, R327 to R335) -/

section
open Sys2Proof Sys2Proof.Machine
namespace Sys2Proof.Machine

/-- The channels are as they were, and so are the counts of bytes that speculation dropped (R246). -/
structure StreamsKept (s t : State) : Prop where
  channels : t.channels = s.channels
  dropped : ∀ sp < 4, t.reg (Reg.sdeSpecDrop sp) = s.reg (Reg.sdeSpecDrop sp)

theorem StreamsKept.refl (s : State) : StreamsKept s s := ⟨rfl, fun _ _ => rfl⟩

theorem StreamsKept.trans {s t u : State} (h : StreamsKept s t) (k : StreamsKept t u) : StreamsKept s u where
  channels := k.channels.trans h.channels
  dropped sp hsp := (k.dropped sp hsp).trans (h.dropped sp hsp)

theorem StreamsKept.of_ctl {s t : State} (hchannels : t.channels = s.channels) (hctl : t.ctl = s.ctl) : StreamsKept s t where
  channels := hchannels
  dropped sp _ := by rw [State.reg, hctl, State.reg]

theorem State.setReg_streamsKept (s : State) {a : Nat} (v : Nat) (ha : ∀ sp < 4, Reg.sdeSpecDrop sp ≠ a) :
    StreamsKept s (s.setReg a v) where
  channels := s.setReg_channels a v
  dropped sp hsp := s.reg_setReg_ne v (ha sp hsp)

theorem State.setSem_streamsKept (s : State) (sp n : Nat) (m : Sem) : StreamsKept s (s.setSem sp n m) :=
  .of_ctl (s.setSem_channels sp n m) (s.setSem_ctl sp n m)

theorem State.setRing_streamsKept (s : State) (sp r : Nat) (q : Ring) : StreamsKept s (s.setRing sp r q) :=
  .of_ctl (s.setRing_channels sp r q) (s.setRing_ctl sp r q)

theorem State.setRunq_streamsKept (s : State) (k : Nat) (q : RunQ) : StreamsKept s (s.setRunq k q) :=
  .of_ctl (s.setRunq_channels k q) (s.setRunq_ctl k q)

theorem State.setInstances_streamsKept (s : State) (sp e : Nat) (l : List Instance) :
    StreamsKept s (s.setInstances sp e l) :=
  .of_ctl (s.setInstances_channels sp e l) (s.setInstances_ctl sp e l)

/-! ### Sources and reports -/

theorem Reports.streamsKept {sp : Nat} {s t : State} (h : Reports sp s t) (hsp : sp < 4) : StreamsKept s t where
  channels := (congrArg State.channels h.rest :)
  dropped sp' hsp' := by
    refine h.regs _ ?_ (fun i hi => ?_)
    · simp only [Reg.sdeSpecDrop, Reg.sprGalCe, Reg.spireBase]
      omega
    · simp only [Reg.sdeSpecDrop, carPendSet_spire hsp, Reg.spireBase]
      omega

theorem State.raise_streamsKept (s : State) {sp n : Nat} (hsp : sp < 4) (hn : n < 1024) : StreamsKept s (s.raise sp n) :=
  (s.raise_reports sp hn).streamsKept hsp

theorem State.wrote_streamsKept (s : State) (f : FaultInfo) : StreamsKept s (s.wrote f) := by
  obtain ⟨l, hl⟩ := s.wrote_frame f
  rw [hl]
  exact .of_ctl rfl rfl

/-! ### Posts (R331, R333, R335) -/

theorem State.postSem_streamsKept (s : State) (sp n k source : Nat) (remote : Bool) :
    StreamsKept s (s.postSem sp n k source remote).1 := by
  unfold State.postSem
  dsimp only
  split
  · exact .refl s
  · split
    · refine s.setReg_streamsKept _ (fun sp' _ => ?_)
      simp only [Reg.sdeSpecDrop, Reg.semOvfCnt, Reg.spireBase]
      omega
    · exact s.setSem_streamsKept _ _ _

theorem State.postFrom_streamsKept (s : State) (frm sender n k : Nat) {sp : Nat} (hsp : sp < 4) :
    StreamsKept s (s.postFrom frm sp sender n k).1 := by
  unfold State.postFrom
  split
  · exact s.postSem_streamsKept _ _ _ _ _
  · unfold State.postRemote
    split
    · exact s.postSem_streamsKept _ _ _ _ _
    · refine StreamsKept.trans (s.setReg_streamsKept _ (fun sp' _ => ?_))
        ((State.faultToSpire_reports _ sp _).streamsKept hsp)
      simp only [Reg.sdeSpecDrop, Reg.semWinDrop, Reg.spireBase]
      omega

/-! ### Records (R327 to R329) -/

theorem State.companionWrite_streamsKept (s : State) (a : Nat) (bs : List Byte) :
    StreamsKept s (s.companionWrite a bs) := by
  unfold State.companionWrite
  split
  · exact .of_ctl rfl rfl
  · exact .refl s

theorem State.dropInstance_streamsKept (s : State) (sp e bell : Nat) (ok : Bool) :
    StreamsKept s (s.dropInstance sp e bell ok) :=
  .of_ctl (by simp only [State.dropInstance, State.setInstances_channels])
    (by simp only [State.dropInstance, State.setInstances_ctl])

section
variable (s : State) {sp r : Nat} (hsp : sp < 4) (hr : r < 16)
include hsp hr

theorem State.writeEntries_streamsKept (es : List (List Byte)) : StreamsKept s (s.writeEntries sp r es) := by
  have hexts := fun (f : List Byte × Nat → Nat) => foldl_rel (R := StreamsKept) StreamsKept.refl StreamsKept.trans
    (fun t (e : List Byte × Nat) => t.companionWrite_streamsKept (f e) e.1) es.dropLast.zipIdx s
  unfold State.writeEntries
  dsimp only
  split
  · exact (hexts _).trans ((State.companionWrite_streamsKept _ _ _).trans ((State.setRing_streamsKept _ _ _ _).trans
      (State.raise_streamsKept _ hsp (by omega))))
  · exact (hexts _).trans ((State.companionWrite_streamsKept _ _ _).trans (State.setRing_streamsKept _ _ _ _))

theorem State.putEntries_streamsKept (order : Nat) (fin : RecordEnd) (es : List (List Byte)) :
    StreamsKept s (s.putEntries sp r order fin es) := by
  unfold State.putEntries State.writeRecord
  split
  · refine (s.writeEntries_streamsKept hsp hr es).trans ?_
    split
    · exact .refl _
    · unfold State.stopRing
      exact (State.setRing_streamsKept _ _ _ _).trans (State.raise_streamsKept _ hsp (by omega))
    · exact State.dropInstance_streamsKept _ _ _ _ _
  · exact s.setRing_streamsKept _ _ _

end

theorem State.modInstance_streamsKept (s : State) (sp e : Nat) (f : Instance → Instance) :
    StreamsKept s (s.modInstance sp e f) := by
  unfold State.modInstance
  split
  · split
    · exact s.setInstances_streamsKept _ _ _
    · exact .refl s
  · exact .refl s

/-! ### The command, its LIST, and the FENCE commands (R319, R320, R330) -/

theorem State.completeOne_streamsKept (s : State) (o : Origin) (opcode : Nat) (result : List Byte)
    (f : Option (List Byte)) (ext : List (List Byte)) : StreamsKept s (s.completeOne o opcode result f ext) := by
  unfold State.completeOne
  dsimp only
  generalize hposted : Prod.fst (α := State) (β := Option (List Byte)) _ = t
  have ht : StreamsKept s t := by
    rw [← hposted]
    split
    · rename_i p hp
      have hpost := s.postFrom_streamsKept o.spire.val (srcSpire o.spire.val 0 0) p.sem.toNat p.count.toNat p.spire.isLt
      split
      · rename_i u hu
        rwa [hu] at hpost
      · rename_i u g hu
        rw [hu] at hpost
        exact hpost.trans (u.wrote_streamsKept g)
    · exact .refl s
  have hrun : ∀ q, StreamsKept s (t.setRunq (runKey o) q) := fun q =>
    ht.trans (t.setRunq_streamsKept _ q)
  have hrecord : ∀ (b : Bool) q order fin es, StreamsKept s (if b = true then t.setRunq (runKey o) q
      else (t.setRunq (runKey o) q).putEntries o.spire.val o.ring.val order fin es) := by
    intro b q order fin es
    cases b
    · exact (hrun q).trans (State.putEntries_streamsKept _ o.spire.isLt o.ring.isLt _ _ _)
    · exact hrun q
  split
  · exact (hrecord _ _ _ _ _).trans (State.modInstance_streamsKept _ _ _ _)
  · exact hrecord _ _ _ _ _

theorem State.completeList_streamsKept (s : State) (l : ListRun) : StreamsKept s (s.completeList l) := by
  have hone := fun f => s.completeOne_streamsKept l.o 0x04 (leBytes 4 l.run) f []
  unfold State.completeList
  dsimp only
  split
  · exact (hone _).trans (State.wrote_streamsKept _ _)
  · exact hone _

theorem State.listStep_streamsKept (s : State) (k : Nat) (cseq : BitVec 32) : StreamsKept s (s.listStep k cseq) := by
  unfold State.listStep
  dsimp only
  split
  · exact .refl s
  · split
    · exact (s.setRunq_streamsKept k _).trans (State.completeList_streamsKept _ _)
    · exact s.setRunq_streamsKept k _

theorem State.completeStep_streamsKept (s : State) (o : Origin) (opcode : Nat) (result : List Byte)
    (f : Option (List Byte)) (ext : List (List Byte)) : StreamsKept s (s.completeStep o opcode result f ext) := by
  have hone := s.completeOne_streamsKept o opcode result f ext
  unfold State.completeStep
  dsimp only
  split
  · exact hone
  · exact hone.trans (State.listStep_streamsKept _ _ _)

theorem State.settleFences_streamsKept (k : Nat) (s : State) : StreamsKept s (s.settleFences k) := by
  induction k generalizing s with
  | zero => exact .refl s
  | succ k ih =>
    unfold State.settleFences
    split
    · exact .refl s
    · exact (s.completeStep_streamsKept _ _ _ _ _).trans (ih _)

theorem State.complete_streamsKept (s : State) (o : Origin) (opcode : Nat) (result : List Byte)
    (f : Option (List Byte)) (ext : List (List Byte)) : StreamsKept s (s.complete o opcode result f ext) :=
  (s.completeStep_streamsKept o opcode result f ext).trans (State.settleFences_streamsKept _ _)

theorem State.channelEnd_streamsKept (s : State) (sp ch : Nat) (c : Channel) (opcode : Nat) (result : List Byte)
    (f : Option FaultInfo) : StreamsKept (s.setChannel sp ch none) (s.channelEnd sp ch c opcode result f) := by
  unfold State.channelEnd
  dsimp only
  split
  · exact (State.complete_streamsKept _ _ _ _ _ _).trans (State.wrote_streamsKept _ _)
  · exact State.complete_streamsKept _ _ _ _ _ _

end Sys2Proof.Machine
end

/-! ## Grid points become visible, and verdicts (R243, R246, R247) -/

section
open Sys2Proof Sys2Proof.Machine
namespace Sys2Proof.Machine

/-! ### Posts of a link -/

theorem State.postSem_fits {s : State} {sp n k : Nat} (source : Nat) (remote : Bool) (hk : k ≠ 0)
    (hcount : (s.sem sp n).count + k ≤ 65535) :
    s.postSem sp n k source remote = (s.setSem sp n { s.sem sp n with
      count := (s.sem sp n).count + k, lastBell := s.bellNum, lastSource := source, lastRemote := remote }, none) := by
  simp only [State.postSem, if_neg hk, if_neg (Nat.not_lt.mpr hcount)]

theorem State.postSem_rest {s t : State} {sp n k source : Nat} {remote : Bool}
    (h : s.postSem sp n k source remote = (t, none)) : { t with sems := s.sems } = s := by
  unfold State.postSem at h
  dsimp only at h
  split at h
  · cases h
    rfl
  · split at h
    · cases h
    · cases h
      simp only [State.setSem]

/-- A post that is not refused changes semaphores alone. -/
theorem State.postFrom_rest {s t : State} {frm sp sender n k : Nat} (h : s.postFrom frm sp sender n k = (t, none)) :
    { t with sems := s.sems } = s := by
  unfold State.postFrom at h
  split at h
  · exact State.postSem_rest h
  · unfold State.postRemote at h
    split at h
    · exact State.postSem_rest h
    · cases h

theorem State.postFull_rest {s t : State} {sp : Nat} {w : SeqWalk} (h : s.postFull sp w = (t, none)) :
    { t with sems := s.sems } = s := State.postFrom_rest h

theorem State.postFull_own {s : State} {sp f : Nat} {w : SeqWalk} (hsp : bits w.semFull 13 12 = sp)
    (hf : bits w.semFull 11 0 = f) (hcount : (s.sem sp f).count < 65535) :
    ∃ m : Sem, m.count = (s.sem sp f).count + 1 ∧ m.waiters = (s.sem sp f).waiters ∧
      s.postFull sp w = (s.setSem sp f m, none) := by
  refine ⟨{ s.sem sp f with
    count := (s.sem sp f).count + 1, lastBell := s.bellNum, lastSource := srcSde sp, lastRemote := false }, rfl, rfl, ?_⟩
  rw [State.postFull, hsp, hf, State.postFrom, if_pos rfl, State.postSem_fits _ _ (by decide) hcount]

theorem State.postTimes_rest {post : State → State × Option FaultInfo}
    (hpost : ∀ {s t}, post s = (t, none) → { t with sems := s.sems } = s) (k : Nat) {s t : State}
    (h : s.postTimes post k = (t, none)) : { t with sems := s.sems } = s := by
  induction k generalizing s with
  | zero =>
    cases h
    rfl
  | succ k ih =>
    unfold State.postTimes at h
    split at h
    · rename_i u hu
      exact (congrArg (fun v : State => { v with sems := s.sems }) (ih h) :).trans (hpost hu)
    · cases h

/-! ### A walk that is busy -/

/-- While a grid point is in progress, or SEM_EMPTY is waited for, a walk goes no further (R243). -/
theorem State.seqAdvance_busy {s : State} {sp ch : Nat} {c : Channel} {w : SeqWalk} (hch : s.channel sp ch = some c)
    (hwork : c.work = .seq w) (hbusy : w.cur ≠ none ∨ w.waiting = true) (hfailed : w.failed = none)
    (habandon : c.abandon = none) : s.seqAdvance sp ch = s := by
  cases hcur : w.cur with
  | some p =>
    simp only [State.seqAdvance, hch, hwork, hfailed, hcur, Option.isSome_none, Option.isSome_some, Bool.false_eq_true,
      if_false, if_true]
  | none =>
    have hwaiting : w.waiting = true := hbusy.resolve_left (fun hsome => hsome hcur)
    simp only [State.seqAdvance, hch, hwork, hfailed, hcur, habandon, hwaiting, Option.isSome_none, Bool.false_eq_true,
      if_false, if_true]

theorem State.setChannel_seqAdvance_busy (s : State) (sp ch : Nat) {c : Channel} {w : SeqWalk} (hwork : c.work = .seq w)
    (hbusy : w.cur ≠ none ∨ w.waiting = true) (hfailed : w.failed = none) (habandon : c.abandon = none) :
    (s.setChannel sp ch (some c)).seqAdvance sp ch = s.setChannel sp ch (some c) :=
  State.seqAdvance_busy (State.channel_setChannel _ _ _ _) hwork hbusy hfailed habandon

section
variable {spire : Fin 4} {ch : Fin 16} {c : Channel} {w : SeqWalk} {n : Nat} {rest : List Nat} {s : State}
  (hch : s.channel spire.val ch.val = some c) (hwork : c.work = .seq w) (hlanded : w.landed = n :: rest)
  (hbusy : w.cur ≠ none ∨ w.waiting = true) (hfailed : w.failed = none) (habandon : c.abandon = none)
include hch hwork hlanded hbusy hfailed habandon

/-- A SPEC move without a verdict withholds FULL (R246). -/
theorem exec_gridPointComplete_withheld (hcls : c.cls = 2) (hverdict : c.verdict = none) :
    exec (.gridPointComplete spire ch) s = .next (s.setChannel spire.val ch.val (some { c with
      work := .seq { w with landed := rest, done := w.done + 1, withheld := w.withheld ++ [n] } })) := by
  have hspec : (decide (c.cls = 2) && c.verdict.isNone) = true := by simp [hcls, hverdict]
  show execGridPointComplete spire ch s = _
  simp only [execGridPointComplete, hch, hwork, hlanded, hspec, if_true]
  exact congrArg Host.Outcome.next (s.setChannel_seqAdvance_busy _ _ rfl hbusy hfailed habandon)

/-- Any other posts it (R243). -/
theorem exec_gridPointComplete_posts {u : State} (hverdict : c.cls ≠ 2 ∨ c.verdict ≠ none)
    (hpost : s.postFull spire.val { w with landed := rest, done := w.done + 1 } = (u, none)) :
    exec (.gridPointComplete spire ch) s = .next (u.setChannel spire.val ch.val (some { c with
      work := .seq { w with landed := rest, done := w.done + 1 } })) := by
  have hspec : ¬ (decide (c.cls = 2) && c.verdict.isNone) = true := by
    simpa [← not_and_or] using hverdict
  show execGridPointComplete spire ch s = _
  simp only [execGridPointComplete, hch, hwork, hlanded, if_neg hspec, hpost]
  exact congrArg Host.Outcome.next (u.setChannel_seqAdvance_busy _ _ rfl hbusy hfailed habandon)

end

/-! ### The groups that a verdict names (R246) -/

theorem below_singleton {n i : Nat} {p : Nat → Bool} (hi : i < n) (hp : ∀ j, j < n → (p j = true ↔ j = i)) :
    below n p = [i] := by
  have hcongr : below n p = (List.range n).filter (· == i) :=
    List.filter_congr (fun j hj => by
      rw [Bool.eq_iff_iff, hp j (List.mem_range.mp hj), beq_iff_eq])
  rw [hcongr, List.filter_beq, List.count_eq_one_of_mem List.nodup_range (List.mem_range.mpr hi), List.replicate_one]

theorem below_groupMask (g : Fin 64) : below 64 (fun i => (1 <<< g.val : BitVec 64).getLsbD i) = [g.val] := by
  refine below_singleton g.isLt (fun j hj => ?_)
  rw [BitVec.natCast_eq_ofNat, BitVec.getLsbD_ofNat, decide_eq_true hj, Bool.true_and, Nat.one_shiftLeft,
    Nat.testBit_two_pow, decide_eq_true_eq, eq_comm]

/-- A condition that a channel of a group meets, and that only its channels can meet. -/
theorem State.channelsWith_of {s : State} {sp ch : Nat} {c : Channel} {p q : Channel → Bool}
    (hq : s.channelsWith sp q = [ch]) (hpq : ∀ c, p c = true → q c = true) (hch : s.channel sp ch = some c)
    (hp : p c = true) : s.channelsWith sp p = [ch] := by
  have hlt := State.channelsWith_lt hq
  refine below_singleton hlt (fun j hj => ⟨fun hj' => ?_, fun hj' => ?_⟩)
  · have hmem : j ∈ s.channelsWith sp q := by
      refine mem_below.mpr ⟨hj, ?_⟩

      cases hcj : s.channel sp j with
      | none => rw [hcj] at hj'; cases hj'
      | some d => rw [hcj] at hj'; exact hpq d hj'
    rw [hq] at hmem
    exact List.mem_singleton.mp hmem
  · subst hj'
    simpa only [hch] using hp

/-- A verdict on one group that has one SPEC move, and had none before. -/
theorem State.verdicts_one {s : State} {sp ch : Nat} {g : Fin 64}
    (hfirst : s.channelsWith sp (fun c => c.ofGroup g.val false) = [])
    (hopen : s.channelsWith sp (fun c => c.ofGroup g.val true) = [ch]) (yes : Bool) :
    s.verdicts sp (1 <<< g.val) yes = s.giveVerdict sp ch yes := by
  simp only [State.verdicts, below_groupMask, List.foldl_cons, List.foldl_nil, hfirst, hopen, List.isEmpty_nil, if_true]

/-! ### What a verdict does to its move -/

theorem State.leaveSem_streamsKept (s : State) (sp n : Nat) (who : WaiterId) : StreamsKept s (s.leaveSem sp n who) := by
  unfold State.leaveSem
  dsimp only
  split
  · exact s.setSem_streamsKept _ _ _
  · exact .refl s

theorem State.postTimes_streamsKept {post : State → State × Option FaultInfo} (hpost : ∀ t, StreamsKept t (post t).1)
    (k : Nat) (s : State) : StreamsKept s (s.postTimes post k).1 := by
  induction k generalizing s with
  | zero => exact .refl s
  | succ k ih =>
    have hone := hpost s
    unfold State.postTimes
    split
    · rename_i t ht
      rw [ht] at hone
      exact hone.trans (ih t)
    · rename_i t f ht
      rwa [ht] at hone

section
variable {s : State} {sp ch : Nat} {c : Channel} {w : SeqWalk} (hch : s.channel sp ch = some c) (hwork : c.work = .seq w)
include hch hwork

theorem State.giveVerdict_confirms {s1 : State} (hbusy : w.cur ≠ none ∨ w.waiting = true) (hfailed : w.failed = none)
    (habandon : c.abandon = none) (hpost : s.postTimes (fun t => t.postFull sp w) w.withheld.length = (s1, none)) :
    s.giveVerdict sp ch true = s1.setChannel sp ch
      (some { c with verdict := some true, cls := 1, work := .seq { w with withheld := [] } }) := by
  simp only [State.giveVerdict, hch, hwork, hpost, if_true]
  exact s1.setChannel_seqAdvance_busy _ _ rfl hbusy hfailed habandon

/-- The bytes that a SPEC move has written of points whose FULL has not been posted (R246). -/
def SeqWalk.unposted (w : SeqWalk) : Nat :=
  (w.withheld ++ w.landed).foldl (· + ·) (match w.cur with | some p => p.wrote | none => 0)

/-- DROP counts those bytes, gives the points back to SEM_EMPTY, and ends the move. -/
theorem State.giveVerdict_drops :
    ∃ u c' r f, StreamsKept (s.count64 (Reg.sdeSpecDrop sp) w.unposted) u ∧
      s.giveVerdict sp ch false = u.channelEnd sp ch c' 0x12 r f := by
  have hposts := fun (t : State) k => State.postTimes_streamsKept (post := fun t => t.postEmpty sp w)
    (fun t => t.postSem_streamsKept _ _ _ _ _) k t
  have hleaves := (s.count64 (Reg.sdeSpecDrop sp) w.unposted).leaveSem_streamsKept sp (bits w.semEmpty 11 0)
    (.channel (Fin.ofNat 16 ch))
  simp only [State.giveVerdict, hch, hwork, Bool.false_eq_true, if_false]
  exact ⟨_, _, _, _, hleaves.trans (hposts _ _), rfl⟩

end

/-- The end of a dropped move: its channel is idle, the other channels are as before, and its bytes are counted, whatever
its record does. -/
structure MoveDropped (sp ch bytes : Nat) (s t : State) : Prop where
  idle : t.channel sp ch = none
  others : ∀ sp' k, k < 16 → (sp', k) ≠ (sp, ch) → t.channel sp' k = s.channel sp' k
  counted : t.reg (Reg.sdeSpecDrop sp) = min (s.reg (Reg.sdeSpecDrop sp) + bytes) (2 ^ 64 - 1)

theorem MoveDropped.then {sp ch bytes : Nat} {s t u : State} (h : MoveDropped sp ch bytes s t) (hsp : sp < 4)
    (k : StreamsKept t u) : MoveDropped sp ch bytes s u where
  idle := (State.channel_congr k.channels sp ch).trans h.idle
  others sp' j hj hne := (State.channel_congr k.channels sp' j).trans (h.others sp' j hj hne)
  counted := (k.dropped sp hsp).trans h.counted

theorem State.reg_count64 (s : State) (a k : Nat) : (s.count64 a k).reg a = min (s.reg a + k) (2 ^ 64 - 1) := by
  rw [State.count64, State.reg_setReg_self, satAdd, Nat.mod_eq_of_lt (by omega)]

theorem State.giveVerdict_dropped {s : State} {sp ch : Nat} {c : Channel} {w : SeqWalk} (hsp : sp < 4) (hlt : ch < 16)
    (hch : s.channel sp ch = some c) (hwork : c.work = .seq w) :
    MoveDropped sp ch w.unposted s (s.giveVerdict sp ch false) := by
  obtain ⟨u, c', r, f, hkept, hends⟩ := State.giveVerdict_drops hch hwork
  have hend := u.channelEnd_streamsKept sp ch c' 0x12 r f
  rw [← hends] at hend
  refine MoveDropped.then ⟨State.channel_setChannel _ _ _ _, fun sp' k hk hne => ?_, ?_⟩ hsp hend
  · rw [State.channel_setChannel_ne u none hlt hk hne]
    exact State.channel_congr (hkept.channels.trans (State.setReg_channels _ _ _)) sp' k
  · rw [← State.reg_count64, ← hkept.dropped sp hsp]
    rfl

end Sys2Proof.Machine
end

/-! ## The stream engine's commands and events complete (R230 to R248, R323, R407) -/

section
open Sys2Proof Sys2Proof.Machine
namespace Sys2Proof.Machine

/-! ### Verdicts -/

section
variable {o : Origin} {g : Fin 64} {ch : Nat} {s : State} (heng : s.ringEngine o = 1)
  (hfirst : s.channelsWith o.spire.val (fun c => c.ofGroup g.val false) = [])
  (hopen : s.channelsWith o.spire.val (fun c => c.ofGroup g.val true) = [ch])
include heng hfirst hopen

theorem exec_prefetchConfirm_one : exec (.prefetchConfirm o (1 <<< g.val)) s =
    .next ((s.giveVerdict o.spire.val ch true).completeOk o 0x19) := by
  show execPrefetchConfirm o (1 <<< g.val) s = _
  rw [execPrefetchConfirm, State.onEngine_run _ _ heng, State.verdicts_one hfirst hopen]

theorem exec_prefetchDrop_one : exec (.prefetchDrop o (1 <<< g.val)) s =
    .next ((s.giveVerdict o.spire.val ch false).completeOk o 0x1A) := by
  show execPrefetchDrop o (1 <<< g.val) s = _
  rw [execPrefetchDrop, State.onEngine_run _ _ heng, State.verdicts_one hfirst hopen]

end

/-- At the bell after a move without a verdict started, the time-out of its group gives it DROP (R247). -/
theorem exec_specGroupTimeout_one {spire : Fin 4} {g : Fin 64} {ch : Nat} {c : Channel} {s : State}
    (hopen : s.channelsWith spire.val (fun c => c.ofGroup g.val true) = [ch]) (hch : s.channel spire.val ch = some c)
    (hbell : c.bell < s.bellNum) :
    exec (.specGroupTimeout spire g) s = .next (s.giveVerdict spire.val ch false) := by
  have hof : c.ofGroup g.val true = true := by
    have hmem : ch ∈ s.channelsWith spire.val (fun c => c.ofGroup g.val true) := by
      rw [hopen]
      exact List.mem_singleton_self ch
    simpa only [hch] using (mem_below.mp hmem).2
  have hdue : s.channelsWith spire.val (fun c => c.ofGroup g.val true && decide (c.bell < s.bellNum)) = [ch] :=
    State.channelsWith_of hopen (fun d hd => (Bool.and_eq_true_iff.mp hd).1) hch
      (by rw [hof, decide_eq_true hbell]; rfl)
  show execSpecGroupTimeout spire g s = _
  simp only [execSpecGroupTimeout, State.dropGroupAt, hdue, List.foldl_cons, List.foldl_nil]

/-- A command that completes alone still does so after semaphores or channels have changed. -/
theorem State.Alone.of_frame {o : Origin} {s t : State} (ha : s.Alone o)
    (hrest : { t with sems := s.sems, channels := s.channels } = s) : t.Alone o := by
  rw [← hrest] at ha
  exact ha

/-! ### The whole claim -/

theorem State.fetchDesc_fetched {s : State} {u : DescUser} {src h : Nat} {b : List Byte}
    (hok : (s.fetchDesc u src h).2 = .ok b) : Fetched u s (s.fetchDesc u src h).1 := by
  rw [(State.fetchDesc_ok hok).1]
  exact s.touchGroup_fetched u src (h % 16384)

theorem Fetched.tables {u : DescUser} {s t : State} (h : Fetched u s t) :
    t.sems = s.sems ∧ t.channels = s.channels :=
  ⟨(congrArg State.sems h.1 :), (congrArg State.channels h.1 :)⟩

/-- Settles O45, command by command. -/
theorem streamEngine : Obligations.StreamEngine := by
  refine ⟨fun o src dst len port node gen ch s heng hlen => ?_, fun o src dst port node gen s heng ha => ?_,
    fun o nest dst nbuf cls group semFull semEmpty bstride ch h es r1 b db s heng hlength => ?_,
    fun spire ch c src dst len done a d s => ?_, fun spire ch c src dst len done u r s => ?_,
    fun spire ch c w n rest s => ?_, fun o g ch c w s1 s ha heng => ?_, fun o g ch c w s heng => ?_⟩
  · intro sp hidle
    have hlt := State.idleChannel_lt hidle
    refine ⟨fun hmapped => ?_, fun hmapped => ?_⟩
    · exact ⟨_, _, exec_move_starts heng hlen hidle hmapped, State.channel_setChannel _ _ _ _, rfl, rfl, rfl, rfl,
        s.setChannel_frame _ hlt⟩
    · exact ⟨_, _, exec_peerMove_starts heng hlen hidle hmapped, State.channel_setChannel _ _ _ _, rfl, rfl, rfl,
        s.setChannel_frame _ hlt⟩
  · exact ⟨fun hmapped => ⟨_, exec_move_empty heng hmapped, completeOk_recorded _ _ ha⟩,
      fun hmapped => ⟨_, exec_peerMove_empty heng hmapped, completeOk_recorded _ _ ha⟩⟩
  · intro sp noList hlist r2 r3 d dd k w0 n hidle hb hdb hnest hcls hstride hgroup hlow hhigh hspan hroom
    have hlt := State.idleChannel_lt hidle
    have hsrc : r1.fetchDesc (.sde sp) (srcSde sp) h = (r2.1, .ok b) := Prod.ext rfl hb
    have hdst : r2.1.fetchDesc (.sde sp) (srcSde sp) dst.toNat = (r3.1, .ok db) := Prod.ext rfl hdb
    have hsrcFetched : Fetched (.sde sp) r1 r2.1 := State.fetchDesc_fetched hb
    have hdstFetched : Fetched (.sde sp) r2.1 r3.1 := State.fetchDesc_fetched hdb
    have hregion : r3.1.region dd.region = s.region dd.region := by
      rw [State.region, seqMove_reads_regions hlist hsrc hdst, State.region]
    have hexec := exec_seqMove (w := w0) (n := n) heng hlength hidle hlist hsrc hdst rfl rfl
      ⟨hnest, hcls, hstride, hgroup, hregion.symm ▸ hlow, hregion.symm ▸ hhigh, hspan, hroom⟩
    refine ⟨hsrcFetched, hdstFetched, fun r4 len hlen => ?_, fun hpl hbound htotal => ?_⟩
    · exact ⟨_, rfl, rfl, rfl, rfl, rfl, rfl, rfl, rfl, hexec.trans (congrArg _ (State.seqStart_ok hlen))⟩
    · have hr1 : r1 = s := by
        rw [if_neg (by simp [hpl])] at hlist
        exact (congrArg Prod.fst hlist).symm
      obtain ⟨hsems2, hchannels2⟩ := hsrcFetched.tables
      obtain ⟨hsems3, hchannels3⟩ := hdstFetched.tables
      have hsem : r3.1.sem sp k = s.sem sp k := by rw [State.sem, hsems3, hsems2, hr1, State.sem]
      have hchannels : r3.1.channels = s.channels := by rw [hchannels3, hchannels2, hr1]
      obtain ⟨w', hch, hasked, hrest⟩ := State.seqStart_first (s := r3.1) (sp := sp) (ch := ch) (k := k)
        (c := { r3.1.newChannel o (.seq w0) with cls := cls.toNat, group := group.toNat }) (w := w0) (n := n) hlt hbound
        (fun tent => ⟨rfl, rfl, rfl, rfl, rfl, rfl, if_neg (by simp [hpl]), rfl, rfl, hbound, htotal⟩) rfl
      have hasked' := hasked.of_tables hsem (fun sp' j _ _ => State.channel_congr hchannels sp' j)
      exact ⟨_, _, w', hexec, hch, rfl, rfl, rfl, rfl, hasked'.desc, hasked'.dst, hasked'.done, hasked'.served,
        hasked'.joined, hasked'.others, hrest⟩
  · intro sp m hch hwork habandon hmore hscrubs hqueue hsrc hdst herr
    have hquiet : s.QuietGallery sp := ⟨hscrubs, hqueue, herr⟩
    obtain ⟨t, hexec, hgallery, hothers, hregs, hrest⟩ :=
      exec_streamSegment_gallery hch hwork habandon rfl hmore hquiet hsrc hdst
    exact ⟨_, hexec, State.channel_setChannel _ _ _ _, hgallery, hothers, hregs, hrest⟩
  · intro sp m hch hwork habandon hsrc hdst hcopy hfault
    have hexec := exec_streamSegment_move hch hwork habandon rfl hsrc hdst hcopy hfault
    refine ⟨fun hmore => ?_, fun hlast hnote ha => ⟨_, hexec, ?_⟩⟩
    · rwa [if_neg (Nat.not_le.mpr hmore)] at hexec
    · rw [if_pos hlast, State.channelEnd_ok _ _ _ hnote]
      exact completeOk_recorded _ _ (ha.of_frame (u.setChannel_frame none ch.isLt).2)
  · intro sp f hch hwork hlanded hbusy hfailed habandon
    refine ⟨fun hcls hverdict => ?_, fun hverdict hown hcount => ?_, fun u hverdict hpost => ?_⟩
    · exact ⟨_, exec_gridPointComplete_withheld hch hwork hlanded hbusy hfailed habandon hcls hverdict,
        State.channel_setChannel _ _ _ _, s.setChannel_frame _ ch.isLt⟩
    · obtain ⟨m, hmcount, hmwaiters, hpost⟩ :=
        State.postFull_own (s := s) (f := f) (w := { w with landed := rest, done := w.done + 1 }) hown rfl hcount
      have hsem := s.sem_setSem sp f m
      exact ⟨_, exec_gridPointComplete_posts hch hwork hlanded hbusy hfailed habandon hverdict hpost,
        State.channel_setChannel _ _ _ _, (congrArg Sem.count hsem).trans hmcount,
        (congrArg Sem.waiters hsem).trans hmwaiters, s.setSem_setChannel_frame _ _ _ ch.isLt⟩
    · exact ⟨_, exec_gridPointComplete_posts hch hwork hlanded hbusy hfailed habandon hverdict hpost,
        State.channel_setChannel _ _ _ _, (u.setChannel_frame _ ch.isLt).2⟩
  · intro sp hfirst hopen hch hwork hbusy hfailed habandon hpost
    have hrest := State.postTimes_rest State.postFull_rest _ hpost
    have hlt := State.channelsWith_lt hopen
    obtain ⟨hothers, hframe⟩ := s1.setChannel_frame (sp := sp)
      (some { c with verdict := some true, cls := 1, work := .seq { w with withheld := [] } }) hlt
    have hexec := exec_prefetchConfirm_one heng hfirst hopen
    rw [State.giveVerdict_confirms hch hwork hbusy hfailed habandon hpost] at hexec
    refine ⟨_, _, hexec, completeOk_recorded _ _ (ha.of_frame ?_), State.channel_setChannel _ _ _ _, fun sp' k hk hne => ?_,
      hframe⟩
    · exact (congrArg (fun v : State => { v with sems := s.sems, channels := s.channels }) hframe :).trans
        (congrArg (fun v : State => { v with channels := s.channels }) hrest :)
    · exact (hothers sp' k hk hne).trans (State.channel_congr (congrArg State.channels hrest :) sp' k)
  · intro sp bytes hfirst hopen hch hwork i hi
    have hlt := State.channelsWith_lt hopen
    have hdropped := State.giveVerdict_dropped o.spire.isLt hlt hch hwork
    have hrun : ∃ t, exec i s = .next t ∧ MoveDropped o.spire.val ch w.unposted s t := by
      have hdrop : ∃ t, exec (.prefetchDrop o (1 <<< g.val)) s = .next t ∧
          MoveDropped o.spire.val ch w.unposted s t :=
        ⟨_, exec_prefetchDrop_one heng hfirst hopen, hdropped.then o.spire.isLt (State.complete_streamsKept _ _ _ _ _ _)⟩
      split at hi
      · rename_i hbell
        rcases List.mem_pair.mp hi with rfl | rfl
        · exact hdrop
        · exact ⟨_, exec_specGroupTimeout_one hopen hch hbell, hdropped⟩
      · obtain rfl := List.mem_singleton.mp hi
        exact hdrop
    obtain ⟨t, hexec, hidle, hothers, hcounted⟩ := hrun
    exact ⟨t, hexec, hidle, hothers, hcounted⟩

end Sys2Proof.Machine
end

section
open Sys2Proof Sys2Proof.Machine

namespace Sys2Proof.SMap

/-- Listing or unlisting a key that a filter drops does not change what the filter keeps. -/
theorem filter_set {α : Type} [DecidableEq α] {d : Nat → α} (p : Nat → Bool) (m : SMap α) {k : Nat} (v : α) (hk : p k = false) :
    (set d m k v).filter (fun e => p e.1) = m.filter (fun e => p e.1) := by
  unfold set
  split
  · rw [erase, List.filter_filter]
    refine List.filter_congr (fun e _ => ?_)
    by_cases he : e.1 = k
    · rw [he, hk, Bool.false_and]
    · simp only [he, ne_eq, not_false_eq_true, decide_true, Bool.and_true]
  · induction m with
    | nil => simp [insert, hk]
    | cons e m ih =>
      unfold insert
      split
      · simp [hk]
      · split
        · rename_i he
          simp [hk, ← he]
        · simp only [List.filter_cons, ih]

end Sys2Proof.SMap

namespace Sys2Proof.Machine

/-! ### The state apart from the memories -/

/-- The registers of the Spires' control blocks and of Alxis that no access of a memory writes. -/
def apartReg (x : Nat) : Bool :=
  decide (x % 0x1000_0000 < 0x1000 ∨ (0x4000 ≤ x % 0x1000_0000 ∧ x % 0x1000_0000 < 0x6000) ∨ (0x50_0000 ≤ x ∧ x < 0x60_0000))

/-- The state without what an access of a memory may change: the memories with their errors, queues and buffers, the Towers,
the counts and reports, and the registers but for those of `apartReg`. -/
def State.offMemory (s : State) : State :=
  { s with
    free := 0, ctl := s.ctl.filter (fun e => apartReg e.1), hbm := [], gallery := [], tmem := [], companion := [],
    flash := [], hbmErr := [], ramErr := [], pinCounts := [], pinsOver := [], towers := [], wcb := [], faultsSpire := [],
    faultsKey := [], lostFrom := [], galPackets := [], galScrub := [], sent := [] }

theorem State.reg_offMemory (s : State) {x : Nat} (h : apartReg x = true) : s.offMemory.reg x = s.reg x :=
  congrArg BitVec.toNat (SMap.get_filter_key apartReg s.ctl h)

theorem State.reg_of_offMemory {s t : State} (h : t.offMemory = s.offMemory) {x : Nat} (hx : apartReg x = true) :
    t.reg x = s.reg x := by
  rw [← t.reg_offMemory hx, h, s.reg_offMemory hx]

theorem State.setReg_offMemory (s : State) {a : Nat} (v : Nat) (h : apartReg a = false) :
    (s.setReg a v).offMemory = s.offMemory := by
  simp only [State.offMemory, State.setReg, SMap.filter_set apartReg s.ctl _ h]

/-! ### The registers that accesses write -/

section
variable (h : Nat)

theorem hbmReg_apart {o : Nat} (ho : o < 0x1000) : apartReg (Reg.hbmBase h + o) = false := by
  refine decide_eq_false ?_
  simp only [Reg.hbmBase, Reg.spireBase]
  omega

theorem twrReg_apart {o : Nat} (ho : o < 0x10_0000) : apartReg (Reg.twrBase h + o) = false := by
  refine decide_eq_false ?_
  simp only [Reg.twrBase, Reg.spireBase]
  omega

theorem sprReg_apart {o : Nat} (ho : 0x1000 ≤ o ∧ o < 0x4000 ∨ 0x6000 ≤ o ∧ o < 0x1_0000) :
    apartReg (Reg.spireBase h + o) = false := by
  refine decide_eq_false ?_
  simp only [Reg.spireBase]
  omega

theorem carPendSet_apart {i : Nat} (hi : i < 16) : apartReg (Reg.carPendSet h i) = false := by
  refine decide_eq_false ?_
  simp only [Reg.carPendSet, Reg.carBase, Reg.spireBase]
  split <;> omega

end

/-! ### Counts and reports -/

section
variable (s : State)

theorem State.count_offMemory {a : Nat} (k : Nat) (h : apartReg a = false) : (s.count a k).offMemory = s.offMemory :=
  s.setReg_offMemory _ h

theorem State.raise_offMemory (car : Nat) {n : Nat} (hn : n < 1024) : (s.raise car n).offMemory = s.offMemory :=
  s.setReg_offMemory _ (carPendSet_apart car (by omega))

@[simp] theorem State.wrote_offMemory (f : FaultInfo) : (s.wrote f).offMemory = s.offMemory := by
  obtain ⟨l, hl⟩ := s.wrote_frame f
  rw [hl]
  rfl

@[simp] theorem State.faultToSpire_offMemory (sp : Nat) (f : FaultInfo) : (s.faultToSpire sp f).offMemory = s.offMemory :=
  (State.wrote_offMemory _ f).trans (State.raise_offMemory _ sp (by decide))

@[simp] theorem State.faultToKey_offMemory (f : FaultInfo) : (s.faultToKey f).offMemory = s.offMemory := by
  refine (State.wrote_offMemory _ f).trans (State.raise_offMemory _ 4 ?_)
  split <;> omega

@[simp] theorem State.hbmUeReport_offMemory (stack addr ty : Nat) (f : FaultInfo) :
    (s.hbmUeReport stack addr ty f).offMemory = s.offMemory := by
  have hcount (v : Nat) : (s.setReg (Reg.hbmUeCnt stack) v).offMemory = s.offMemory :=
    s.setReg_offMemory v (hbmReg_apart stack (by decide))
  have hlog (t : State) (v : Nat) : (t.setReg (Reg.hbmUeLog stack) v).offMemory = t.offMemory :=
    t.setReg_offMemory v (hbmReg_apart stack (by decide))
  unfold State.hbmUeReport State.count
  rw [State.faultToKey_offMemory, State.faultToSpire_offMemory]
  split
  · rw [hlog, hcount]
  · rw [State.raise_offMemory _ _ (by omega), hlog, hcount]

@[simp] theorem State.logAppend_offMemory (die kind unit index : Nat) :
    (s.logAppend die kind unit index).offMemory = s.offMemory := by
  unfold State.logAppend
  dsimp only
  split
  · rfl
  · split <;> (split <;> rfl)

@[simp] theorem State.countPin_offMemory (stack ch pin : Nat) : (s.countPin stack ch pin).offMemory = s.offMemory := by
  have hstack {o : Nat} (ho : o < 0x1000) (t : State) (v : Nat) :
      (t.setReg (Reg.hbmBase stack + o) v).offMemory = t.offMemory := t.setReg_offMemory v (hbmReg_apart stack ho)
  have hstatus := @hstack 0x8 (by decide)
  have hsuspect := @hstack 0x30 (by decide)
  unfold State.countPin
  dsimp only
  split
  · rfl
  · split <;> split <;>
      (rw [Reg.hbmPinSuspect, hsuspect]; try rw [State.logAppend_offMemory])
    all_goals
      rw [State.raise_offMemory _ _ (by omega), State.setFld, Reg.hbmStatus, hstatus]
      rfl

@[simp] theorem State.hbmCorrected_offMemory (stack addr pos v : Nat) :
    (s.hbmCorrected stack addr pos v).offMemory = s.offMemory := by
  unfold State.hbmCorrected
  rw [foldl_keeps State.offMemory (fun t p => t.countPin_offMemory _ _ p)]
  exact s.setReg_offMemory _ (hbmReg_apart stack (by decide))

/-! ### HBM (R374, R375) -/

@[simp] theorem State.setLines_offMemory (sp : Nat) (l : List WcbLine) : (s.setLines sp l).offMemory = s.offMemory := rfl

@[simp] theorem State.dropLine_offMemory (stack addr : Nat) : (s.dropLine stack addr).offMemory = s.offMemory := rfl

@[simp] theorem State.stackPut_offMemory (stack addr : Nat) (bs : List Byte) :
    (s.stackPut stack addr bs).offMemory = s.offMemory := rfl

@[simp] theorem State.writeHalf_offMemory (l : WcbLine) (h : Nat) : (s.writeHalf l h).offMemory = s.offMemory := by
  unfold State.writeHalf
  dsimp only
  split
  · rfl
  · split
    · exact s.hbmUeReport_offMemory _ _ _ _
    · exact s.hbmUeReport_offMemory _ _ _ _
    · exact s.hbmCorrected_offMemory _ _ _ _
    · split <;> rfl

@[simp] theorem State.writeOut_offMemory (l : WcbLine) : (s.writeOut l).offMemory = s.offMemory := by
  unfold State.writeOut
  rw [State.writeHalf_offMemory, State.writeHalf_offMemory]
  split
  · rfl
  · exact State.setReg_offMemory _ _ (hbmReg_apart l.stack (by decide))

@[simp] theorem State.linePut_offMemory (stack addr : Nat) (bs : List Byte) (req : Nat) :
    (s.linePut stack addr bs req).offMemory = s.offMemory := by
  unfold State.linePut
  dsimp only
  split
  · exact State.writeOut_offMemory _ _
  · rw [State.setLines_offMemory]
    split
    · split
      · exact (State.setReg_offMemory _ _ (sprReg_apart _ (by decide))).trans (State.writeOut_offMemory _ _)
      · rfl
    · rfl

@[simp] theorem State.granulePut_offMemory (stack addr : Nat) (bs : List Byte) (req : Nat) :
    (s.granulePut stack addr bs req).offMemory = s.offMemory := by
  unfold State.granulePut
  simp only [apply_ite State.offMemory, State.linePut_offMemory, State.stackPut_offMemory, State.setLines_offMemory, ite_self]

/-! ### Tower memories and Galleries -/

@[simp] theorem State.galleryPut_offMemory (sp o : Nat) (bs : List Byte) : (s.galleryPut sp o bs).offMemory = s.offMemory := rfl

@[simp] theorem State.towerPut_offMemory (g o : Nat) (bs : List Byte) : (s.towerPut g o bs).offMemory = s.offMemory := rfl

@[simp] theorem State.clearRuns_offMemory (rs : List (Nat × Nat)) : (s.clearRuns rs).offMemory = s.offMemory := rfl

@[simp] theorem State.towerWrite_offMemory (g o : Nat) (bs : List Byte) (req : Nat) :
    (s.towerWrite g o bs req).1.offMemory = s.offMemory := by
  unfold State.towerWrite
  dsimp only
  split
  · exact s.faultToSpire_offMemory _ _
  · rw [State.clearRuns_offMemory, State.towerPut_offMemory]
    split
    · rfl
    · exact s.count_offMemory _ (twrReg_apart g (by decide))

@[simp] theorem State.galleryWrite_offMemory (sp o : Nat) (bs : List Byte) (req : Nat) :
    (s.galleryWrite sp o bs req).1.offMemory = s.offMemory := by
  unfold State.galleryWrite
  dsimp only
  split
  · exact (State.faultToSpire_offMemory _ _ _).trans (s.raise_offMemory _ (by decide))
  · rw [State.clearRuns_offMemory, State.galleryPut_offMemory]
    split
    · rfl
    · exact s.count_offMemory _ (sprReg_apart sp (by decide))

@[simp] theorem State.memPut_offMemory (sp a : Nat) (bs : List Byte) (req : Nat) :
    (s.memPut sp a bs req).offMemory = s.offMemory := by
  unfold State.memPut
  split
  · refine foldl_keeps State.offMemory (fun t p => ?_) _ s
    split
    · exact t.granulePut_offMemory _ _ _ _
    · exact t.hbmUeReport_offMemory _ _ _ _
  · rfl
  · rfl
  · rfl
  · rfl

/-! ### What an access waits for (R105, R106, R113, R116) -/

@[simp] theorem State.modTower_offMemory (g : Nat) (f : Tower → Tower) : (s.modTower g f).offMemory = s.offMemory := rfl

@[simp] theorem State.draw_offMemory : s.draw.offMemory = s.offMemory := rfl

@[simp] theorem State.answer_offMemory (port : Option Nat) (m : Nat → LinkMsg) :
    (s.answer port m).offMemory = s.offMemory := by
  cases port <;> rfl

@[simp] theorem State.towerPacket_offMemory (g o : Nat) (bs : List Byte) (sender : Nat) :
    (s.towerPacket g o bs sender).1.offMemory = s.offMemory := by
  unfold State.towerPacket
  split
  · exact s.faultToSpire_offMemory _ _
  · exact s.towerWrite_offMemory _ _ _ _

@[simp] theorem State.landTower_offMemory (g : Nat) (p : Packet) : (s.landTower g p).offMemory = s.offMemory :=
  (State.answer_offMemory _ _ _).trans (s.towerPacket_offMemory _ _ _ _)

@[simp] theorem State.landGallery_offMemory (sp : Nat) (p : Packet) : (s.landGallery sp p).offMemory = s.offMemory :=
  (State.answer_offMemory _ _ _).trans (s.galleryWrite_offMemory _ _ _ _)

@[simp] theorem State.endRising_offMemory (g : Nat) : (s.endRising g).offMemory = s.offMemory := by
  unfold State.endRising
  split
  · rfl
  · rw [State.modTower_offMemory, State.draw_offMemory]
    exact s.count_offMemory _ (twrReg_apart g (by decide))

@[simp] theorem State.settle_offMemory (a : Nat) : (s.settle a).offMemory = s.offMemory := by
  unfold State.settle
  split
  · rename_i g _ _
    extract_lets risen scrubbed
    have hrisen : risen.offMemory = s.offMemory := s.endRising_offMemory g
    have hscrubbed : scrubbed.offMemory = s.offMemory := by
      refine Eq.trans ?_ hrisen
      unfold scrubbed
      split <;> rfl
    clear_value scrubbed
    split
    · exact hscrubbed
    · exact (foldl_keeps State.offMemory (fun t p => t.landTower_offMemory g p) _ _).trans hscrubbed
  · rename_i g _ _
    extract_lets folded zeroed
    have hzeroed : zeroed.offMemory = s.offMemory := by
      have hfold : ((s.scrubs g).foldl (fun (t : State) r => t.zeroRange g r.1 r.2) s).offMemory = s.offMemory :=
        foldl_keeps State.offMemory (f := fun (t : State) (r : Nat × Nat) => t.zeroRange g r.1 r.2) (fun _ _ => rfl) _ s
      unfold zeroed
      split
      · rfl
      · exact hfold
    clear_value zeroed
    split
    · exact hzeroed
    · exact (foldl_keeps State.offMemory (fun t p => t.landGallery_offMemory g p) _ _).trans hzeroed
  · rfl

/-! ### Reads and writes of ranges -/

@[simp] theorem State.ueReport_offMemory (sp : Nat) (u : UeHit) : (s.ueReport sp u).offMemory = s.offMemory := by
  unfold State.ueReport
  split
  · exact s.hbmUeReport_offMemory _ _ _ _
  · rw [State.faultToSpire_offMemory]
    split
    · exact s.raise_offMemory _ (by decide)
    · rfl

@[simp] theorem State.countCorrected_offMemory (sp a n : Nat) : (s.countCorrected sp a n).offMemory = s.offMemory := by
  unfold State.countCorrected
  split
  · split
    · rfl
    · exact s.count_offMemory _ (twrReg_apart _ (by decide))
  · split
    · rfl
    · exact s.count_offMemory _ (sprReg_apart _ (by decide))
  · split
    · rfl
    · refine foldl_keeps State.offMemory (fun t p => foldl_keeps State.offMemory (fun u c => ?_) _ t) _ s
      split
      · rfl
      · split
        · exact u.hbmCorrected_offMemory _ _ _ _
        · rfl
  · rfl

@[simp] theorem State.readRange_offMemory (sp req a n : Nat) (through : Bool) :
    (s.readRange sp req a n through).s.offMemory = s.offMemory := by
  unfold State.readRange
  dsimp only
  split
  · rw [State.ueReport_offMemory, State.countCorrected_offMemory, State.settle_offMemory]
  · dsimp only
    split
    · rw [State.hbmUeReport_offMemory, foldl_keeps State.offMemory (fun t u => t.ueReport_offMemory sp u),
        State.countCorrected_offMemory, State.settle_offMemory]
    · rw [foldl_keeps State.offMemory (fun t u => t.ueReport_offMemory sp u), State.countCorrected_offMemory,
        State.settle_offMemory]

/-- The packets of an engine of the device pay from its own balance (R120). -/
theorem State.packetCheck_offMemory {m : MemRegs} {sd : Sender} (o n : Nat) (hbal : apartReg (m.bal sd.x) = false)
    (hrefused : apartReg m.credRefused = false) (hdrop : apartReg m.winDrop = false) :
    (s.packetCheck m sd o n).1.offMemory = s.offMemory := by
  unfold State.packetCheck
  dsimp only
  split
  · split
    · exact s.setReg_offMemory _ hbal
    · exact (State.faultToSpire_offMemory _ _ _).trans (s.setReg_offMemory _ hrefused)
  · split
    · rfl
    · exact (State.faultToSpire_offMemory _ _ _).trans (s.setReg_offMemory _ hdrop)

/-- The balance and the counters of a memory are no `apartReg`, for a sender of R16's source indices. -/
theorem unitRegs_apart (u : MemUnit) {x : Nat} (hx : x < 16) : apartReg ((unitRegs u).bal x) = false ∧
    apartReg (unitRegs u).credRefused = false ∧ apartReg (unitRegs u).winDrop = false := by
  cases u with
  | tower g =>
    refine ⟨?_, twrReg_apart g.val (by decide), twrReg_apart g.val (by decide)⟩
    have hbal : (unitRegs (.tower g)).bal x = Reg.twrBase g.val + (0x5080 + 8 * x) := by
      simp only [unitRegs, towerRegs, Reg.twrCredBal]
      omega
    rw [hbal]
    exact twrReg_apart g.val (by omega)
  | gallery sp =>
    refine ⟨?_, sprReg_apart sp.val (by decide), sprReg_apart sp.val (by decide)⟩
    have hbal : (unitRegs (.gallery sp)).bal x = Reg.spireBase sp.val + (0x1080 + 8 * x) := by
      simp only [unitRegs, galleryRegs, Reg.sprGalCredBal]
      omega
    rw [hbal]
    exact sprReg_apart sp.val (by omega)

theorem State.remotePacket_offMemory (u : MemUnit) (o : Nat) (bs : List Byte) {sd : Sender} (hx : sd.x < 16) :
    (s.remotePacket u o bs sd).1.offMemory = s.offMemory := by
  obtain ⟨hbal, hrefused, hdrop⟩ := unitRegs_apart u hx
  have hcheck (t : State) (f : Option FaultInfo) (ht : s.packetCheck (unitRegs u) sd o bs.length = (t, f)) :
      t.offMemory = s.offMemory := by
    rw [← s.packetCheck_offMemory o bs.length hbal hrefused hdrop, ht]
  unfold State.remotePacket
  cases u with
  | tower g =>
    dsimp only
    split
    · exact hcheck _ _ (by assumption)
    · exact (State.towerPacket_offMemory _ _ _ _ _).trans (hcheck _ _ (by assumption))
  | gallery sp =>
    dsimp only
    split
    · exact hcheck _ _ (by assumption)
    · exact (State.galleryWrite_offMemory _ _ _ _ _).trans (hcheck _ _ (by assumption))

theorem State.rowWrites_offMemory {w : State → Nat → List Byte → State × Option FaultInfo}
    (hw : ∀ t o bs, (w t o bs).1.offMemory = t.offMemory) (ps : List (Nat × List Byte)) :
    (s.rowWrites w ps).1.offMemory = s.offMemory := by
  refine foldl_keeps (fun a : State × Nat × Option FaultInfo => a.1.offMemory) (fun a p => ?_) ps (s, 0, none)
  split
  · rfl
  · have hp := hw a.1 p.1 p.2
    split <;> (rename_i h; rw [h] at hp; exact hp)

theorem State.putRange_offMemory (sp : Nat) {sd : Sender} (own : Bool) (a : Nat) (bs : List Byte) (hx : sd.x < 16) :
    (s.putRange sp sd own a bs).1.offMemory = s.offMemory := by
  have hremote (t : State) (u : MemUnit) (ps : List (Nat × List Byte)) :
      (t.remotePackets u sd ps).1.offMemory = t.offMemory :=
    t.rowWrites_offMemory (fun v o bs => v.remotePacket_offMemory u o bs hx) ps
  unfold State.putRange
  dsimp only
  split
  · rw [hremote, State.settle_offMemory]
  · split
    · rw [State.rowWrites_offMemory _ (fun t o b => t.galleryWrite_offMemory _ o b _), State.settle_offMemory]
    · rw [hremote, State.settle_offMemory]
  · split
    · rw [State.hbmUeReport_offMemory, State.memPut_offMemory, State.settle_offMemory]
    · rw [State.memPut_offMemory, State.settle_offMemory]
  · split
    · rw [State.memPut_offMemory, State.settle_offMemory]
    · exact s.settle_offMemory a
  · rw [State.memPut_offMemory, State.settle_offMemory]

end

end Sys2Proof.Machine
end

/-! ## What the completion of a command leaves of the rest (R319, R327 to R335) -/

section
open Sys2Proof Sys2Proof.Machine
namespace Sys2Proof.Machine

/-- The state without what the completion of a command may change: the rings and their runners, companion memory, the
semaphores, the runs of bell-table entries, the reports and the registers. -/
def State.offRecords (s : State) : State :=
  { s with
    free := 0, ctl := [], companion := [], rings := [], runs := [], sems := [], insts := [], ended := [], faultsSpire := [],
    faultsKey := [], lostFrom := [] }

section
variable (s : State)

/-! ### Reports and posts -/

theorem State.setReg_offRecords (a v : Nat) : (s.setReg a v).offRecords = s.offRecords := rfl

theorem State.count_offRecords (a k : Nat) : (s.count a k).offRecords = s.offRecords := rfl

theorem State.raise_offRecords (car n : Nat) : (s.raise car n).offRecords = s.offRecords := rfl

theorem State.wrote_offRecords (f : FaultInfo) : (s.wrote f).offRecords = s.offRecords := by
  obtain ⟨l, hl⟩ := s.wrote_frame f
  rw [hl]
  rfl

theorem State.toSpire_offRecords (sp : Nat) (r : List Byte) : (s.toSpire sp r).offRecords = s.offRecords :=
  State.raise_offRecords _ sp 53

theorem State.toKey_offRecords (r : List Byte) : (s.toKey r).offRecords = s.offRecords :=
  State.raise_offRecords _ 4 _

theorem State.faultToSpire_offRecords (sp : Nat) (f : FaultInfo) : (s.faultToSpire sp f).offRecords = s.offRecords := by
  rw [State.faultToSpire, State.wrote_offRecords, State.toSpire_offRecords]

theorem State.faultToKey_offRecords (f : FaultInfo) : (s.faultToKey f).offRecords = s.offRecords := by
  rw [State.faultToKey, State.wrote_offRecords, State.toKey_offRecords]

theorem State.postSem_offRecords (sp n k source : Nat) (remote : Bool) :
    (s.postSem sp n k source remote).1.offRecords = s.offRecords := by
  unfold State.postSem
  dsimp only
  split
  · rfl
  · split
    · exact s.count_offRecords _ _
    · rfl

theorem State.postFrom_offRecords (frm sp sender n k : Nat) : (s.postFrom frm sp sender n k).1.offRecords = s.offRecords := by
  unfold State.postFrom
  split
  · exact s.postSem_offRecords _ _ _ _ _
  · unfold State.postRemote
    split
    · exact s.postSem_offRecords _ _ _ _ _
    · rw [State.faultToSpire_offRecords, State.count_offRecords]

/-! ### Records (R327 to R329) -/

theorem State.setRunq_offRecords (k : Nat) (q : RunQ) : (s.setRunq k q).offRecords = s.offRecords := rfl

theorem State.stopRing_offRecords (sp r : Nat) : (s.stopRing sp r).offRecords = s.offRecords := rfl

theorem State.companionWrite_offRecords (a : Nat) (bs : List Byte) : (s.companionWrite a bs).offRecords = s.offRecords := by
  unfold State.companionWrite
  split <;> rfl

theorem State.writeEntries_offRecords (sp r : Nat) (es : List (List Byte)) :
    (s.writeEntries sp r es).offRecords = s.offRecords := by
  have hring (t : State) (q : Ring) : (t.setRing sp r q).offRecords = t.offRecords := rfl
  have hraise (t : State) : (t.raise sp r).offRecords = t.offRecords := rfl
  unfold State.writeEntries
  dsimp only
  simp only [apply_ite State.offRecords, hraise, ite_self, hring, State.companionWrite_offRecords]
  exact foldl_keeps State.offRecords (fun t e => t.companionWrite_offRecords _ _) _ s

theorem State.putEntries_offRecords (sp r order : Nat) (fin : RecordEnd) (es : List (List Byte)) :
    (s.putEntries sp r order fin es).offRecords = s.offRecords := by
  unfold State.putEntries State.writeRecord
  split
  · cases fin with
    | none => exact s.writeEntries_offRecords sp r es
    | stop => exact (State.stopRing_offRecords _ _ _).trans (s.writeEntries_offRecords sp r es)
    | entry e bell ok => exact Eq.trans rfl (s.writeEntries_offRecords sp r es)
  · rfl

theorem State.modInstance_offRecords (sp e : Nat) (f : Instance → Instance) :
    (s.modInstance sp e f).offRecords = s.offRecords := by
  unfold State.modInstance
  split
  · split <;> rfl
  · rfl

/-! ### The command, its LIST, and the FENCE commands (R319, R320, R330) -/

theorem State.completeOne_offRecords (o : Origin) (opcode : Nat) (result : List Byte) (f : Option (List Byte))
    (ext : List (List Byte)) : (s.completeOne o opcode result f ext).offRecords = s.offRecords := by
  unfold State.completeOne
  dsimp only
  generalize hposted : Prod.fst (α := State) (β := Option (List Byte)) _ = t
  have ht : t.offRecords = s.offRecords := by
    rw [← hposted]
    split
    · rename_i p _
      have hpost := s.postFrom_offRecords o.spire.val p.spire.val (srcSpire o.spire.val 0 0) p.sem.toNat p.count.toNat
      split
      · rename_i u hu
        rwa [hu] at hpost
      · rename_i u g hu
        rw [hu] at hpost
        exact (u.wrote_offRecords g).trans hpost
    · rfl
  have hrecord (b : Bool) (q : RunQ) (order : Nat) (fin : RecordEnd) (es : List (List Byte)) :
      (if b = true then t.setRunq (runKey o) q
        else (t.setRunq (runKey o) q).putEntries o.spire.val o.ring.val order fin es).offRecords = s.offRecords := by
    cases b
    · exact (State.putEntries_offRecords _ _ _ _ _ _).trans ht
    · exact ht
  split
  · exact (State.modInstance_offRecords _ _ _ _).trans (hrecord _ _ _ _ _)
  · exact hrecord _ _ _ _ _

theorem State.completeList_offRecords (l : ListRun) : (s.completeList l).offRecords = s.offRecords := by
  unfold State.completeList
  split
  · exact (State.wrote_offRecords _ _).trans (s.completeOne_offRecords _ _ _ _ _)
  · exact s.completeOne_offRecords _ _ _ _ _

theorem State.listStep_offRecords (k : Nat) (cseq : BitVec 32) : (s.listStep k cseq).offRecords = s.offRecords := by
  unfold State.listStep
  dsimp only
  split
  · rfl
  · split
    · exact State.completeList_offRecords _ _
    · rfl

theorem State.completeStep_offRecords (o : Origin) (opcode : Nat) (result : List Byte) (f : Option (List Byte))
    (ext : List (List Byte)) : (s.completeStep o opcode result f ext).offRecords = s.offRecords := by
  unfold State.completeStep
  dsimp only
  split
  · exact s.completeOne_offRecords o opcode result f ext
  · exact (State.listStep_offRecords _ _ _).trans (s.completeOne_offRecords o opcode result f ext)

theorem State.settleFences_offRecords (k : Nat) : (s.settleFences k).offRecords = s.offRecords := by
  induction k generalizing s with
  | zero => rfl
  | succ k ih =>
    unfold State.settleFences
    split
    · rfl
    · exact (ih _).trans (s.completeStep_offRecords _ _ _ _ _)

theorem State.complete_offRecords (o : Origin) (opcode : Nat) (result : List Byte) (f : Option (List Byte))
    (ext : List (List Byte)) : (s.complete o opcode result f ext).offRecords = s.offRecords :=
  (State.settleFences_offRecords _ _).trans (s.completeStep_offRecords o opcode result f ext)

theorem State.completeOk_offRecords (o : Origin) (opcode : Nat) (result : List Byte) :
    (s.completeOk o opcode result).offRecords = s.offRecords := s.complete_offRecords o opcode result none []

theorem State.completeFault_offRecords (o : Origin) (opcode : Nat) (f : FaultInfo) (result : List Byte) :
    (s.completeFault o opcode f result).offRecords = s.offRecords :=
  (State.wrote_offRecords _ _).trans (s.complete_offRecords o opcode result _ [])

end

end Sys2Proof.Machine
end

/-! ## What the shared steps of sealed operations leave alone (R258, R270, R276, R281, R282, R300 to R304) -/

section
open Sys2Proof Sys2Proof.Machine
namespace Sys2Proof.Machine

/-! ### The places of a Spire -/

/-- From `s` to `t` place `k` of Spire `sp` has come to hold `c`, and no other place differs. -/
def PlaceSet (sp k : Nat) (c : Option SealOp) (s t : State) : Prop := t.seals = (s.setSeal sp k c).seals

section
variable {sp k : Nat} {c : Option SealOp} {s t u : State}

theorem State.setSeal_placeSet (s : State) (sp k : Nat) (c : Option SealOp) : PlaceSet sp k c s (s.setSeal sp k c) := rfl

theorem State.seal_congr (h : t.seals = s.seals) (sp k : Nat) : t.seal sp k = s.seal sp k := by
  rw [State.seal, h, State.seal]

theorem PlaceSet.self (h : PlaceSet sp k c s t) : t.seal sp k = c :=
  (State.seal_congr h sp k).trans (s.seal_setSeal sp k c)

theorem PlaceSet.others (h : PlaceSet sp k c s t) (hk : k < 16) :
    ∀ sp' j, j < 16 → (sp', j) ≠ (sp, k) → t.seal sp' j = s.seal sp' j := by
  intro sp' j hj hne
  refine (State.seal_congr h sp' j).trans (SMap.get_set_ne _ _ (fun hkey => hne ?_))
  obtain ⟨rfl, rfl⟩ : sp' = sp ∧ j = k := by omega
  rfl

/-- The places before may be those of any state with the same commands. -/
theorem PlaceSet.of_seals (h : PlaceSet sp k c u t) (hu : u.seals = s.seals) : PlaceSet sp k c s t := by
  rw [PlaceSet, State.setSeal, hu] at h
  exact h

theorem PlaceSet.trans_seals (h : PlaceSet sp k c s t) (hu : u.seals = t.seals) : PlaceSet sp k c s u := Eq.trans hu h

end

/-! ### Accesses of memory -/

section
variable (s : State) {sp : Nat}

theorem State.seals_of_offMemory {s t : State} (h : t.offMemory = s.offMemory) : t.seals = s.seals :=
  (congrArg State.seals h :)

theorem State.sess_of_offMemory {s t : State} (h : t.offMemory = s.offMemory) : t.sess = s.sess :=
  (congrArg State.sess h :)

theorem State.bellNum_of_offMemory {s t : State} (h : t.offMemory = s.offMemory) : t.bellNum = s.bellNum :=
  (congrArg State.bellNum h :)

theorem State.sealPut_offMemory (hsp : sp < 16) (a : Nat) (bs : List Byte) : (s.sealPut sp a bs).1.offMemory = s.offMemory :=
  s.putRange_offMemory sp (sd := { x := sp, source := srcSpire sp 5 0, node := 0xFFFF, gen := 0 }) false a bs hsp

theorem State.putLimbs_offMemory (hsp : sp < 16) (ls : List (Nat × Nat)) (data : Nat → List Byte) :
    (s.putLimbs sp ls data).1.offMemory = s.offMemory := by
  refine foldl_keeps (fun a : State × Option FaultInfo => a.1.offMemory) (fun a e => ?_) _ (s, none)
  split
  · rfl
  · exact a.1.sealPut_offMemory hsp _ _

theorem State.spoil_offMemory (hsp : sp < 16) (ls : List (Nat × Nat)) : (s.spoil sp ls).offMemory = s.offMemory :=
  s.putLimbs_offMemory hsp ls _

theorem State.readBody_offMemory (h : List Byte) (l : Nat) : (s.readBody sp h l).1.offMemory = s.offMemory := by
  refine foldl_keeps (fun a : State × List (List (List Nat)) × Bool × Option FaultInfo => a.1.offMemory) (fun a c => ?_)
    _ (s, [], false, none)
  refine foldl_keeps (fun b : State × List (List Nat) × Bool × Option FaultInfo => b.1.offMemory) (fun b i => ?_)
    (List.range l) (a.1, [], a.2.2.1, a.2.2.2)
  dsimp only
  split
  · rfl
  · exact b.1.readRange_offMemory _ _ _ _ _

theorem State.keyB_offMemory (m : ResMap) (r : List Byte) (j l : Nat) : (s.keyB sp m r j l).1.offMemory = s.offMemory := by
  refine foldl_keeps (fun a : State × List (List (List Nat)) × Bool => a.1.offMemory) (fun a k => ?_) _ (s, [], false)
  refine foldl_keeps (fun b : State × List (List Nat) × Bool => b.1.offMemory) (fun b p => ?_)
    (keyLimbs r l) (a.1, [], a.2.2)
  exact b.1.readRange_offMemory _ _ _ _ _

theorem State.tagCheck_offMemory (n : Nat) (op : Option (Nat × Nat)) (h r : List Byte) (ps : List Nat) :
    (s.tagCheck sp n op h r ps).1.offMemory = s.offMemory := by
  refine foldl_keeps (fun a : State × Option FaultInfo => a.1.offMemory) (fun a p => ?_) ps (s, none)
  obtain ⟨t, _ | f⟩ := a
  · dsimp only
    split
    · exact t.readRange_offMemory _ _ _ _ _
    · split <;> exact t.readRange_offMemory _ _ _ _ _
  · rfl

theorem State.pinPages_offMemory (i : Nat) (ps : List Nat) (up : Bool) : (s.pinPages i ps up).offMemory = s.offMemory :=
  foldl_keeps State.offMemory (fun t _ => t.memPut_offMemory _ _ _ _) ps s

theorem State.unpin_offMemory (c : SealOp) : (s.unpin c).offMemory = s.offMemory := by
  unfold State.unpin
  split
  · exact s.pinPages_offMemory _ _ _
  · rfl

/-! ### Counts of key words -/

theorem blpReg_apart {o : Nat} (ho : o < 0x10_0000) : apartReg (Reg.spireBase sp + 0x50_0000 + o) = false := by
  refine decide_eq_false ?_
  simp only [Reg.spireBase]
  omega

theorem State.count64_blpReject_offMemory (k : Nat) : (s.count64 (Reg.blpReject sp) k).offMemory = s.offMemory := by
  rw [State.count64, State.setReg_offMemory]
  exact blpReg_apart (by decide)

theorem State.count64_blpStall_offMemory (k : Nat) : (s.count64 (Reg.blpStall sp) k).offMemory = s.offMemory := by
  rw [State.count64, State.setReg_offMemory]
  exact blpReg_apart (by decide)

theorem State.keyClks_offMemory (switches : Bool) : (s.keyClks sp switches).offMemory = s.offMemory := by
  unfold State.keyClks
  split
  · extract_lets rejected
    have hrejected : rejected.offMemory = s.offMemory := (State.draw_offMemory _).trans (s.count64_blpReject_offMemory _)
    rw [State.draw_offMemory, State.count64_blpStall_offMemory, hrejected]
  · rfl

theorem State.sealKey_offMemory (c : SealOp) : (s.sealKey sp c).1.offMemory = s.offMemory := by
  unfold State.sealKey
  split
  · dsimp only
    rw [State.draw_offMemory, State.count64_blpStall_offMemory, State.count64_blpReject_offMemory]
    exact s.keyB_offMemory _ _ _ _
  · rfl

theorem State.sealCheckFault_offMemory (c : SealOp) (b : CheckFail) : (s.sealCheckFault sp c b).1.offMemory = s.offMemory := by
  have hcount (g : Nat) (site : Option (Nat × Nat)) : (s.countCheck g site).offMemory = s.offMemory := by
    have hchk : (s.count (Reg.twrChkCnt g) 1).offMemory = s.offMemory := s.count_offMemory 1 (twrReg_apart g (by decide))
    cases site with
    | none => exact hchk
    | some rc => exact (State.modTower_offMemory _ g _).trans hchk
  unfold State.sealCheckFault
  dsimp only
  rw [State.faultToSpire_offMemory]
  by_cases hsite : b.site = 6
  · rw [if_pos hsite]
  · rw [if_neg hsite, hcount]

theorem State.annealSpoil_offMemory (hsp : sp < 16) (c : SealOp) (a : AnnealRun) :
    (s.annealSpoil sp c a).offMemory = s.offMemory := by
  unfold State.annealSpoil
  split
  · rfl
  · exact s.spoil_offMemory hsp _

/-- A mismatch is counted in the context of the session too (R302). -/
theorem State.mismatch_seals (i : Nat) (f : FaultInfo) : (s.mismatch sp i f).seals = s.seals := by
  unfold State.mismatch
  split
  · rw [State.seals_of_offMemory (State.faultToKey_offMemory _ f), State.seals_of_offMemory (State.raise_offMemory _ sp (by decide))]
    exact (State.setReg_seals _ _ _).trans rfl
  · rfl

end

/-! ### Ends -/

section
variable (s : State) {sp k : Nat} (c : SealOp) (f : FaultInfo)

theorem State.sealFail_placeSet : PlaceSet sp k none s (s.sealFail sp k c f) := by
  refine PlaceSet.trans_seals ?_ (congrArg State.seals (State.completeFault_offRecords _ _ _ _ _) :)
  exact (State.setSeal_placeSet _ sp k none).of_seals (State.seals_of_offMemory (s.unpin_offMemory c))

theorem State.sealAbort_placeSet (hsp : sp < 16) (o : SealOut) : PlaceSet sp k none s (s.sealAbort sp k c o f) :=
  (State.sealFail_placeSet _ c f).of_seals (State.seals_of_offMemory (s.spoil_offMemory hsp _))

/-- A poisoned output is counted in the Spire (R270). -/
def State.poisonCounted (s : State) (sp : Nat) (poison : Bool) : State :=
  if poison then s.count (Reg.sprSealPoison sp) 1 else s

/-- A completed operation and its key switches are counted in its session (R287), a poisoned output in the Spire (R270). -/
def State.sealCounted (s : State) (sp : Nat) (c : SealOp) (ksws : Nat) (poison : Bool) : State :=
  match c.session with
  | some i => ((s.poisonCounted sp poison).sessCount i 156 8 1).sessCount i 164 8 ksws
  | none => s.poisonCounted sp poison

/-- The state without its registers and the contexts of its sessions. -/
def State.offCounts (s : State) : State := { s with ctl := [], sess := [] }

theorem State.seals_of_offCounts {s t : State} (h : t.offCounts = s.offCounts) : t.seals = s.seals :=
  (congrArg State.seals h :)

theorem State.bellNum_of_offCounts {s t : State} (h : t.offCounts = s.offCounts) : t.bellNum = s.bellNum :=
  (congrArg State.bellNum h :)

theorem State.count_offCounts (a v : Nat) : (s.count a v).offCounts = s.offCounts := rfl

theorem State.poisonCounted_offCounts (poison : Bool) : (s.poisonCounted sp poison).offCounts = s.offCounts := by
  cases poison
  · rw [State.poisonCounted, if_neg Bool.false_ne_true]
  · rw [State.poisonCounted, if_pos rfl, State.count_offCounts]

theorem State.sessCount_offCounts (i lo n v : Nat) : (s.sessCount i lo n v).offCounts = s.offCounts := rfl

theorem State.sealCounted_offCounts (ksws : Nat) (poison : Bool) :
    (s.sealCounted sp c ksws poison).offCounts = s.offCounts := by
  unfold State.sealCounted
  split
  · rw [State.sessCount_offCounts, State.sessCount_offCounts, s.poisonCounted_offCounts poison]
  · exact s.poisonCounted_offCounts poison

theorem State.sealDone_put {o : SealOut} {h : List Byte} {ksws : Nat} {poison : Bool} {t : State}
    (hh : h = outHeader c.code c.pset (c.hdrs.headD []) c.old o (storedScale c.code o.scale) poison)
    (hput : s.sealPut sp c.g.out.toNat h = (t, none)) :
    s.sealDone sp k c o ksws poison = (((t.sealCounted sp c ksws poison).unpin c).setSeal sp k none).completeOk c.o 0x30
      (sealResult c.g.out.toNat h c.bells) := by
  rw [hh] at hput ⊢
  unfold State.sealDone
  extract_lets h
  rw [show s.sealPut sp c.g.out.toNat h = _ from hput]
  unfold State.sealCounted
  rfl

theorem State.sealDone_fault {o : SealOut} {h : List Byte} {ksws : Nat} {poison : Bool} {t : State} {f : FaultInfo}
    (hh : h = outHeader c.code c.pset (c.hdrs.headD []) c.old o (storedScale c.code o.scale) poison)
    (hput : s.sealPut sp c.g.out.toNat h = (t, some f)) : s.sealDone sp k c o ksws poison = t.sealFail sp k c f := by
  rw [hh] at hput
  unfold State.sealDone
  extract_lets h
  rw [show s.sealPut sp c.g.out.toNat h = _ from hput]

theorem State.sealDone_placeSet (hsp : sp < 16) (o : SealOut) (ksws : Nat) (poison : Bool) :
    PlaceSet sp k none s (s.sealDone sp k c o ksws poison) := by
  obtain ⟨h, hh⟩ : ∃ h, h = outHeader c.code c.pset (c.hdrs.headD []) c.old o (storedScale c.code o.scale) poison := ⟨_, rfl⟩
  have hseals := State.seals_of_offMemory (s.sealPut_offMemory hsp c.g.out.toNat h)
  rcases hput : s.sealPut sp c.g.out.toNat h with ⟨t, _ | f⟩ <;> rw [hput] at hseals
  · rw [s.sealDone_put c hh hput]
    refine PlaceSet.trans_seals ?_ (congrArg State.seals (State.completeOk_offRecords _ _ _ _) :)
    refine (State.setSeal_placeSet _ sp k none).of_seals ((State.seals_of_offMemory (State.unpin_offMemory _ c)).trans ?_)
    exact (State.seals_of_offCounts (t.sealCounted_offCounts c ksws poison)).trans hseals
  · rw [s.sealDone_fault c hh hput]
    exact (State.sealFail_placeSet t c f).of_seals hseals

end

/-! ### A slice ends without its checkpoint (R281) -/

section
variable {s : State} {sp k : Nat} {c : SealOp} {a : AnnealRun} (f : FaultInfo) {failure : Bool}

theorem State.sealClosing_congr {s t : State} (h : t.sess = s.sess) (c : SealOp) : t.sealClosing c = s.sealClosing c := by
  unfold State.sealClosing State.ctx
  rw [h]

/-- The command as it waits to run a slice again. -/
def SealOp.again (c : SealOp) (a : AnnealRun) : SealOp :=
  { c with phase := .waiting, pins := none, since := none, abandon := none, ann := some a }

theorem State.again_placeSet {s t : State} {n : Nat} {failed : Bool} (hseals : t.seals = s.seals)
    (hbell : t.bellNum = s.bellNum) :
    PlaceSet sp k (some (c.again { a with next := n, failed := failed, after := s.bellNum + 1 })) s
      ((t.unpin c).setSeal sp k (some (c.again { a with next := n, failed := failed, after := t.bellNum + 1 }))) := by
  rw [← hbell]
  exact (State.setSeal_placeSet _ sp k _).of_seals ((State.seals_of_offMemory (t.unpin_offMemory c)).trans hseals)

theorem State.ckPut_offMemory (s : State) (b : Bool) (r : List Byte) : (s.ckPut sp a b r).offMemory = s.offMemory := rfl

variable (hsp : sp < 16) (hclosing : s.sealClosing c = false)
include hsp hclosing

theorem State.sliceFail_ends (h : (failure && a.failed) = true) : PlaceSet sp k none s (s.sliceFail sp k c a f failure) := by
  have hspoiled : ((s.annealSpoil sp c a).keyClks sp (decide (0 < a.ksws))).offMemory = s.offMemory :=
    (State.keyClks_offMemory _ _).trans (s.annealSpoil_offMemory hsp c a)
  unfold State.sliceFail
  generalize (s.annealSpoil sp c a).keyClks sp (decide (0 < a.ksws)) = t at hspoiled
  have hopen : t.sealClosing c = false := (State.sealClosing_congr (State.sess_of_offMemory hspoiled) c).trans hclosing
  simp only [hopen, h, if_true, Bool.false_eq_true, if_false]
  exact (State.sealFail_placeSet t c f).of_seals (State.seals_of_offMemory hspoiled)

theorem State.sliceFail_restarts (h : (failure && a.failed) = false) :
    ∃ n, PlaceSet sp k (some (c.again { a with next := n, failed := a.failed || failure, after := s.bellNum + 1 })) s
      (s.sliceFail sp k c a f failure) := by
  unfold State.sliceFail
  extract_lets t counted b r marked next later
  have hspoiled : t.offMemory = s.offMemory := (State.keyClks_offMemory _ _).trans (s.annealSpoil_offMemory hsp c a)
  have hopen : t.sealClosing c = false := (State.sealClosing_congr (State.sess_of_offMemory hspoiled) c).trans hclosing
  rw [hopen, if_neg Bool.false_ne_true, h, if_neg Bool.false_ne_true]
  have hcounted : counted.offCounts = t.offCounts := t.count_offCounts _ 1
  have hmarked : marked.offMemory = counted.offMemory := by
    unfold marked
    generalize r = record
    cases record with
    | none => rfl
    | some _ => exact counted.ckPut_offMemory _ _
  refine ⟨next, State.again_placeSet ?_ ?_⟩
  · rw [State.seals_of_offMemory hmarked, State.seals_of_offCounts hcounted, State.seals_of_offMemory hspoiled]
  · rw [State.bellNum_of_offMemory hmarked, State.bellNum_of_offCounts hcounted, State.bellNum_of_offMemory hspoiled]

end

end Sys2Proof.Machine
end

/-! ## A sealed operation ends (R258, R270, R276, R282, R302) -/

section
open Sys2Proof Sys2Proof.Machine
namespace Sys2Proof.Machine

section
variable (s : State) {sp k : Nat} (c : SealOp) (hsp : sp < 16)
include hsp

theorem State.putLimbs_seals {s t : State} {ls : List (Nat × Nat)} {data : Nat → List Byte} {r : Option FaultInfo}
    (hput : s.putLimbs sp ls data = (t, r)) : t.seals = s.seals := by
  have hseals := State.seals_of_offMemory (s.putLimbs_offMemory hsp ls data)
  rw [hput] at hseals
  exact hseals

/-- The reads of a running operation leave the places as they are, and each of its ends frees the one of the operation. -/
theorem State.sealFinish_placeSet (bad : Option CheckFail) : PlaceSet sp k none s (s.sealFinish sp k c bad) := by
  unfold State.sealFinish
  extract_lets o h0 h1 switches
  have htags := State.seals_of_offMemory (s.tagCheck_offMemory (sp := sp) (s.slotsOf sp c.g.towers).length
    (kswOf c.code c.g.value.toNat) h0 c.pset (c.pins.getD []))
  generalize s.tagCheck sp _ _ _ _ _ = tags at htags
  obtain ⟨s1, _ | f⟩ := tags
  case some =>
    exact (State.sealFail_placeSet _ c f).of_seals ((State.mismatch_seals _ _ f).trans
      ((State.seals_of_offMemory (State.keyClks_offMemory _ _)).trans htags))
  refine PlaceSet.of_seals (u := s1) ?_ htags
  cases bad with
  | some b =>
    have hcheck := State.seals_of_offMemory (((s1.keyClks sp switches).sealCheckFault_offMemory (sp := sp) c b).trans
      (s1.keyClks_offMemory (sp := sp) switches))
    dsimp only
    split
    · exact (State.sealFail_placeSet _ c _).of_seals hcheck
    · exact (State.sealAbort_placeSet _ c _ hsp o).of_seals hcheck
  | none =>
    dsimp only
    split
    · exact (State.sealAbort_placeSet _ c _ hsp o).of_seals (State.seals_of_offMemory (s1.keyClks_offMemory _))
    · have hbody0 := State.seals_of_offMemory (s1.readBody_offMemory (sp := sp) h0 (hL h0))
      generalize s1.readBody sp h0 (hL h0) = body0 at hbody0
      obtain ⟨s2, a, ue0, f0⟩ := body0
      dsimp only at hbody0 ⊢
      have hbody1 : (if c.hdrs.length = 2 then s2.readBody sp h1 (hL h0) else (s2, [], false, none)).1.seals = s2.seals := by
        split
        · exact State.seals_of_offMemory (s2.readBody_offMemory _ _)
        · rfl
      generalize (if c.hdrs.length = 2 then s2.readBody sp h1 (hL h0) else (s2, [], false, none)) = body1 at hbody1
      obtain ⟨s3, b, ue1, f1⟩ := body1
      have hread : s3.seals = s1.seals := hbody1.trans hbody0
      dsimp only
      split
      · exact (State.sealAbort_placeSet _ c _ hsp o).of_seals hread
      · have hkey := (State.seals_of_offMemory (s3.sealKey_offMemory (sp := sp) c)).trans hread
        split
        · exact (State.sealDone_placeSet _ c hsp o _ true).of_seals
            ((State.seals_of_offMemory (State.spoil_offMemory _ hsp _)).trans hkey)
        · split
          next s4 f hput =>
            exact (State.sealAbort_placeSet s4 c f hsp o).of_seals ((State.putLimbs_seals hsp hput).trans hkey)
          next s4 hput =>
            exact (State.sealDone_placeSet s4 c hsp o _ false).of_seals ((State.putLimbs_seals hsp hput).trans hkey)

end

theorem exec_sealOpComplete {s : State} {spire : Fin 4} {op : Fin 16} {c : SealOp}
    (hseal : s.seal spire.val op.val = some c) (hphase : c.phase = .running) (hann : c.ann = none) (bad : Option CheckFail) :
    exec (.sealOpComplete spire op bad) s = .next (s.sealFinish spire.val op.val c bad) := by
  show execSealOpComplete spire op bad s = _
  unfold execSealOpComplete
  dsimp only
  rw [hseal]
  dsimp only
  rw [hphase, hann]

end Sys2Proof.Machine
end

/-! ## The record of a clean operation (R258, R270, R287, R327) -/

section
open Sys2Proof Sys2Proof.Machine
namespace Sys2Proof.Machine

/-! ### What the counts of a completed operation are -/

section
variable (s : State) {sp : Nat} (c : SealOp) (ksws : Nat) (poison : Bool)

theorem State.reg_poisonCounted :
    (s.poisonCounted sp poison).reg (Reg.sprSealPoison sp) =
      (if poison then min (s.reg (Reg.sprSealPoison sp) + 1) (2 ^ 32 - 1) else s.reg (Reg.sprSealPoison sp)) := by
  cases poison with
  | false => rfl
  | true =>
    rw [State.poisonCounted, if_pos rfl, State.reg_count, if_pos rfl, if_pos rfl]

theorem State.reg_poisonCounted_ne {x : Nat} (hx : x ≠ Reg.sprSealPoison sp) :
    (s.poisonCounted sp poison).reg x = s.reg x := by
  cases poison with
  | false => rfl
  | true => rw [State.poisonCounted, if_pos rfl, State.reg_count, if_neg hx]

theorem State.ctx_count (a v i : Nat) : (s.count a v).ctx i = s.ctx i := rfl

theorem State.ctx_poisonCounted (i : Nat) : (s.poisonCounted sp poison).ctx i = s.ctx i := by
  cases poison with
  | false => rfl
  | true =>
    rw [State.poisonCounted, if_pos rfl, State.ctx_count]

theorem State.reg_sessCount (i lo n v x : Nat) : (s.sessCount i lo n v).reg x = s.reg x := rfl

theorem State.ctx_sessCount_self (i lo n v : Nat) : (s.sessCount i lo n v).ctx i = ctxCount (s.ctx i) lo n v :=
  SMap.get_set_self _ _ _

theorem State.ctx_sessCount_ne {i j : Nat} (lo n v : Nat) (h : j ≠ i) : (s.sessCount i lo n v).ctx j = s.ctx j :=
  SMap.get_set_ne _ _ h

theorem State.reg_sealCounted (x : Nat) : (s.sealCounted sp c ksws poison).reg x = (s.poisonCounted sp poison).reg x := by
  unfold State.sealCounted
  split
  · rw [State.reg_sessCount, State.reg_sessCount]
  · rfl

theorem State.ctx_sealCounted {i : Nat} (h : c.session = some i) :
    (s.sealCounted sp c ksws poison).ctx i = ctxCount (ctxCount (s.ctx i) 156 8 1) 164 8 ksws := by
  rw [State.sealCounted, h]
  dsimp only
  rw [State.ctx_sessCount_self, State.ctx_sessCount_self, State.ctx_poisonCounted]

theorem State.ctx_sealCounted_ne {j : Nat} (h : some j ≠ c.session) :
    (s.sealCounted sp c ksws poison).ctx j = s.ctx j := by
  unfold State.sealCounted
  split
  next i hi =>
    have hne : j ≠ i := fun hji => h (by rw [hi, hji])
    rw [State.ctx_sessCount_ne _ _ _ _ hne, State.ctx_sessCount_ne _ _ _ _ hne, State.ctx_poisonCounted]
  next => exact s.ctx_poisonCounted poison j

end

/-- A command that completes alone still does so where the rings, their runners and three registers are as they were. -/
theorem State.Alone.of_regs {s t : State} {o : Origin} (ha : s.Alone o) (hruns : t.runs = s.runs) (hrings : t.rings = s.rings)
    (halx : t.reg Reg.alxStatus = s.reg Reg.alxStatus)
    (hcfg : t.reg (Reg.sprRingCfg o.spire.val o.ring.val) = s.reg (Reg.sprRingCfg o.spire.val o.ring.val))
    (hbase : t.reg (Reg.sprRingCompBase o.spire.val o.ring.val) = s.reg (Reg.sprRingCompBase o.spire.val o.ring.val)) :
    t.Alone o := by
  have hring : t.ring o.spire.val o.ring.val = s.ring o.spire.val o.ring.val := by
    rw [State.ring, hrings, State.ring]
  obtain ⟨hentry, hlidx, hpost, hcomp, hfences, hroom, hlow⟩ := ha
  refine ⟨hentry, hlidx, hpost, hcomp, ?_, ?_, ?_⟩
  · rw [State.fences, hruns]
    exact hfences
  · rw [State.compRoom, State.alxUp, State.compEntries, State.fld, halx, hcfg, hring]
    exact hroom
  · rw [hbase]
    exact hlow

/-! ### A clean operation -/

section
variable {s x : State} {sp k : Nat} {c : SealOp} {ksws : Nat} {poison : Bool}

/-- The state in which a clean operation completes: it is counted, its pins are released and its place is free. -/
def State.sealEnded (x : State) (sp k : Nat) (c : SealOp) (ksws : Nat) (poison : Bool) : State :=
  ((x.sealCounted sp c ksws poison).unpin c).setSeal sp k none

theorem State.reg_sealEnded {y : Nat} (hy : apartReg y = true) :
    (x.sealEnded sp k c ksws poison).reg y = (x.poisonCounted sp poison).reg y := by
  rw [← x.reg_sealCounted c ksws poison]
  exact State.reg_of_offMemory (State.unpin_offMemory (x.sealCounted sp c ksws poison) c) hy

theorem State.reg_sealEnded_poison :
    (x.sealEnded sp k c ksws poison).reg (Reg.sprSealPoison sp) =
      (if poison then min (x.reg (Reg.sprSealPoison sp) + 1) (2 ^ 32 - 1) else x.reg (Reg.sprSealPoison sp)) := by
  rw [State.reg_sealEnded, State.reg_poisonCounted]
  refine decide_eq_true ?_
  simp only [Reg.sprSealPoison, Reg.spireBase]
  omega

theorem State.ctx_sealEnded (i : Nat) :
    (x.sealEnded sp k c ksws poison).ctx i = (x.sealCounted sp c ksws poison).ctx i :=
  congrArg (fun m => SMap.get (fun _ => List.replicate 256 0) m i)
    (State.sess_of_offMemory (t := (x.sealCounted sp c ksws poison).unpin c) (State.unpin_offMemory _ c))

theorem State.sealEnded_rest (hpins : c.pins = none) :
    { x.sealEnded sp k c ksws poison with seals := x.seals, sess := x.sess, ctl := x.ctl } = x := by
  have hunpin : (x.sealCounted sp c ksws poison).unpin c = x.sealCounted sp c ksws poison := by
    rw [State.unpin, hpins]
    cases c.session <;> rfl
  rw [State.sealEnded, hunpin]
  exact (congrArg (fun u : State => { u with seals := x.seals, sess := x.sess, ctl := x.ctl })
    (x.sealCounted_offCounts c ksws poison) :)

theorem State.sealEnded_alone (hsp : sp < 4) (ha : x.Alone c.o) : (x.sealEnded sp k c ksws poison).Alone c.o := by
  have hcounted := x.sealCounted_offCounts (sp := sp) c ksws poison
  have hunpin := State.unpin_offMemory (x.sealCounted sp c ksws poison) c
  have hr := c.o.ring.isLt
  have hspire := c.o.spire.isLt
  refine ha.of_regs ((congrArg State.runs hunpin :).trans (congrArg State.runs hcounted :))
    ((congrArg State.rings hunpin :).trans (congrArg State.rings hcounted :)) ?_ ?_ ?_
  · rw [State.reg_sealEnded (by decide), State.reg_poisonCounted_ne]
    simp only [Reg.alxStatus, Reg.alxBase, Reg.sprSealPoison, Reg.spireBase]
    omega
  · rw [State.reg_sealEnded, State.reg_poisonCounted_ne]
    · simp only [Reg.sprRingCfg, Reg.sprSealPoison, Reg.spireBase]
      omega
    · refine decide_eq_true ?_
      simp only [Reg.sprRingCfg, Reg.spireBase]
      omega
  · rw [State.reg_sealEnded, State.reg_poisonCounted_ne]
    · simp only [Reg.sprRingCompBase, Reg.sprSealPoison, Reg.spireBase]
      omega
    · refine decide_eq_true ?_
      simp only [Reg.sprRingCompBase, Reg.spireBase]
      omega

/-- A running operation whose reads and writes succeed writes its header and completes. -/
theorem State.sealFinish_clean {s1 u v z w : State} {a b : List (List (List Nat))} {ka kb : List (List (List Nat))}
    {ue0 ue1 ue2 : Bool} {h0 h1 : List Byte} (h0eq : h0 = c.hdrs.headD []) (h1eq : h1 = c.hdrs.getD 1 [])
    (hpoison : poison = (hPoison h0 || (decide (c.hdrs.length = 2) && hPoison h1) || ue0 || ue1 || ue2))
    (habandon : c.abandon = none)
    (htags : s.tagCheck sp (s.slotsOf sp c.g.towers).length (kswOf c.code c.g.value.toNat) h0 c.pset (c.pins.getD []) =
      (s1, none))
    (hbank : s1.workBankOff sp c.g.towers = none) (hread0 : s1.readBody sp h0 (hL h0) = (u, a, ue0, none))
    (hread1 : (if c.hdrs.length = 2 then u.readBody sp h1 (hL h0) else (u, [], false, none)) = (v, b, ue1, none))
    (hkey : v.sealKey sp c = (z, ka, kb, ue2))
    (hwrite : (if poison then (z.spoil sp (c.outLimbs c.result), none) else
      z.putLimbs sp (c.outLimbs c.result) (fun i => Seal.packLimb
        ((sealValue c.code c.g.value.toNat c.pset (hL h0) (hNtt h0) a b ka kb).flatten.getD i []))) = (w, none)) :
    s.sealFinish sp k c none = w.sealDone sp k c c.result (ofBool (kswOf c.code 1).isSome) poison := by
  subst h0eq h1eq
  unfold State.sealFinish
  extract_lets o h0 h1 switches
  rw [htags]
  dsimp only
  rw [habandon, hbank, hread0]
  dsimp only [Option.or_none]
  rw [hread1]
  dsimp only [Option.or_none]
  rw [hkey]
  dsimp only
  rw [← hpoison]
  cases poison with
  | true =>
    obtain rfl : z.spoil sp (c.outLimbs c.result) = w := congrArg Prod.fst hwrite
    rw [if_pos rfl]
    rfl
  | false =>
    rw [if_neg Bool.false_ne_true] at hwrite ⊢
    rw [hwrite]
    rfl

end

end Sys2Proof.Machine
end

/-! ## A sealed operation runs in the banks of its Towers (R272, R276, R282, R306) -/

section
open Sys2Proof Sys2Proof.Machine
namespace Sys2Proof.Machine

/-! ### The banks of a sealed sequence -/

/-- The state without Tower memory, its errors and the sealed commands. -/
def State.offBanks (s : State) : State := { s with tmem := [], ramErr := [], free := 0, seals := [] }

/-- Whether a key of Tower memory lies in a bank that is named in slot `g`. -/
def State.inNamedBank (s : State) (sp g x : Nat) : Prop :=
  g * towerSize ≤ x ∧ x < (g + 1) * towerSize ∧ (s.sealBanks sp).getLsbD ((x - g * towerSize) / 256 % 64) = true

/-- From `u` to `t` only named banks of the slots `gs` differ. -/
def BanksUsed (sp : Nat) (gs : List Nat) (u t : State) : Prop :=
  t.offBanks = u.offBanks ∧
  ∀ x, (∀ g ∈ gs, ¬ u.inNamedBank sp g x) → SMap.get (fun _ => 0) t.tmem x = SMap.get (fun _ => 0) u.tmem x

theorem length_freeBytes (seed n : Nat) : (freeBytes seed n).length = n := by
  rw [freeBytes, List.length_map, List.length_range]

section
variable {sp g n r : Nat} {gs : List Nat} {u t : State}

/-- The row `r` of a named bank of a slot of the set takes bytes. -/
theorem BanksUsed.row (h : BanksUsed sp gs u t) (hg : g ∈ gs) (hn : n < 64) (hnamed : (u.sealBanks sp).getLsbD n = true)
    (hr : r < towerSize / 0x4000) {bs : List Byte} (hbs : bs.length = 256) :
    BanksUsed sp gs u (t.towerPut g (0x4000 * r + 256 * n) bs).draw := by
  obtain ⟨hoff, hmem⟩ := h
  refine ⟨hoff, fun x hx => ?_⟩
  rw [← hmem x hx]
  refine SMap.get_setRun_out _ _ _ ?_
  by_contra hin
  refine hx g hg ?_
  have hbank : (x - g * towerSize) / 256 % 64 = n := by
    simp only [tmKey, towerSize, hbs] at hin hr ⊢
    omega
  refine ⟨?_, ?_, hbank ▸ hnamed⟩
  · simp only [tmKey, towerSize, hbs] at hin hr ⊢
    omega
  · simp only [tmKey, towerSize, hbs] at hin hr ⊢
    omega

theorem BanksUsed.sealBanks (h : BanksUsed sp gs u t) : t.sealBanks sp = u.sealBanks sp :=
  (congrArg (fun s : State => s.sealBanks sp) h.1 :)

end

theorem State.useBanks_banksUsed (s : State) (sp : Nat) (towers : BitVec 16) :
    BanksUsed sp (s.slotsOf sp towers) s (s.useBanks sp towers) := by
  refine List.foldlRecOn (motive := BanksUsed sp (s.slotsOf sp towers) s) _ _ ⟨rfl, fun _ _ => rfl⟩ (fun t ht g hg => ?_)
  refine List.foldlRecOn (motive := BanksUsed sp (s.slotsOf sp towers) s) _ _ ht (fun u hu n hn => ?_)
  obtain ⟨hlt, hon⟩ := mem_below.mp hn
  have hnamed : (s.sealBanks sp).getLsbD n = true := by
    rw [← ht.sealBanks]
    exact (Bool.and_eq_true_iff.mp hon).1
  refine List.foldlRecOn (motive := BanksUsed sp (s.slotsOf sp towers) s) _ _ hu (fun v hv r hr => ?_)
  exact hv.row hg hlt hnamed (List.mem_range.mp hr) (length_freeBytes _ _)

theorem State.useBanks_usesBanks (s : State) (sp k : Nat) (towers : BitVec 16) (c : Option SealOp) :
    UsesBanks sp towers s ((s.useBanks sp towers).setSeal sp k c) := by
  obtain ⟨hoff, hmem⟩ := s.useBanks_banksUsed sp towers
  refine ⟨?_, hmem⟩
  exact (congrArg (fun t : State => { t with seals := s.seals, tmem := s.tmem, ramErr := s.ramErr, free := s.free }) hoff :)

theorem State.towerPut_draw_seals (s : State) (g o : Nat) (bs : List Byte) : (s.towerPut g o bs).draw.seals = s.seals := rfl

theorem State.useBanks_seals (s : State) (sp : Nat) (towers : BitVec 16) : (s.useBanks sp towers).seals = s.seals := by
  refine foldl_keeps State.seals (fun t g => ?_) _ s
  refine foldl_keeps State.seals (fun u n => ?_) _ t
  exact foldl_keeps State.seals (fun v _ => v.towerPut_draw_seals _ _ _) _ u

theorem State.useBanks_placeSet (s : State) (sp k : Nat) (towers : BitVec 16) (c : Option SealOp) :
    PlaceSet sp k c s ((s.useBanks sp towers).setSeal sp k c) :=
  (State.setSeal_placeSet _ sp k c).of_seals (s.useBanks_seals sp towers)

end Sys2Proof.Machine
end

/-! ## A SEAL command arrives and starts (R258, R265, R268, R269, R361) -/

section
open Sys2Proof Sys2Proof.Machine
namespace Sys2Proof.Machine

/-! ### Refusals -/

section
variable (s : State) {sp k : Nat} {c : SealOp} (f : FaultInfo)

theorem State.unpin_none (hpins : c.pins = none) : s.unpin c = s := by
  rw [State.unpin, hpins]
  cases c.session <;> rfl

/-- A command that holds no pin ends without an access of memory. -/
theorem State.sealFail_memories (hpins : c.pins = none) :
    (s.sealFail sp k c f).hbm = s.hbm ∧ (s.sealFail sp k c f).gallery = s.gallery ∧
      (s.sealFail sp k c f).tmem = s.tmem := by
  have hrecords := (s.setSeal sp k none).completeFault_offRecords c.o 0x30 f (sealResult c.g.out.toNat [] c.bells)
  rw [State.sealFail, s.unpin_none hpins]
  exact ⟨(congrArg State.hbm hrecords :), (congrArg State.gallery hrecords :), (congrArg State.tmem hrecords :)⟩

theorem State.levelCount_offCounts : (s.levelCount sp f).offCounts = s.offCounts := by
  unfold State.levelCount
  split
  · exact s.count_offCounts _ 1
  · rfl

/-- A verdict F_LEVEL leaves the other places and the memories as they are. -/
theorem State.sealLevel_frame (is : List SealIn) (hk : k < 16) (hpins : c.pins = none) :
    (∀ sp' j, j < 16 → (sp', j) ≠ (sp, k) → (s.sealLevel sp k c is f).seal sp' j = s.seal sp' j) ∧
    (s.sealLevel sp k c is f).hbm = s.hbm ∧ (s.sealLevel sp k c is f).gallery = s.gallery ∧
    (s.sealLevel sp k c is f).tmem = s.tmem := by
  unfold State.sealLevel
  extract_lets ctx
  split
  · exact ⟨(s.setSeal_placeSet sp k _).others hk, rfl, rfl, rfl⟩
  · have hcount := s.levelCount_offCounts (sp := sp) f
    obtain ⟨hhbm, hgallery, htmem⟩ := (s.levelCount sp f).sealFail_memories (sp := sp) (k := k) f hpins
    exact ⟨((State.sealFail_placeSet _ c f).of_seals (State.seals_of_offCounts hcount)).others hk,
      hhbm.trans (congrArg State.hbm hcount :), hgallery.trans (congrArg State.gallery hcount :),
      htmem.trans (congrArg State.tmem hcount :)⟩

theorem State.psetDemand_seals (n : Nat) : (s.psetDemand sp n).seals = s.seals := by
  unfold State.psetDemand
  extract_lets p
  split
  · rfl
  · split
    · rfl
    · split <;> rfl

theorem State.demandSlots_seals (is : List SealIn) : (s.demandSlots sp is).seals = s.seals :=
  foldl_keeps State.seals (fun t _ => t.psetDemand_seals _) is s

end

/-! ### Arrival -/

/-- A SEAL command with its input headers, before a window. -/
def SealOp.arrived (o : Origin) (code : Nat) (g : SealArgs) (is : List SealIn) : SealOp :=
  { o := o, code := code, g := g, auto := false, phase := .waiting, win := none, hdrs := [], old := [], pset := [],
    session := sealSessionOf is, pins := none, since := none, bells := 0, abandon := none, queue := [], ann := none }

/-- What the verdict of checks 1 to 9 comes to on arrival. -/
def State.sealArrives (s : State) (sp k : Nat) (c : SealOp) (is : List SealIn) : SealVerdict → State
  | .refuse f => s.sealFail sp k c f
  | .stall => (s.demandSlots sp is).setSeal sp k (some c)
  | .level f => s.sealLevel sp k c is f
  | .pass _ => s.setSeal sp k (some c)

theorem State.freeSeal_lt {s : State} {sp k : Nat} (h : s.freeSeal sp = some k) : k < 16 :=
  List.mem_range.mp (List.mem_of_find?_eq_some h)

theorem State.sealBegin_arrives {s u : State} {o : Origin} {code k : Nat} {g : SealArgs} {is : List SealIn} {out : List Byte}
    (heng : s.ringEngine o = 2) (hfree : s.freeSeal o.spire.val = some k)
    (hread : s.readHeaders o.spire.val code g = (u, .ok (is, out))) :
    s.sealBegin o code g = u.sealArrives o.spire.val k (SealOp.arrived o code g is) is
      (u.sealCheck o.spire.val code g is out false) := by
  unfold State.sealBegin
  rw [State.onEngine_run _ _ heng]
  dsimp only
  rw [hfree]
  dsimp only
  rw [hread]
  dsimp only
  cases u.sealCheck o.spire.val code g is out false <;> rfl

theorem exec_sealCommand : ∀ p ∈ ([(0x01, Instr.hadd), (0x02, .hsub), (0x03, .hneg), (0x04, .padd), (0x05, .cmul),
    (0x06, .pmul), (0x07, .hmul), (0x08, .hmul3), (0x09, .relin), (0x0A, .rescale), (0x0B, .rotate), (0x0C, .conj),
    (0x0D, .leveldown), (0x0E, .ntt), (0x0F, .intt), (0x10, .anneal)] : List (Nat × (Origin → SealArgs → Instr))),
    ∀ o g s, exec (p.2 o g) s = .next (s.sealBegin o p.1 g) := by
  simp only [List.forall_mem_cons]
  exact ⟨fun _ _ _ => rfl, fun _ _ _ => rfl, fun _ _ _ => rfl, fun _ _ _ => rfl, fun _ _ _ => rfl, fun _ _ _ => rfl,
    fun _ _ _ => rfl, fun _ _ _ => rfl, fun _ _ _ => rfl, fun _ _ _ => rfl, fun _ _ _ => rfl, fun _ _ _ => rfl,
    fun _ _ _ => rfl, fun _ _ _ => rfl, fun _ _ _ => rfl, fun _ _ _ => rfl, fun _ h => absurd h List.not_mem_nil⟩

theorem State.sealArrives_others {s : State} {sp k : Nat} {c : SealOp} {is : List SealIn} (hk : k < 16) (hpins : c.pins = none)
    (verdict : SealVerdict) :
    ∀ sp' j, j < 16 → (sp', j) ≠ (sp, k) → (s.sealArrives sp k c is verdict).seal sp' j = s.seal sp' j :=
  match verdict with
  | .refuse f => (s.sealFail_placeSet c f).others hk
  | .stall => ((State.setSeal_placeSet _ sp k (some c)).of_seals (s.demandSlots_seals is)).others hk
  | .level f => (s.sealLevel_frame f is hk hpins).1
  | .pass _ => (s.setSeal_placeSet sp k (some c)).others hk

/-! ### A window -/

section
variable {s u : State} {sp k win : Nat} {c : SealOp} {old : List Byte}

/-- The refusal of an output header whose CRC is bad. -/
abbrev SealOp.badOut (c : SealOp) (sp : Nat) : FaultInfo :=
  sealParam sp 0x01 3 (c.hdrs.headD []) c.g.out.toNat c.auto

theorem State.sealRun_runs
    (hclear : (s.touch sp c.session c.g.towers).clearValid sp c.g.out.toNat (c.badOut sp) = (u, .ok old))
    (hbank : u.workBankOff sp c.g.towers = none) :
    s.sealRun sp k win c =
      (u.useBanks sp c.g.towers).setSeal sp k (some { c with phase := .running, win := some win, old := old }) := by
  unfold State.sealRun
  dsimp only
  rw [hclear]
  dsimp only
  rw [hbank]

/-- An operation whose output is cleared and whose banks are On runs. -/
theorem State.sealRun_running
    (hclear : (s.touch sp c.session c.g.towers).clearValid sp c.g.out.toNat (c.badOut sp) = (u, .ok old))
    (hbank : u.workBankOff sp c.g.towers = none) :
    ∃ d, (s.sealRun sp k win c).seal sp k = some d ∧ d.phase = .running ∧ d.win = some win ∧ d.hdrs = c.hdrs ∧ d.o = c.o ∧
      d.g = c.g ∧ d.old = old ∧ UsesBanks sp c.g.towers u (s.sealRun sp k win c) := by
  rw [State.sealRun_runs hclear hbank]
  exact ⟨_, State.seal_setSeal _ sp k _, rfl, rfl, rfl, rfl, rfl, rfl, u.useBanks_usesBanks sp k c.g.towers _⟩

theorem State.sealRun_ends (hsp : sp < 16)
    (hclear : (s.touch sp c.session c.g.towers).clearValid sp c.g.out.toNat (c.badOut sp) = (u, .ok old))
    (hbank : u.workBankOff sp c.g.towers ≠ none) : (s.sealRun sp k win c).seal sp k = none := by
  obtain ⟨f, hf⟩ := Option.ne_none_iff_exists'.mp hbank
  unfold State.sealRun
  dsimp only
  rw [hclear]
  dsimp only
  rw [hf]
  exact (State.sealAbort_placeSet _ _ f hsp _).self

theorem State.sealRun_fails {f : FaultInfo}
    (hclear : (s.touch sp c.session c.g.towers).clearValid sp c.g.out.toNat (c.badOut sp) = (u, .error f)) :
    (s.sealRun sp k win c).seal sp k = none := by
  unfold State.sealRun
  dsimp only
  rw [hclear]
  exact (State.sealFail_placeSet _ c f).self

/-- What the verdict of checks 1 to 9 comes to in a window, for a command that needs no pages. -/
def State.sealStarts (s : State) (sp k win : Nat) (c : SealOp) (is : List SealIn) : SealVerdict → State
  | .refuse f => s.sealFail sp k c f
  | .stall => s.demandSlots sp is
  | .level f => s.sealLevel sp k c is f
  | .pass _ => s.sealRun sp k win { c with pset := (s.pset sp (hPset (c.hdrs.headD []))).cur }

end

section
variable {s u : State} {spire : Fin 4} {op : Fin 16} {win : Nat} {c : SealOp}
  (hseal : s.seal spire.val op.val = some c) (hroom : s.sealRoom spire.val c.g.towers = some win)
  (hphase : c.phase = .waiting) (hcode : c.code ≠ 0x10) (hqueue : c.queue = [])
include hseal hroom hphase hcode hqueue

theorem exec_sealOpStart_pinned (hpins : c.pins.isSome = true) :
    exec (.sealOpStart spire op) s = .next (s.sealRun spire.val op.val win c) := by
  show execSealOpStart spire op s = _
  unfold execSealOpStart
  dsimp only
  rw [hseal]
  dsimp only
  rw [hroom]
  simp only [hphase, hcode, hqueue, hpins, ne_eq, not_true, decide_false, List.isEmpty_nil, Bool.not_true,
    Bool.or_false, Bool.false_eq_true, if_false, if_true]

theorem exec_sealOpStart_checked {is : List SealIn} {out : List Byte} (hpins : c.pins = none)
    (hread : s.readHeaders spire.val c.code c.g = (u, .ok (is, out))) (hksw : kswOf c.code c.g.value.toNat = none) :
    exec (.sealOpStart spire op) s = .next (u.sealStarts spire.val op.val win
      { c with session := sealSessionOf is, hdrs := is.map (·.h) } is (u.sealCheck spire.val c.code c.g is out c.auto)) := by
  show execSealOpStart spire op s = _
  unfold execSealOpStart
  dsimp only
  rw [hseal]
  dsimp only
  rw [hroom]
  simp only [hphase, hcode, hqueue, hpins, ne_eq, not_true, decide_false, List.isEmpty_nil, Bool.not_true,
    Bool.or_false, Bool.false_eq_true, if_false, Option.isSome_none, hread, State.neededPages, hksw, Option.map_none]
  cases u.sealCheck spire.val c.code c.g is out c.auto <;> rfl

end

end Sys2Proof.Machine
end

/-! ## A slice of an ANNEAL starts (R258, R269, R279, R280, R361) -/

section
open Sys2Proof Sys2Proof.Machine
namespace Sys2Proof.Machine

/-- The contexts of the sessions may differ from those of the states compared. -/
theorem UsesBanks.withSess {sp : Nat} {towers : BitVec 16} {u t : State} (h : UsesBanks sp towers u t)
    (m : SMap (List Byte)) : UsesBanks sp towers { u with sess := m } { t with sess := m } :=
  ⟨(congrArg (fun s : State => { s with sess := m }) h.1 :), h.2⟩

theorem State.touch_rest (s : State) (sp : Nat) (session : Option Nat) (towers : BitVec 16) :
    { s.touch sp session towers with sess := s.sess } = s := by
  unfold State.touch
  split <;> rfl

theorem State.touch_workBankOff (s : State) (sp : Nat) (session : Option Nat) (towers set : BitVec 16) :
    (s.touch sp session towers).workBankOff sp set = s.workBankOff sp set :=
  (congrArg (fun t : State => t.workBankOff sp set) (s.touch_rest sp session towers) :)

theorem State.touch_seals (s : State) (sp : Nat) (session : Option Nat) (towers : BitVec 16) :
    (s.touch sp session towers).seals = s.seals := (congrArg State.seals (s.touch_rest sp session towers) :)

section
variable {s u v : State} {sp k win : Nat} {c c1 : SealOp} {a : AnnealRun}

theorem State.sliceWork_runs (hbank : s.workBankOff sp c.g.towers = none) :
    s.sliceWork sp k c a = (s.useBanks sp c.g.towers).setSeal sp k (some { c with ann := some a }) := by
  unfold State.sliceWork
  rw [hbank]

/-- A slice of an ANNEAL that has begun only touches its Towers before it works (R287). -/
theorem State.sliceRun_next (hbegan : a.began = true) (hbank : s.workBankOff sp c.g.towers = none) :
    s.sliceRun sp k win c a = ((s.touch sp c.session c.g.towers).useBanks sp c.g.towers).setSeal sp k
      (some { c with phase := .running, win := some win, ann := some a }) := by
  unfold State.sliceRun
  dsimp only
  rw [hbegan, if_pos rfl]
  exact State.sliceWork_runs (c := { c with phase := .running, win := some win })
    ((s.touch_workBankOff sp c.session c.g.towers c.g.towers).trans hbank)

/-- The state in which the first slice has counted an inserted ANNEAL and noted its area in the session (R269, R280). -/
def State.sliceNoted (s : State) (sp : Nat) (c : SealOp) (a : AnnealRun) : State :=
  let i := c.session.getD 0
  let w := s.touch sp c.session c.g.towers
  let w := if c.queue.isEmpty then w else (w.count (Reg.sprSealAuto sp) 1).sessCount i 172 4 1
  { w with sessAreas := SMap.set (fun _ => []) w.sessAreas i (SMap.get (fun _ => []) w.sessAreas i ++ [(sp, a.area.1, a.area.2)]) }

/-- The first slice clears VALID of the output and the record slots of the area before it works (R258, R280). -/
theorem State.sliceRun_first {old : List Byte} (hbegan : a.began = false)
    (hclear : ((s.sliceNoted sp c a).galleryPut sp a.area.1 (List.replicate 128 0)).clearValid sp a.out
      (sealParam sp 0x01 3 (c.hdrs.headD []) a.out !c.queue.isEmpty) = (u, .ok old))
    (hbank : u.workBankOff sp c.g.towers = none) :
    s.sliceRun sp k win c a = (u.useBanks sp c.g.towers).setSeal sp k (some { c with
      phase := .running, win := some win, ann := some { a with began := true, old := old } }) := by
  unfold State.sliceRun
  dsimp only
  rw [hbegan, if_neg Bool.false_ne_true]
  unfold State.sliceNoted at hclear
  dsimp only at hclear
  rw [hclear]
  exact State.sliceWork_runs (c := { c with phase := .running, win := some win }) hbank

theorem State.annealCheck_ok {area : Nat × Nat} (h : s.annealCheck sp c area = (u, .ok (c1, a))) :
    c1.pins = c.pins ∧ a.began = false := by
  unfold State.annealCheck at h
  dsimp only at h
  split at h
  · cases (Prod.mk.inj h).2
  · split at h
    · cases (Prod.mk.inj h).2
    · cases (Prod.mk.inj h).2
    · cases (Prod.mk.inj h).2
    · obtain ⟨rfl, rfl⟩ := Prod.mk.inj (Except.ok.inj (Prod.mk.inj h).2)
      exact ⟨rfl, rfl⟩

end

/-- A command that anneals is no operation of SEAL_OP_START. -/
theorem SealOp.not_op_of_anneal {c : SealOp} (h : c.code = 0x10 ∨ c.queue ≠ []) :
    (decide (c.code ≠ 0x10) && c.queue.isEmpty) = false := by
  rcases h with hcode | hqueue
  · rw [hcode]
    rfl
  · rw [List.isEmpty_eq_false_iff.mpr hqueue, Bool.and_false]

section
variable {s : State} {spire : Fin 4} {op : Fin 16} {win : Nat} {c : SealOp} (pages : List (BitVec 32)) (ksws : BitVec 16)
  (lo hi : BitVec 32)
  (hseal : s.seal spire.val op.val = some c) (hphase : c.phase = .waiting) (hanneal : c.code = 0x10 ∨ c.queue ≠ [])
  (hroom : s.sealRoom spire.val c.g.towers = some win)
include hseal hphase hanneal hroom

theorem exec_annealSliceStart_next {a : AnnealRun} (hann : c.ann = some a) (hbell : a.after ≤ s.bellNum)
    (hpins : c.pins.isSome = true) :
    exec (.annealSliceStart spire op pages ksws lo hi) s = .next (s.sliceRun spire.val op.val win
      { c with ann := some { a with ksws := ksws.toNat } } { a with ksws := ksws.toNat }) := by
  show execAnnealSliceStart spire op pages ksws lo hi s = _
  unfold execAnnealSliceStart
  dsimp only
  rw [hseal]
  dsimp only
  rw [hroom]
  simp only [hphase, SealOp.not_op_of_anneal hanneal, hann, Nat.not_lt.mpr hbell, hpins, ne_eq, not_true, decide_false,
    Bool.or_false, Bool.false_eq_true, if_false, if_true]

theorem exec_annealSliceStart_first {u v : State} {c1 c2 : SealOp} {a : AnnealRun} (hann : c.ann = none)
    (hcheck : s.annealCheck spire.val c (lo.toNat, hi.toNat) = (u, .ok (c1, a))) (hpins : c1.pins = none)
    (hpages : u.checkPages spire.val op.val { c1 with ann := some { a with ksws := ksws.toNat } } (pages.map (·.toNat)) =
      (v, some c2)) :
    exec (.annealSliceStart spire op pages ksws lo hi) s = .next (v.sliceRun spire.val op.val win c2
      { a with ksws := ksws.toNat }) := by
  show execAnnealSliceStart spire op pages ksws lo hi s = _
  unfold execAnnealSliceStart
  dsimp only
  rw [hseal]
  dsimp only
  rw [hroom]
  simp only [hphase, SealOp.not_op_of_anneal hanneal, hann, ne_eq, not_true, decide_false, Bool.or_false, Bool.false_eq_true,
    if_false, hcheck]
  rw [if_neg (by rw [hpins]; exact Bool.false_ne_true), hpages]

end

end Sys2Proof.Machine
end

/-! ## A slice of an ANNEAL ends or starts again (R280, R281, R302, R305) -/

section
open Sys2Proof Sys2Proof.Machine
namespace Sys2Proof.Machine

/-! ### The checkpoint -/

theorem State.galleryPut_gallery_out (s : State) {sp o x : Nat} (bs : List Byte)
    (hx : x < galKey sp o ∨ galKey sp o + bs.length ≤ x) :
    SMap.get (fun _ => 0) (s.galleryPut sp o bs).gallery x = SMap.get (fun _ => 0) s.gallery x :=
  SMap.get_setRun_out _ _ _ hx

theorem length_hSeal_le (h : List Byte) : (hSeal h).length ≤ 64 := by
  rw [hSeal, List.length_append, List.length_take, length_leBytes]
  omega

/-- A record is written within its slot of the area's first 128 bytes. -/
theorem State.ckPut_gallery_out (s : State) {sp x : Nat} {a : AnnealRun} (b : Bool) (r : List Byte)
    (hx : x < galKey sp a.area.1 ∨ galKey sp (a.area.1 + 128) ≤ x) :
    SMap.get (fun _ => 0) (s.ckPut sp a b r).gallery x = SMap.get (fun _ => 0) s.gallery x := by
  have hslot : ofBool b ≤ 1 := by cases b <;> decide
  have hlen := length_hSeal_le r
  simp only [galKey] at hx
  unfold State.ckPut
  dsimp only
  rw [State.galleryPut_gallery_out, State.galleryPut_gallery_out]
  · simp only [galKey, List.length_take]
    omega
  · simp only [galKey, List.length_drop]
    omega

/-- The live ciphertexts of a slice and its record are written into the area (R280). -/
def State.sliceSaved (s : State) (sp : Nat) (c : SealOp) (a : AnnealRun) (cts : List (BitVec 64)) : State :=
  let n := a.area.2 - (a.area.1 + 128)
  let s := (s.galleryPut sp (a.area.1 + 128) (freeBytes s.free n)).draw
  let b := s.ckLatest sp a
  let seq := ckSeq (s.ckRecord sp a b) + 1
  s.ckPut sp a (if seq = 1 then false else !b) (ckBytes c a s.bellNum seq cts)

section
variable (s : State) {sp : Nat} (c : SealOp) (a : AnnealRun) (cts : List (BitVec 64))

theorem State.sliceSaved_offMemory : (s.sliceSaved sp c a cts).offMemory = s.offMemory := by
  unfold State.sliceSaved
  extract_lets n t b seq
  rw [State.ckPut_offMemory]
  exact (State.draw_offMemory _).trans (s.galleryPut_offMemory _ _ _)

theorem State.sliceSaved_hbm : (s.sliceSaved sp c a cts).hbm = s.hbm := rfl

theorem State.sliceSaved_tmem : (s.sliceSaved sp c a cts).tmem = s.tmem := rfl

theorem State.sliceSaved_gallery_out {x : Nat}
    (hx : x < galKey sp a.area.1 ∨ galKey sp (max a.area.2 (a.area.1 + 128)) ≤ x) :
    SMap.get (fun _ => 0) (s.sliceSaved sp c a cts).gallery x = SMap.get (fun _ => 0) s.gallery x := by
  simp only [galKey] at hx
  unfold State.sliceSaved
  extract_lets n t b seq
  rw [State.ckPut_gallery_out]
  · refine s.galleryPut_gallery_out _ ?_
    simp only [galKey, length_freeBytes, n]
    omega
  · simp only [galKey]
    omega

theorem State.sliceOver_seals : (s.sliceOver sp c a).seals = s.seals :=
  (State.seals_of_offMemory (State.keyClks_offMemory _ _)).trans
    ((State.seals_of_offCounts (State.sessCount_offCounts _ _ _ _ _)).trans (State.seals_of_offMemory (s.unpin_offMemory c)))

theorem State.count64_draw_offRecords (r n : Nat) : (s.count64 r n).draw.offRecords = s.offRecords := rfl

theorem State.keyClks_offRecords (switches : Bool) : (s.keyClks sp switches).offRecords = s.offRecords := by
  unfold State.keyClks
  split
  · exact (State.count64_draw_offRecords _ _ _).trans (s.count64_draw_offRecords _ _)
  · rfl

/-- A slice that holds no pin is over without an access of memory. -/
theorem State.sliceOver_memories (hpins : c.pins = none) :
    (s.sliceOver sp c a).hbm = s.hbm ∧ (s.sliceOver sp c a).tmem = s.tmem ∧ (s.sliceOver sp c a).gallery = s.gallery := by
  have hkey := (s.sessCount (c.session.getD 0) 164 8 a.ksws).keyClks_offRecords (sp := sp) (decide (0 < a.ksws))
  rw [State.sliceOver, s.unpin_none hpins]
  exact ⟨(congrArg State.hbm hkey :), (congrArg State.tmem hkey :), (congrArg State.gallery hkey :)⟩

theorem State.sliceTags_none (hpins : c.pins = none) : s.sliceTags sp c = (s, none) := by
  rw [State.sliceTags, hpins]
  rfl

theorem State.sliceTags_offMemory : (s.sliceTags sp c).1.offMemory = s.offMemory := s.tagCheck_offMemory _ _ _ _ _

/-- A slice that holds no pin writes its area and no other memory. -/
theorem State.sliceSaved_memories (hpins : c.pins = none) :
    ((s.sliceOver sp c a).sliceSaved sp c a cts).hbm = s.hbm ∧ ((s.sliceOver sp c a).sliceSaved sp c a cts).tmem = s.tmem ∧
    ∀ x, x < galKey sp a.area.1 ∨ galKey sp (max a.area.2 (a.area.1 + 128)) ≤ x →
      SMap.get (fun _ => 0) ((s.sliceOver sp c a).sliceSaved sp c a cts).gallery x = SMap.get (fun _ => 0) s.gallery x := by
  obtain ⟨hhbm, htmem, hgallery⟩ := s.sliceOver_memories (sp := sp) c a hpins
  exact ⟨(State.sliceSaved_hbm _ c a cts).trans hhbm, (State.sliceSaved_tmem _ c a cts).trans htmem, fun x hx =>
    (State.sliceSaved_gallery_out _ c a cts hx).trans (congrArg (fun m => SMap.get (fun _ => 0) m x) hgallery)⟩

end

theorem State.sliceTags_right {s u : State} {sp : Nat} {c : SealOp} (htags : s.sliceTags sp c = (u, none)) :
    u.offMemory = s.offMemory := by
  rw [← s.sliceTags_offMemory (sp := sp) c, htags]

/-- The command as it waits for its next slice. -/
def SealOp.nextSlice (c : SealOp) (a : AnnealRun) : SealOp :=
  { c with phase := .waiting, pins := none, since := none, ann := some { a with next := a.next + 1, failed := false } }

/-- A slice that has saved its work changes no place but its own. -/
theorem State.sliceSaved_placeSet {s u : State} {sp : Nat} {c : SealOp} (htags : s.sliceTags sp c = (u, none)) (k : Nat)
    (a : AnnealRun) (cts : List (BitVec 64)) :
    PlaceSet sp k (some (c.nextSlice a)) s
      (((u.sliceOver sp c a).sliceSaved sp c a cts).setSeal sp k (some (c.nextSlice a))) :=
  (State.setSeal_placeSet _ _ _ _).of_seals ((State.seals_of_offMemory (State.sliceSaved_offMemory _ c a cts)).trans
    ((u.sliceOver_seals c a).trans (State.seals_of_offMemory (State.sliceTags_right htags))))

section
variable {s u : State} {spire : Fin 4} {op : Fin 16} {c : SealOp} {a : AnnealRun}
  (hseal : s.seal spire.val op.val = some c) (hphase : c.phase = .running) (hann : c.ann = some a)
  (htags : s.sliceTags spire.val c = (u, none)) (hclosing : s.sealClosing c = false)
include hseal hphase hann htags hclosing

/-- A slice whose tags are right saves its work and waits for the next. -/
theorem exec_annealSliceEnd_saved (cts : List (BitVec 64)) (habandon : c.abandon = none)
    (hbank : u.workBankOff spire.val c.g.towers = none) :
    exec (.annealSliceEnd spire op cts) s = .next
      (((u.sliceOver spire.val c a).sliceSaved spire.val c a cts).setSeal spire.val op.val (some (c.nextSlice a))) := by
  have hopen : u.sealClosing c = false :=
    (State.sealClosing_congr (State.sess_of_offMemory (State.sliceTags_right htags)) c).trans hclosing
  show execAnnealSliceEnd spire op cts s = _
  unfold execAnnealSliceEnd
  extract_lets sp k
  rw [show s.seal sp k = _ from hseal]
  dsimp only
  rw [hphase, hann]
  dsimp only
  rw [htags]
  dsimp only
  rw [hopen, if_neg Bool.false_ne_true, show c.abandon.or (u.workBankOff sp c.g.towers) = none by rw [habandon]; exact hbank]
  rfl

end

end Sys2Proof.Machine
end

/-! ## A slice of an ANNEAL runs again (R281, R302, R445) -/

section
open Sys2Proof Sys2Proof.Machine
namespace Sys2Proof.Machine

theorem State.slotOf_of_offMemory {s u : State} (h : u.offMemory = s.offMemory) (sp t : Nat) :
    u.slotOf sp t = s.slotOf sp t := by
  have hlo : u.reg (Reg.sprTwrMapLo sp) = s.reg (Reg.sprTwrMapLo sp) := by
    refine State.reg_of_offMemory h (decide_eq_true ?_)
    simp only [Reg.sprTwrMapLo, Reg.spireBase]
    omega
  have hhi : u.reg (Reg.sprTwrMapHi sp) = s.reg (Reg.sprTwrMapHi sp) := by
    refine State.reg_of_offMemory h (decide_eq_true ?_)
    simp only [Reg.sprTwrMapHi, Reg.spireBase]
    omega
  rw [State.slotOf, State.fld, State.fld, hlo, hhi]
  rfl

theorem State.stopAsked_of_offMemory {s u : State} (h : u.offMemory = s.offMemory) (sp : Nat)
    (towers : BitVec 16) : u.stopAsked sp towers = s.stopAsked sp towers := by
  have hstops : u.stops = s.stops := (congrArg State.stops h :)
  have hslots : u.slotOf sp = s.slotOf sp := funext (State.slotOf_of_offMemory h sp)
  rw [State.stopAsked, State.slotsOf, hstops, hslots]
  rfl

/-- A running slice at which a check has failed. -/
def State.sliceChecked (s : State) (sp k : Nat) (c : SealOp) (a : AnnealRun) (b : CheckFail) : State :=
  let (s, f) := s.sealCheckFault sp c b
  if b.site = 6 then (s.keyClks sp (decide (0 < a.ksws))).sealFail sp k c f else s.sliceFail sp k c a f true

section
variable {s u : State} {sp k : Nat} {c : SealOp} {a : AnnealRun} (f : FaultInfo) (hu : u.offMemory = s.offMemory)
  (hsp : sp < 4) (hclosing : s.sealClosing c = false)
include hu hsp hclosing

/-- A slice that fails restarts at a later bell, the second time from one checkpoint it ends the ANNEAL (R281). -/
theorem State.sliceFail_failed (hk : k < 16) :
    (∀ sp' j, j < 16 → (sp', j) ≠ (sp, k) → (u.sliceFail sp k c a f true).seal sp' j = s.seal sp' j) ∧
    (if a.failed = true then (u.sliceFail sp k c a f true).seal sp k = none
      else ∃ n, (u.sliceFail sp k c a f true).seal sp k =
        some (c.again { a with next := n, failed := true, after := s.bellNum + 1 })) := by
  have hsp16 : sp < 16 := Nat.lt_trans hsp (by decide)
  have hopen : u.sealClosing c = false := (State.sealClosing_congr (State.sess_of_offMemory hu) c).trans hclosing
  by_cases hfailed : a.failed = true
  · rw [if_pos hfailed]
    have hset := (State.sliceFail_ends f (a := a) (failure := true) (sp := sp) (k := k) hsp16 hopen hfailed).of_seals
      (State.seals_of_offMemory hu)
    exact ⟨hset.others hk, hset.self⟩
  · rw [if_neg hfailed]
    obtain ⟨n, hset⟩ := State.sliceFail_restarts f (a := a) (failure := true) (sp := sp) (k := k) hsp16 hopen
      (Bool.eq_false_of_not_eq_true hfailed)
    rw [State.bellNum_of_offMemory hu, Bool.or_true] at hset
    have hset := hset.of_seals (State.seals_of_offMemory hu)
    exact ⟨hset.others hk, n, hset.self⟩

/-- A failing check ends a slice: one of an expander the whole ANNEAL (R445). -/
theorem State.sliceChecked_failed (hk : k < 16) (b : CheckFail) :
    (∀ sp' j, j < 16 → (sp', j) ≠ (sp, k) → (u.sliceChecked sp k c a b).seal sp' j = s.seal sp' j) ∧
    (if a.failed = true ∨ b.site = 6 then (u.sliceChecked sp k c a b).seal sp k = none
      else ∃ n, (u.sliceChecked sp k c a b).seal sp k =
        some (c.again { a with next := n, failed := true, after := s.bellNum + 1 })) := by
  have hchecked := (u.sealCheckFault_offMemory (sp := sp) c b).trans hu
  unfold State.sliceChecked
  generalize u.sealCheckFault sp c b = checked at hchecked ⊢
  obtain ⟨v, f⟩ := checked
  dsimp only at hchecked ⊢
  by_cases hsite : b.site = 6
  · have hset := (State.sealFail_placeSet (sp := sp) (k := k) _ c f).of_seals
      (State.seals_of_offMemory ((v.keyClks_offMemory (sp := sp) (decide (0 < a.ksws))).trans hchecked))
    rw [if_pos hsite, if_pos (Or.inr hsite)]
    exact ⟨hset.others hk, hset.self⟩
  · simp only [hsite, or_false, if_false]
    exact State.sliceFail_failed f hchecked hsp hclosing hk

/-- A slice that STOP ends restarts at a later bell and has not failed by it (R281). -/
theorem State.sliceFail_stopped (hk : k < 16) :
    ∃ n, (u.sliceFail sp k c a f false).seal sp k = some (c.again { a with next := n, after := s.bellNum + 1 }) ∧
      ∀ sp' j, j < 16 → (sp', j) ≠ (sp, k) → (u.sliceFail sp k c a f false).seal sp' j = s.seal sp' j := by
  have hsp16 : sp < 16 := Nat.lt_trans hsp (by decide)
  have hopen : u.sealClosing c = false := (State.sealClosing_congr (State.sess_of_offMemory hu) c).trans hclosing
  obtain ⟨n, hset⟩ := State.sliceFail_restarts f (a := a) (failure := false) (sp := sp) (k := k) hsp16 hopen rfl
  rw [State.bellNum_of_offMemory hu, Bool.or_false] at hset
  have hset := hset.of_seals (State.seals_of_offMemory hu)
  exact ⟨n, hset.self, hset.others hk⟩

end

section
variable {s u : State} {spire : Fin 4} {op : Fin 16} {c : SealOp} {a : AnnealRun}
  (hseal : s.seal spire.val op.val = some c) (hphase : c.phase = .running) (hann : c.ann = some a)
  (htags : s.sliceTags spire.val c = (u, none))
include hseal hphase hann htags

theorem exec_annealSliceRestart_fault {f : FaultInfo} (hfault : c.abandon.or (s.workBankOff spire.val c.g.towers) = some f) :
    exec (.annealSliceRestart spire op none) s = .next (u.sliceFail spire.val op.val c a f true) := by
  show execAnnealSliceRestart spire op none s = _
  unfold execAnnealSliceRestart
  extract_lets sp k
  rw [show s.seal sp k = _ from hseal]
  dsimp only
  rw [hphase, hann]
  dsimp only
  rw [htags, hfault]

theorem exec_annealSliceRestart_check (b : CheckFail) :
    exec (.annealSliceRestart spire op (some b)) s = .next
      (u.sliceChecked spire.val op.val c a b) := by
  show execAnnealSliceRestart spire op (some b) s = _
  unfold execAnnealSliceRestart
  extract_lets sp k
  rw [show s.seal sp k = _ from hseal]
  dsimp only
  rw [hphase, hann]
  dsimp only
  rw [htags]
  rfl

theorem exec_annealSliceRestart_stop (hfault : c.abandon.or (s.workBankOff spire.val c.g.towers) = none)
    (hstop : u.stopAsked spire.val c.g.towers = true) :
    exec (.annealSliceRestart spire op none) s = .next
      (u.sliceFail spire.val op.val c a (closedFault 0) false) := by
  show execAnnealSliceRestart spire op none s = _
  unfold execAnnealSliceRestart
  extract_lets sp k
  rw [show s.seal sp k = _ from hseal]
  dsimp only
  rw [hphase, hann]
  dsimp only
  rw [htags, hfault]
  dsimp only
  rw [if_pos hstop]

end

end Sys2Proof.Machine
end

/-! ## The whole claim about sealed operations -/

section
open Sys2Proof Sys2Proof.Machine
namespace Sys2Proof.Machine

/-- Settles O51, command by command. -/
theorem sealedOperations : Obligations.SealedOperations := by
  refine ⟨fun p hp o g k is out s u heng => ?_, fun spire op c win s => ?_, fun spire op c bad s => ?_,
    fun spire op c a b ka kb ue0 ue1 ue2 s s1 u v z w x => ?_, fun spire op pages ksws lo hi c a win s => ?_,
    fun spire op pages ksws lo hi c c1 c2 a win old s u v x => ?_, fun spire op cts c a s u => ?_,
    fun spire op b c a s u => ?_⟩
  · intro sp hfree hread
    have hk := State.freeSeal_lt hfree
    refine ⟨_, (exec_sealCommand p hp o g s).trans (congrArg _ (State.sealBegin_arrives heng hfree hread)),
      State.sealArrives_others hk rfl _, ?_⟩
    cases u.sealCheck sp p.1 g is out false with
    | refuse f => exact ⟨(u.sealFail_placeSet _ f).self, u.sealFail_memories f rfl⟩
    | stall => exact ⟨_, State.seal_setSeal _ sp k _, rfl, rfl, rfl, rfl⟩
    | level f => exact (u.sealLevel_frame f is hk rfl).2
    | pass _ => exact ⟨_, State.seal_setSeal _ sp k _, rfl, rfl, rfl, rfl, rfl, rfl, rfl, rfl⟩
  · intro sp k hseal hroom hphase hcode hqueue
    have hsp : sp < 16 := Nat.lt_trans spire.isLt (by decide)
    refine ⟨fun u old hpins hclear => ?_, fun u is out hpins hread hksw => ?_⟩
    · have hexec := exec_sealOpStart_pinned hseal hroom hphase hcode hqueue hpins
      refine ⟨fun hbank => ⟨_, hexec, State.sealRun_ends hsp hclear hbank⟩, fun hbank => ?_⟩
      rw [State.sealRun_runs hclear hbank] at hexec
      have hset := u.useBanks_placeSet sp k c.g.towers (some { c with phase := .running, win := some win, old := old })
      exact ⟨_, hexec, hset.self, hset.others op.isLt, u.useBanks_usesBanks sp k c.g.towers _⟩
    · refine ⟨_, exec_sealOpStart_checked hseal hroom hphase hcode hqueue hpins hread hksw, ?_⟩
      cases u.sealCheck sp c.code c.g is out c.auto with
      | refuse f => exact (u.sealFail_placeSet _ f).self
      | stall => exact u.demandSlots_seals is
      | level f =>
        obtain ⟨-, hhbm, hgallery, -⟩ := u.sealLevel_frame (sp := sp)
          (c := { c with session := sealSessionOf is, hdrs := is.map (·.h) }) f is op.isLt hpins
        exact ⟨hhbm, hgallery⟩
      | pass _ =>
        dsimp only [State.sealStarts]
        split
        next v old hclear =>
          split
          next hbank =>
            exact State.sealRun_running (c := { c with
              session := sealSessionOf is, hdrs := is.map (·.h), pset := (u.pset sp (hPset ((is.map (·.h)).headD []))).cur })
              hclear hbank
          next hbank => exact State.sealRun_ends hsp hclear hbank
        next v f hclear => exact State.sealRun_fails hclear
  · intro sp k hseal hphase hann
    have hexec : exec (.sealOpComplete spire op bad) s = .next (s.sealFinish sp k c bad) :=
      exec_sealOpComplete hseal hphase hann bad
    have hset := s.sealFinish_placeSet (k := k) c (Nat.lt_trans spire.isLt (by decide)) bad
    exact ⟨_, hexec, hset.self, hset.others op.isLt⟩
  · intro sp k o h0 h1 two poison h ls hseal hphase hann habandon htags hbank hread0 hread1 hkey hwrite hput ha
    have hfinish := State.sealFinish_clean (k := k) rfl rfl rfl habandon htags hbank hread0 hread1 hkey hwrite
    rw [w.sealDone_put c rfl hput] at hfinish
    refine ⟨x.sealEnded sp k c (ofBool (kswOf c.code 1).isSome) poison, _,
      (exec_sealOpComplete hseal hphase hann none).trans (congrArg _ hfinish),
      completeOk_recorded 0x30 _ (State.sealEnded_alone spire.isLt ha), State.seal_setSeal _ sp k _, State.reg_sealEnded_poison,
      fun i hi => ?_, fun j hj => ?_, State.sealEnded_rest⟩
    · rw [State.ctx_sealEnded, State.ctx_sealCounted _ _ _ _ hi]
    · rw [State.ctx_sealEnded, State.ctx_sealCounted_ne _ _ _ _ hj]
  · intro sp k hseal hphase hanneal hann hbell hroom hpins hbegan hbank
    have hrun := State.sliceRun_next (s := s) (sp := sp) (k := k) (win := win)
      (c := { c with ann := some { a with ksws := ksws.toNat } }) (a := { a with ksws := ksws.toNat }) hbegan hbank
    refine ⟨_, (exec_annealSliceStart_next pages ksws lo hi hseal hphase hanneal hroom hann hbell hpins).trans
      (congrArg _ hrun), State.seal_setSeal _ sp k _, ?_, ?_⟩
    · exact ((State.useBanks_placeSet _ sp k _ _).of_seals (s.touch_seals sp c.session c.g.towers)).others op.isLt
    · have huses := ((s.touch sp c.session c.g.towers).useBanks_usesBanks sp k c.g.towers (some { c with
        phase := .running, win := some win, ann := some { a with ksws := ksws.toNat } })).withSess s.sess
      rw [s.touch_rest sp c.session c.g.towers] at huses
      exact huses
  · intro sp k a1 i hseal hphase hanneal hann hpins hroom hcheck hpages w w1 w2 hclear hbank
    obtain ⟨hpins1, hbegan⟩ := State.annealCheck_ok hcheck
    have hrun := State.sliceRun_first (k := k) (win := win) (a := a1) hbegan hclear hbank
    refine ⟨_, (exec_annealSliceStart_first pages ksws lo hi hseal hphase hanneal hroom hann hcheck (hpins1.trans hpins)
      hpages).trans (congrArg _ hrun), State.seal_setSeal _ sp k _, ?_, x.useBanks_usesBanks sp k c2.g.towers _⟩
    exact (State.useBanks_placeSet _ sp k _ _).others op.isLt
  · intro sp k hseal hphase hann htags hclosing habandon hbank
    have hset := State.sliceSaved_placeSet htags k a cts
    refine ⟨_, exec_annealSliceEnd_saved hseal hphase hann htags hclosing cts habandon hbank, hset.self, hset.others op.isLt,
      fun hpins => ?_⟩
    have hsame : s = u := (Prod.mk.inj ((s.sliceTags_none c hpins).symm.trans htags)).1
    rw [State.setSeal_hbm, State.setSeal_tmem, State.setSeal_gallery, hsame]
    exact u.sliceSaved_memories c a cts hpins
  · intro sp k hseal hphase hann htags hclosing
    have hu : u.offMemory = s.offMemory := State.sliceTags_right htags
    refine ⟨fun hfault => ?_, ?_, fun habandon hbank hstop => ?_⟩
    · obtain ⟨f, hf⟩ := Option.ne_none_iff_exists'.mp hfault
      exact ⟨_, exec_annealSliceRestart_fault hseal hphase hann htags hf,
        State.sliceFail_failed f hu spire.isLt hclosing op.isLt⟩
    · exact ⟨_, exec_annealSliceRestart_check hseal hphase hann htags b,
        State.sliceChecked_failed hu spire.isLt hclosing op.isLt b⟩
    · have hnone : c.abandon.or (s.workBankOff sp c.g.towers) = none := by
        rw [habandon]
        exact hbank
      obtain ⟨n, hstopped⟩ := State.sliceFail_stopped (a := a) (closedFault 0) hu spire.isLt hclosing op.isLt
      exact ⟨_, n, exec_annealSliceRestart_stop hseal hphase hann htags hnone
        ((State.stopAsked_of_offMemory hu sp c.g.towers).trans hstop), hstopped⟩

end Sys2Proof.Machine
end

/-! ## Fields of registers after a field has been set -/

section
open Sys2Proof Sys2Proof.Machine
namespace Sys2Proof.Machine

theorem bit_bits (v hi lo i : Nat) : bit (bits v hi lo) i = (decide (i < hi + 1 - lo) && bit v (lo + i)) := by
  simp only [bit, bits, Nat.testBit_mod_two_pow, Nat.testBit_shiftRight]

theorem bits_setBits_self (v x : Nat) {hi lo : Nat} (h : lo ≤ hi) :
    bits (setBits v hi lo x) hi lo = x % 2 ^ (hi + 1 - lo) := by
  refine Nat.eq_of_testBit_eq (fun i => ?_)
  change bit (bits (setBits v hi lo x) hi lo) i = _
  rw [bit_bits, bit_setBits v x (by omega), Nat.testBit_mod_two_pow]
  by_cases hi' : i < hi + 1 - lo
  · rw [if_pos (by omega), Nat.add_sub_cancel_left, bit]
  · rw [decide_eq_false hi', Bool.false_and, Bool.false_and]

theorem bits_setBits_apart (v x : Nat) {hi lo hi' lo' : Nat} (h : lo ≤ hi) (hapart : hi < lo' ∨ hi' < lo) :
    bits (setBits v hi lo x) hi' lo' = bits v hi' lo' := by
  refine Nat.eq_of_testBit_eq (fun i => ?_)
  change bit (bits (setBits v hi lo x) hi' lo') i = bit (bits v hi' lo') i
  rw [bit_bits, bit_bits, bit_setBits v x (by omega)]
  by_cases hi'' : i < hi' + 1 - lo'
  · rw [if_neg (by omega)]
  · rw [decide_eq_false hi'', Bool.false_and, Bool.false_and]

theorem bits_mod_two_pow (v : Nat) {n hi lo : Nat} (h : hi < n) : bits (v % 2 ^ n) hi lo = bits v hi lo := by
  refine Nat.eq_of_testBit_eq (fun i => ?_)
  change bit (bits (v % 2 ^ n) hi lo) i = bit (bits v hi lo) i
  rw [bit_bits, bit_bits]
  by_cases hi' : i < hi + 1 - lo
  · rw [bit_mod_two_pow v (by omega)]
  · rw [decide_eq_false hi', Bool.false_and, Bool.false_and]

section
variable (s : State)

theorem State.reg_setFld (a hi lo v x : Nat) :
    (s.setFld a hi lo v).reg x = if x = a then setBits (s.reg a) hi lo v % 2 ^ 64 else s.reg x := s.reg_setReg _ _ _

theorem State.reg_setFld_ne {a x : Nat} (hi lo v : Nat) (h : x ≠ a) : (s.setFld a hi lo v).reg x = s.reg x :=
  s.reg_setReg_ne _ h

theorem State.fld_setFld_self (a v : Nat) {hi lo : Nat} (h : lo ≤ hi) (h64 : hi < 64) :
    bits ((s.setFld a hi lo v).reg a) hi lo = v % 2 ^ (hi + 1 - lo) := by
  rw [State.reg_setFld, if_pos rfl, bits_mod_two_pow _ h64, bits_setBits_self _ _ h]

theorem State.fld_setFld_apart (a v : Nat) {hi lo hi' lo' : Nat} (h : lo ≤ hi) (h64 : hi' < 64)
    (hapart : hi < lo' ∨ hi' < lo) : bits ((s.setFld a hi lo v).reg a) hi' lo' = bits (s.reg a) hi' lo' := by
  rw [State.reg_setFld, if_pos rfl, bits_mod_two_pow _ h64, bits_setBits_apart _ _ h hapart]

end

end Sys2Proof.Machine
end

/-! ## What accesses of memory and completions leave of the Keystone's registers (R106, R319, R373, R374) -/

section
open Sys2Proof Sys2Proof.Machine
namespace Sys2Proof.Machine

/-- The registers of the Keystone below its Carillon: KEY_CTL, the fuses, the public-key engines and the power block. -/
def State.keyRegs (s : State) : SMap Word := s.ctl.filter (fun e => decide (e.1 < 0x40_0000))

theorem State.reg_of_keyRegs {s t : State} (h : t.keyRegs = s.keyRegs) {x : Nat} (hx : x < 0x40_0000) :
    t.reg x = s.reg x := by
  have hread (u : State) : SMap.get regReset u.keyRegs x = SMap.get regReset u.ctl x :=
    SMap.get_filter_key (fun x => decide (x < 0x40_0000)) u.ctl (decide_eq_true hx)
  rw [State.reg, ← hread t, h, hread s, State.reg]

section
variable (s : State)

theorem State.setReg_keyRegs {a : Nat} (v : Nat) (h : 0x40_0000 ≤ a) : (s.setReg a v).keyRegs = s.keyRegs :=
  SMap.filter_set (fun x => decide (x < 0x40_0000)) s.ctl _ (decide_eq_false (Nat.not_lt.mpr h))

/-! ### The registers that they write -/

theorem spireReg_above (h o : Nat) : 0x40_0000 ≤ Reg.spireBase h + o := by
  unfold Reg.spireBase
  omega

theorem hbmReg_above (h o : Nat) : 0x40_0000 ≤ Reg.hbmBase h + o := by
  rw [Reg.hbmBase, Nat.add_assoc, Nat.add_assoc]
  exact spireReg_above _ _

theorem carPendSet_above (car i : Nat) : 0x40_0000 ≤ Reg.carPendSet car i := by
  unfold Reg.carPendSet Reg.carBase Reg.spireBase
  split <;> omega

/-! ### Reports -/

theorem State.raise_keyRegs (car n : Nat) : (s.raise car n).keyRegs = s.keyRegs :=
  s.setReg_keyRegs _ (carPendSet_above car _)

theorem State.wrote_keyRegs (f : FaultInfo) : (s.wrote f).keyRegs = s.keyRegs := by
  obtain ⟨l, hl⟩ := s.wrote_frame f
  rw [hl]
  rfl

theorem State.faultToSpire_keyRegs (sp : Nat) (f : FaultInfo) : (s.faultToSpire sp f).keyRegs = s.keyRegs :=
  (State.wrote_keyRegs _ f).trans (State.raise_keyRegs _ sp _)

theorem State.faultToKey_keyRegs (f : FaultInfo) : (s.faultToKey f).keyRegs = s.keyRegs :=
  (State.wrote_keyRegs _ f).trans (State.raise_keyRegs _ 4 _)

/-! ### Writes of memory (R372 to R376) -/

theorem State.setHbmReg_keyRegs (h o v : Nat) : (s.setReg (Reg.hbmBase h + o) v).keyRegs = s.keyRegs :=
  s.setReg_keyRegs v (hbmReg_above h o)

theorem State.hbmUeReport_keyRegs (stack addr ty : Nat) (f : FaultInfo) :
    (s.hbmUeReport stack addr ty f).keyRegs = s.keyRegs := by
  have hcounted : (s.count (Reg.hbmUeCnt stack) 1).keyRegs = s.keyRegs := s.setHbmReg_keyRegs stack _ _
  unfold State.hbmUeReport
  dsimp only
  rw [State.faultToKey_keyRegs, State.faultToSpire_keyRegs, ← hcounted]
  split
  · exact State.setHbmReg_keyRegs _ stack _ _
  · exact (State.raise_keyRegs _ _ _).trans (State.setHbmReg_keyRegs _ stack _ _)

theorem State.logAppend_keyRegs (die kind unit index : Nat) : (s.logAppend die kind unit index).keyRegs = s.keyRegs := by
  unfold State.logAppend
  dsimp only
  split
  · rfl
  · split <;> (split <;> rfl)

theorem State.countPin_keyRegs (stack ch pin : Nat) : (s.countPin stack ch pin).keyRegs = s.keyRegs := by
  unfold State.countPin
  extract_lets k n counted marked r raised logged
  have hraised : raised.keyRegs = s.keyRegs :=
    (State.raise_keyRegs _ _ _).trans (State.setHbmReg_keyRegs _ stack _ _)
  have hlogged : logged.keyRegs = s.keyRegs := by
    unfold logged
    split
    · exact hraised
    · exact (State.logAppend_keyRegs _ _ _ _ _).trans hraised
  split
  · rfl
  · split <;> exact (State.setHbmReg_keyRegs _ stack _ _).trans hlogged

theorem State.hbmCorrected_keyRegs (stack addr pos v : Nat) : (s.hbmCorrected stack addr pos v).keyRegs = s.keyRegs :=
  (foldl_keeps State.keyRegs (fun t p => t.countPin_keyRegs _ _ p) _ _).trans (s.setHbmReg_keyRegs stack _ _)

theorem State.writeHalf_keyRegs (l : WcbLine) (h : Nat) : (s.writeHalf l h).keyRegs = s.keyRegs := by
  unfold State.writeHalf
  dsimp only
  split
  · rfl
  · split
    · exact s.hbmUeReport_keyRegs _ _ _ _
    · exact s.hbmUeReport_keyRegs _ _ _ _
    · exact s.hbmCorrected_keyRegs _ _ _ _
    · split <;> rfl

theorem State.writeOut_keyRegs (l : WcbLine) : (s.writeOut l).keyRegs = s.keyRegs := by
  unfold State.writeOut
  rw [State.writeHalf_keyRegs, State.writeHalf_keyRegs]
  split
  · rfl
  · exact State.setHbmReg_keyRegs _ l.stack _ _

theorem State.setLines_keyRegs (sp : Nat) (l : List WcbLine) : (s.setLines sp l).keyRegs = s.keyRegs := rfl

theorem State.linePut_keyRegs (stack addr : Nat) (bs : List Byte) (req : Nat) :
    (s.linePut stack addr bs req).keyRegs = s.keyRegs := by
  unfold State.linePut
  dsimp only
  split
  · exact State.writeOut_keyRegs _ _
  · rw [State.setLines_keyRegs]
    split
    · split
      · exact (State.setReg_keyRegs _ _ (spireReg_above _ _)).trans (State.writeOut_keyRegs _ _)
      · rfl
    · rfl

theorem State.granulePut_keyRegs (stack addr : Nat) (bs : List Byte) (req : Nat) :
    (s.granulePut stack addr bs req).keyRegs = s.keyRegs := by
  have hstack (t : State) (a : Nat) (x : List Byte) : (t.stackPut stack a x).keyRegs = t.keyRegs := rfl
  unfold State.granulePut
  simp only [apply_ite State.keyRegs, State.linePut_keyRegs, hstack, State.setLines_keyRegs, ite_self]

theorem State.memPut_keyRegs (sp a : Nat) (bs : List Byte) (req : Nat) : (s.memPut sp a bs req).keyRegs = s.keyRegs := by
  unfold State.memPut
  split
  · refine foldl_keeps State.keyRegs (fun t p => ?_) _ s
    split
    · exact t.granulePut_keyRegs _ _ _ _
    · exact t.hbmUeReport_keyRegs _ _ _ _
  · rfl
  · rfl
  · rfl
  · rfl

/-! ### Posts and records (R319, R327 to R335) -/

theorem State.postSem_keyRegs (sp n k source : Nat) (remote : Bool) :
    (s.postSem sp n k source remote).1.keyRegs = s.keyRegs := by
  unfold State.postSem
  dsimp only
  split
  · rfl
  · split
    · refine s.setReg_keyRegs _ ?_
      rw [Reg.semOvfCnt, Nat.add_assoc]
      exact spireReg_above _ _
    · rfl

theorem State.postFrom_keyRegs (frm sp sender n k : Nat) : (s.postFrom frm sp sender n k).1.keyRegs = s.keyRegs := by
  unfold State.postFrom
  split
  · exact s.postSem_keyRegs _ _ _ _ _
  · unfold State.postRemote
    split
    · exact s.postSem_keyRegs _ _ _ _ _
    · refine (State.faultToSpire_keyRegs _ _ _).trans (s.setReg_keyRegs _ ?_)
      rw [Reg.semWinDrop, Nat.add_assoc]
      exact spireReg_above _ _

theorem State.companionWrite_keyRegs (a : Nat) (bs : List Byte) : (s.companionWrite a bs).keyRegs = s.keyRegs := by
  unfold State.companionWrite
  split <;> rfl

theorem State.writeEntries_keyRegs (sp r : Nat) (es : List (List Byte)) : (s.writeEntries sp r es).keyRegs = s.keyRegs := by
  have hring (t : State) (q : Ring) : (t.setRing sp r q).keyRegs = t.keyRegs := rfl
  unfold State.writeEntries
  dsimp only
  simp only [apply_ite State.keyRegs, State.raise_keyRegs, ite_self, hring, State.companionWrite_keyRegs]
  exact foldl_keeps State.keyRegs (fun t e => t.companionWrite_keyRegs _ _) _ s

theorem State.putEntries_keyRegs (sp r order : Nat) (fin : RecordEnd) (es : List (List Byte)) :
    (s.putEntries sp r order fin es).keyRegs = s.keyRegs := by
  unfold State.putEntries State.writeRecord
  split
  · cases fin with
    | none => exact s.writeEntries_keyRegs sp r es
    | stop => exact (State.raise_keyRegs _ _ _).trans (s.writeEntries_keyRegs sp r es)
    | entry e bell ok => exact Eq.trans rfl (s.writeEntries_keyRegs sp r es)
  · rfl

theorem State.modInstance_keyRegs (sp e : Nat) (f : Instance → Instance) : (s.modInstance sp e f).keyRegs = s.keyRegs := by
  unfold State.modInstance
  split
  · split <;> rfl
  · rfl

/-! ### The command, its LIST, and the FENCE commands (R319, R320, R330) -/

theorem State.completeOne_keyRegs (o : Origin) (opcode : Nat) (result : List Byte) (f : Option (List Byte))
    (ext : List (List Byte)) : (s.completeOne o opcode result f ext).keyRegs = s.keyRegs := by
  unfold State.completeOne
  dsimp only
  generalize hposted : Prod.fst (α := State) (β := Option (List Byte)) _ = t
  have ht : t.keyRegs = s.keyRegs := by
    rw [← hposted]
    split
    · rename_i p _
      have hpost := s.postFrom_keyRegs o.spire.val p.spire.val (srcSpire o.spire.val 0 0) p.sem.toNat p.count.toNat
      split
      · rename_i u hu
        rwa [hu] at hpost
      · rename_i u g hu
        rw [hu] at hpost
        exact (u.wrote_keyRegs g).trans hpost
    · rfl
  have hrecord (b : Bool) (q : RunQ) (order : Nat) (fin : RecordEnd) (es : List (List Byte)) :
      (if b = true then t.setRunq (runKey o) q
        else (t.setRunq (runKey o) q).putEntries o.spire.val o.ring.val order fin es).keyRegs = s.keyRegs := by
    cases b
    · exact (State.putEntries_keyRegs _ _ _ _ _ _).trans ht
    · exact ht
  split
  · exact (State.modInstance_keyRegs _ _ _ _).trans (hrecord _ _ _ _ _)
  · exact hrecord _ _ _ _ _

theorem State.completeList_keyRegs (l : ListRun) : (s.completeList l).keyRegs = s.keyRegs := by
  unfold State.completeList
  split
  · exact (State.wrote_keyRegs _ _).trans (s.completeOne_keyRegs _ _ _ _ _)
  · exact s.completeOne_keyRegs _ _ _ _ _

theorem State.listStep_keyRegs (k : Nat) (cseq : BitVec 32) : (s.listStep k cseq).keyRegs = s.keyRegs := by
  unfold State.listStep
  dsimp only
  split
  · rfl
  · split
    · exact State.completeList_keyRegs _ _
    · rfl

theorem State.completeStep_keyRegs (o : Origin) (opcode : Nat) (result : List Byte) (f : Option (List Byte))
    (ext : List (List Byte)) : (s.completeStep o opcode result f ext).keyRegs = s.keyRegs := by
  unfold State.completeStep
  dsimp only
  split
  · exact s.completeOne_keyRegs o opcode result f ext
  · exact (State.listStep_keyRegs _ _ _).trans (s.completeOne_keyRegs o opcode result f ext)

theorem State.settleFences_keyRegs (k : Nat) : (s.settleFences k).keyRegs = s.keyRegs := by
  induction k generalizing s with
  | zero => rfl
  | succ k ih =>
    unfold State.settleFences
    split
    · rfl
    · exact (ih _).trans (s.completeStep_keyRegs _ _ _ _ _)

theorem State.complete_keyRegs (o : Origin) (opcode : Nat) (result : List Byte) (f : Option (List Byte))
    (ext : List (List Byte)) : (s.complete o opcode result f ext).keyRegs = s.keyRegs :=
  (State.settleFences_keyRegs _ _).trans (s.completeStep_keyRegs o opcode result f ext)

theorem State.completeFault_keyRegs (o : Origin) (opcode : Nat) (f : FaultInfo) (result : List Byte) :
    (s.completeFault o opcode f result).keyRegs = s.keyRegs :=
  (State.wrote_keyRegs _ _).trans (s.complete_keyRegs o opcode result _ [])

end

end Sys2Proof.Machine
end

/-! ## The registers of a public-key engine (R289, R293, R433, R440, R441, R443) -/

section
open Sys2Proof Sys2Proof.Machine
namespace Sys2Proof.Machine

/-! ### Runs of registers -/

section
variable (f v : Nat → Nat) (l : List Nat) (s : State)

theorem State.reg_setRegs_ne {x : Nat} (hx : ∀ i ∈ l, x ≠ f i) :
    (l.foldl (fun (t : State) i => t.setReg (f i) (v i)) s).reg x = s.reg x :=
  List.foldlRecOn (motive := fun t : State => t.reg x = s.reg x) l _ rfl
    (fun t ht i hi => (t.reg_setReg_ne _ (hx i hi)).trans ht)

theorem State.reg_zeroRegs {x : Nat} (hx : s.reg x = 0 ∨ ∃ i ∈ l, x = f i) :
    (l.foldl (fun (t : State) i => t.setReg (f i) 0) s).reg x = 0 := by
  induction l generalizing s with
  | nil =>
    obtain hx | ⟨i, hi, -⟩ := hx
    · exact hx
    · cases hi
  | cons j l ih =>
    refine ih _ ?_
    by_cases hj : x = f j
    · exact .inl (by rw [hj, State.reg_setReg_self, Nat.zero_mod])
    · obtain hx | ⟨i, hi, hxi⟩ := hx
      · exact .inl ((s.reg_setReg_ne 0 hj).trans hx)
      · exact .inr ⟨i, (List.mem_cons.mp hi).resolve_left (fun hij => hj (hij ▸ hxi)), hxi⟩

end

/-! ### What belongs to an engine -/

section
variable (s : State) (n : Nat)

/-- The registers of engine `n`, of which its operand memory is the upper half (R443). -/
def inEngine (n x : Nat) : Prop := Reg.pkeBase n ≤ x ∧ x < Reg.pkeBase n + 0x2000

/-- From `s` to `t` nothing has changed but registers of engine `n`, its Carillon source and what free values were drawn. -/
structure EngineOnly (n : Nat) (s t : State) : Prop where
  rest : { t with ctl := s.ctl, free := s.free } = s
  regs : ∀ x, ¬ inEngine n x → x ≠ Reg.carPendSet 4 ((1 + n) / 64) → t.reg x = s.reg x

variable {s n} in
theorem EngineOnly.trans {t u : State} (h : EngineOnly n s t) (k : EngineOnly n t u) : EngineOnly n s u where
  rest := (congrArg (fun w : State => { w with ctl := s.ctl, free := s.free }) k.rest).trans h.rest
  regs x hin hpend := (k.regs x hin hpend).trans (h.regs x hin hpend)

section
variable {s n} {t : State} (h : EngineOnly n s t)
include h

theorem EngineOnly.sess : t.sess = s.sess := (congrArg State.sess h.rest :)

theorem EngineOnly.binds : t.binds = s.binds := (congrArg State.binds h.rest :)

theorem EngineOnly.closes : t.closes = s.closes := (congrArg State.closes h.rest :)

theorem EngineOnly.regions : t.regions = s.regions := (congrArg State.regions h.rest :)

end

theorem inEngine_low {o : Nat} (ho : o < 0x2000) : inEngine n (Reg.pkeBase n + o) :=
  ⟨Nat.le_add_right _ _, Nat.add_lt_add_left ho _⟩

theorem inEngine_pkeOpmem {i : Nat} (hi : i < 512) : inEngine n (Reg.pkeOpmem n i) := by
  rw [Reg.pkeOpmem, Nat.add_assoc]
  exact inEngine_low n (by omega)

theorem State.setReg_engineOnly {a : Nat} (v : Nat) (h : inEngine n a) : EngineOnly n s (s.setReg a v) where
  rest := rfl
  regs _ hin _ := s.reg_setReg_ne v (fun hx => hin (hx ▸ h))

theorem EngineOnly.refl : EngineOnly n s s := ⟨rfl, fun _ _ _ => rfl⟩

theorem State.setOpmem_engineOnly (v : Nat → Nat) :
    EngineOnly n s ((List.range 512).foldl (fun (t : State) i => t.setReg (Reg.pkeOpmem n i) (v i)) s) :=
  List.foldlRecOn (motive := EngineOnly n s) _ _ (EngineOnly.refl s n)
    (fun t ht _ hi => ht.trans (t.setReg_engineOnly n _ (inEngine_pkeOpmem n (List.mem_range.mp hi))))

theorem State.opmemZero_engineOnly : EngineOnly n s (s.opmemZero n) := s.setOpmem_engineOnly n (fun _ => 0)

theorem State.opmemFree_engineOnly : EngineOnly n s (s.opmemFree n) :=
  EngineOnly.trans (t := s.draw) ⟨rfl, fun _ _ _ => rfl⟩ (s.draw.setOpmem_engineOnly n _)

theorem State.count_engineOnly {a : Nat} (k : Nat) (h : inEngine n a) : EngineOnly n s (s.count a k) :=
  s.setReg_engineOnly n _ h

theorem State.setFld_pkeStatus_engineOnly (hi lo v : Nat) : EngineOnly n s (s.setFld (Reg.pkeStatus n) hi lo v) :=
  s.setReg_engineOnly n _ (inEngine_low n (by decide))

theorem State.raise_engineOnly : EngineOnly n s (s.raise 4 (1 + n)) where
  rest := rfl
  regs _ _ hpend := (s.reg_raise _ _ _).trans (if_neg hpend)

theorem State.pkeLatch_engineOnly (status : Nat) (refused : Bool) : EngineOnly n s (s.pkeLatch n status refused) := by
  have hcount (t : State) (b : Bool) {o : Nat} (ho : o < 0x2000) :
      EngineOnly n t (if b = true then t.count (Reg.pkeBase n + o) 1 else t) := by
    cases b
    · exact EngineOnly.refl t n
    · exact t.count_engineOnly n 1 (inEngine_low n ho)
  unfold State.pkeLatch
  exact (s.setFld_pkeStatus_engineOnly n 23 16 status).trans ((hcount _ refused (by decide)).trans
    ((hcount _ (status = 0 || status = P_SIG_INVALID) (by decide)).trans (State.raise_engineOnly _ n)))

/-! ### What a latched status shows (R440) -/

variable {n} in
theorem inEngine.below {x : Nat} (h : inEngine n x) (hn : n < 3) : x < 0x40_0000 := by
  obtain ⟨-, hx⟩ := h
  unfold Reg.pkeBase at hx
  omega

variable {n} in
theorem inEngine.ne_pend {x : Nat} (h : inEngine n x) (hn : n < 3) (i : Nat) : x ≠ Reg.carPendSet 4 i :=
  fun hx => Nat.lt_irrefl _ (Nat.lt_of_lt_of_le (h.below hn) (hx ▸ carPendSet_above 4 i))

/-- Beside its status an engine's latch writes two counters and raises a source. -/
theorem State.reg_pkeLatch (status : Nat) (refused : Bool) {x : Nat} (hrefused : x ≠ Reg.pkeRefused n)
    (hopcnt : x ≠ Reg.pkeOpcnt n) (hpend : x ≠ Reg.carPendSet 4 ((1 + n) / 64)) :
    (s.pkeLatch n status refused).reg x = (s.setFld (Reg.pkeStatus n) 23 16 status).reg x := by
  have hcount (t : State) (b : Bool) {a : Nat} (ha : x ≠ a) : (if b = true then t.count a 1 else t).reg x = t.reg x := by
    cases b
    · rfl
    · exact t.reg_setReg_ne _ ha
  unfold State.pkeLatch
  exact ((State.reg_raise _ _ _ _).trans (if_neg hpend)).trans
    ((hcount _ (status = 0 || status = P_SIG_INVALID) hopcnt).trans (hcount _ refused hrefused))

theorem pkeOpmem_ne_low {i o : Nat} (ho : o < 0x1000) : Reg.pkeOpmem n i ≠ Reg.pkeBase n + o := by
  unfold Reg.pkeOpmem
  omega

variable {n} (hn : n < 3)
include hn

theorem State.pkeLatch_status (status : Nat) (refused : Bool) :
    (s.pkeLatch n status refused).reg (Reg.pkeStatus n) = (s.setFld (Reg.pkeStatus n) 23 16 status).reg (Reg.pkeStatus n) :=
  s.reg_pkeLatch n status refused (by unfold Reg.pkeStatus Reg.pkeRefused; omega)
    (by unfold Reg.pkeStatus Reg.pkeOpcnt; omega) (inEngine.ne_pend (inEngine_low n (by decide)) hn _)

theorem State.pkeLatch_shows (status : Nat) (refused : Bool) :
    bits ((s.pkeLatch n status refused).reg (Reg.pkeStatus n)) 23 16 = status % 256 ∧
    bits ((s.pkeLatch n status refused).reg (Reg.pkeStatus n)) 0 0 = bits (s.reg (Reg.pkeStatus n)) 0 0 := by
  rw [s.pkeLatch_status hn]
  exact ⟨s.fld_setFld_self _ _ (by decide) (by decide), s.fld_setFld_apart _ _ (by decide) (by decide) (by decide)⟩

theorem State.pkeLatch_opmem (status : Nat) (refused : Bool) {i : Nat} (hi : i < 512) :
    (s.pkeLatch n status refused).reg (Reg.pkeOpmem n i) = s.reg (Reg.pkeOpmem n i) :=
  (s.reg_pkeLatch n status refused (pkeOpmem_ne_low n (by decide)) (pkeOpmem_ne_low n (by decide))
    ((inEngine_pkeOpmem n hi).ne_pend hn _)).trans (s.reg_setFld_ne _ _ _ (pkeOpmem_ne_low n (by decide)))

end

/-! ### Operand memory -/

section
variable (s : State) (n : Nat)

theorem State.reg_opmemFree {x : Nat} (hx : ∀ i < 512, x ≠ Reg.pkeOpmem n i) : (s.opmemFree n).reg x = s.reg x :=
  State.reg_setRegs_ne (Reg.pkeOpmem n) _ _ s.draw (fun i hi => hx i (List.mem_range.mp hi))

theorem State.opmemFree_status : (s.opmemFree n).reg (Reg.pkeStatus n) = s.reg (Reg.pkeStatus n) :=
  s.reg_opmemFree n (fun _ _ hx => pkeOpmem_ne_low n (o := 0) (by decide) hx.symm)

theorem State.reg_opmemZero {i : Nat} (hi : i < 512) : (s.opmemZero n).reg (Reg.pkeOpmem n i) = 0 :=
  State.reg_zeroRegs (Reg.pkeOpmem n) _ s (.inr ⟨i, List.mem_range.mpr hi, rfl⟩)

theorem State.opmemZero_status : (s.opmemZero n).reg (Reg.pkeStatus n) = s.reg (Reg.pkeStatus n) :=
  State.reg_setRegs_ne (Reg.pkeOpmem n) (fun _ => 0) _ s (fun _ _ hx => pkeOpmem_ne_low n (o := 0) (by decide) hx.symm)

end

/-! ### A VALIDATE that the Keystone controller lets an engine make (R289) -/

section
variable (s : State) {n : Nat} (hn : n < 3)

theorem State.pkeValidate_engineOnly (n status : Nat) : EngineOnly n s (s.pkeValidate n status) :=
  (s.opmemFree_engineOnly n).trans ((State.setFld_pkeStatus_engineOnly _ n 15 8 0x9A).trans
    (State.pkeLatch_engineOnly _ n status _))

include hn

theorem State.pkeValidate_status : bits ((s.pkeValidate n 0).reg (Reg.pkeStatus n)) 23 8 = 0x9A := by
  have hjoin (v : Nat) : bits v 23 8 = bits v 15 8 + 256 * bits v 23 16 := by
    simp only [bits, Nat.shiftRight_eq_div_pow]
    omega
  rw [hjoin, State.pkeValidate, State.pkeLatch_status _ hn, State.fld_setFld_self _ _ _ (by decide) (by decide),
    State.fld_setFld_apart _ _ _ (by decide) (by decide) (by decide),
    State.fld_setFld_self _ _ _ (by decide) (by decide)]
  decide

/-- The VALIDATE of a valid key is counted, and raises the engine's source. -/
theorem State.reg_pkeValidate {x : Nat} (hstatus : x ≠ Reg.pkeStatus n) (hopmem : ∀ i < 512, x ≠ Reg.pkeOpmem n i) :
    (s.pkeValidate n 0).reg x = if x = Reg.carPendSet 4 0 then s.reg x ||| 1 <<< (1 + n)
      else if x = Reg.pkeOpcnt n then min (s.reg x + 1) (2 ^ 32 - 1) else s.reg x := by
  have hsteps : s.pkeValidate n 0 = ((((s.opmemFree n).setFld (Reg.pkeStatus n) 15 8 0x9A).setFld (Reg.pkeStatus n) 23 16
    0).count (Reg.pkeOpcnt n) 1).raise 4 (1 + n) := rfl
  have hpend : (1 + n) / 64 = 0 ∧ (1 + n) % 64 = 1 + n := by omega
  have hfree : (((s.opmemFree n).setFld (Reg.pkeStatus n) 15 8 0x9A).setFld (Reg.pkeStatus n) 23 16 0).reg x = s.reg x := by
    rw [State.reg_setFld_ne _ _ _ _ hstatus, State.reg_setFld_ne _ _ _ _ hstatus, s.reg_opmemFree n hopmem]
  rw [hsteps, State.reg_raise, State.reg_count, hpend.1, hpend.2, hfree]
  by_cases hcnt : x = Reg.pkeOpcnt n
  · have hne : x ≠ Reg.carPendSet 4 0 := hcnt ▸ (inEngine_low n (o := 0x10) (by decide)).ne_pend hn 0
    rw [if_neg hne, if_neg hne, if_pos hcnt, if_pos hcnt, ← hcnt, hfree]
  · rw [if_neg hcnt, if_neg hcnt]

theorem State.pkeValidate_opcnt :
    (s.pkeValidate n 0).reg (Reg.pkeOpcnt n) = min (s.reg (Reg.pkeOpcnt n) + 1) (2 ^ 32 - 1) := by
  have hstatus : Reg.pkeOpcnt n ≠ Reg.pkeStatus n := by
    unfold Reg.pkeOpcnt Reg.pkeStatus
    omega
  have hpend : Reg.pkeOpcnt n ≠ Reg.carPendSet 4 0 := (inEngine_low n (o := 0x10) (by decide)).ne_pend hn 0
  rw [s.reg_pkeValidate hn hstatus (fun _ _ hx => pkeOpmem_ne_low n (o := 0x10) (by decide) hx.symm), if_neg hpend,
    if_pos rfl]

theorem State.pkeValidate_source :
    (s.pkeValidate n 0).reg (Reg.carPendSet 4 0) = s.reg (Reg.carPendSet 4 0) ||| 1 <<< (1 + n) := by
  have hstatus : Reg.carPendSet 4 0 ≠ Reg.pkeStatus n := ((inEngine_low n (o := 0) (by decide)).ne_pend hn 0).symm
  rw [s.reg_pkeValidate hn hstatus (fun _ hi => ((inEngine_pkeOpmem n hi).ne_pend hn 0).symm), if_pos rfl]

end

end Sys2Proof.Machine
end

/-! ## Session contexts (R287 to R290) -/

section
open Sys2Proof Sys2Proof.Machine
namespace Sys2Proof.Machine

/-! ### Bytes and fields -/

theorem byteAt_eq_field (bs : List Byte) (i : Nat) : byteAt bs i = field bs i i := by
  rw [byteAt, field, Nat.add_sub_cancel_left]
  induction bs generalizing i with
  | nil => simp [leNat]
  | cons b bs ih =>
    cases i with
    | zero => simp [leNat]
    | succ i => exact ih i

theorem byteAt_patch_zero (c : List Byte) (x : Byte) (b : Nat) :
    byteAt (patch c 0 [x]) b = if b = 0 then x.toNat else byteAt c b := by
  cases b with
  | zero => rfl
  | succ b =>
    rw [if_neg (Nat.succ_ne_zero b)]
    cases c <;> rfl

theorem byteAt_zero_patch (x : Byte) (l xs : List Byte) (k : Nat) : byteAt (patch (x :: l) (k + 1) xs) 0 = x.toNat := rfl

theorem ctxState_eq_bits (c : List Byte) : ctxState c = bits (byteAt c 0) 1 0 := rfl

theorem ofNat_byte_toNat (v : Nat) : (BitVec.ofNat 8 v).toNat = v % 2 ^ 8 := BitVec.toNat_ofNat v 8

/-- A context whose STATE has been written. -/
theorem ctxState_setState (c : List Byte) (v k : Nat) : ctxState (patch c 0 (leBytes 1 (setBits v 1 0 k))) = k % 4 := by
  rw [ctxState_eq_bits, leBytes, leBytes, byteAt_patch_zero, if_pos rfl, ofNat_byte_toNat, bits_mod_two_pow _ (by decide),
    bits_setBits_self _ _ (by decide)]
  rfl

/-! ### The context of a new session (R289) -/

/-- The context that SESS_OPEN writes in bell `bell`: STATE BINDING, the operands, and zeros. -/
def openContext (pset : BitVec 8) (auto : Bool) (region floor : BitVec 16) (defer : BitVec 8) (scratch0 scratch1 : Dpa)
    (key : List Byte) (bell : Nat) : List Byte :=
  leBytes 1 (1 + ofBool auto * 4) ++ leBytes 1 pset.toNat ++ leBytes 2 region.toNat ++ leBytes 2 floor.toNat ++
    leBytes 1 defer.toNat ++ leBytes 1 0 ++ leBytes 8 0 ++ (key ++ List.replicate 57 0).take 57 ++ leBytes 7 0 ++ leBytes 8 0 ++
    leBytes 8 scratch0.toNat ++ leBytes 8 scratch1.toNat ++ leBytes 44 0 ++ leBytes 8 bell ++ leBytes 100 0

section
variable {pset : BitVec 8} {auto : Bool} {region floor : BitVec 16} {defer : BitVec 8} {scratch0 scratch1 : Dpa}
  {key : List Byte} {bell : Nat}

/-- A context with the operands of a SESS_OPEN, BINDING, and with nothing touched. -/
structure Opened (pset : BitVec 8) (auto : Bool) (region floor : BitVec 16) (defer : BitVec 8) (scratch0 scratch1 : Dpa)
    (key c : List Byte) : Prop where
  state : ctxState c = 1
  auto : ctxAuto c = auto
  pset : pset.toNat < 32 → ctxPset c = pset.toNat
  region : ctxRegion c = region.toNat
  floor : ctxFloor c = floor.toNat
  defer : byteAt c 6 = defer.toNat
  key : ctxKey c = (key ++ List.replicate 57 0).take 57
  scratch0 : ctxScratch c 0 = scratch0.toNat
  scratch1 : ctxScratch c 1 = scratch1.toNat
  touched : ctxTouched c = 0
  pages : ctxPages c = 0

theorem openContext_opened :
    Opened pset auto region floor defer scratch0 scratch1 key
      (openContext pset auto region floor defer scratch0 scratch1 key bell) := by
  generalize hc : openContext pset auto region floor defer scratch0 scratch1 key bell = c
  have h0 : byteAt c 0 = 1 + ofBool auto * 4 := by
    rw [← hc]
    cases auto <;> rfl
  have h44 : leBytes 44 0 = leBytes 8 0 ++ (leBytes 32 0 ++ leBytes 4 0) := by decide
  rw [openContext, h44] at hc
  simp only [List.append_assoc] at hc
  have h1 : byteAt c 1 = pset.toNat % 256 := by
    rw [← hc, byteAt_eq_field]
    simp (disch := simp) [field_append_right, field_leBytes_append]
  constructor
  case state =>
    rw [ctxState, h0]
    cases auto <;> rfl
  case auto =>
    rw [ctxAuto, h0]
    cases auto <;> rfl
  case pset =>
    intro hp
    rw [ctxPset, h1]
    omega
  case key =>
    rw [← hc, ctxKey]
    have hkey : ((key ++ List.replicate 57 0).take 57).length = 57 := by simp
    exact List.take_left' hkey
  case touched | pages =>
    rw [← hc]
    simp (disch := simp) [ctxTouched, ctxPages, field_append_right, field_leBytes_append]
  case region | floor | defer | scratch0 | scratch1 =>
    rw [← hc]
    simp (disch := simp) [ctxRegion, ctxFloor, ctxScratch, byteAt_eq_field, field_append_right, field_leBytes_append]
    omega

end

/-! ### Contexts and their table -/

theorem State.ctx_setCtx_self (s : State) (i : Nat) (c : List Byte) : (s.setCtx i c).ctx i = c := SMap.get_set_self _ _ _

theorem State.ctx_setCtx_ne (s : State) {i j : Nat} (c : List Byte) (h : j ≠ i) : (s.setCtx i c).ctx j = s.ctx j :=
  SMap.get_set_ne _ _ h

theorem State.reg_setCtx (s : State) (i : Nat) (c : List Byte) (x : Nat) : (s.setCtx i c).reg x = s.reg x := rfl

theorem State.ctx_congr {s t : State} (h : t.sess = s.sess) (i : Nat) : t.ctx i = s.ctx i := by
  rw [State.ctx, h, State.ctx]

theorem State.Alone.setCtx {s : State} {o : Origin} (ha : s.Alone o) (i : Nat) (c : List Byte) : (s.setCtx i c).Alone o := ha

theorem State.onSession_run {s : State} {o : Origin} {opcode i : Nat} {states : List Nat} (run : State → List Byte → State)
    (heng : s.ringEngine o = 9) (hi : i < 16384) (hstate : ctxState (s.ctx i) ∈ states) :
    s.onSession o opcode i states run = run s (s.ctx i) := by
  rw [State.onSession, State.onEngine_run _ _ heng, if_neg (Nat.not_le.mpr hi)]
  exact if_pos (List.contains_iff_mem.mpr hstate)

theorem State.pkeAny_lt {s : State} {n : Nat} (h : s.pkeAny = some n) : n < 3 :=
  List.mem_range.mp (List.mem_of_find?_eq_some h)

/-- Work on an engine leaves a command's completion its record alone. -/
theorem EngineOnly.alone {n : Nat} {s t : State} {o : Origin} (h : EngineOnly n s t) (hn : n < 3) (ha : s.Alone o) :
    t.Alone o := by
  have hreg {x : Nat} (hx : 0x50_0000 ≤ x) : t.reg x = s.reg x := by
    refine h.regs x (fun hin => ?_) ?_
    · have := hin.below hn
      omega
    · unfold Reg.carPendSet Reg.carBase
      rw [if_neg (by decide)]
      omega
  refine ha.of_regs (congrArg State.runs h.rest :) (congrArg State.rings h.rest :) (hreg (by decide)) (hreg ?_) (hreg ?_)
  · unfold Reg.sprRingCfg Reg.spireBase
    omega
  · unfold Reg.sprRingCompBase Reg.spireBase
    omega

/-- A context written after work on an engine: beside sessions, registers and free values nothing has changed. -/
theorem EngineOnly.setCtx_rest {n : Nat} {s t : State} (h : EngineOnly n s t) (i : Nat) (c : List Byte) :
    { t.setCtx i c with sess := s.sess, ctl := s.ctl, free := s.free } = s :=
  (congrArg (fun u : State => { u with sess := s.sess }) h.rest :)

theorem EngineOnly.ctx_setCtx_ne {n : Nat} {s t : State} (h : EngineOnly n s t) {i j : Nat} (c : List Byte) (hj : j ≠ i) :
    (t.setCtx i c).ctx j = s.ctx j := (t.ctx_setCtx_ne c hj).trans (State.ctx_congr h.sess j)

/-! ### SESS_OPEN -/

section
variable {o : Origin} {index : BitVec 16} {pset : BitVec 8} {auto : Bool} {region floor : BitVec 16} {defer : BitVec 8}
  {scratch0 scratch1 : Dpa} {key : List Byte} {s : State} (heng : s.ringEngine o = 9) (hi : index.toNat < 16384)
  (hstate : ctxState (s.ctx index.toNat) = 0)
include heng hi hstate

theorem exec_sessOpen_waits (hany : s.pkeAny = none) :
    exec (.sessOpen o index pset auto region floor defer scratch0 scratch1 key) s = .next s := by
  show Host.Outcome.next (s.onSession o 0x80 index.toNat [0] _) = _
  rw [State.onSession_run _ heng hi (List.mem_singleton.mpr hstate), hany]

theorem exec_sessOpen_opens {n : Nat} (hany : s.pkeAny = some n) (hkey : firstStatus (edPointBad key) = 0)
    (hpset : pset.toNat < 32) (hvalid : (s.pset o.spire.val pset.toNat).valid = true)
    (h0 : outside (s.region region.toNat) scratch0.toNat 64 = none)
    (h1 : outside (s.region region.toNat) scratch1.toNat 64 = none) (hlife : s.fld Reg.fuseLifecycle 2 0 ≠ 3) :
    exec (.sessOpen o index pset auto region floor defer scratch0 scratch1 key) s =
      .next (((s.pkeValidate n 0).setCtx index.toNat
        (openContext pset auto region floor defer scratch0 scratch1 key (s.pkeValidate n 0).bellNum)).completeOk o 0x80) := by
  show Host.Outcome.next (s.onSession o 0x80 index.toNat [0] _) = _
  rw [State.onSession_run _ heng hi (List.mem_singleton.mpr hstate), hany]
  dsimp only
  rw [hkey, hvalid, h0, h1, if_neg (by decide), if_neg, openContext]
  simp only [decide_eq_false hlife, decide_eq_false (Nat.not_le.mpr hpset)]
  decide

end

/-! ### SESS_POLICY -/

/-- A context with AUTO_ANNEAL, FLOOR and DEFER_LIMIT written (R290). -/
def policyContext (c : List Byte) (floor : BitVec 16) (auto : Bool) (defer : BitVec 8) : List Byte :=
  patch (patch c 0 [BitVec.ofNat 8 (setBits (byteAt c 0) 2 2 (ofBool auto))]) 4 (leBytes 2 floor.toNat ++ leBytes 1 defer.toNat)

section
variable (c : List Byte) (floor : BitVec 16) (auto : Bool) (defer : BitVec 8)

theorem byteAt_policyContext_zero :
    byteAt (policyContext c floor auto defer) 0 = setBits (byteAt c 0) 2 2 (ofBool auto) % 2 ^ 8 :=
  (byteAt_zero_patch _ (c.drop 1) _ 3).trans (ofNat_byte_toNat _)

theorem ctxState_policyContext : ctxState (policyContext c floor auto defer) = ctxState c := by
  rw [ctxState_eq_bits, byteAt_policyContext_zero, bits_mod_two_pow _ (by decide), bits_setBits_apart _ _ (by decide)
    (by decide), ctxState_eq_bits]

theorem ctxAuto_policyContext : ctxAuto (policyContext c floor auto defer) = auto := by
  rw [ctxAuto, byteAt_policyContext_zero, bit_mod_two_pow _ (by decide), bit_setBits _ _ (by decide), if_pos (by decide)]
  cases auto <;> rfl

end

theorem exec_sessPolicy {o : Origin} {index : BitVec 16} {s : State} (floor : BitVec 16) (auto : Bool) (defer : BitVec 8)
    (heng : s.ringEngine o = 9) (hi : index.toNat < 16384)
    (hstate : ctxState (s.ctx index.toNat) = 1 ∨ ctxState (s.ctx index.toNat) = 2) :
    exec (.sessPolicy o index floor auto defer) s =
      .next ((s.setCtx index.toNat (policyContext (s.ctx index.toNat) floor auto defer)).completeOk o 0x82) := by
  show Host.Outcome.next (s.onSession o 0x82 index.toNat [1, 2] _) = _
  rw [State.onSession_run _ heng hi (by simpa using hstate)]
  rfl

/-! ### SESS_QUERY -/

theorem exec_sessQuery {o : Origin} {index : BitVec 16} {dst : Dpa} {s u : State} (heng : s.ringEngine o = 9)
    (hi : index.toNat < 16384) (hput : s.keyPut o dst.toNat (s.ctx index.toNat) = (u, none)) :
    exec (.sessQuery o index dst) s = .next (u.completeOk o 0x84) := by
  have hstate : ctxState (s.ctx index.toNat) ∈ [0, 1, 2, 3] := by
    have : ctxState (s.ctx index.toNat) < 4 := Nat.mod_lt _ (by decide)
    interval_cases ctxState (s.ctx index.toNat) <;> decide
  show Host.Outcome.next (s.onSession o 0x84 index.toNat [0, 1, 2, 3] _) = _
  rw [State.onSession_run _ heng hi hstate, hput]

/-- A write that reaches companion memory puts its bytes there, and nothing else (R21, R400). -/
theorem State.keyPut_companion {s u : State} {o : Origin} {a p : Nat} {bs : List Byte} (hloc : s.loc a = .companion p)
    (hput : s.keyPut o a bs = (u, none)) :
    u = { s with companion := SMap.setRun (fun _ => 0) s.companion p bs } := by
  have hsettle : s.settle a = s := by
    unfold State.settle
    rw [hloc]
  unfold State.keyPut at hput
  split at hput
  · cases hput
  · unfold State.putRange at hput
    dsimp only at hput
    rw [hsettle, hloc] at hput
    dsimp only at hput
    split at hput
    · rw [State.memPut, hloc] at hput
      cases hput
      rfl
    · cases hput

/-! ### SESS_BIND -/

section
variable {o : Origin} {index : BitVec 16} {manifest : Dpa} {len : BitVec 32} {comp : Word} {m : List Byte} {n : Nat}
  {s u : State} (heng : s.ringEngine o = 9) (hi : index.toNat < 16384) (hstate : ctxState (s.ctx index.toNat) = 1)
  (hany : s.pkeAny = some n) (hlen : len.toNat ≤ 2 ^ 20) (hget : s.keyGet o manifest.toNat len.toNat = (u, .ok m))
include heng hi hstate hany hlen hget

theorem exec_sessBind :
    exec (.sessBind o index manifest len comp) s = .next
      (match manBad index.toNat (s.ctx index.toNat) (u.pset o.spire.val (ctxPset (s.ctx index.toNat))).cur m with
        | some reason => u.completeFault o 0x81 (sessFault reason index.toNat 1)
        | none => u.bindBegin { o := o, index := index.toNat, manifest := m, comp := comp.toNat, engine := n }) := by
  show Host.Outcome.next (s.onSession o 0x81 index.toNat [1] _) = _
  rw [State.onSession_run _ heng hi (List.mem_singleton.mpr hstate), hany]
  dsimp only
  rewrite [if_neg (Nat.not_lt.mpr hlen), hget]
  rfl

end

theorem State.reg_setBinds (s : State) (l : List BindJob) (x : Nat) : ({ s with binds := l } : State).reg x = s.reg x := rfl

/-- The verification of a manifest shows as an ED448_VERIFY on its engine (R293, R433). -/
theorem State.bindBegin_shows (s : State) (b : BindJob) :
    bits ((s.bindBegin b).reg (Reg.pkeStatus b.engine)) 0 0 = 1 ∧
    bits ((s.bindBegin b).reg (Reg.pkeStatus b.engine)) 15 8 = 0x90 := by
  rw [State.bindBegin, State.reg_setBinds]
  refine ⟨State.fld_setFld_self _ _ _ (by decide) (by decide), ?_⟩
  rw [State.fld_setFld_apart _ _ _ (by decide) (by decide) (by decide), State.fld_setFld_self _ _ _ (by decide) (by decide)]
  rfl

theorem State.reg_bindBegin (s : State) (b : BindJob) {x : Nat} (hstatus : x ≠ Reg.pkeStatus b.engine)
    (hopmem : ∀ j < 512, x ≠ Reg.pkeOpmem b.engine j) : (s.bindBegin b).reg x = s.reg x := by
  rw [State.bindBegin, State.reg_setBinds, State.reg_setFld_ne _ _ _ _ hstatus, State.reg_setFld_ne _ _ _ _ hstatus,
    s.reg_opmemFree b.engine hopmem]

theorem State.bindBegin_rest (s : State) (b : BindJob) :
    { s.bindBegin b with binds := s.binds, ctl := s.ctl, free := s.free } = s := by
  have hset (t : State) (a hi lo v hi' lo' v' : Nat) (l : List BindJob) (h : { t with ctl := s.ctl, free := s.free } = s) :
      { ({ (t.setFld a hi lo v).setFld a hi' lo' v' with binds := l } : State) with
        binds := s.binds, ctl := s.ctl, free := s.free } = s :=
    (congrArg (fun w : State => { w with binds := s.binds }) h :)
  exact hset _ _ _ _ _ _ _ _ _ (s.opmemFree_engineOnly b.engine).rest

end Sys2Proof.Machine
end

/-! ## The verification of a manifest ends (R292, R293, R305, R441) -/

section
open Sys2Proof Sys2Proof.Machine
namespace Sys2Proof.Machine

theorem State.completeOk_keyRegs (s : State) (o : Origin) (opcode : Nat) (result : List Byte) :
    (s.completeOk o opcode result).keyRegs = s.keyRegs := s.complete_keyRegs o opcode result none []

section
variable {s t : State} (h : t.offRecords = s.offRecords)
include h

theorem State.binds_of_offRecords : t.binds = s.binds := (congrArg State.binds h :)

theorem State.sess_of_offRecords : t.sess = s.sess := (congrArg State.sess h :)

theorem State.closes_of_offRecords : t.closes = s.closes := (congrArg State.closes h :)

end

theorem State.reg_pke_of_keyRegs {s t : State} (h : t.keyRegs = s.keyRegs) {n : Nat} (hn : n < 3) {x : Nat}
    (hx : inEngine n x) : t.reg x = s.reg x := State.reg_of_keyRegs h (hx.below hn)

theorem inEngine_pkeStatus (n : Nat) : inEngine n (Reg.pkeStatus n) := inEngine_low n (by decide)

/-- An access of memory leaves a command's completion its record alone. -/
theorem State.Alone.of_offMemory {s t : State} {o : Origin} (ha : s.Alone o) (h : t.offMemory = s.offMemory) : t.Alone o := by
  refine ha.of_regs (congrArg State.runs h :) (congrArg State.rings h :) (State.reg_of_offMemory h (by decide))
    (State.reg_of_offMemory h (decide_eq_true ?_)) (State.reg_of_offMemory h (decide_eq_true ?_))
  all_goals
    have hr := o.ring.isLt
    simp only [Reg.sprRingCfg, Reg.sprRingCompBase, Reg.spireBase]
    omega

/-! ### BIND_VERIFY_COMPLETE -/

/-- The verification of `b` has ended with a status, which its engine shows (R440). -/
def State.bindVerified (s : State) (b : BindJob) (status : Nat) : State :=
  ((s.bindEnd b).opmemFree b.engine).pkeLatch b.engine status (status ≠ 0 && status ≠ P_SIG_INVALID)

/-- The context of a session that becomes BOUND, with its map (R293, R295). -/
def boundContext (c m : List Byte) (resmap : Nat) : List Byte :=
  let c := patch (patch c 80 (leBytes 8 resmap)) 112 (Crypto.shake256 m 32 ++ leBytes 4 (manPages m))
  patch (patch c 8 ((m.drop 24).take 8)) 0 (leBytes 1 (setBits (byteAt c 0) 1 0 2))

/-- The state in which a session whose manifest has been verified is BOUND, before its record. -/
def State.bound (v : State) (i resmap : Nat) (b : BindJob) : State :=
  (v.memPut 0 resmap (mapBytes b.manifest b.comp)).setCtx i (boundContext (v.ctx i) b.manifest resmap)

theorem ctxState_boundContext (c m : List Byte) (resmap : Nat) : ctxState (boundContext c m resmap) = 2 :=
  ctxState_setState _ _ 2

section
variable {s : State} {b : BindJob} (status : Nat)

theorem State.bindVerified_engineOnly :
    EngineOnly b.engine { s with binds := s.binds.erase b } (s.bindVerified b status) :=
  (State.setFld_pkeStatus_engineOnly { s with binds := s.binds.erase b } b.engine 0 0 0).trans
    ((State.opmemFree_engineOnly _ b.engine).trans (State.pkeLatch_engineOnly _ b.engine status _))

theorem State.bindVerified_shows (hn : b.engine < 3) :
    bits ((s.bindVerified b status).reg (Reg.pkeStatus b.engine)) 0 0 = 0 ∧
    bits ((s.bindVerified b status).reg (Reg.pkeStatus b.engine)) 23 16 = status % 256 := by
  obtain ⟨hstatus, hbusy⟩ := State.pkeLatch_shows ((s.bindEnd b).opmemFree b.engine) hn status
    (status ≠ 0 && status ≠ P_SIG_INVALID)
  refine ⟨hbusy.trans ?_, hstatus⟩
  rw [State.opmemFree_status, State.bindEnd, State.reg_setBinds]
  exact State.fld_setFld_self _ _ _ (by decide) (by decide)

theorem State.bindVerified_sess : (s.bindVerified b status).sess = s.sess :=
  (State.bindVerified_engineOnly status).sess

theorem State.bindVerified_binds : (s.bindVerified b status).binds = s.binds.erase b :=
  (State.bindVerified_engineOnly status).binds

theorem State.bindVerified_regions : (s.bindVerified b status).regions = s.regions :=
  (State.bindVerified_engineOnly status).regions

theorem State.bindVerified_alone (hn : b.engine < 3) (ha : s.Alone b.o) : (s.bindVerified b status).Alone b.o :=
  (State.bindVerified_engineOnly status).alone hn ha

end

section
variable {v : State} {b : BindJob} {i resmap : Nat}

/-- Beside the context the map alone has been written. -/
theorem State.bound_rest : { v.bound i resmap b with sess := v.sess } = v.memPut 0 resmap (mapBytes b.manifest b.comp) := by
  rw [← State.sess_of_offMemory (v.memPut_offMemory 0 resmap (mapBytes b.manifest b.comp) 0x4000), State.bound, State.setCtx]

theorem State.bound_binds : (v.bound i resmap b).binds = v.binds :=
  (congrArg State.binds (v.memPut_offMemory 0 resmap (mapBytes b.manifest b.comp) 0x4000) :)

theorem State.bound_keyRegs : (v.bound i resmap b).keyRegs = v.keyRegs :=
  v.memPut_keyRegs 0 resmap (mapBytes b.manifest b.comp) 0x4000

theorem State.bound_alone (ha : v.Alone b.o) : (v.bound i resmap b).Alone b.o :=
  State.Alone.of_offMemory (t := v.memPut 0 resmap (mapBytes b.manifest b.comp)) ha (v.memPut_offMemory _ _ _ _)

theorem State.ctx_bound_self : (v.bound i resmap b).ctx i = boundContext (v.ctx i) b.manifest resmap :=
  State.ctx_setCtx_self _ _ _

theorem State.ctx_bound_ne {j : Nat} (h : j ≠ i) : (v.bound i resmap b).ctx j = v.ctx j :=
  (State.ctx_setCtx_ne _ _ h).trans
    (State.ctx_congr (State.sess_of_offMemory (v.memPut_offMemory 0 resmap (mapBytes b.manifest b.comp) 0x4000)) j)

end

/-- The verification of `b` makes its session BOUND, or refuses the SESS_BIND and leaves the session BINDING. -/
theorem exec_bindVerifyComplete {index : Fin 16384} {resmap : Dpa} {b : BindJob} {s : State} {st size : Nat} {v : State}
    (hfind : s.binds.find? (fun e => e.index = index.val) = some b) (hstate : ctxState (s.ctx index.val) = 1)
    (hst : st = signatureStatus (ctxKey (s.ctx index.val)) (b.manifest.take (b.manifest.length - 114))
      (b.manifest.drop (b.manifest.length - 114)))
    (hsize : size = mapSize (manKeys b.manifest) (manSeeds b.manifest) (manPages b.manifest))
    (hv : v = s.bindVerified b st) :
    exec (.bindVerifyComplete index resmap) s = .next
      (if st = 0 ∧ outside (s.region (ctxRegion (s.ctx index.val))) resmap.toNat size = none ∧
          v.firstUnmapped resmap.toNat size = none then
        (v.bound index.val resmap.toNat b).completeOk b.o 0x81 ((b.manifest.drop 24).take 8)
      else v.completeFault b.o 0x81 (sessFault (if st = 0 then 0x16 else 0x11) index.val 1)) := by
  have hregion (n : Nat) : v.region n = s.region n := by
    rw [State.region, hv, State.bindVerified_regions, State.region]
  have hctx : v.ctx index.val = s.ctx index.val := State.ctx_congr (hv ▸ State.bindVerified_sess st) _
  show execBindVerifyComplete index resmap s = _
  unfold execBindVerifyComplete
  dsimp only
  rw [hfind]
  dsimp only
  rw [← hst, ← hsize, ← State.bindVerified, ← hv, if_neg (not_not.mpr hstate), hregion]
  have hfits : ((outside (s.region (ctxRegion (s.ctx index.val))) resmap.toNat size).isSome ||
      (v.firstUnmapped resmap.toNat size).isSome) = true ↔ ¬ (outside (s.region (ctxRegion (s.ctx index.val)))
      resmap.toNat size = none ∧ v.firstUnmapped resmap.toNat size = none) := by
    rw [Bool.or_eq_true, Option.isSome_iff_ne_none, Option.isSome_iff_ne_none, not_and_or]
  by_cases h0 : st = 0
  · rw [if_neg (not_not.mpr h0)]
    by_cases hok : outside (s.region (ctxRegion (s.ctx index.val))) resmap.toNat size = none ∧
        v.firstUnmapped resmap.toNat size = none
    · rw [if_neg (mt hfits.mp (not_not.mpr hok)), if_pos (And.intro h0 hok), State.bound, hctx]
      rfl
    · rw [if_pos (hfits.mpr hok), if_neg (fun h : st = 0 ∧ _ => hok h.2), if_pos h0, hstate]
  · rw [if_pos h0, if_neg (fun h : st = 0 ∧ _ => h0 h.1), if_neg h0, hstate]

/-- From `s` to `t` the verification of `b` has ended, its engine idle and showing a status; no other session has changed. -/
structure VerifyEnded (b : BindJob) (status : Nat) (s t : State) : Prop where
  binds : t.binds = s.binds.erase b
  others : ∀ j, j ≠ b.index → t.ctx j = s.ctx j
  idle : bits (t.reg (Reg.pkeStatus b.engine)) 0 0 = 0
  status : bits (t.reg (Reg.pkeStatus b.engine)) 23 16 = status % 256

section
variable {b : BindJob} {status : Nat} {s t u : State} (hn : b.engine < 3)
include hn

theorem State.bindVerified_ended : VerifyEnded b status s (s.bindVerified b status) := by
  obtain ⟨hidle, hstatus⟩ := State.bindVerified_shows (s := s) status hn
  exact ⟨State.bindVerified_binds status, fun j _ => State.ctx_congr (State.bindVerified_sess status) j, hidle, hstatus⟩

theorem VerifyEnded.bound {resmap : Nat} (h : VerifyEnded b status s t) :
    VerifyEnded b status s (t.bound b.index resmap b) where
  binds := State.bound_binds.trans h.binds
  others j hj := (State.ctx_bound_ne hj).trans (h.others j hj)
  idle := by rw [State.reg_pke_of_keyRegs State.bound_keyRegs hn (inEngine_pkeStatus _), h.idle]
  status := by rw [State.reg_pke_of_keyRegs State.bound_keyRegs hn (inEngine_pkeStatus _), h.status]

/-- The record of the SESS_BIND changes none of it. -/
theorem VerifyEnded.recorded (h : VerifyEnded b status s t) (hrec : u.offRecords = t.offRecords)
    (hregs : u.keyRegs = t.keyRegs) : VerifyEnded b status s u where
  binds := (State.binds_of_offRecords hrec).trans h.binds
  others j hj := (State.ctx_congr (State.sess_of_offRecords hrec) j).trans (h.others j hj)
  idle := by rw [State.reg_pke_of_keyRegs hregs hn (inEngine_pkeStatus _), h.idle]
  status := by rw [State.reg_pke_of_keyRegs hregs hn (inEngine_pkeStatus _), h.status]

end

/-- BIND_VERIFY_COMPLETE ends the verification, and a session that becomes BOUND completes its SESS_BIND alone. -/
theorem exec_bindVerifyComplete_ended {index : Fin 16384} {resmap : Dpa} {b : BindJob} {s : State} {st size : Nat} {v : State}
    (hfind : s.binds.find? (fun e => e.index = index.val) = some b) (ha : s.Alone b.o)
    (hstate : ctxState (s.ctx index.val) = 1) (hn : b.engine < 3)
    (hst : st = signatureStatus (ctxKey (s.ctx index.val)) (b.manifest.take (b.manifest.length - 114))
      (b.manifest.drop (b.manifest.length - 114)))
    (hsize : size = mapSize (manKeys b.manifest) (manSeeds b.manifest) (manPages b.manifest))
    (hv : v = s.bindVerified b st) :
    ∃ t, exec (.bindVerifyComplete index resmap) s = .next t ∧ VerifyEnded b st s t ∧
      (if st = 0 ∧ outside (s.region (ctxRegion (s.ctx index.val))) resmap.toNat size = none ∧
          v.firstUnmapped resmap.toNat size = none then
        ∃ u, Recorded b.o 0x81 ((b.manifest.drop 24).take 8) u t ∧ ctxState (u.ctx index.val) = 2 ∧
          { u with sess := v.sess } = v.memPut 0 resmap.toNat (mapBytes b.manifest b.comp)
      else t.sess = s.sess) := by
  have hindex : b.index = index.val := by simpa using List.find?_some hfind
  have hended : VerifyEnded b st s v := hv ▸ State.bindVerified_ended hn
  have hexec := exec_bindVerifyComplete (resmap := resmap) hfind hstate hst hsize hv
  refine ⟨_, hexec, ?_, ?_⟩ <;> split
  · rw [← hindex]
    exact (hended.bound hn).recorded hn (State.completeOk_offRecords _ _ _ _) (State.completeOk_keyRegs _ _ _ _)
  · exact hended.recorded hn (State.completeFault_offRecords _ _ _ _ _) (State.completeFault_keyRegs _ _ _ _ _)
  · refine ⟨_, completeOk_recorded 0x81 _ (State.bound_alone (hv ▸ State.bindVerified_alone st hn ha)), ?_,
      State.bound_rest⟩
    rw [State.ctx_bound_self, ctxState_boundContext]
  · rw [State.sess_of_offRecords (State.completeFault_offRecords _ _ _ _ _), hv, State.bindVerified_sess]

end Sys2Proof.Machine
end

/-! ## SESS_CLOSE (R288, R305, R441) -/

section
open Sys2Proof Sys2Proof.Machine
namespace Sys2Proof.Machine

/-! ### One verification is aborted -/

/-- Engine `n` shows an aborted operation: idle, P_ABORTED, and its operand memory zero (R441). -/
structure State.EngineAborted (s : State) (n : Nat) : Prop where
  idle : bits (s.reg (Reg.pkeStatus n)) 0 0 = 0
  status : bits (s.reg (Reg.pkeStatus n)) 23 16 = P_ABORTED
  zeroed : ∀ i < 512, s.reg (Reg.pkeOpmem n i) = 0

theorem State.EngineAborted.congr {s t : State} {n : Nat} (h : s.EngineAborted n)
    (hregs : ∀ x, inEngine n x → t.reg x = s.reg x) : t.EngineAborted n where
  idle := by rw [hregs _ (inEngine_pkeStatus n), h.idle]
  status := by rw [hregs _ (inEngine_pkeStatus n), h.status]
  zeroed i hi := by rw [hregs _ (inEngine_pkeOpmem n hi), h.zeroed i hi]

theorem inEngine.other {n m x : Nat} (h : inEngine n x) (hne : m ≠ n) : ¬ inEngine m x := by
  unfold inEngine Reg.pkeBase at *
  omega

/-- The state in which the SESS_BIND of an aborted verification completes. -/
def State.bindStopped (s : State) (b : BindJob) : State :=
  ((s.bindEnd b).opmemZero b.engine).pkeLatch b.engine P_ABORTED false

section
variable (s : State) (b : BindJob)

theorem State.bindStopped_engineOnly : EngineOnly b.engine { s with binds := s.binds.erase b } (s.bindStopped b) :=
  (State.setFld_pkeStatus_engineOnly { s with binds := s.binds.erase b } b.engine 0 0 0).trans
    ((State.opmemZero_engineOnly _ b.engine).trans (State.pkeLatch_engineOnly _ b.engine P_ABORTED false))

theorem State.bindStopped_aborted (hn : b.engine < 3) : (s.bindStopped b).EngineAborted b.engine := by
  obtain ⟨hstatus, hbusy⟩ := State.pkeLatch_shows ((s.bindEnd b).opmemZero b.engine) hn P_ABORTED false
  refine ⟨hbusy.trans ?_, hstatus, fun i hi => ?_⟩
  · rw [State.opmemZero_status, State.bindEnd, State.reg_setBinds]
    exact State.fld_setFld_self _ _ _ (by decide) (by decide)
  · exact (State.pkeLatch_opmem _ hn P_ABORTED false hi).trans (State.reg_opmemZero _ _ hi)

end

/-- Engines are distinct: the verification that runs on an engine is found by it. -/
theorem State.bindAbort_eq {s : State} {b : BindJob} (f : Nat → FaultInfo) (hmem : b ∈ s.binds)
    (hnodup : (s.binds.map (·.engine)).Nodup) :
    s.bindAbort b.engine f = (s.bindStopped b).completeFault b.o 0x81 (f b.index) := by
  have hfind : s.binds.find? (fun e => e.engine = b.engine) = some b := by
    obtain ⟨e, he⟩ := Option.isSome_iff_exists.mp
      (List.find?_isSome (p := fun e => decide (e.engine = b.engine)).mpr ⟨b, hmem, decide_eq_true rfl⟩)
    have hengine : e.engine = b.engine := by simpa using List.find?_some he
    rw [he, List.inj_on_of_nodup_map hnodup (List.mem_of_find?_eq_some he) hmem hengine]
  rw [State.bindAbort, hfind]
  rfl

/-! ### The verifications of a session -/

/-- From `s` to `t` the verifications of a list have been aborted: their engines show it, and the others are as before. -/
structure BindsAborted (l : List BindJob) (s t : State) : Prop where
  binds : t.binds = s.binds.diff l
  sess : t.sess = s.sess
  closes : t.closes = s.closes
  aborted : ∀ b ∈ l, b.engine < 3 → t.EngineAborted b.engine
  others : ∀ n < 3, (∀ b ∈ l, b.engine ≠ n) → ∀ x, inEngine n x → t.reg x = s.reg x

theorem State.completeFault_bindsAborted (s : State) (b : BindJob) (opcode : Nat) (f : FaultInfo) :
    BindsAborted [b] s ((s.bindStopped b).completeFault b.o opcode f) := by
  have honly := s.bindStopped_engineOnly b
  have hrec := (s.bindStopped b).completeFault_offRecords b.o opcode f []
  have hregs := (s.bindStopped b).completeFault_keyRegs b.o opcode f []
  refine ⟨?_, ?_, ?_, fun b' hb' hn => ?_, fun n hn hne x hx => ?_⟩
  · rw [List.diff_cons, List.diff_nil]
    exact (State.binds_of_offRecords hrec).trans honly.binds
  · exact (State.sess_of_offRecords hrec).trans honly.sess
  · exact (State.closes_of_offRecords hrec).trans honly.closes
  · rw [List.mem_singleton.mp hb'] at hn ⊢
    exact (s.bindStopped_aborted b hn).congr (fun x hx => State.reg_pke_of_keyRegs hregs hn hx)
  · rw [State.reg_pke_of_keyRegs hregs hn hx]
    exact honly.regs x (hx.other (hne b (List.mem_singleton_self b))) (hx.ne_pend hn _)

theorem BindsAborted.cons {b : BindJob} {l : List BindJob} {s t u : State} (h : BindsAborted [b] s t)
    (k : BindsAborted l t u) (hne : ∀ e ∈ l, e.engine ≠ b.engine) : BindsAborted (b :: l) s u where
  binds := by rw [k.binds, h.binds, List.diff_cons, List.diff_nil, List.diff_cons]
  sess := k.sess.trans h.sess
  closes := k.closes.trans h.closes
  aborted e he hn := by
    rcases List.mem_cons.mp he with rfl | he
    · exact (h.aborted e (List.mem_singleton_self e) hn).congr (k.others _ hn hne)
    · exact k.aborted e he hn
  others n hn hall x hx :=
    (k.others n hn (fun e he => hall e (List.mem_cons_of_mem b he)) x hx).trans
      (h.others n hn (fun e he => hall e (List.mem_singleton.mp he ▸ List.mem_cons_self)) x hx)

theorem State.bindAborts (f : Nat → FaultInfo) (l : List BindJob) {s : State} (hmem : ∀ b ∈ l, b ∈ s.binds)
    (hl : (l.map (·.engine)).Nodup) (hs : (s.binds.map (·.engine)).Nodup) :
    BindsAborted l s (l.foldl (fun (t : State) b => t.bindAbort b.engine f) s) := by
  induction l generalizing s with
  | nil => exact ⟨rfl, rfl, rfl, fun b hb => absurd hb List.not_mem_nil, fun _ _ _ _ _ => rfl⟩
  | cons b l ih =>
    obtain ⟨hb, hl⟩ := List.nodup_cons.mp hl
    have hne : ∀ e ∈ l, e.engine ≠ b.engine := fun e he heq => hb (List.mem_map.mpr ⟨e, he, heq⟩)
    rw [List.foldl_cons, State.bindAbort_eq f (hmem b List.mem_cons_self) hs]
    have hone := s.completeFault_bindsAborted b 0x81 (f b.index)
    generalize (s.bindStopped b).completeFault b.o 0x81 (f b.index) = t at hone ⊢
    have hbinds : t.binds = s.binds.erase b := by rw [hone.binds, List.diff_cons, List.diff_nil]
    refine hone.cons (ih ?_ hl ?_) hne
    · intro e he
      rw [hbinds]
      exact (List.mem_erase_of_ne (fun heq => hne e he (congrArg BindJob.engine heq))).mpr (hmem e (List.mem_cons_of_mem b he))
    · rw [hbinds]
      exact hs.sublist (List.erase_sublist.map _)

/-! ### The sealed operations of a session -/

/-- What the end of a sealed operation leaves of sessions and engines. -/
def State.sessionSide (s : State) : List BindJob × SMap (List Byte) × List CloseJob × SMap Word :=
  (s.binds, s.sess, s.closes, s.keyRegs)

theorem State.unpin_keyRegs (s : State) (c : SealOp) : (s.unpin c).keyRegs = s.keyRegs := by
  unfold State.unpin
  split
  · exact foldl_keeps State.keyRegs (fun t _ => t.memPut_keyRegs _ _ _ _) _ s
  · rfl

theorem State.sealFail_sessionSide (s : State) (sp k : Nat) (c : SealOp) (f : FaultInfo) :
    (s.sealFail sp k c f).sessionSide = s.sessionSide := by
  have hpins := s.unpin_offMemory c
  have hrec := ((s.unpin c).setSeal sp k none).completeFault_offRecords c.o 0x30 f (sealResult c.g.out.toNat [] c.bells)
  have hregs := ((s.unpin c).setSeal sp k none).completeFault_keyRegs c.o 0x30 f (sealResult c.g.out.toNat [] c.bells)
  refine Prod.ext ?_ (Prod.ext ?_ (Prod.ext ?_ ?_))
  · exact (State.binds_of_offRecords hrec).trans (congrArg State.binds hpins :)
  · exact (State.sess_of_offRecords hrec).trans (congrArg State.sess hpins :)
  · exact (State.closes_of_offRecords hrec).trans (congrArg State.closes hpins :)
  · exact hregs.trans (s.unpin_keyRegs c)

/-- Whether SESS_CLOSE ends a sealed operation at once: it is deferred, or an ANNEAL between slices (R305). -/
def SealOp.closesAtOnce (c : SealOp) : Bool :=
  c.phase = .deferred || (c.phase = .waiting && (match c.ann with | some a => a.began | none => false))

/-- The sealed operations of session `i` that a close ends, end (R305). -/
def State.sealsClosed (s : State) (i : Nat) : State :=
  (s.sealsWith i).foldl (fun (t : State) e =>
    if e.2.2.closesAtOnce then t.sealFail e.1 e.2.1 e.2.2.unheld (closedFault i) else t) s

theorem State.sealsClosed_sessionSide (s : State) (i : Nat) : (s.sealsClosed i).sessionSide = s.sessionSide := by
  refine foldl_keeps State.sessionSide (fun t e => ?_) _ s
  split
  · exact t.sealFail_sessionSide _ _ _ _
  · rfl

theorem State.sealsClosed_nil {s : State} {i : Nat} (h : s.sealsWith i = []) : s.sealsClosed i = s := by
  rw [State.sealsClosed, h, List.foldl_nil]

/-! ### The command -/

/-- The context of a session that closes. -/
def closingContext (c : List Byte) : List Byte := patch c 0 (leBytes 1 (setBits (byteAt c 0) 1 0 3))

/-- The verifications of session `i` end by its close. -/
def State.bindsClosed (s : State) (i : Nat) : State :=
  (s.binds.filter (fun b => b.index = i)).foldl (fun (t : State) b => t.bindAbort b.engine closedFault) s

theorem State.bindsClosed_aborted {s : State} (i : Nat) (h : (s.binds.map (·.engine)).Nodup) :
    BindsAborted (s.binds.filter (fun b => b.index = i)) s (s.bindsClosed i) :=
  State.bindAborts closedFault _ (fun _ hb => List.mem_of_mem_filter hb) (h.sublist (List.filter_sublist.map _)) h

theorem State.bindsClosed_nil {s : State} {i : Nat} (h : s.binds.all (fun b => b.index ≠ i) = true) : s.bindsClosed i = s := by
  have hnone : s.binds.filter (fun b => b.index = i) = [] := List.filter_eq_nil_iff.mpr
    (fun b hb => by simpa using List.all_eq_true.mp h b hb)
  rw [State.bindsClosed, hnone, List.foldl_nil]

/-- The state that SESS_CLOSE leaves. -/
def State.sessClosed (s : State) (o : Origin) (i : Nat) : State :=
  let t := ((s.setCtx i (closingContext (s.ctx i))).bindsClosed i).sealsClosed i
  { t with closes := t.closes ++ [{ o := some o, index := i, released := false, wait := [], active := [], areas := [] }] }

theorem exec_sessClose {o : Origin} {index : BitVec 16} {s : State} (heng : s.ringEngine o = 9) (hi : index.toNat < 16384)
    (hstate : ctxState (s.ctx index.toNat) = 1 ∨ ctxState (s.ctx index.toNat) = 2) :
    exec (.sessClose o index) s = .next (s.sessClosed o index.toNat) := by
  show Host.Outcome.next (s.onSession o 0x83 index.toNat [1, 2] _) = _
  rw [State.onSession_run _ heng hi (by simpa using hstate)]
  rfl

theorem ctxState_closingContext (c : List Byte) : ctxState (closingContext c) = 3 := ctxState_setState c _ 3

theorem byteAt_closingContext (c : List Byte) {b : Nat} (h : b ≠ 0) : byteAt (closingContext c) b = byteAt c b :=
  (byteAt_patch_zero c _ b).trans (if_neg h)

section
variable {s : State} {o : Origin} {i : Nat}

theorem State.sessClosed_quiet (hbinds : s.binds.all (fun b => b.index ≠ i) = true) (hseals : s.sealsWith i = []) :
    { s.sessClosed o i with sess := s.sess, closes := s.closes } = s := by
  have hbinds' : (s.setCtx i (closingContext (s.ctx i))).bindsClosed i = s.setCtx i (closingContext (s.ctx i)) :=
    State.bindsClosed_nil hbinds
  have hseals' : (s.setCtx i (closingContext (s.ctx i))).sealsClosed i = s.setCtx i (closingContext (s.ctx i)) :=
    State.sealsClosed_nil hseals
  rw [State.sessClosed, hbinds', hseals']
  rfl

variable (o) (h : (s.binds.map (·.engine)).Nodup)
include h

theorem State.sessClosed_binds : (s.sessClosed o i).binds = s.binds.filter (fun b => b.index ≠ i) := by
  have hside := State.sealsClosed_sessionSide ((s.setCtx i (closingContext (s.ctx i))).bindsClosed i) i
  have hdone := State.bindsClosed_aborted (s := s.setCtx i (closingContext (s.ctx i))) i h
  have hdiff : (s.sessClosed o i).binds = s.binds.diff (s.binds.filter (fun b => b.index = i)) :=
    (congrArg Prod.fst hside).trans hdone.binds
  refine hdiff.trans ((List.Nodup.of_map _ h).sdiff_eq_filter.trans ?_)
  refine List.filter_congr (fun b hb => ?_)
  simp [hb]

theorem State.sessClosed_sess : (s.sessClosed o i).sess = (s.setCtx i (closingContext (s.ctx i))).sess :=
  (congrArg (fun p => p.2.1) (State.sealsClosed_sessionSide ((s.setCtx i (closingContext (s.ctx i))).bindsClosed i) i)).trans
    (State.bindsClosed_aborted (s := s.setCtx i (closingContext (s.ctx i))) i h).sess

theorem State.sessClosed_closes : (s.sessClosed o i).closes =
    s.closes ++ [{ o := some o, index := i, released := false, wait := [], active := [], areas := [] }] := by
  have hcloses : (((s.setCtx i (closingContext (s.ctx i))).bindsClosed i).sealsClosed i).closes = s.closes :=
    (congrArg (fun p => p.2.2.1)
      (State.sealsClosed_sessionSide ((s.setCtx i (closingContext (s.ctx i))).bindsClosed i) i)).trans
      (State.bindsClosed_aborted (s := s.setCtx i (closingContext (s.ctx i))) i h).closes
  rw [← hcloses]
  rfl

theorem State.sessClosed_aborted {b : BindJob} (hb : b ∈ s.binds) (hindex : b.index = i) (hn : b.engine < 3) :
    (s.sessClosed o i).EngineAborted b.engine := by
  have hdone := State.bindsClosed_aborted (s := s.setCtx i (closingContext (s.ctx i))) i h
  refine (hdone.aborted b (List.mem_filter.mpr ⟨hb, decide_eq_true hindex⟩) hn).congr (fun x hx => ?_)
  exact State.reg_pke_of_keyRegs (congrArg (fun p => p.2.2.2)
    (State.sealsClosed_sessionSide ((s.setCtx i (closingContext (s.ctx i))).bindsClosed i) i)) hn hx

end

end Sys2Proof.Machine
end

/-! ## SESS_CLOSE_RELEASE (R116, R288, R298, R305, R306) -/

section
open Sys2Proof Sys2Proof.Machine

namespace Sys2Proof.SMap

/-- What a table reads beside its default stands in it. -/
theorem mem_of_get {α : Type} {d : Nat → α} {m : SMap α} {k : Nat} {v : α} (h : get d m k = v) (hv : v ≠ d k) :
    (k, v) ∈ m := by
  induction m with
  | nil => exact absurd h.symm hv
  | cons e m ih =>
    rw [get_cons] at h
    split at h
    · rename_i hk
      rw [hk, ← h]
      exact List.mem_cons_self
    · exact List.mem_cons_of_mem e (ih h)

end Sys2Proof.SMap

namespace Sys2Proof.Machine

/-! ### The frames of a session return (R298, R305) -/

/-- The state without the frames and without what an access of a memory may change. -/
def State.offFrames (s : State) : State := { s.offMemory with frames := [] }

section
variable (s : State) (f i p : Nat)

/-- What holds a frame once one has been released. -/
theorem State.frameUse_releasePage (g : Nat) :
    (s.releasePage f i p).frameUse g = if g = f then none else s.frameUse g := by
  have hframes : ((s.memPut 0 (s.tagSlot f) (List.replicate 32 0)).dirPut (s.resMap (s.ctx i)) p 64 (leBytes 9 0)).frames =
      s.frames := (congrArg State.frames ((State.memPut_offMemory _ _ _ _ _).trans (s.memPut_offMemory _ _ _ _)) :)
  unfold State.releasePage State.setFrame State.frameUse
  dsimp only
  rw [SMap.get_set, hframes]

theorem State.releasePage_offFrames : (s.releasePage f i p).offFrames = s.offFrames := by
  have hset (t : State) : (t.setFrame f none).offFrames = t.offFrames := rfl
  have hput (t : State) (a : Nat) (bs : List Byte) : (t.memPut 0 a bs).offFrames = t.offFrames :=
    congrArg (fun u : State => { u with frames := [] }) (t.memPut_offMemory 0 a bs 0x4000)
  rw [State.releasePage, hset, State.dirPut, hput, hput]

end

/-- Release the frame of a table's entry, if it holds a page of session `i`. -/
def State.releaseEntry (i : Nat) (t : State) (e : Nat × Option (Nat × Nat)) : State :=
  match e.2 with
  | some (j, p) => if j = i then t.releasePage e.1 j p else t
  | none => t

theorem State.releaseAll_eq (s : State) (i : Nat) : s.releaseAll i = s.frames.foldl (State.releaseEntry i) s := rfl

/-- Whether an entry of the table of frames holds a page of session `i`. -/
def holdsPageOf (i : Nat) (e : Nat × Option (Nat × Nat)) : Prop := ∃ p, e.2 = some (i, p)

theorem State.releaseEntry_cases (i : Nat) (t : State) (e : Nat × Option (Nat × Nat)) :
    (∃ p, e.2 = some (i, p) ∧ t.releaseEntry i e = t.releasePage e.1 i p) ∨
    (¬ holdsPageOf i e ∧ t.releaseEntry i e = t) := by
  obtain ⟨f, _ | ⟨j, p⟩⟩ := e
  · exact .inr ⟨fun ⟨_, hp⟩ => absurd hp nofun, rfl⟩
  · by_cases hj : j = i
    · exact .inl ⟨p, by rw [hj], (if_pos hj).trans (by rw [hj])⟩
    · exact .inr ⟨fun ⟨q, hq⟩ => hj (congrArg Prod.fst (Option.some.inj hq)), if_neg hj⟩

theorem State.releaseAll_offFrames (s : State) (i : Nat) : (s.releaseAll i).offFrames = s.offFrames := by
  rw [State.releaseAll_eq]
  refine foldl_keeps State.offFrames (fun t e => ?_) _ s
  obtain ⟨p, -, h⟩ | ⟨-, h⟩ := State.releaseEntry_cases i t e
  · rw [h, State.releasePage_offFrames]
  · rw [h]

theorem State.frameUse_releaseEntry_held {i f : Nat} {e : Nat × Option (Nat × Nat)} (t : State) (hf : e.1 = f)
    (h : holdsPageOf i e) : (t.releaseEntry i e).frameUse f = none := by
  obtain ⟨p, -, hrel⟩ | ⟨hno, -⟩ := State.releaseEntry_cases i t e
  · rw [hrel, State.frameUse_releasePage, if_pos hf.symm]
  · exact absurd h hno

theorem State.frameUse_releaseEntry_other {i f : Nat} {e : Nat × Option (Nat × Nat)} (t : State)
    (h : e.1 = f → ¬ holdsPageOf i e) : (t.releaseEntry i e).frameUse f = t.frameUse f := by
  obtain ⟨p, hp, hrel⟩ | ⟨-, hrel⟩ := State.releaseEntry_cases i t e
  · rw [hrel, State.frameUse_releasePage, if_neg (fun hf => h hf.symm ⟨p, hp⟩)]
  · rw [hrel]

section
variable {i f : Nat} (l : List (Nat × Option (Nat × Nat))) (s : State)

theorem State.frameUse_releaseEntries_other (h : ∀ e ∈ l, e.1 = f → ¬ holdsPageOf i e) :
    (l.foldl (State.releaseEntry i) s).frameUse f = s.frameUse f :=
  List.foldlRecOn (motive := fun t : State => t.frameUse f = s.frameUse f) l _ rfl
    (fun t ht e he => (t.frameUse_releaseEntry_other (h e he)).trans ht)

theorem State.frameUse_releaseEntries_held (h : s.frameUse f = none ∨ ∃ e ∈ l, e.1 = f ∧ holdsPageOf i e) :
    (l.foldl (State.releaseEntry i) s).frameUse f = none := by
  induction l generalizing s with
  | nil => exact h.resolve_right (fun ⟨e, he, _⟩ => absurd he List.not_mem_nil)
  | cons e l ih =>
    refine ih _ ?_
    by_cases he : e.1 = f ∧ holdsPageOf i e
    · exact .inl (s.frameUse_releaseEntry_held he.1 he.2)
    · rw [s.frameUse_releaseEntry_other (fun hf hp => he ⟨hf, hp⟩)]
      refine h.imp id (fun ⟨e', he', hheld⟩ => ⟨e', ?_, hheld⟩)
      exact (List.mem_cons.mp he').resolve_left (fun heq => he (heq ▸ hheld))

end

/-- The frames of a session are free once they have been released (R305). -/
theorem State.frameUse_releaseAll_ne (s : State) (i f p : Nat) : (s.releaseAll i).frameUse f ≠ some (i, p) := by
  rw [State.releaseAll_eq]
  by_cases h : ∃ e ∈ s.frames, e.1 = f ∧ holdsPageOf i e
  · rw [State.frameUse_releaseEntries_held _ _ (.inr h)]
    exact nofun
  · rw [State.frameUse_releaseEntries_other _ _ (fun e he hf hp => h ⟨e, he, hf, hp⟩)]
    exact fun huse => h ⟨(f, some (i, p)), SMap.mem_of_get huse nofun, rfl, p, rfl⟩

theorem State.frameUse_releaseAll_other (s : State) {i f : Nat} (h : ∀ e ∈ s.frames, e.1 = f → ∀ p, e.2 ≠ some (i, p)) :
    (s.releaseAll i).frameUse f = s.frameUse f :=
  State.frameUse_releaseEntries_other s.frames s (fun e he hf ⟨p, hp⟩ => h e he hf p hp)

/-! ### The Towers that a session has touched (R305) -/

theorem State.reg_of_offFrames {s t : State} (h : t.offFrames = s.offFrames) {x : Nat} (hx : apartReg x = true) :
    t.reg x = s.reg x := by
  have hread (u : State) : u.offFrames.reg x = u.offMemory.reg x := rfl
  rw [← t.reg_offMemory hx, ← hread, h, hread, s.reg_offMemory hx]

theorem State.slotOf_of_offFrames {s t : State} (h : t.offFrames = s.offFrames) (sp k : Nat) :
    t.slotOf sp k = s.slotOf sp k := by
  have hlow {o : Nat} (ho : o < 0x1000) : t.reg (Reg.spireBase sp + o) = s.reg (Reg.spireBase sp + o) := by
    refine State.reg_of_offFrames h (decide_eq_true ?_)
    unfold Reg.spireBase
    omega
  rw [State.slotOf, State.fld, State.fld, Reg.sprTwrMapLo, Reg.sprTwrMapHi, hlow (by decide), hlow (by decide)]
  rfl

theorem State.touchedSlots_of_offFrames {s t : State} (h : t.offFrames = s.offFrames) (c : List Byte) :
    t.touchedSlots c = s.touchedSlots c :=
  List.map_congr_left (fun _ _ => State.slotOf_of_offFrames h _ _)

/-! ### The parts of a close -/

/-- The state in which the frames of session `j.index` are released and the scrubs of its close are asked for (R305). -/
def State.closeReleased (s : State) (i : Nat) (j : CloseJob) : State :=
  (s.releaseAll i).setClose { j with
    released := true, wait := s.touchedSlots (s.ctx i), areas := SMap.get (fun _ => []) s.sessAreas i }

theorem State.closeReleased_offFrames (s : State) (i : Nat) (j : CloseJob) :
    (s.closeReleased i j).offFrames = { s.offFrames with closes := (s.closeReleased i j).closes } :=
  (congrArg (fun t : State => { t with closes := (s.closeReleased i j).closes }) (s.releaseAll_offFrames i) :)

theorem State.closeReleased_closes (s : State) {i : Nat} {j : CloseJob} (h : j.index = i) :
    (s.closeReleased i j).closes = s.closes.map (fun e => if e.index = i then { j with
      released := true, wait := s.touchedSlots (s.ctx i), areas := SMap.get (fun _ => []) s.sessAreas i } else e) := by
  have hcloses : (s.releaseAll i).closes = s.closes := (congrArg State.closes (s.releaseAll_offFrames i) :)
  rw [State.closeReleased, State.setClose, hcloses, h]

/-- The state in which the scrub of a checkpoint area of a session runs, and `rest` remain (R305). -/
def State.areaScrubbed (s : State) (j : CloseJob) (sp lo hi : Nat) (rest : List (Nat × Nat × Nat)) : State :=
  ({ s with galScrub := SMap.set (fun _ => []) s.galScrub sp [(lo, hi)] } : State).setClose { j with areas := rest }

theorem State.areaScrubbed_scrubs (s : State) (j : CloseJob) (sp lo hi : Nat) (rest : List (Nat × Nat × Nat)) (x : Nat) :
    (s.areaScrubbed j sp lo hi rest).scrubs x = if x = sp then [(lo, hi)] else s.scrubs x := by
  unfold State.scrubs
  exact SMap.get_set s.galScrub sp x [(lo, hi)]

/-- The context of session `i` as `c` writes it, with the session's areas forgotten and its close over. -/
def State.closeOver (s : State) (i : Nat) (c : List Byte) : State :=
  ({ s with
    sessAreas := SMap.set (fun _ => []) s.sessAreas i [], closes := s.closes.filter (fun e => e.index ≠ i) } : State).setCtx i c

section
variable (s : State) (i : Nat) (c : List Byte)

theorem State.closeOver_closes : (s.closeOver i c).closes = s.closes.filter (fun e => e.index ≠ i) := rfl

theorem State.closeOver_areas : SMap.get (fun _ => []) (s.closeOver i c).sessAreas i = [] :=
  SMap.get_set_self s.sessAreas i []

theorem State.ctx_closeOver (k : Nat) : (s.closeOver i c).ctx k = if k = i then c else s.ctx k := SMap.get_set _ _ _ _

theorem State.closeOver_ring (sp r : Nat) : (s.closeOver i c).ring sp r = s.ring sp r := rfl

variable {s} {o : Origin}

theorem State.Alone.closeOver (ha : s.Alone o) : (s.closeOver i c).Alone o := ha

theorem State.closeOver_compRoom {sp r k : Nat} (h : s.compRoom sp r k = true) : (s.closeOver i c).compRoom sp r k = true := h

end

section
variable {s t : State} {i : Nat} {c : List Byte}
  (h : { t with
    ctl := (s.closeOver i c).ctl, companion := (s.closeOver i c).companion, rings := (s.closeOver i c).rings,
    runs := (s.closeOver i c).runs } = s.closeOver i c)
include h

theorem State.closeOver_recorded_ctx (k : Nat) : t.ctx k = if k = i then c else s.ctx k :=
  (State.ctx_congr (congrArg State.sess h :) k).trans (s.ctx_closeOver i c k)

theorem State.closeOver_recorded_areas : SMap.get (fun _ => []) t.sessAreas i = [] :=
  (congrArg (fun u : State => SMap.get (fun _ => []) u.sessAreas i) h :).trans (s.closeOver_areas i c)

theorem State.closeOver_recorded_closes : t.closes = s.closes.filter (fun e => e.index ≠ i) :=
  (congrArg State.closes h :).trans (s.closeOver_closes i c)

/-- What the record of a SESS_CLOSE with its extension entry (R305, R327) and the end of the close itself leave alone. -/
theorem State.closeOver_recorded_rest :
    { t with
      ctl := s.ctl, companion := s.companion, rings := s.rings, runs := s.runs, sess := s.sess, sessAreas := s.sessAreas,
      closes := s.closes } = s :=
  (congrArg (fun u : State => { u with sess := s.sess, sessAreas := s.sessAreas, closes := s.closes }) h :)

end

section
variable {index : Fin 16384} {j : CloseJob} {s : State} (hfind : s.closes.find? (fun e => e.index = index.val) = some j)
include hfind

theorem closeJob_index : j.index = index.val := by simpa using List.find?_some hfind

theorem exec_sessCloseRelease_frames (hrel : j.released = false)
    (hseals : (s.sealsWith index.val).all (fun e => !(e.2.2.phase = .running) && e.2.2.pins.isNone) = true)
    (hjobs : s.keyJobs.all (fun e => e.index ≠ index.val) = true) :
    exec (.sessCloseRelease index) s = .next (s.closeReleased index.val j) := by
  have hquiet : ((s.sealsWith index.val).any (fun e => e.2.2.phase = .running || e.2.2.pins.isSome) ||
      s.keyJobs.any (fun e => e.index = index.val)) = false := by
    rw [Bool.or_eq_false_iff, List.any_eq_false, List.any_eq_false]
    rw [List.all_eq_true] at hseals hjobs
    refine ⟨fun e he => ?_, fun e he => by simpa using hjobs e he⟩
    have := hseals e he
    cases hp : e.2.2.pins <;> simp_all
  have hoff := s.releaseAll_offFrames index.val
  have hctx : (s.releaseAll index.val).ctx index.val = s.ctx index.val := State.ctx_congr (congrArg State.sess hoff :) _
  have hareas : (s.releaseAll index.val).sessAreas = s.sessAreas := (congrArg State.sessAreas hoff :)
  show execSessCloseRelease index s = _
  unfold execSessCloseRelease
  dsimp only
  rw [hfind]
  dsimp only
  rw [hquiet, hrel, hctx, hareas, State.touchedSlots_of_offFrames hoff]
  rfl

theorem exec_sessCloseRelease_area {sp lo hi : Nat} {rest : List (Nat × Nat × Nat)} (hrel : j.released = true)
    (hareas : j.areas = (sp, lo, hi) :: rest) (hscrubs : s.scrubs sp = []) :
    exec (.sessCloseRelease index) s = .next (s.areaScrubbed j sp lo hi rest) := by
  show execSessCloseRelease index s = _
  unfold execSessCloseRelease
  dsimp only
  rw [hfind, State.areaScrubbed]
  dsimp only
  rw [hrel, hareas]
  dsimp only
  rw [hscrubs]
  rfl

theorem exec_sessCloseRelease_ends {o : Origin} (hrel : j.released = true) (hareas : j.areas = []) (hwait : j.wait = [])
    (hactive : j.active.all (fun g => (s.tower g).scrub.isNone) = true)
    (hscrubs : (SMap.get (fun _ => []) s.sessAreas index.val).all (fun a => (s.scrubs a.1).isEmpty) = true)
    (ho : j.o = some o) :
    exec (.sessCloseRelease index) s =
      .next ((s.closeOver index.val (List.replicate 256 0)).complete o 0x83 [] none [((s.ctx index.val).drop 156).take 32]) := by
  have hdone : (j.active.any (fun g => (s.tower g).scrub.isSome) ||
      (SMap.get (fun _ => []) s.sessAreas index.val).any (fun a => !(s.scrubs a.1).isEmpty)) = false := by
    rw [Bool.or_eq_false_iff, List.any_eq_false, List.any_eq_false]
    rw [List.all_eq_true] at hactive hscrubs
    exact ⟨fun g hg => by simpa using hactive g hg, fun a ha => by simpa using hscrubs a ha⟩
  show execSessCloseRelease index s = _
  unfold execSessCloseRelease
  dsimp only
  rw [hfind]
  dsimp only
  rw [hrel, hareas, hwait, ho]
  dsimp only
  rw [hdone]
  rfl

end

end Sys2Proof.Machine
end

/-! ## A record with an extension entry (R319, R327) -/

section
open Sys2Proof Sys2Proof.Machine
namespace Sys2Proof.Machine

theorem State.companionWrite_eq (s : State) (a : Nat) (bs : List Byte) :
    ∃ m, s.companionWrite a bs = { s with companion := m } := by
  unfold State.companionWrite
  split
  · exact ⟨_, rfl⟩
  · exact ⟨s.companion, rfl⟩

/-- A record and its extension entry change companion memory, their ring's place, and the ring's source (R327, R328). -/
theorem State.writeEntries_two (s : State) (sp r : Nat) (x y : List Byte) :
    ∃ m c, s.writeEntries sp r [x, y] =
      { s.setRing sp r { s.ring sp r with compPos := (s.ring sp r).compPos + 2 } with companion := m, ctl := c } := by
  unfold State.writeEntries
  simp only [List.dropLast_cons_cons, List.dropLast_singleton, List.zipIdx_cons, List.zipIdx_nil, List.foldl_cons,
    List.foldl_nil]
  obtain ⟨m, hm⟩ := s.companionWrite_eq
    (s.reg (Reg.sprRingCompBase sp r) + 32 * (((s.ring sp r).compPos + 1 + 0) % s.compEntries sp r)) x
  rw [hm]
  generalize s.reg (Reg.sprRingCompBase sp r) + 32 * ((s.ring sp r).compPos % s.compEntries sp r) = a
  generalize patch _ _ _ = bs
  obtain ⟨m', hm'⟩ := ({ s with companion := m } : State).companionWrite_eq a bs
  rw [hm']
  split <;> exact ⟨_, _, rfl⟩

/-- The state in which a command has left its runner. -/
def State.unrun (s : State) (o : Origin) : State :=
  s.setRunq (runKey o) { s.runq (runKey o) with running := (s.runq (runKey o)).running.filter (fun e => !sameCmd e.o o) }

section
variable {s : State} {o : Origin} (opcode : Nat) (result x : List Byte) (ha : s.Alone o)
  (hroom : s.compRoom o.spire.val o.ring.val 2 = true)
include ha hroom

theorem State.completeStep_extended : s.completeStep o opcode result none [x] =
    (s.unrun o).writeEntries o.spire.val o.ring.val [x, completionRecord o opcode 0 s.bellNum false 1 result] := by
  obtain ⟨hentry, hlidx, hpost, hcomp, -, -, -⟩ := ha
  have hroom' : (s.unrun o).compRoom o.spire.val o.ring.val 2 = true := hroom
  unfold State.unrun at hroom' ⊢
  unfold State.completeStep State.completeOne
  simp only [hpost, hentry, hcomp, hlidx, Option.toList_none, List.nil_append, Bool.false_and, Bool.false_eq_true, if_false,
    Option.isSome_none, List.length_nil, State.putEntries, List.length_cons, if_true, decide_true, Bool.or_false, hroom',
    Nat.zero_add, List.cons_append]
  rfl

/-- A command that completes alone and without fault, with one extension entry. -/
theorem State.complete_extended :
    (s.complete o opcode result none [x]).ring o.spire.val o.ring.val =
        { s.ring o.spire.val o.ring.val with compPos := (s.ring o.spire.val o.ring.val).compPos + 2 } ∧
      { s.complete o opcode result none [x] with
        ctl := s.ctl, companion := s.companion, rings := s.rings, runs := s.runs } = s := by
  obtain ⟨m, c, hwritten⟩ := (s.unrun o).writeEntries_two o.spire.val o.ring.val x
    (completionRecord o opcode 0 s.bellNum false 1 result)
  have hstep := (State.completeStep_extended opcode result x ha hroom).trans hwritten
  obtain ⟨-, -, -, -, hfences, -, -⟩ := ha
  have hnone : (s.completeStep o opcode result none [x]).fences = 0 := by
    refine fences_after (s := s) (runKey o) (fun e => !sameCmd e.o o) hfences ?_
    rw [hstep]
    rfl
  have hall : s.complete o opcode result none [x] = s.completeStep o opcode result none [x] := by
    unfold State.complete
    simp only [hnone]
    rfl
  rw [hall, hstep]
  exact ⟨State.ring_setRing _ _ _ _, rfl⟩

end

end Sys2Proof.Machine
end

/-! ## The session commands move a context through its states (R287 to R295, R305) -/

section
open Sys2Proof Sys2Proof.Machine
namespace Sys2Proof.Machine

/-- Settles O49: SESS_OPEN is the VALIDATE of its key and the new context, each later command one change of that context,
and the ends of verifications and closes leave sessions and engines to what completions and accesses of memory keep. -/
theorem sessions : Obligations.Sessions := by
  refine ⟨?_, ?_, ?_, ?_, ?_, ?_, ?_, ?_⟩
  · intro o index pset auto region floor defer scratch0 scratch1 key n s ha heng i hi hstate hany hkey hpset hvalid h0 h1 hlife
    have hn := State.pkeAny_lt hany
    have honly := s.pkeValidate_engineOnly n 0
    have hctx := State.ctx_setCtx_self (s.pkeValidate n 0) i
      (openContext pset auto region floor defer scratch0 scratch1 key (s.pkeValidate n 0).bellNum)
    have hc := openContext_opened (pset := pset) (auto := auto) (region := region) (floor := floor) (defer := defer)
      (scratch0 := scratch0) (scratch1 := scratch1) (key := key) (bell := (s.pkeValidate n 0).bellNum)
    rw [← hctx] at hc
    refine ⟨_, _, exec_sessOpen_opens heng hi hstate hany hkey hpset hvalid h0 h1 hlife,
      completeOk_recorded 0x80 [] ((honly.alone hn ha).setCtx _ _), hc.state, hc.auto, hc.pset hpset, hc.region, hc.floor,
      hc.defer, hc.key, hc.scratch0, hc.scratch1, hc.touched, hc.pages, fun j hj => honly.ctx_setCtx_ne _ hj, ?_, ?_, ?_,
      fun x hstatus hopcnt hpend hopmem => ?_, honly.setCtx_rest _ _⟩
    · rw [State.reg_setCtx, s.pkeValidate_status hn]
    · rw [State.reg_setCtx, s.pkeValidate_opcnt hn]
    · rw [State.reg_setCtx, s.pkeValidate_source hn]
    · rw [State.reg_setCtx, s.reg_pkeValidate hn hstatus hopmem, if_neg hpend, if_neg hopcnt]
  · intro o index pset auto region floor defer scratch0 scratch1 key s heng hi hstate hany
    exact exec_sessOpen_waits heng hi hstate hany
  · intro o index floor auto defer s ha heng i c hi hstate
    refine ⟨_, _, exec_sessPolicy floor auto defer heng hi hstate, completeOk_recorded 0x82 [] ha,
      State.ctx_setCtx_self _ _ _, ?_, ?_, fun j hj => State.ctx_setCtx_ne _ _ hj, rfl⟩
    · rw [State.ctx_setCtx_self, ctxState_policyContext]
    · rw [State.ctx_setCtx_self, ctxAuto_policyContext]
  · intro o index dst s u heng hi hput ha
    exact ⟨_, exec_sessQuery heng hi hput, completeOk_recorded 0x84 [] ha, fun p hloc => State.keyPut_companion hloc hput⟩
  · intro o index manifest len comp m n s u heng i hi hstate hany hlen hget
    refine ⟨_, exec_sessBind heng hi hstate hany hlen hget, ?_⟩
    cases manBad i (s.ctx i) (u.pset o.spire.val (ctxPset (s.ctx i))).cur m with
    | none =>
      obtain ⟨hbusy, hop⟩ := u.bindBegin_shows { o := o, index := i, manifest := m, comp := comp.toNat, engine := n }
      exact ⟨rfl, hbusy, hop, fun x hx hx' => State.reg_bindBegin u _ hx hx', State.bindBegin_rest u _⟩
    | some reason =>
      have hrec := u.completeFault_offRecords o 0x81 (sessFault reason i 1) []
      exact ⟨(congrArg State.binds hrec :), (congrArg State.sess hrec :), (congrArg State.towers hrec :),
        (congrArg State.descs hrec :)⟩
  · intro index resmap b s i c m n size st v hfind ha hstate hn
    obtain ⟨t, hexec, hended, hbound⟩ := exec_bindVerifyComplete_ended (resmap := resmap) (st := st) (size := size) (v := v)
      hfind ha hstate hn rfl rfl rfl
    have hindex : b.index = i := by simpa using List.find?_some hfind
    exact ⟨t, hexec, hended.binds, fun j hj => hended.others j (hindex ▸ hj), hended.idle, hended.status, hbound⟩
  · intro o index s heng i hi hstate hnodup
    have hsess := State.sessClosed_sess (i := i) o hnodup
    have hctx : (s.sessClosed o i).ctx i = closingContext (s.ctx i) :=
      (State.ctx_congr hsess i).trans (State.ctx_setCtx_self _ _ _)
    refine ⟨_, exec_sessClose heng hi hstate, ?_, fun b hb => ?_, fun j hj => ?_, State.sessClosed_binds o hnodup,
      fun b hb hindex hn => ?_, State.sessClosed_closes o hnodup, State.sessClosed_quiet⟩
    · rw [hctx, ctxState_closingContext]
    · rw [hctx, byteAt_closingContext _ hb]
    · exact (State.ctx_congr hsess j).trans (State.ctx_setCtx_ne _ _ hj)
    · obtain ⟨hidle, hstatus, hzero⟩ := State.sessClosed_aborted o hnodup hb hindex hn
      exact ⟨hidle, hstatus, hzero⟩
  · intro index j s i hfind
    have hindex : j.index = i := closeJob_index hfind
    refine ⟨fun hrel hseals hjobs => ?_, fun sp lo hi rest hrel hareas hscrubs => ?_,
      fun o hrel hareas hwait hactive hscrubs ho ha hroom => ?_⟩
    · have hoff := s.closeReleased_offFrames i j
      exact ⟨_, exec_sessCloseRelease_frames hfind hrel hseals hjobs, fun f p => s.frameUse_releaseAll_ne i f p,
        fun f hf => s.frameUse_releaseAll_other hf, s.closeReleased_closes hindex, (congrArg State.sess hoff :),
        (congrArg State.keyJobs hoff :), (congrArg State.seals hoff :)⟩
    · refine ⟨_, exec_sessCloseRelease_area hfind hrel hareas hscrubs, ?_, fun x hx => ?_, ?_, rfl⟩
      · rw [State.areaScrubbed_scrubs, if_pos rfl]
      · rw [State.areaScrubbed_scrubs, if_neg hx]
      · rw [State.areaScrubbed, State.setClose, hindex]
    · obtain ⟨hring, hrest⟩ := State.complete_extended 0x83 [] (((s.ctx i).drop 156).take 32)
        (ha.closeOver i (List.replicate 256 0)) (State.closeOver_compRoom i (List.replicate 256 0) hroom)
      have hexec := exec_sessCloseRelease_ends hfind hrel hareas hwait hactive hscrubs ho
      refine ⟨_, hexec, (State.closeOver_recorded_ctx hrest i).trans (if_pos rfl),
        fun k hk => (State.closeOver_recorded_ctx hrest k).trans (if_neg hk), State.closeOver_recorded_areas hrest,
        State.closeOver_recorded_closes hrest, ?_, State.closeOver_recorded_rest hrest⟩
      rw [hring, State.closeOver_ring]

end Sys2Proof.Machine
end
